-- ==== Sys2Proof/Word.lean ====
section
/-! DEFINITION. The word types of the P960 (spec/00_scope.md R4, R8) and nothing else: every helper over
them is in Machine/Bytes.lean. -/

namespace Sys2Proof

/-- One byte. -/
abbrev Byte := BitVec 8

/-- Indices of the repeated blocks (R20): cluster, tile of a cluster by logical index, HBM stack,
HBM channel, flash channel, directory slice, Gleodlink port, control core, M die. -/
abbrev Clu := Fin 32
abbrev Til := Fin 16
abbrev Stk := Fin 12
abbrev Chan := Fin 384
abbrev FCh := Fin 32
abbrev Slice := Fin 16
abbrev Port := Fin 18
abbrev Core := Fin 8
abbrev MDie := Fin 4
/-- A partition number (R39), a mailbox number (R409), a checker instance (R428). -/
abbrev Ptn := Fin 64
abbrev Mbx := Fin 64
abbrev Chk := Fin 12

end Sys2Proof
end

