-- ==== Sys2Proof/Syntax/Operands.lean ====
section
/-! DEFINITION. Operand structures of the commands: what travels with a row of the table. -/

namespace Sys2Proof

/-- A tile instruction word but for CLASS and FUNC, which the row of the table fixes (R164): the guard
predicate, its sense, and bits [49:0]. -/
structure TileWord where
  pred : BitVec 3
  pneg : Bool
  body : BitVec 50
deriving DecidableEq, Repr

/-- A packet as it travels: the header of R88 field by field, its payload flits (a whole number of 64 B
flits), and the trailer of R89. The OPCODE byte of a packet row is the row's own. -/
structure Packet where
  opcode : BitVec 8 := 0#8
  flags : BitVec 8 := 0#8
  sclass : BitVec 8 := 0#8
  ptn : BitVec 8 := 0#8
  dst : BitVec 16 := 0#16
  src : BitVec 16 := 0#16
  tag : BitVec 32 := 0#32
  seq : BitVec 32 := 0#32
  pktIndex : BitVec 16 := 0#16
  pktCount : BitVec 16 := 1#16
  extent : BitVec 32 := 0#32
  offset : BitVec 64 := 0#64
  length : BitVec 64 := 0#64
  payloadLen : BitVec 16 := 0#16
  status : BitVec 8 := 0#8
  subop : BitVec 8 := 0#8
  hintUs : BitVec 32 := 0#32
  arg0 : BitVec 64 := 0#64
  arg1 : BitVec 64 := 0#64
  payload : List Byte := []
  e2eCrc : BitVec 32 := 0#32
  hops : BitVec 8 := 0#8
  rsvd5 : BitVec 24 := 0#24
  reqSeq0 : BitVec 32 := 0#32
  rsvd12 : BitVec 416 := 0#416
deriving DecidableEq, Repr

/-- The 16 B trailer of a flit group (R267). -/
structure GroupTrailer where
  crc : BitVec 32
  firstLseq : BitVec 16
  ackLseq : BitVec 16
  ctl : BitVec 8
  credFreed : BitVec 32
  cmd : BitVec 8
  arg : BitVec 16
deriving DecidableEq, Repr

/-- What a mailbox row carries beside its body (R413): the mailbox, the alive count, the request number. -/
structure MbxHdr where
  mbx : Mbx
  alive : BitVec 16
  reqId : BitVec 32
deriving DecidableEq, Repr

/-- What the host writes before MBX_OWN (R410, R415): the request frame, and a word for MBX_CTL where it writes one. -/
structure HandOver where
  frame : List Byte
  ctl : Option (BitVec 32) := none
deriving DecidableEq, Repr

/-- What the host sends for DEV_FW_UPDATE (R409, R437): the bytes it writes to the upload window, and STAGE. -/
structure FwStage where
  upload : List Byte
  stage : BitVec 8
deriving DecidableEq, Repr

/-- An access-list entry of a command body (R422): endpoint and rights byte. -/
structure AclArg where
  ep : BitVec 16
  rights : BitVec 8
deriving DecidableEq, Repr

/-- What the receiver's line code reports beside a flit group (R266, R269): codewords corrected, whether one was
uncorrectable, and corrected symbols per physical lane. -/
structure FecReport where
  corrected : Nat
  uncorr : Nat
  lanes : List Nat
deriving DecidableEq, Repr

end Sys2Proof
end

