-- ==== Sys2Proof/Syntax.lean ====
section
/-! DEFINITION. The commands of the block: one constructor per row of the table of operations and events, with the
row's operands. A row that stands for an event inside the device carries what the event names. -/
set_option linter.unusedVariables false
namespace Sys2Proof

/-- The rows of the table (the rule of each row is named beside it). -/
inductive Instr
  | get (n : Port) (vc : Fin 5) (p : Packet)  -- GET (R93)
  | put (n : Port) (vc : Fin 5) (p : Packet)  -- PUT (R57)
  | putSparse (n : Port) (vc : Fin 5) (p : Packet)  -- PUT_SPARSE (R99)
  | zero (n : Port) (vc : Fin 5) (p : Packet)  -- ZERO (R100)
  | publish (n : Port) (vc : Fin 5) (p : Packet)  -- PUBLISH (R65)
  | publishCompare (src : BitVec 16) (tag : BitVec 32)  -- PUBLISH_COMPARE (R65)
  | readVersion (n : Port) (vc : Fin 5) (p : Packet)  -- READ_VERSION (R67)
  | flush (n : Port) (vc : Fin 5) (p : Packet)  -- FLUSH (R58)
  | persist (n : Port) (vc : Fin 5) (p : Packet)  -- PERSIST (R366)
  | checkoutS (n : Port) (vc : Fin 5) (p : Packet)  -- CHECKOUT_S (R255)
  | checkoutX (n : Port) (vc : Fin 5) (p : Packet)  -- CHECKOUT_X (R255)
  | returnLine (n : Port) (vc : Fin 5) (p : Packet)  -- RETURN (R255)
  | writeInv (n : Port) (vc : Fin 5) (p : Packet)  -- WRITE_INV (R255)
  | atomic (n : Port) (vc : Fin 5) (p : Packet)  -- ATOMIC (R96)
  | recallAck (n : Port) (vc : Fin 5) (p : Packet)  -- RECALL_ACK (R253)
  | invoke (n : Port) (vc : Fin 5) (p : Packet)  -- INVOKE (R203)
  | invokeData (n : Port) (vc : Fin 5) (p : Packet)  -- INVOKE_DATA (R207)
  | mgmt (n : Port) (vc : Fin 5) (p : Packet)  -- MGMT (R302)
  | mIdent  -- M_IDENT (R304)
  | mPort  -- M_PORT (R304)
  | mTblWrite  -- M_TBL_WRITE (R304)
  | mTblRead  -- M_TBL_READ (R304)
  | mTblClear  -- M_TBL_CLEAR (R304)
  | mDirWrite  -- M_DIR_WRITE (R304)
  | mSwap  -- M_SWAP (R300)
  | mCounters  -- M_COUNTERS (R304)
  | transitForward (n : Port) (vc : Fin 5) (p : Packet)  -- TRANSIT_FORWARD (R294)
  | waitingPacketRoute (tb : Fin 19) (vc : Fin 5)  -- WAITING_PACKET_ROUTE (R295)
  | hello (n : Port) (vc : Fin 5) (p : Packet)  -- HELLO (R483)
  | heartbeat (n : Port) (vc : Fin 5) (p : Packet)  -- HEARTBEAT (R488)
  | writeFrame (n : Port) (vc : Fin 5) (p : Packet)  -- WRITE_FRAME (R486)
  | versionFrame (n : Port) (vc : Fin 5) (p : Packet)  -- VERSION_FRAME (R486)
  | extentFrame (n : Port) (vc : Fin 5) (p : Packet)  -- EXTENT_FRAME (R485)
  | dirFrame (n : Port) (vc : Fin 5) (p : Packet)  -- DIR_FRAME (R486)
  | ackFrame (n : Port) (vc : Fin 5) (p : Packet)  -- ACK_FRAME (R488)
  | yieldFrame (n : Port) (vc : Fin 5) (p : Packet)  -- YIELD (R490)
  | resyncPage (n : Port) (vc : Fin 5) (p : Packet)  -- RESYNC_PAGE (R488)
  | resyncDone (n : Port) (vc : Fin 5) (p : Packet)  -- RESYNC_DONE (R488)
  | mirrorResendTimer (mseq : BitVec 32)  -- MIRROR_RESEND_TIMER (R488)
  | partnerHelloTimer  -- PARTNER_HELLO_TIMER (R483)
  | partnerSilence  -- PARTNER_SILENCE (R491)
  | yieldStart  -- YIELD_START (R489)
  | yieldAckWaitEnd  -- YIELD_ACK_WAIT_END (R489)
  | takeoverComplete  -- TAKEOVER_COMPLETE (R490)
  | flitGroupReceive (n : Port) (slots : List Byte) (tr : GroupTrailer) (fec : FecReport)  -- FLIT_GROUP_RECEIVE (R270)
  | flitGroupSend (n : Port)  -- FLIT_GROUP_SEND (R267)
  | swapReq (n : Port) (arg : BitVec 16)  -- SWAP_REQ (R284)
  | swapGo (n : Port) (arg : BitVec 16)  -- SWAP_GO (R284)
  | swapComplete (n : Port)  -- SWAP_COMPLETE (R284)
  | swapTimeout (n : Port)  -- SWAP_TIMEOUT (R284)
  | lpiReq (n : Port)  -- LPI_REQ (R285)
  | lpiAck (n : Port)  -- LPI_ACK (R285)
  | lpiReqLapse (n : Port)  -- LPI_REQ_LAPSE (R285)
  | lpIdleExitDone (n : Port)  -- LP_IDLE_EXIT_DONE (R279)
  | retrainReq (n : Port)  -- RETRAIN_REQ (R279)
  | peerId (n : Port) (arg : BitVec 16)  -- PEER_ID (R280)
  | epochLo (n : Port) (arg : BitVec 16)  -- EPOCH_LO (R280)
  | epochHi (n : Port) (arg : BitVec 16)  -- EPOCH_HI (R280)
  | nextExp (n : Port) (arg : BitVec 16)  -- NEXT_EXP (R280)
  | bufVc (n : Port) (vc : Fin 5) (arg : BitVec 16)  -- BUF_VC (R280)
  | paramDone (n : Port)  -- PARAM_DONE (R281)
  | replayTimerExpiry (n : Port)  -- REPLAY_TIMER_EXPIRY (R273)
  | replayLimitReached (n : Port)  -- REPLAY_LIMIT_REACHED (R274)
  | alignmentLoss (n : Port)  -- ALIGNMENT_LOSS (R279)
  | trainingComplete (n : Port)  -- TRAINING_COMPLETE (R279)
  | trainingTimeout (n : Port)  -- TRAINING_TIMEOUT (R279)
  | laneSymbolWindowEnd (n : Port)  -- LANE_SYMBOL_WINDOW_END (R283)
  | portEnable (h : MbxHdr) (n : Port)  -- PORT_ENABLE (R532)
  | portDisable (h : MbxHdr) (n : Port)  -- PORT_DISABLE (R532)
  | portShutdownEnd (n : Port)  -- PORT_SHUTDOWN_END (R405)
  | egressPick (n : Port)  -- EGRESS_PICK (R317)
  | slotTableWrap (n : Port)  -- SLOT_TABLE_WRAP (R322)
  | queueSample  -- QUEUE_SAMPLE (R323)
  | schBucketClear (h : MbxHdr) (n : Port) (level : Fin 3) (idx : Fin 2048)  -- SCH_BUCKET_CLEAR (R319)
  | schHistSel (h : MbxHdr) (n : Port) (v : BitVec 32)  -- SCH_HIST_SEL (R324)
  | policerParamWrite (h : MbxHdr) (pol : Fin 256) (reg : Fin 5) (v : BitVec 32)  -- POLICER_PARAM_WRITE (R314)
  | arbiterGrant (cls : Fin 8) (inst : BitVec 16) (asserting eligible : List Nat)  -- ARBITER_GRANT (R397)
  | arbFreeze (h : MbxHdr)  -- ARB_FREEZE (R399)
  | arbUnfreeze (h : MbxHdr)  -- ARB_UNFREEZE (R400)
  | arbClear (h : MbxHdr)  -- ARB_CLEAR (R401)
  | arbTrumpLimit (h : MbxHdr) (v : BitVec 8)  -- ARB_TRUMP_LIMIT (R398)
  | routeEn (h : MbxHdr) (v : Bool)  -- ROUTE_EN (R292)
  | rtFreeze (h : MbxHdr) (v : BitVec 19)  -- RT_FREEZE (R299)
  | rtDrainComplete  -- RT_DRAIN_COMPLETE (R300)
  | rtDrainLimitExpiry  -- RT_DRAIN_LIMIT_EXPIRY (R300)
  | rtResyncDone  -- RT_RESYNC_DONE (R300)
  | channelAdmit (c : Chan)  -- CHANNEL_ADMIT (R332)
  | act (c : Chan) (b : Fin 32)  -- ACT (R348)
  | pre (c : Chan) (b : Fin 32)  -- PRE (R336)
  | idleCloseExpiry (c : Chan) (b : Fin 32)  -- IDLE_CLOSE_EXPIRY (R336)
  | hbmColumnRead (c : Chan) (b : Fin 32) (row : BitVec 16) (slot : Fin 15) (errs : List (Fin 136 × Byte))  -- HBM_COLUMN_READ (R377)
  | hbmColumnWrite (c : Chan) (b : Fin 32)  -- HBM_COLUMN_WRITE (R380)
  | refreshDue (c : Chan)  -- REFRESH_DUE (R342)
  | refreshWindowEnd (k : Stk)  -- REFRESH_WINDOW_END (R348)
  | throttleHoldEnd (c : Chan) (tag : Ptn)  -- THROTTLE_HOLD_END (R350)
  | powerDownEntry (c : Chan)  -- POWER_DOWN_ENTRY (R343)
  | stackTempRead (k : Stk) (temp : BitVec 8)  -- STACK_TEMP_READ (R341)
  | zqCalibration (k : Stk) (pc : Fin 32)  -- ZQ_CALIBRATION (R346)
  | retraining (c : Chan) (ok : Bool)  -- RETRAINING (R346)
  | hbmBootTrainingDone (failed : List Nat)  -- HBM_BOOT_TRAINING_DONE (R345)
  | remapCopyDone (c : Chan)  -- REMAP_COPY_DONE (R383)
  | promotionDone (ext : BitVec 20) (page : BitVec 28)  -- PROMOTION_DONE (R358)
  | destageStart (ext : BitVec 20) (page : BitVec 28)  -- DESTAGE_START (R361)
  | destageAgeExpiry (ext : BitVec 20) (page : BitVec 28)  -- DESTAGE_AGE_EXPIRY (R360)
  | destageProgramDone (ext : BitVec 20) (page : BitVec 28)  -- DESTAGE_PROGRAM_DONE (R361)
  | flashProgramFail (f : FCh) (erase : Bool)  -- FLASH_PROGRAM_FAIL (R370)
  | flashOpStart (f : FCh)  -- FLASH_OP_START (R372)
  | flashReadRetry (f : FCh) (cw : Fin 16) (tries : Fin 11) (ok : Bool)  -- FLASH_READ_RETRY (R369)
  | journalCommitTimer (m : MDie)  -- JOURNAL_COMMIT_TIMER (R365)
  | journalCommitDone (m : MDie)  -- JOURNAL_COMMIT_DONE (R365)
  | checkpoint (m : MDie)  -- CHECKPOINT (R368)
  | garbageCollection (m : MDie)  -- GARBAGE_COLLECTION (R367)
  | journalReplayDone (m : MDie)  -- JOURNAL_REPLAY_DONE (R368)
  | scrubPassStart (q : Ptn)  -- SCRUB_PASS_START (R389)
  | scrubWalkRead (q : Ptn) (c : Chan)  -- SCRUB_WALK_READ (R389)
  | scrubDemandRead (ext : BitVec 20)  -- SCRUB_DEMAND_READ (R390)
  | homeTimeout (ext : BitVec 20) (line : BitVec 40)  -- HOME_TIMEOUT (R258)
  | drainLimitExpiry (ext : BitVec 20)  -- DRAIN_LIMIT_EXPIRY (R72)
  | revokeComplete (ext : BitVec 20)  -- REVOKE_COMPLETE (R72)
  | sanitationDone (ext : BitVec 20)  -- SANITATION_DONE (R74)
  | handleHoldExpiry (ext : BitVec 20)  -- HANDLE_HOLD_EXPIRY (R70)
  | deadHostScanDone (sl : Slice) (ep : BitVec 16)  -- DEAD_HOST_SCAN_DONE (R260)
  | workItemDeal (q : Ptn)  -- WORK_ITEM_DEAL (R209)
  | basketDeadline (k : BitVec 32)  -- BASKET_DEADLINE (R216)
  | basketDeal (q : Ptn)  -- BASKET_DEAL (R217)
  | basketStart (g : Clu)  -- BASKET_START (R217)
  | expertPromotionDone (q : Ptn) (model expert : BitVec 16)  -- EXPERT_PROMOTION_DONE (R224)
  | invocationTimeLimit (k : BitVec 32)  -- INVOCATION_TIME_LIMIT (R194)
  | collectiveTimeLimit (k : BitVec 32)  -- COLLECTIVE_TIME_LIMIT (R235)
  | invocationFaultStop (g : Clu) (t : Til)  -- INVOCATION_FAULT_STOP (R190)
  | clearingEnd (g : Clu)  -- CLEARING_END (R118)
  | tilePreparationDone (g : Clu)  -- TILE_PREPARATION_DONE (R199)
  | streamComplete (g : Clu) (t : Til) (e : Fin 4)  -- STREAM_COMPLETE (R178)
  | barrierRelease (g : Clu) (all : Bool)  -- BARRIER_RELEASE (R187)
  | fma (g : Clu) (t : Til) (w : TileWord)  -- FMA (R170)
  | fadd (g : Clu) (t : Til) (w : TileWord)  -- FADD (R170)
  | fmul (g : Clu) (t : Til) (w : TileWord)  -- FMUL (R170)
  | fmax (g : Clu) (t : Til) (w : TileWord)  -- FMAX (R170)
  | fmin (g : Clu) (t : Til) (w : TileWord)  -- FMIN (R170)
  | fcmp (g : Clu) (t : Til) (w : TileWord)  -- FCMP (R170)
  | cvtw (g : Clu) (t : Til) (w : TileWord)  -- CVTW (R170)
  | cvtn (g : Clu) (t : Til) (w : TileWord)  -- CVTN (R170)
  | ftoi (g : Clu) (t : Til) (w : TileWord)  -- FTOI (R170)
  | itof (g : Clu) (t : Til) (w : TileWord)  -- ITOF (R170)
  | iadd (g : Clu) (t : Til) (w : TileWord)  -- IADD (R170)
  | isub (g : Clu) (t : Til) (w : TileWord)  -- ISUB (R170)
  | imul (g : Clu) (t : Til) (w : TileWord)  -- IMUL (R170)
  | and (g : Clu) (t : Til) (w : TileWord)  -- AND (R170)
  | or (g : Clu) (t : Til) (w : TileWord)  -- OR (R170)
  | xor (g : Clu) (t : Til) (w : TileWord)  -- XOR (R170)
  | shl (g : Clu) (t : Til) (w : TileWord)  -- SHL (R170)
  | shr (g : Clu) (t : Til) (w : TileWord)  -- SHR (R170)
  | sar (g : Clu) (t : Til) (w : TileWord)  -- SAR (R170)
  | imax (g : Clu) (t : Til) (w : TileWord)  -- IMAX (R170)
  | imin (g : Clu) (t : Til) (w : TileWord)  -- IMIN (R170)
  | icmp (g : Clu) (t : Til) (w : TileWord)  -- ICMP (R170)
  | sel (g : Clu) (t : Til) (w : TileWord)  -- SEL (R170)
  | mov (g : Clu) (t : Til) (w : TileWord)  -- MOV (R170)
  | vld (g : Clu) (t : Til) (w : TileWord)  -- VLD (R170)
  | vst (g : Clu) (t : Til) (w : TileWord)  -- VST (R170)
  | sld (g : Clu) (t : Til) (w : TileWord)  -- SLD (R170)
  | sst (g : Clu) (t : Til) (w : TileWord)  -- SST (R170)
  | exp (g : Clu) (t : Til) (w : TileWord)  -- EXP (R171)
  | log (g : Clu) (t : Til) (w : TileWord)  -- LOG (R171)
  | rcp (g : Clu) (t : Til) (w : TileWord)  -- RCP (R171)
  | rsqrt (g : Clu) (t : Til) (w : TileWord)  -- RSQRT (R171)
  | tanh (g : Clu) (t : Til) (w : TileWord)  -- TANH (R171)
  | gelu (g : Clu) (t : Til) (w : TileWord)  -- GELU (R171)
  | psumi (g : Clu) (t : Til) (w : TileWord)  -- PSUMI (R172)
  | psumx (g : Clu) (t : Til) (w : TileWord)  -- PSUMX (R172)
  | compact (g : Clu) (t : Til) (w : TileWord)  -- COMPACT (R172)
  | rsumi (g : Clu) (t : Til) (w : TileWord)  -- RSUMI (R172)
  | rmaxf (g : Clu) (t : Til) (w : TileWord)  -- RMAXF (R172)
  | rminf (g : Clu) (t : Til) (w : TileWord)  -- RMINF (R172)
  | rcnt (g : Clu) (t : Til) (w : TileWord)  -- RCNT (R172)
  | rany (g : Clu) (t : Til) (w : TileWord)  -- RANY (R172)
  | rall (g : Clu) (t : Til) (w : TileWord)  -- RALL (R172)
  | topkF32 (g : Clu) (t : Til) (w : TileWord)  -- TOPK_F32 (R173)
  | topkBf16 (g : Clu) (t : Til) (w : TileWord)  -- TOPK_BF16 (R173)
  | wld (g : Clu) (t : Til) (w : TileWord)  -- WLD (R175)
  | run (g : Clu) (t : Til) (w : TileWord)  -- RUN (R174)
  | wclr (g : Clu) (t : Til) (w : TileWord)  -- WCLR (R174)
  | wrnd (g : Clu) (t : Til) (w : TileWord)  -- WRND (R174)
  | wspill (g : Clu) (t : Til) (w : TileWord)  -- WSPILL (R143)
  | wrest (g : Clu) (t : Til) (w : TileWord)  -- WREST (R143)
  | setfmt (g : Clu) (t : Til) (w : TileWord)  -- SETFMT (R174)
  | addw (g : Clu) (t : Til) (w : TileWord)  -- ADDW (R177)
  | addvf (g : Clu) (t : Til) (w : TileWord)  -- ADDVF (R177)
  | addvi (g : Clu) (t : Til) (w : TileWord)  -- ADDVI (R177)
  | rdraw (g : Clu) (t : Til) (w : TileWord)  -- RDRAW (R177)
  | rdrnd (g : Clu) (t : Til) (w : TileWord)  -- RDRND (R177)
  | scoreClr (g : Clu) (t : Til) (w : TileWord)  -- SCORE_CLR (R177)
  | scoreLd (g : Clu) (t : Til) (w : TileWord)  -- SCORE_LD (R177)
  | streamStart (g : Clu) (t : Til) (w : TileWord)  -- STREAM_START (R178)
  | streamWait (g : Clu) (t : Til) (w : TileWord)  -- STREAM_WAIT (R178)
  | br (g : Clu) (t : Til) (w : TileWord)  -- BR (R179)
  | loop (g : Clu) (t : Til) (w : TileWord)  -- LOOP (R180)
  | halt (g : Clu) (t : Til) (w : TileWord)  -- HALT (R189)
  | bar (g : Clu) (t : Til) (w : TileWord)  -- BAR (R187)
  | raise (g : Clu) (t : Til) (w : TileWord)  -- RAISE (R179)
  | lookoutSample  -- LOOKOUT_SAMPLE (R468)
  | lookoutDecision  -- LOOKOUT_DECISION (R469)
  | resourceWakeDone (r : Fin 94)  -- RESOURCE_WAKE_DONE (R26)
  | sensorRead (temps : List (BitVec 8))  -- SENSOR_READ (R471)
  | throttleEval  -- THROTTLE_EVAL (R472)
  | tripRelease  -- TRIP_RELEASE (R473)
  | telemetryRead (vals : List (Option (BitVec 16)))  -- TELEMETRY_READ (R477)
  | railWaitExpiry  -- RAIL_WAIT_EXPIRY (R475)
  | counterFrame (l : Fin 8) (frame : BitVec 128)  -- COUNTER_FRAME (R457)
  | meterDeltaSend (l : Fin 8) (q : Ptn) (qty : Fin 10)  -- METER_DELTA_SEND (R454)
  | meterSnapshot  -- METER_SNAPSHOT (R460)
  | meterLinkSilence (l : Fin 8)  -- METER_LINK_SILENCE (R458)
  | meterStart  -- METER_START (R461)
  | meterSignDone  -- METER_SIGN_DONE (R465)
  | mailboxPoll  -- MAILBOX_POLL (R414)
  | mbxHandOver (m : Mbx) (frame : HandOver) (word : BitVec 32)  -- MBX_HAND_OVER (R415)
  | unreadAck (m : Mbx)  -- UNREAD_ACK (R419)
  | coreFailure (c : Core)  -- CORE_FAILURE (R408)
  | watchdog (duty : BitVec 16)  -- WATCHDOG (R481)
  | tileSelfTest (g : Clu) (bad : Option (Fin 17))  -- TILE_SELF_TEST (R492)
  | parityError (q : Ptn) (cause : BitVec 4)  -- PARITY_ERROR (R402)
  | clusterHang (g : Clu)  -- CLUSTER_HANG (R402)
  | ptnResetDone (q : Ptn)  -- PTN_RESET_DONE (R404)
  | agreementWindowExpiry (id : BitVec 32)  -- AGREEMENT_WINDOW_EXPIRY (R443)
  | debugUnlockExpiry  -- DEBUG_UNLOCK_EXPIRY (R446)
  | resetStart  -- RESET_START (R423)
  | porstN (low : Bool) (strap : BitVec 16)  -- PORST_N (R500)
  | warmN (low : Bool)  -- WARM_N (R500)
  | porstVN (low : Bool)  -- PORST_V_N (R500)
  | wakeN  -- WAKE_N (R475)
  | powerLoss  -- POWER_LOSS (R478)
  | refclkLoss (which : Fin 6)  -- REFCLK_LOSS (R514)
  | vaultWaitExpiry  -- VAULT_WAIT_EXPIRY (R500)
  | mbxReady  -- MBX_READY (R501)
  | devInfo (h : MbxHdr)  -- DEV_INFO (R423)
  | devReset (h : MbxHdr) (kind : BitVec 8)  -- DEV_RESET (R423)
  | devFwUpdate (h : MbxHdr) (stage : FwStage) (len : BitVec 32)  -- DEV_FW_UPDATE (R437)
  | devHostDead (h : MbxHdr) (ep : BitVec 16) (action : BitVec 8)  -- DEV_HOST_DEAD (R260)
  | devPortReset (h : MbxHdr) (port : BitVec 8)  -- DEV_PORT_RESET (R499)
  | devClusterReset (h : MbxHdr) (cluster : BitVec 8)  -- DEV_CLUSTER_RESET (R499)
  | ptnInfo (h : MbxHdr) (ptn : BitVec 8)  -- PTN_INFO (R423)
  | ptnReset (h : MbxHdr) (ptn : BitVec 8)  -- PTN_RESET (R404)
  | ptnFault (h : MbxHdr) (ptn : BitVec 8)  -- PTN_FAULT (R402)
  | extCreate (h : MbxHdr) (ptn kind policy mirrored : BitVec 8) (length : BitVec 64) (entries : List AclArg)  -- EXT_CREATE (R531)
  | extInfo (h : MbxHdr) (handle : BitVec 32)  -- EXT_INFO (R423)
  | extSetPolicy (h : MbxHdr) (handle : BitVec 32) (policy : BitVec 8)  -- EXT_SET_POLICY (R373)
  | extSetAcl (h : MbxHdr) (handle : BitVec 32) (entries : List AclArg)  -- EXT_SET_ACL (R244)
  | extSetDrain (h : MbxHdr) (handle : BitVec 32) (drainMs : BitVec 32)  -- EXT_SET_DRAIN (R423)
  | extRevoke (h : MbxHdr) (handle : BitVec 32)  -- EXT_REVOKE (R72)
  | extZero (h : MbxHdr) (handle : BitVec 32)  -- EXT_ZERO (R530)
  | extInitDone (h : MbxHdr) (handle : BitVec 32)  -- EXT_INIT_DONE (R78)
  | extDirRead (h : MbxHdr) (handle : BitVec 32) (offset : BitVec 64)  -- EXT_DIR_READ (R423)
  | krnLoad (h : MbxHdr) (ptn : BitVec 8) (ext : BitVec 32) (offset : BitVec 64) (len : BitVec 32)  -- KRN_LOAD (R196)
  | krnUnload (h : MbxHdr) (ptn : BitVec 8) (handle : BitVec 16)  -- KRN_UNLOAD (R198)
  | mdlLoad (h : MbxHdr) (ptn : BitVec 8) (ext : BitVec 32) (offset : BitVec 64) (len : BitVec 64)  -- MDL_LOAD (R221)
  | mdlUnload (h : MbxHdr) (ptn : BitVec 8) (model : BitVec 16)  -- MDL_UNLOAD (R221)
  | mdlPlace (h : MbxHdr) (ptn action : BitVec 8) (model expert : BitVec 16) (cluster : BitVec 8)  -- MDL_PLACE (R222)
  | dealConfig (h : MbxHdr) (ptn : BitVec 8) (units : BitVec 32)  -- DEAL_CONFIG (R206)
  | rtIdent (h : MbxHdr)  -- RT_IDENT (R424)
  | rtPort (h : MbxHdr) (body : List Byte)  -- RT_PORT (R424)
  | rtTblWrite (h : MbxHdr) (body : List Byte)  -- RT_TBL_WRITE (R289)
  | rtTblRead (h : MbxHdr) (body : List Byte)  -- RT_TBL_READ (R424)
  | rtTblClear (h : MbxHdr)  -- RT_TBL_CLEAR (R289)
  | rtDirWrite (h : MbxHdr) (body : List Byte)  -- RT_DIR_WRITE (R289)
  | rtSwap (h : MbxHdr) (body : List Byte)  -- RT_SWAP (R300)
  | rtCounters (h : MbxHdr) (body : List Byte)  -- RT_COUNTERS (R424)
  | schGroupWrite (h : MbxHdr) (first : BitVec 16) (groups : List Byte)  -- SCH_GROUP_WRITE (R316)
  | schSlotWrite (h : MbxHdr) (port : BitVec 8) (slots : List Byte)  -- SCH_SLOT_WRITE (R322)
  | flInfo (h : MbxHdr) (die : BitVec 8)  -- FL_INFO (R424)
  | intRemap (h : MbxHdr) (channel : BitVec 16) (bank : BitVec 8) (row : BitVec 16)  -- INT_REMAP (R386)
  | intScrub (h : MbxHdr) (handle : BitVec 32) (offset length : BitVec 64)  -- INT_SCRUB (R390)
  | intScrubLast (h : MbxHdr) (ptn : BitVec 8)  -- INT_SCRUB_LAST (R391)
  | intLogRead (h : MbxHdr) (die max : BitVec 8)  -- INT_LOG_READ (R392)
  | prtInfo (h : MbxHdr)  -- PRT_INFO (R494)
  | prtDiagRead (h : MbxHdr) (max : BitVec 8)  -- PRT_DIAG_READ (R482)
  | prtWearRead (h : MbxHdr) (first : BitVec 32)  -- PRT_WEAR_READ (R494)
  | prtSpareTest (h : MbxHdr) (cluster : BitVec 8)  -- PRT_SPARE_TEST (R494)
  | secInfo (h : MbxHdr)  -- SEC_INFO (R447)
  | secAttest (h : MbxHdr) (nonce : BitVec 256)  -- SEC_ATTEST (R440)
  | secPropose (h : MbxHdr) (kind : BitVec 8) (body : List Byte)  -- SEC_PROPOSE (R443)
  | secSign (h : MbxHdr) (id : BitVec 32) (role : BitVec 8) (signature : List Byte)  -- SEC_SIGN (R444)
  | secWithdraw (h : MbxHdr) (id : BitVec 32) (role : BitVec 8) (signature : List Byte)  -- SEC_WITHDRAW (R445)
  | secPendingRead (h : MbxHdr)  -- SEC_PENDING_READ (R447)
  | secCertRead (h : MbxHdr) (index : BitVec 32)  -- SEC_CERT_READ (R439)
  | mtrInfo (h : MbxHdr)  -- MTR_INFO (R466)
  | mtrReport (h : MbxHdr) (ptn : BitVec 8) (nonce : BitVec 256)  -- MTR_REPORT (R464)
  | mtrEvents (h : MbxHdr) (first : BitVec 64)  -- MTR_EVENTS (R466)
  | mtrCertRead (h : MbxHdr) (index : BitVec 32)  -- MTR_CERT_READ (R465)
  | lkInfo (h : MbxHdr)  -- LK_INFO (R479)
  | pwrState (h : MbxHdr) (state : BitVec 8)  -- PWR_STATE (R475)
  | lkTelemCfg (h : MbxHdr) (slot addr reg : BitVec 8) (thresh : BitVec 16)  -- LK_TELEM_CFG (R477)
  | lkTelemRead (h : MbxHdr)  -- LK_TELEM_READ (R479)
  | expRead (h : MbxHdr) (addr : BitVec 32) (count : BitVec 16)  -- EXP_READ (R426)
  | expWrite (h : MbxHdr) (addr mask value : BitVec 32)  -- EXP_WRITE (R427)
  | mcChCfgMapWrite (h : MbxHdr) (c : Chan) (map : BitVec 2)  -- MC_CH_CFG_MAP_WRITE (R340)
  | chkInit (c : Chk)  -- CHK_INIT (R430)
  | chkAliveClr (c : Chk)  -- CHK_ALIVE_CLR (R430)
  | chkData8 (c : Chk) (v : BitVec 8)  -- CHK_DATA8 (R431)
  | chkData16 (c : Chk) (v : BitVec 16)  -- CHK_DATA16 (R431)
  | chkData32 (c : Chk) (v : BitVec 32)  -- CHK_DATA32 (R431)
  | chkValueWrite (c : Chk) (v : BitVec 32)  -- CHK_VALUE_WRITE (R431)
  | chkAliveIn (c : Chk) (v : BitVec 16)  -- CHK_ALIVE_IN (R432)
  | stage1Verified (selfTest : Bool)  -- STAGE_1_VERIFIED (R436)
  | mainFirmwareVerified  -- MAIN_FIRMWARE_VERIFIED (R436)
  | flashBusTrainingDone (m : MDie) (present : List (BitVec 8)) (rejected : List (BitVec 32)) (groups kitty : List (BitVec 16))  -- FLASH_BUS_TRAINING_DONE (R354)
  | vddcVidStep  -- VDDC_VID_STEP (R512)
  | dutyMoveComplete  -- DUTY_MOVE_COMPLETE (R408)
  | wearRecordCommit  -- WEAR_RECORD_COMMIT (R493)
  | firmwareImageWritten  -- FIRMWARE_IMAGE_WRITTEN (R437)
  | flashEraseDone (f : FCh)  -- FLASH_ERASE_DONE (R367)
  | dormantDrainExpiry  -- DORMANT_DRAIN_EXPIRY (R475)
  | pcieConfigWrite (busMaster msix d3 : Bool) (mask : BitVec 64)  -- PCIE_CONFIG_WRITE (R518)
  | dbgAccess  -- DBG_ACCESS (R521)
  | malformedPacketArrival (n : Port) (vc : Fin 5) (p : Packet)  -- MALFORMED_PACKET_ARRIVAL (R107)
deriving DecidableEq, Repr

end Sys2Proof
end

