-- ==== Sys2Proof/Decode.lean ====
section
/-! DEFINITION. The command a word spells: the table of operations and events gives no row an encoding in bits, so no
word spells a command. -/
namespace Sys2Proof

/-- The command that `w`'s `nbits` bits spell by the table: none, since no row has bits. -/
def decodeTableWord (_nbits _w : Nat) : Option Instr := none

end Sys2Proof
end

