-- ==== Sys2Proof/Config.lean ====
section
/-! DEFINITION. What an implementation fixes and the manual leaves open: opaque constants with no body, so
that no proof can see a value of them. The assumption log names each one. -/

namespace Sys2Proof

/-- The functions of the special-function unit (R125). -/
inductive SfuFn
  | exp | log | rcp | rsqrt | tanh | gelu
deriving DecidableEq, Repr

/-- The special-function unit's fixed function of its input (R125; log 30). -/
opaque Config.sfu : SfuFn → BitVec 32 → BitVec 32

/-- The element code written for a NaN output in an MX format that has no NaN code, by format and element
index (R153 names no code there; log 32). -/
opaque Config.nanElem : Nat → Nat → Nat

/-- Comparison of two binary32 numbers under LTU (false) and LEU (true), which R170 lists and gives no meaning for FCMP
(log 31). -/
opaque Config.fcmpUnsigned : Bool → BitVec 32 → BitVec 32 → Bool

/-- The value a binary32 scale that is infinite or not a number makes of a value (R132 and R149 state none; log 35): the
value, and whether it is NaN, +∞ or −∞. -/
opaque Config.badScale : Rat → BitVec 32 → Rat × Bool × Bool × Bool

/-- Which of two qualifying images of one SVN runs, by stage, 2 the meter's (R436, R451; log 66): true the upper slot. -/
opaque Config.upperOnTie : Nat → Bool

/-- What a source that names an inactive loop level reads: a function of the program, the word's index, the level and the
last loop indices (R154, R163; log 37). -/
opaque Config.idleLc : List Nat → Nat → Nat → List (Nat × Nat) → Nat

/-- The tiles a loaded image runs on in each cluster, less one: a function of the image's code and of the descriptor (R154,
R162; log 93). -/
opaque Config.imageTiles : List Nat → List Byte → Nat

/-- Whether an expert's weights are lost: by partition and model handle, expert, and the partition's channels that lost lines;
modulo 3, 1 uncorrectable and 2 poisoned (R220; log 22). -/
opaque Config.weightsLost : Nat → Nat → List Nat → Nat

/-- A byte a stock kernel leaves in a line it writes in part and that had no data: a function of its arguments and settings
and of the byte's place, as window and offset (R154, R156; log 44). -/
opaque Config.lineFill : List Byte → Nat → Nat → Nat

/-- ARG1 of a TOKEN transfer that combines several weights, as a function of the weights (R154, R211; log 44). -/
opaque Config.combinedWeight : List Nat → Nat

/-- The epoch a port comes out of its first power-on reset with: a draw of the entropy source, modulo 2^32 (R281, R286;
log 147). -/
opaque Config.epoch : Nat → Nat

/-- A free value: the argument is the counter of free values the state holds (log 2). -/
opaque Config.free : Nat → Nat

/-- The K passes a stock kernel needs beyond the first, by kernel and K: its tile shape is the device's own choice
(R225; log 43). -/
opaque Config.kPasses : Nat → Nat → Nat

/-- SHAKE256 of a message, truncated to 256 bits (R195, R221, R435): a standard function the manual names
and does not spell out (log 33). -/
opaque Config.shake256 : List Byte → List Byte

/-- KMAC256 under a key of the device (log 33). -/
opaque Config.kmac : Nat → List Byte → List Byte

/-- Whether a signature verifies over a digest under a public key (XMSS-SHAKE256_20_256 or _10; log 33). -/
opaque Config.verify : List Byte → List Byte → List Byte → Bool

/-- A signature by a device key, given the key's name, its leaf index and the digest (log 33). -/
opaque Config.sign : Nat → Nat → List Byte → List Byte

/-- Provisioned constants of one device, by name and length: serial numbers, keys, certificates (log 34). -/
opaque Config.provisioned : Nat → Nat → List Byte

end Sys2Proof
end

