-- ==== Sys2Proof/Machine/Bytes.lean ====
section
/-! DEFINITION. Byte order, bit fields and small list helpers (spec/00_scope.md R8, R9): everything the
other layers use to take a word apart or put it together. -/

namespace Sys2Proof.Machine

/-- The `n` low bytes of `x`, least significant first (R9). -/
def le : Nat → Nat → List Byte
  | 0, _ => []
  | n + 1, x => BitVec.ofNat 8 x :: le n (x / 256)

/-- The number whose little-endian bytes are the list (R9). -/
def ofLe : List Byte → Nat
  | [] => 0
  | b :: bs => b.toNat + 256 * ofLe bs

/-- Bits `lo` to `lo + w - 1` of a number, as a number (R8). -/
def bits (x lo w : Nat) : Nat := (x >>> lo) % 2 ^ w

/-- One bit of a number (R8). -/
def bit (x n : Nat) : Bool := x.testBit n

/-- A Bool as the number 0 or 1. -/
def b2n (b : Bool) : Nat := if b then 1 else 0

/-- `x` with its bits `lo` to `lo + w - 1` replaced by the low bits of `v`. -/
def setBits (x lo w v : Nat) : Nat := x - (bits x lo w <<< lo) + ((v % 2 ^ w) <<< lo)

/-- `n` bytes of a list from offset `off`, zeros beyond its end. -/
def slice (l : List Byte) (off n : Nat) : List Byte :=
  let t := (l.drop off).take n
  t ++ List.replicate (n - t.length) 0#8

/-- The little-endian field of `n` bytes at offset `off`, zeros beyond the end. -/
def field (l : List Byte) (off n : Nat) : Nat := ofLe (slice l off n)

/-- `l` with the bytes from `off` overwritten by `v` (bytes past the end of `l` are dropped). -/
def patch (l : List Byte) (off : Nat) (v : List Byte) : List Byte :=
  l.take off ++ (v.take (l.length - off)) ++ l.drop (off + v.length)

/-- Zeros up to a length of `n` bytes. -/
def padTo (n : Nat) (l : List Byte) : List Byte := l ++ List.replicate (n - l.length) 0#8

/-- `n` zero bytes. -/
def zeros (n : Nat) : List Byte := List.replicate n 0#8

/-- The smallest multiple of `m` at or above `n`. -/
def roundUp (n m : Nat) : Nat := (n + m - 1) / m * m

/-- `n / m`, rounded up. -/
def ceilDiv (n m : Nat) : Nat := (n + m - 1) / m

/-- The number of ones among the low `n` bits of `x`. -/
def popcount : Nat → Nat → Nat
  | 0, _ => 0
  | n + 1, x => x % 2 + popcount n (x / 2)

/-- `x mod 2 ^ w` read as a two's-complement number. -/
def sext (w x : Nat) : Int :=
  let y := x % 2 ^ w
  if 2 ^ w ≤ 2 * y then (y : Int) - (2 : Int) ^ w else y

/-- The `w` bits of a two's-complement number. -/
def unsext (w : Nat) (x : Int) : Nat := (x % (2 : Int) ^ w).toNat

/-- The list of `f 0 … f (n - 1)`. -/
def tabulate {α : Type} (n : Nat) (f : Nat → α) : List α := (List.range n).map f

/-- Replace element `i` of a list. -/
def setAt {α : Type} (l : List α) (i : Nat) (v : α) : List α := l.set i v

/-- Consecutive pieces of `n` elements, the last one possibly shorter. `fuel` bounds the count. -/
def chunksAux {α : Type} (n : Nat) : Nat → List α → List (List α)
  | 0, _ => []
  | _ + 1, [] => []
  | f + 1, l => l.take n :: chunksAux n f (l.drop n)

/-- A list cut into pieces of `n` elements. -/
def chunks {α : Type} (n : Nat) (l : List α) : List (List α) := chunksAux n l.length l

/-- The index of the first element that satisfies `f`. -/
def indexOf? {α : Type} (f : α → Bool) (l : List α) : Option Nat := l.findIdx? f

/-- The smaller and the larger of a wrapped counter step: `x + n` modulo `2 ^ w`. -/
def wrapAdd (w x n : Nat) : Nat := (x + n) % 2 ^ w

/-- `x + n`, saturating at `m`. -/
def satAdd (m x n : Nat) : Nat := min m (x + n)

/-- A number brought into the range `lo` to `hi`. -/
def clamp (lo hi x : Nat) : Nat := max lo (min hi x)

end Sys2Proof.Machine
end

