-- ==== Sys2Proof/Machine/Tab.lean ====
section
/-! DEFINITION. Sparse tables: lists of (key, value) pairs with strictly rising keys, so that equal tables
are equal lists. A table with a default value lists no entry equal to the default. -/

namespace Sys2Proof.Machine

/-- A table from numbers to values. -/
abbrev Tab (α : Type) := List (Nat × α)

/-- The entry under key `k`. -/
def Tab.get? {α : Type} : Tab α → Nat → Option α
  | [], _ => none
  | (k', v) :: t, k => if k = k' then some v else Tab.get? t k

/-- The entry under key `k`, or `d`. -/
def Tab.getD {α : Type} (t : Tab α) (k : Nat) (d : α) : α := (Tab.get? t k).getD d

/-- Whether key `k` has an entry. -/
def Tab.has {α : Type} (t : Tab α) (k : Nat) : Bool := (Tab.get? t k).isSome

/-- Put an entry, keeping the keys rising. -/
def Tab.put {α : Type} : Tab α → Nat → α → Tab α
  | [], k, v => [(k, v)]
  | (k', v') :: t, k, v =>
    if k < k' then (k, v) :: (k', v') :: t
    else if k = k' then (k, v) :: t
    else (k', v') :: Tab.put t k v

/-- Remove the entry under key `k`. -/
def Tab.del {α : Type} : Tab α → Nat → Tab α
  | [], _ => []
  | (k', v') :: t, k => if k = k' then t else (k', v') :: Tab.del t k

/-- Put an entry in a table whose unlisted keys read as `d`: an entry equal to `d` is removed. -/
def Tab.set {α : Type} [DecidableEq α] (d : α) (t : Tab α) (k : Nat) (v : α) : Tab α :=
  if v = d then Tab.del t k else Tab.put t k v

/-- Replace an entry by a function of it, where it exists. -/
def Tab.modify {α : Type} (t : Tab α) (k : Nat) (f : α → α) : Tab α :=
  match Tab.get? t k with
  | some v => Tab.put t k (f v)
  | none => t

/-- Replace every entry by a function of key and entry. -/
def Tab.mapVal {α : Type} (t : Tab α) (f : Nat → α → α) : Tab α := t.map fun e => (e.1, f e.1 e.2)

/-- Keep the entries that satisfy `f`. -/
def Tab.keep {α : Type} (t : Tab α) (f : Nat → α → Bool) : Tab α := t.filter fun e => f e.1 e.2

/-- The keys in rising order. -/
def Tab.keys {α : Type} (t : Tab α) : List Nat := t.map Prod.fst

/-- The values in key order. -/
def Tab.vals {α : Type} (t : Tab α) : List α := t.map Prod.snd

/-- The keys rise strictly. -/
def Tab.wf {α : Type} : Tab α → Bool
  | [] => true
  | [_] => true
  | (k, _) :: (k', v') :: t => decide (k < k') && Tab.wf ((k', v') :: t)

/-- The lowest number from `k` on, below `k + fuel`, that is no key of the table. -/
def Tab.firstFree {α : Type} (t : Tab α) : Nat → Nat → Option Nat
  | 0, _ => none
  | f + 1, k => if Tab.has t k then Tab.firstFree t f (k + 1) else some k

end Sys2Proof.Machine
end

