-- ==== Sys2Proof/Machine/Regs.lean ====
section
/-! DEFINITION. The registers of the expert space (spec/15_control_and_mailboxes.md R425 and the register tables it names):
one name per field, its reset value, and one row per field with its address, bits, access code and range. -/
set_option linter.unusedVariables false
namespace Sys2Proof.Machine

/-- Register fields, block by block in the order of the expert space (R425). -/
inductive Reg
  -- ARB
  | arbTrumpLimit | arbSelClass | arbSelInst | arbFreeze | arbStatusFrozen | arbStatusDrained | arbStatusBusy 
  | arbStatusFwHold | arbStatusPointer | arbStatusLastWinner | arbStatusTrumpsHeld | arbGrants | arbTrumps | arbMaxwait 
  | arbClear
  -- GL
  | glCtrlEnable | glCtrlSpareAuto | glCtrlLpiAllow | glStateState | glStateTxSpare | glStateRxSpare | glReplayTimer 
  | glReplayLimit | glLaneThresh | glPeerId | glEpoch | glPeerEpoch | glHamperUsed | glLseqNext | glLseqOldest 
  | glRxExpected | glConsumedVc | glFreedVc | glPeerFreedVc | glBufVc | glCwCorrected | glCwUncorr | glGrpDiscard 
  | glReplays | glDupFlits | glGapFlits | glCreditOverrun | glCreditBad | glCmdBad | glDownEvents | glLaneSwaps 
  | glLaneAlarm | glDropReset | glDropEpoch | glLaneSymerr
  -- RT
  | rtCtrlRouteEn | rtStatusActiveCopy | rtStatusSwapBusy | rtStatusResyncBusy | rtStatusTransitOnly | rtStatusTkReset 
  | rtDrainLimit | rtTransitSub | rtDirActive | rtDirShadow | rtFreeze | rtMgrIdId | rtMgrIdValid | rtOutstanding 
  | rtDropNoroute | rtDropHops | rtDup | rtStale | rtMalformed | rtMgmtReject | rtMgmtDrop | rtDropLocal | rtSwaps 
  | rtSwapTimeout | rtForced
  -- POL
  | polCfgEn | polCfgAware | polCir | polPir | polCbs | polPbs | polTc | polTp | polGreen | polYellow | polRed 
  | polYretry | polCongFlits | polRetryHint
  -- SCH
  | schPortRate | schPortBurst | schPortCfgSchBucketClear | schWinGuard | schMirrorSub | schSlotStatusActiveCopy 
  | schSlotStatusSwapPending | schSlotStatusSlot | schPortBucket | schWinSkip | schHistSelQueue | schHistSelIngress 
  | schHistSelClear | schHistDepth | schHistDelay | schHistMaxdepth | schHistMaxdelay | schSubRate | schSubBurst 
  | schSubCfgWeight | schSubCfgSchBucketClear | schSubBucket | schSubBytes | schSqRate | schSqBurst | schSqCfgWeight 
  | schSqCfgSchBucketClear | schSqBucket | schSlotActive | schSlotShadow | schSubmap
  -- MC
  | mcChCfgMap | mcChCfgRefMode | mcChCfgIdleClose | mcChCfgPdIdle | mcChStatusPwr | mcChStatusFailed | mcChStatusOwned 
  | mcChStatusPartition | mcChStatusRefPostponed | mcChStatusHot | mcChFrames | mcRhThresh | mcRhFloor | mcRhLastBank 
  | mcRhLastTag | mcRhLastRow | mcRhEvents | mcRhLevel | mcActs | mcRdLines | mcWrLines | mcHazardWaits | mcRefForced 
  | mcRfmIssued | mcTrainFail | mcWrDiscard | mcStkStatusSelfRefresh | mcStkStatusTemp | mcStkStatusHot | mcStkStatusTrained 
  | mcStkZqPeriod | mcStkRetrainPeriod | mcStkRetrainDelta | mcStkEpoch
  -- DIR
  | dirSliceRecallsOpen | dirSliceWaiting | dirSliceScanBusy | dirSliceBlocksFree | dirPtnTimeout | dirPtnRetryHint 
  | dirPtnBlocks | dirPtnEntries | dirPtnTimeoutPoison | dirPtnDeadPoison | dirPtnSetFull | dirPtnLateAck | dirPtnStaleReturn 
  | dirPtnBadDirty | dirPtnVictims | dirPtnRecalls
  -- FL
  | flPtnWeight | flPtnDirtyHigh | flPtnDirtyLow | flPtnDestageAge | flPtnPromoQ | flPtnDestageQ | flPtnDirtyFrames 
  | flPtnFlashPages | flPtnPromotions | flPtnDestages | flPtnZeroElided | flDieStatusMounted | flDieStatusGcActive 
  | flDieStatusKittyLow | flDieStatusNoSpace | flDieGcStart | flDieGcUrgent | flDieGcWeight | flDieJrnlCommitUs 
  | flDieFreeGroups | flDieKittyBlocks | flDieKittyBorrowed | flDieJrnlSeqLo | flDieJrnlSeqHi | flChStatusParked 
  | flChStatusTrained | flChStatusCePresent | flChStatusLunReject | flChReads | flChPrograms | flChErases | flChRetryReads 
  | flChUncorr | flChRetired
  -- ECC
  | eccChCfgAutoRemap | eccChRepeatWindow | eccChStatusRemapFull | eccChStatusCopying | eccChStatusEntriesUsed 
  | eccChCorrected | eccChUncorr | eccChPoisonReads | eccChRepaired | eccChRemapRefused | eccRemapLo | eccRemapHi 
  | eccChSpareUsed | eccDieLogCount | eccDieLogLost
  -- SCB
  | scbPtnCfgMode | scbPtnPeriod | scbPtnDemandRate | scbPtnStatusWalking | scbPtnStatusLate | scbPtnStatusDemandOpen 
  | scbPtnPasses | scbPtnLines
  -- TILE
  | tileStateState | tileStateReserve | tileStateRetired | tileStateLogical | tileAccFlagsWindowExceeded | tileAccFlagsScRange 
  | tileAccFlagsSpecialOut | tileAccFlagsSatOut | tileAccFlagged | tileMmaBusy | tileScrConflict | tileZskip 
  | tileCluStateClockRun | tileCluStateOwned | tileCluStatePartition | tileCluStateClearing | tileCluSpareReservePhys 
  | tileCluSpareRetiredPhys | tileCluScFlagsScRange | tileCluScFlagsScCount | tileCluCsConflict | tileCluScConflict 
  | tileFaultCode | tileFaultPc | tileFaultInstrLo | tileFaultInstrHi | tileFaultAddr | tileImemHandle | tileIssueStall
  -- DEAL
  | dealCfgTarget | dealCfgSpill | dealDeadline | dealTlimit | dealStage | dealOpenInv | dealQueued | dealCloseFull 
  | dealCloseDeadline | dealSpillPpm | dealPromoWait | dealTokens | dealKsplit
  -- LK
  | lkClsCfgEn | lkClsCfgK | lkClsWake | lkClsSleep | lkClsIdle | lkPtnIdle | lkThrotStart | lkThrotHyst | lkThermK 
  | lkRailWait | lkSensor | lkFilt
  -- PWR
  | pwrStatusState | pwrStatusTrip | pwrThrotLevel | pwrTelemAlert | pwrWakesAhead | pwrWakesDemand | gpioStrap 
  | gpioDir | gpioOut | gpioOd | gpioIn | pwrVddcVid
  -- PTN
  | ptnStatusState | ptnStatusFaultCause | ptnStatusEnableDeferred | ptnCfgAutoReset | ptnClusters | ptnMbxLo 
  | ptnMbxHi | ptnFaults | ptnResets | ptnChan
  -- CHK
  | chkCtrlInit | chkCtrlAliveClr | chkValue | chkResult | chkData8 | chkData16 | chkData32 | chkAliveExpValue 
  | chkAliveExpValid | chkAliveIn | chkStatusBusy | chkStatusRepeat | chkStatusSkip | chkBytes | chkAliveErrs 
  | chkCrcErrs
  -- SEC
  | secStatusProvisioned | secStatusRecovery | secStatusDebug | secStatusFwOwner | secStatusXmssFault | secSvn 
  | secNextLeaf | secTree | secAgreeCountLo | secAgreeCountHi | secAgreeWindow | secOpenChanges | secDebugLeftS 
  | secSigFail
deriving DecidableEq, Repr

/-- The value a field takes at reset (the Reset column of its table; log 8 for fields without one). GL_EPOCH, reset to
"Entropy", is a free value (R281; log 147). -/
def Reg.resetAt : Reg → Nat → Nat
  | .dealCfgTarget, _ => 384
  | .dealDeadline, _ => 200
  | .dealTlimit, _ => 100000
  | .dealStage, _ => 1024
  | .dirSliceBlocksFree, _ => 4
  | .dirPtnTimeout, _ => 10000
  | .dirPtnRetryHint, _ => 10
  | .glCtrlEnable, _ => 1
  | .glCtrlSpareAuto, _ => 1
  | .glCtrlLpiAllow, _ => 1
  | .glReplayTimer, _ => 40
  | .glEpoch, n => Config.epoch n % 2 ^ 32
  | .glReplayLimit, _ => 8
  | .glLaneThresh, _ => 16384
  | .rtStatusTransitOnly, _ => 1
  | .rtDrainLimit, _ => 1000
  | .rtTransitSub, _ => 511
  | .polCbs, _ => 1048576
  | .polPbs, _ => 4194304
  | .polCongFlits, _ => 1536
  | .polRetryHint, _ => 20
  | .schPortBurst, _ => 8448
  | .schWinGuard, _ => 64
  | .schMirrorSub, _ => 510
  | .schPortBucket, _ => 8448
  | .schSubBurst, _ => 8448
  | .schSubCfgWeight, _ => 1
  | .schSubBucket, _ => 8448
  | .schSqBurst, _ => 8448
  | .schSqCfgWeight, _ => 1
  | .schSqBucket, _ => 8448
  | .mcChCfgMap, _ => 2
  | .mcChCfgRefMode, _ => 1
  | .mcChCfgIdleClose, _ => 16
  | .mcChCfgPdIdle, _ => 8
  | .mcRhThresh, _ => 1024
  | .mcRhFloor, _ => 4
  | .mcStkZqPeriod, _ => 256
  | .mcStkRetrainPeriod, _ => 1000
  | .mcStkRetrainDelta, _ => 10
  | .flPtnWeight, _ => 1
  | .flPtnDirtyHigh, _ => 50
  | .flPtnDirtyLow, _ => 25
  | .flPtnDestageAge, _ => 1000
  | .flDieGcStart, _ => 4
  | .flDieGcUrgent, _ => 1
  | .flDieGcWeight, _ => 1
  | .flDieJrnlCommitUs, _ => 100
  | .eccChCfgAutoRemap, _ => 1
  | .eccChRepeatWindow, _ => 86400
  | .scbPtnPeriod, _ => 24
  | .scbPtnDemandRate, _ => 1000
  | .arbTrumpLimit, _ => 32
  | .chkValue, _ => 4294967295
  | .secAgreeWindow, _ => 600
  | .lkClsCfgEn, _ => 1
  | .lkClsCfgK, _ => 2
  | .lkClsWake, _ => 16384
  | .lkClsSleep, _ => 4096
  | .lkPtnIdle, _ => 50
  | .lkThrotStart, _ => 100
  | .lkThrotHyst, _ => 3
  | .lkThermK, _ => 2
  | .lkRailWait, _ => 20
  | .polTc, _ => 1048576
  | .polTp, _ => 4194304
  | .schSubmap, i => i % 512 / 8
  | .schSlotActive, _ => 0x40
  | .schSlotShadow, _ => 0x40
  | .pwrVddcVid, _ => 60
  | .lkClsIdle, i => if i = 1 then 1000 else if i = 2 then 200 else if i = 3 then 500 else 0
  | _, _ => 0

/-- Register blocks (R425). -/
inductive Blk
  | arb | gl | rt | pol | sch | mc | dir | fl | ecc | scb | tile | deal | lk | pwr | ptn | chk | sec
deriving DecidableEq, Repr

/-- The block a field belongs to: fields stand in block order. -/
def Reg.blk (r : Reg) : Blk :=
  let i := r.ctorIdx
  if i < Reg.glCtrlEnable.ctorIdx then .arb else
  if i < Reg.rtCtrlRouteEn.ctorIdx then .gl else
  if i < Reg.polCfgEn.ctorIdx then .rt else
  if i < Reg.schPortRate.ctorIdx then .pol else
  if i < Reg.mcChCfgMap.ctorIdx then .sch else
  if i < Reg.dirSliceRecallsOpen.ctorIdx then .mc else
  if i < Reg.flPtnWeight.ctorIdx then .dir else
  if i < Reg.eccChCfgAutoRemap.ctorIdx then .fl else
  if i < Reg.scbPtnCfgMode.ctorIdx then .ecc else
  if i < Reg.tileStateState.ctorIdx then .scb else
  if i < Reg.dealCfgTarget.ctorIdx then .tile else
  if i < Reg.lkClsCfgEn.ctorIdx then .deal else
  if i < Reg.pwrStatusState.ctorIdx then .lk else
  if i < Reg.ptnStatusState.ctorIdx then .pwr else
  if i < Reg.chkCtrlInit.ctorIdx then .ptn else
  if i < Reg.secStatusProvisioned.ctorIdx then .chk else
  .sec

/-- Access codes (R11). -/
inductive Access
  | ro | rw | w1c | wo | rws | rwl
deriving DecidableEq, Repr

/-- Where a field lies: the address of instance 0, the strides and counts of its indices (outermost first), how many
instances share a word and which of them this is, its bits, access code and range. -/
structure RegRow where
  reg : Reg
  base : Nat
  dims : List (Nat × Nat)
  fan : Nat
  sub : Nat
  lo : Nat
  width : Nat
  acc : Access
  min : Nat
  max : Nat
deriving DecidableEq, Repr

/-- The index of an address in nested arrays, as one mixed-radix number. -/
def regIndex : Nat → List (Nat × Nat) → Nat → Option Nat
  | d, [], acc => if d = 0 then some acc else none
  | d, (st, n) :: t, acc => if d / st < n then regIndex (d % st) t (acc * n + d / st) else none

/-- The instance of a row's field at an address, if the address is one of its words. -/
def RegRow.at? (r : RegRow) (a : Nat) : Option Nat :=
  if a < r.base then none else (regIndex (a - r.base) r.dims 0).map fun i => i * r.fan + r.sub

/-- The key of a field instance in the register store. -/
def Reg.key (r : Reg) (i : Nat) : Nat := r.ctorIdx * 2 ^ 20 + i

/-- Fields of the ARB block. -/
def regsArb : List RegRow := [
  ⟨.arbTrumpLimit, 0x1000000, [], 1, 0, 0, 8, .rw, 1, 255⟩,
  ⟨.arbSelClass, 0x1000004, [], 1, 0, 0, 4, .rw, 0, 7⟩,
  ⟨.arbSelInst, 0x1000004, [], 1, 0, 4, 16, .rw, 0, 65535⟩,
  ⟨.arbFreeze, 0x1000008, [], 1, 0, 0, 1, .rw, 0, 1⟩,
  ⟨.arbStatusFrozen, 0x100000c, [], 1, 0, 0, 1, .ro, 0, 1⟩,
  ⟨.arbStatusDrained, 0x100000c, [], 1, 0, 1, 1, .ro, 0, 1⟩,
  ⟨.arbStatusBusy, 0x100000c, [], 1, 0, 2, 1, .ro, 0, 1⟩,
  ⟨.arbStatusFwHold, 0x100000c, [], 1, 0, 3, 1, .ro, 0, 1⟩,
  ⟨.arbStatusPointer, 0x100000c, [], 1, 0, 4, 7, .ro, 0, 127⟩,
  ⟨.arbStatusLastWinner, 0x100000c, [], 1, 0, 11, 7, .ro, 0, 127⟩,
  ⟨.arbStatusTrumpsHeld, 0x100000c, [], 1, 0, 18, 7, .ro, 0, 127⟩,
  ⟨.arbGrants, 0x1000010, [], 1, 0, 0, 32, .ro, 0, 4294967295⟩,
  ⟨.arbTrumps, 0x1000014, [], 1, 0, 0, 32, .ro, 0, 4294967295⟩,
  ⟨.arbMaxwait, 0x1000018, [], 1, 0, 0, 8, .ro, 0, 255⟩,
  ⟨.arbClear, 0x100001c, [], 1, 0, 0, 1, .wo, 0, 1⟩]

/-- Fields of the GL block. -/
def regsGl : List RegRow := [
  ⟨.glCtrlEnable, 0x2000000, [(0x10000, 18)], 1, 0, 0, 1, .rw, 0, 1⟩,
  ⟨.glCtrlSpareAuto, 0x2000000, [(0x10000, 18)], 1, 0, 1, 1, .rw, 0, 1⟩,
  ⟨.glCtrlLpiAllow, 0x2000000, [(0x10000, 18)], 1, 0, 2, 1, .rw, 0, 1⟩,
  ⟨.glStateState, 0x2000004, [(0x10000, 18)], 1, 0, 0, 3, .ro, 0, 7⟩,
  ⟨.glStateTxSpare, 0x2000004, [(0x10000, 18)], 1, 0, 3, 3, .ro, 0, 7⟩,
  ⟨.glStateRxSpare, 0x2000004, [(0x10000, 18)], 1, 0, 6, 3, .ro, 0, 7⟩,
  ⟨.glReplayTimer, 0x2000008, [(0x10000, 18)], 1, 0, 0, 14, .rw, 5, 10000⟩,
  ⟨.glReplayLimit, 0x200000c, [(0x10000, 18)], 1, 0, 0, 8, .rw, 1, 255⟩,
  ⟨.glLaneThresh, 0x2000010, [(0x10000, 18)], 1, 0, 0, 24, .rw, 1, 16777215⟩,
  ⟨.glPeerId, 0x2000014, [(0x10000, 18)], 1, 0, 0, 16, .ro, 0, 65535⟩,
  ⟨.glEpoch, 0x2000018, [(0x10000, 18)], 1, 0, 0, 32, .ro, 0, 4294967295⟩,
  ⟨.glPeerEpoch, 0x200001c, [(0x10000, 18)], 1, 0, 0, 32, .ro, 0, 4294967295⟩,
  ⟨.glHamperUsed, 0x2000020, [(0x10000, 18)], 1, 0, 0, 13, .ro, 0, 8191⟩,
  ⟨.glLseqNext, 0x2000024, [(0x10000, 18)], 1, 0, 0, 16, .ro, 0, 65535⟩,
  ⟨.glLseqOldest, 0x2000024, [(0x10000, 18)], 1, 0, 16, 16, .ro, 0, 65535⟩,
  ⟨.glRxExpected, 0x2000028, [(0x10000, 18)], 1, 0, 0, 16, .ro, 0, 65535⟩,
  ⟨.glConsumedVc, 0x2000040, [(0x10000, 18), (0x4, 5)], 1, 0, 0, 32, .ro, 0, 4294967295⟩,
  ⟨.glFreedVc, 0x2000060, [(0x10000, 18), (0x4, 5)], 1, 0, 0, 32, .ro, 0, 4294967295⟩,
  ⟨.glPeerFreedVc, 0x2000080, [(0x10000, 18), (0x4, 5)], 1, 0, 0, 32, .ro, 0, 4294967295⟩,
  ⟨.glBufVc, 0x20000a0, [(0x10000, 18), (0x4, 5)], 1, 0, 0, 13, .ro, 0, 8191⟩,
  ⟨.glCwCorrected, 0x2000100, [(0x10000, 18)], 1, 0, 0, 32, .ro, 0, 4294967295⟩,
  ⟨.glCwUncorr, 0x2000104, [(0x10000, 18)], 1, 0, 0, 32, .ro, 0, 4294967295⟩,
  ⟨.glGrpDiscard, 0x2000108, [(0x10000, 18)], 1, 0, 0, 32, .ro, 0, 4294967295⟩,
  ⟨.glReplays, 0x200010c, [(0x10000, 18)], 1, 0, 0, 32, .ro, 0, 4294967295⟩,
  ⟨.glDupFlits, 0x2000110, [(0x10000, 18)], 1, 0, 0, 32, .ro, 0, 4294967295⟩,
  ⟨.glGapFlits, 0x2000114, [(0x10000, 18)], 1, 0, 0, 32, .ro, 0, 4294967295⟩,
  ⟨.glCreditOverrun, 0x2000118, [(0x10000, 18)], 1, 0, 0, 32, .ro, 0, 4294967295⟩,
  ⟨.glCreditBad, 0x200011c, [(0x10000, 18)], 1, 0, 0, 32, .ro, 0, 4294967295⟩,
  ⟨.glCmdBad, 0x2000120, [(0x10000, 18)], 1, 0, 0, 32, .ro, 0, 4294967295⟩,
  ⟨.glDownEvents, 0x2000124, [(0x10000, 18)], 1, 0, 0, 32, .ro, 0, 4294967295⟩,
  ⟨.glLaneSwaps, 0x2000128, [(0x10000, 18)], 1, 0, 0, 32, .ro, 0, 4294967295⟩,
  ⟨.glLaneAlarm, 0x200012c, [(0x10000, 18)], 1, 0, 0, 32, .ro, 0, 4294967295⟩,
  ⟨.glDropReset, 0x2000130, [(0x10000, 18)], 1, 0, 0, 32, .ro, 0, 4294967295⟩,
  ⟨.glDropEpoch, 0x2000134, [(0x10000, 18)], 1, 0, 0, 32, .ro, 0, 4294967295⟩,
  ⟨.glLaneSymerr, 0x2000140, [(0x10000, 18), (0x4, 5)], 1, 0, 0, 32, .ro, 0, 4294967295⟩]

/-- Fields of the RT block. -/
def regsRt : List RegRow := [
  ⟨.rtCtrlRouteEn, 0x3000000, [], 1, 0, 0, 1, .rw, 0, 1⟩,
  ⟨.rtStatusActiveCopy, 0x3000004, [], 1, 0, 0, 1, .ro, 0, 1⟩,
  ⟨.rtStatusSwapBusy, 0x3000004, [], 1, 0, 1, 1, .ro, 0, 1⟩,
  ⟨.rtStatusResyncBusy, 0x3000004, [], 1, 0, 2, 1, .ro, 0, 1⟩,
  ⟨.rtStatusTransitOnly, 0x3000004, [], 1, 0, 3, 1, .ro, 0, 1⟩,
  ⟨.rtStatusTkReset, 0x3000004, [], 1, 0, 4, 1, .ro, 0, 1⟩,
  ⟨.rtDrainLimit, 0x3000008, [], 1, 0, 0, 20, .rw, 10, 1000000⟩,
  ⟨.rtTransitSub, 0x300000c, [], 1, 0, 0, 9, .rw, 0, 511⟩,
  ⟨.rtDirActive, 0x3000010, [], 1, 0, 0, 18, .ro, 0, 262143⟩,
  ⟨.rtDirShadow, 0x3000014, [], 1, 0, 0, 18, .rw, 0, 262143⟩,
  ⟨.rtFreeze, 0x3000018, [], 1, 0, 0, 19, .rw, 0, 524287⟩,
  ⟨.rtMgrIdId, 0x3000020, [(0x4, 4)], 1, 0, 0, 16, .rw, 0, 65535⟩,
  ⟨.rtMgrIdValid, 0x3000020, [(0x4, 4)], 1, 0, 16, 1, .rw, 0, 1⟩,
  ⟨.rtOutstanding, 0x3000040, [(0x4, 19)], 1, 0, 0, 16, .ro, 0, 65535⟩,
  ⟨.rtDropNoroute, 0x3000100, [], 1, 0, 0, 32, .ro, 0, 4294967295⟩,
  ⟨.rtDropHops, 0x3000104, [], 1, 0, 0, 32, .ro, 0, 4294967295⟩,
  ⟨.rtDup, 0x3000108, [], 1, 0, 0, 32, .ro, 0, 4294967295⟩,
  ⟨.rtStale, 0x300010c, [], 1, 0, 0, 32, .ro, 0, 4294967295⟩,
  ⟨.rtMalformed, 0x3000110, [], 1, 0, 0, 32, .ro, 0, 4294967295⟩,
  ⟨.rtMgmtReject, 0x3000114, [], 1, 0, 0, 32, .ro, 0, 4294967295⟩,
  ⟨.rtMgmtDrop, 0x3000118, [], 1, 0, 0, 32, .ro, 0, 4294967295⟩,
  ⟨.rtDropLocal, 0x300011c, [], 1, 0, 0, 32, .ro, 0, 4294967295⟩,
  ⟨.rtSwaps, 0x3000120, [], 1, 0, 0, 32, .ro, 0, 4294967295⟩,
  ⟨.rtSwapTimeout, 0x3000124, [], 1, 0, 0, 32, .ro, 0, 4294967295⟩,
  ⟨.rtForced, 0x3000128, [], 1, 0, 0, 32, .ro, 0, 4294967295⟩]

/-- Fields of the POL block. -/
def regsPol : List RegRow := [
  ⟨.polCfgEn, 0x4000000, [(0x40, 256)], 1, 0, 0, 1, .rw, 0, 1⟩,
  ⟨.polCfgAware, 0x4000000, [(0x40, 256)], 1, 0, 1, 1, .rw, 0, 1⟩,
  ⟨.polCir, 0x4000004, [(0x40, 256)], 1, 0, 0, 21, .rw, 0, 2000000⟩,
  ⟨.polPir, 0x4000008, [(0x40, 256)], 1, 0, 0, 21, .rw, 0, 2000000⟩,
  ⟨.polCbs, 0x400000c, [(0x40, 256)], 1, 0, 0, 32, .rw, 4224, 4294967295⟩,
  ⟨.polPbs, 0x4000010, [(0x40, 256)], 1, 0, 0, 32, .rw, 4224, 4294967295⟩,
  ⟨.polTc, 0x4000014, [(0x40, 256)], 1, 0, 0, 32, .ro, 0, 4294967295⟩,
  ⟨.polTp, 0x4000018, [(0x40, 256)], 1, 0, 0, 32, .ro, 0, 4294967295⟩,
  ⟨.polGreen, 0x400001c, [(0x40, 256)], 1, 0, 0, 32, .ro, 0, 4294967295⟩,
  ⟨.polYellow, 0x4000020, [(0x40, 256)], 1, 0, 0, 32, .ro, 0, 4294967295⟩,
  ⟨.polRed, 0x4000024, [(0x40, 256)], 1, 0, 0, 32, .ro, 0, 4294967295⟩,
  ⟨.polYretry, 0x4000028, [(0x40, 256)], 1, 0, 0, 32, .ro, 0, 4294967295⟩,
  ⟨.polCongFlits, 0x4004000, [], 1, 0, 0, 12, .rw, 66, 3072⟩,
  ⟨.polRetryHint, 0x4004004, [], 1, 0, 0, 20, .rw, 1, 1000000⟩]

/-- Fields of the SCH block. -/
def regsSch : List RegRow := [
  ⟨.schPortRate, 0x4010000, [(0x10000, 18)], 1, 0, 0, 17, .rw, 0, 100000⟩,
  ⟨.schPortBurst, 0x4010004, [(0x10000, 18)], 1, 0, 0, 24, .rw, 4224, 16777215⟩,
  ⟨.schPortCfgSchBucketClear, 0x4010008, [(0x10000, 18)], 1, 0, 0, 1, .wo, 0, 1⟩,
  ⟨.schWinGuard, 0x401000c, [(0x10000, 18)], 1, 0, 0, 11, .rw, 0, 2047⟩,
  ⟨.schMirrorSub, 0x4010010, [(0x10000, 18)], 1, 0, 0, 9, .rw, 0, 511⟩,
  ⟨.schSlotStatusActiveCopy, 0x4010014, [(0x10000, 18)], 1, 0, 0, 1, .ro, 0, 1⟩,
  ⟨.schSlotStatusSwapPending, 0x4010014, [(0x10000, 18)], 1, 0, 1, 1, .ro, 0, 1⟩,
  ⟨.schSlotStatusSlot, 0x4010014, [(0x10000, 18)], 1, 0, 2, 10, .ro, 0, 1023⟩,
  ⟨.schPortBucket, 0x4010018, [(0x10000, 18)], 1, 0, 0, 32, .ro, 0, 4294967295⟩,
  ⟨.schWinSkip, 0x401001c, [(0x10000, 18)], 1, 0, 0, 32, .ro, 0, 4294967295⟩,
  ⟨.schHistSelQueue, 0x4010100, [(0x10000, 18)], 1, 0, 0, 11, .rw, 0, 2047⟩,
  ⟨.schHistSelIngress, 0x4010100, [(0x10000, 18)], 1, 0, 11, 1, .rw, 0, 1⟩,
  ⟨.schHistSelClear, 0x4010100, [(0x10000, 18)], 1, 0, 12, 1, .wo, 0, 1⟩,
  ⟨.schHistDepth, 0x4010140, [(0x10000, 18), (0x4, 16)], 1, 0, 0, 32, .ro, 0, 4294967295⟩,
  ⟨.schHistDelay, 0x4010180, [(0x10000, 18), (0x4, 16)], 1, 0, 0, 32, .ro, 0, 4294967295⟩,
  ⟨.schHistMaxdepth, 0x40101c0, [(0x10000, 18)], 1, 0, 0, 32, .ro, 0, 4294967295⟩,
  ⟨.schHistMaxdelay, 0x40101c4, [(0x10000, 18)], 1, 0, 0, 32, .ro, 0, 4294967295⟩,
  ⟨.schSubRate, 0x4012000, [(0x10000, 18), (0x20, 512)], 1, 0, 0, 17, .rw, 0, 100000⟩,
  ⟨.schSubBurst, 0x4012004, [(0x10000, 18), (0x20, 512)], 1, 0, 0, 24, .rw, 4224, 16777215⟩,
  ⟨.schSubCfgWeight, 0x4012008, [(0x10000, 18), (0x20, 512)], 1, 0, 0, 8, .rw, 1, 255⟩,
  ⟨.schSubCfgSchBucketClear, 0x4012008, [(0x10000, 18), (0x20, 512)], 1, 0, 8, 1, .wo, 0, 1⟩,
  ⟨.schSubBucket, 0x401200c, [(0x10000, 18), (0x20, 512)], 1, 0, 0, 32, .ro, 0, 4294967295⟩,
  ⟨.schSubBytes, 0x4012010, [(0x10000, 18), (0x20, 512)], 1, 0, 0, 32, .ro, 0, 4294967295⟩,
  ⟨.schSqRate, 0x4018000, [(0x10000, 18), (0x10, 2048)], 1, 0, 0, 17, .rw, 0, 100000⟩,
  ⟨.schSqBurst, 0x4018004, [(0x10000, 18), (0x10, 2048)], 1, 0, 0, 24, .rw, 4224, 16777215⟩,
  ⟨.schSqCfgWeight, 0x4018008, [(0x10000, 18), (0x10, 2048)], 1, 0, 0, 8, .rw, 1, 255⟩,
  ⟨.schSqCfgSchBucketClear, 0x4018008, [(0x10000, 18), (0x10, 2048)], 1, 0, 8, 1, .wo, 0, 1⟩,
  ⟨.schSqBucket, 0x401800c, [(0x10000, 18), (0x10, 2048)], 1, 0, 0, 32, .ro, 0, 4294967295⟩,
  ⟨.schSlotActive, 0x4010400, [(0x10000, 18), (0x4, 256)], 4, 0, 0, 8, .ro, 0, 255⟩,
  ⟨.schSlotActive, 0x4010400, [(0x10000, 18), (0x4, 256)], 4, 1, 8, 8, .ro, 0, 255⟩,
  ⟨.schSlotActive, 0x4010400, [(0x10000, 18), (0x4, 256)], 4, 2, 16, 8, .ro, 0, 255⟩,
  ⟨.schSlotActive, 0x4010400, [(0x10000, 18), (0x4, 256)], 4, 3, 24, 8, .ro, 0, 255⟩,
  ⟨.schSlotShadow, 0x4010800, [(0x10000, 18), (0x4, 256)], 4, 0, 0, 8, .ro, 0, 255⟩,
  ⟨.schSlotShadow, 0x4010800, [(0x10000, 18), (0x4, 256)], 4, 1, 8, 8, .ro, 0, 255⟩,
  ⟨.schSlotShadow, 0x4010800, [(0x10000, 18), (0x4, 256)], 4, 2, 16, 8, .ro, 0, 255⟩,
  ⟨.schSlotShadow, 0x4010800, [(0x10000, 18), (0x4, 256)], 4, 3, 24, 8, .ro, 0, 255⟩,
  ⟨.schSubmap, 0x4011000, [(0x10000, 18), (0x4, 512)], 1, 0, 0, 9, .rw, 0, 511⟩]

/-- Fields of the MC block. -/
def regsMc : List RegRow := [
  ⟨.mcChCfgMap, 0x6000000, [(0x100000, 12), (0x1000, 32)], 1, 0, 0, 2, .rw, 0, 2⟩,
  ⟨.mcChCfgRefMode, 0x6000000, [(0x100000, 12), (0x1000, 32)], 1, 0, 2, 1, .rw, 0, 1⟩,
  ⟨.mcChCfgIdleClose, 0x6000000, [(0x100000, 12), (0x1000, 32)], 1, 0, 3, 8, .rw, 1, 255⟩,
  ⟨.mcChCfgPdIdle, 0x6000000, [(0x100000, 12), (0x1000, 32)], 1, 0, 11, 8, .rw, 0, 255⟩,
  ⟨.mcChStatusPwr, 0x6000004, [(0x100000, 12), (0x1000, 32)], 1, 0, 0, 2, .ro, 0, 3⟩,
  ⟨.mcChStatusFailed, 0x6000004, [(0x100000, 12), (0x1000, 32)], 1, 0, 2, 1, .ro, 0, 1⟩,
  ⟨.mcChStatusOwned, 0x6000004, [(0x100000, 12), (0x1000, 32)], 1, 0, 3, 1, .ro, 0, 1⟩,
  ⟨.mcChStatusPartition, 0x6000004, [(0x100000, 12), (0x1000, 32)], 1, 0, 4, 6, .ro, 0, 63⟩,
  ⟨.mcChStatusRefPostponed, 0x6000004, [(0x100000, 12), (0x1000, 32)], 1, 0, 10, 4, .ro, 0, 15⟩,
  ⟨.mcChStatusHot, 0x6000004, [(0x100000, 12), (0x1000, 32)], 1, 0, 14, 1, .ro, 0, 1⟩,
  ⟨.mcChFrames, 0x6000008, [(0x100000, 12), (0x1000, 32)], 1, 0, 0, 16, .ro, 0, 65535⟩,
  ⟨.mcRhThresh, 0x600000c, [(0x100000, 12), (0x1000, 32)], 1, 0, 0, 16, .rw, 64, 65535⟩,
  ⟨.mcRhFloor, 0x6000010, [(0x100000, 12), (0x1000, 32)], 1, 0, 0, 4, .rw, 1, 8⟩,
  ⟨.mcRhLastBank, 0x6000014, [(0x100000, 12), (0x1000, 32)], 1, 0, 0, 5, .ro, 0, 31⟩,
  ⟨.mcRhLastTag, 0x6000014, [(0x100000, 12), (0x1000, 32)], 1, 0, 5, 6, .ro, 0, 63⟩,
  ⟨.mcRhLastRow, 0x6000014, [(0x100000, 12), (0x1000, 32)], 1, 0, 11, 16, .ro, 0, 65535⟩,
  ⟨.mcRhEvents, 0x6000018, [(0x100000, 12), (0x1000, 32)], 1, 0, 0, 32, .ro, 0, 4294967295⟩,
  ⟨.mcRhLevel, 0x6000020, [(0x100000, 12), (0x1000, 32), (0x4, 8)], 8, 0, 0, 4, .ro, 0, 15⟩,
  ⟨.mcRhLevel, 0x6000020, [(0x100000, 12), (0x1000, 32), (0x4, 8)], 8, 1, 4, 4, .ro, 0, 15⟩,
  ⟨.mcRhLevel, 0x6000020, [(0x100000, 12), (0x1000, 32), (0x4, 8)], 8, 2, 8, 4, .ro, 0, 15⟩,
  ⟨.mcRhLevel, 0x6000020, [(0x100000, 12), (0x1000, 32), (0x4, 8)], 8, 3, 12, 4, .ro, 0, 15⟩,
  ⟨.mcRhLevel, 0x6000020, [(0x100000, 12), (0x1000, 32), (0x4, 8)], 8, 4, 16, 4, .ro, 0, 15⟩,
  ⟨.mcRhLevel, 0x6000020, [(0x100000, 12), (0x1000, 32), (0x4, 8)], 8, 5, 20, 4, .ro, 0, 15⟩,
  ⟨.mcRhLevel, 0x6000020, [(0x100000, 12), (0x1000, 32), (0x4, 8)], 8, 6, 24, 4, .ro, 0, 15⟩,
  ⟨.mcRhLevel, 0x6000020, [(0x100000, 12), (0x1000, 32), (0x4, 8)], 8, 7, 28, 4, .ro, 0, 15⟩,
  ⟨.mcActs, 0x6000040, [(0x100000, 12), (0x1000, 32)], 1, 0, 0, 32, .ro, 0, 4294967295⟩,
  ⟨.mcRdLines, 0x6000044, [(0x100000, 12), (0x1000, 32)], 1, 0, 0, 32, .ro, 0, 4294967295⟩,
  ⟨.mcWrLines, 0x6000048, [(0x100000, 12), (0x1000, 32)], 1, 0, 0, 32, .ro, 0, 4294967295⟩,
  ⟨.mcHazardWaits, 0x600004c, [(0x100000, 12), (0x1000, 32)], 1, 0, 0, 32, .ro, 0, 4294967295⟩,
  ⟨.mcRefForced, 0x6000050, [(0x100000, 12), (0x1000, 32)], 1, 0, 0, 32, .ro, 0, 4294967295⟩,
  ⟨.mcRfmIssued, 0x6000054, [(0x100000, 12), (0x1000, 32)], 1, 0, 0, 32, .ro, 0, 4294967295⟩,
  ⟨.mcTrainFail, 0x6000058, [(0x100000, 12), (0x1000, 32)], 1, 0, 0, 32, .ro, 0, 4294967295⟩,
  ⟨.mcWrDiscard, 0x600005c, [(0x100000, 12), (0x1000, 32)], 1, 0, 0, 32, .ro, 0, 4294967295⟩,
  ⟨.mcStkStatusSelfRefresh, 0x6080000, [(0x100000, 12)], 1, 0, 0, 1, .ro, 0, 1⟩,
  ⟨.mcStkStatusTemp, 0x6080000, [(0x100000, 12)], 1, 0, 1, 8, .ro, 0, 255⟩,
  ⟨.mcStkStatusHot, 0x6080000, [(0x100000, 12)], 1, 0, 9, 1, .ro, 0, 1⟩,
  ⟨.mcStkStatusTrained, 0x6080000, [(0x100000, 12)], 1, 0, 10, 1, .ro, 0, 1⟩,
  ⟨.mcStkZqPeriod, 0x6080004, [(0x100000, 12)], 1, 0, 0, 12, .rw, 16, 4095⟩,
  ⟨.mcStkRetrainPeriod, 0x6080008, [(0x100000, 12)], 1, 0, 0, 16, .rw, 100, 60000⟩,
  ⟨.mcStkRetrainDelta, 0x608000c, [(0x100000, 12)], 1, 0, 0, 6, .rw, 2, 40⟩,
  ⟨.mcStkEpoch, 0x6080010, [(0x100000, 12)], 1, 0, 0, 8, .ro, 0, 255⟩]

/-- Fields of the DIR block. -/
def regsDir : List RegRow := [
  ⟨.dirSliceRecallsOpen, 0x5000000, [(0x100, 16)], 1, 0, 0, 14, .ro, 0, 16383⟩,
  ⟨.dirSliceWaiting, 0x5000004, [(0x100, 16)], 1, 0, 0, 15, .ro, 0, 32767⟩,
  ⟨.dirSliceScanBusy, 0x5000008, [(0x100, 16)], 1, 0, 0, 1, .ro, 0, 1⟩,
  ⟨.dirSliceBlocksFree, 0x500000c, [(0x100, 16)], 1, 0, 0, 4, .ro, 0, 15⟩,
  ⟨.dirPtnTimeout, 0x5010000, [(0x40, 64)], 1, 0, 0, 20, .rw, 100, 1000000⟩,
  ⟨.dirPtnRetryHint, 0x5010004, [(0x40, 64)], 1, 0, 0, 20, .rw, 1, 1000000⟩,
  ⟨.dirPtnBlocks, 0x5010008, [(0x40, 64)], 1, 0, 0, 7, .ro, 0, 127⟩,
  ⟨.dirPtnEntries, 0x501000c, [(0x40, 64)], 1, 0, 0, 24, .ro, 0, 16777215⟩,
  ⟨.dirPtnTimeoutPoison, 0x5010010, [(0x40, 64)], 1, 0, 0, 32, .ro, 0, 4294967295⟩,
  ⟨.dirPtnDeadPoison, 0x5010014, [(0x40, 64)], 1, 0, 0, 32, .ro, 0, 4294967295⟩,
  ⟨.dirPtnSetFull, 0x5010018, [(0x40, 64)], 1, 0, 0, 32, .ro, 0, 4294967295⟩,
  ⟨.dirPtnLateAck, 0x501001c, [(0x40, 64)], 1, 0, 0, 32, .ro, 0, 4294967295⟩,
  ⟨.dirPtnStaleReturn, 0x5010020, [(0x40, 64)], 1, 0, 0, 32, .ro, 0, 4294967295⟩,
  ⟨.dirPtnBadDirty, 0x5010024, [(0x40, 64)], 1, 0, 0, 32, .ro, 0, 4294967295⟩,
  ⟨.dirPtnVictims, 0x5010028, [(0x40, 64)], 1, 0, 0, 32, .ro, 0, 4294967295⟩,
  ⟨.dirPtnRecalls, 0x501002c, [(0x40, 64)], 1, 0, 0, 32, .ro, 0, 4294967295⟩]

/-- Fields of the FL block. -/
def regsFl : List RegRow := [
  ⟨.flPtnWeight, 0x7000000, [(0x40, 64)], 1, 0, 0, 8, .rw, 1, 255⟩,
  ⟨.flPtnDirtyHigh, 0x7000004, [(0x40, 64)], 1, 0, 0, 7, .rw, 5, 95⟩,
  ⟨.flPtnDirtyLow, 0x7000004, [(0x40, 64)], 1, 0, 8, 7, .rw, 1, 94⟩,
  ⟨.flPtnDestageAge, 0x7000008, [(0x40, 64)], 1, 0, 0, 20, .rw, 10, 600000⟩,
  ⟨.flPtnPromoQ, 0x700000c, [(0x40, 64)], 1, 0, 0, 32, .ro, 0, 4294967295⟩,
  ⟨.flPtnDestageQ, 0x7000010, [(0x40, 64)], 1, 0, 0, 32, .ro, 0, 4294967295⟩,
  ⟨.flPtnDirtyFrames, 0x7000014, [(0x40, 64)], 1, 0, 0, 32, .ro, 0, 4294967295⟩,
  ⟨.flPtnFlashPages, 0x7000018, [(0x40, 64)], 1, 0, 0, 32, .ro, 0, 4294967295⟩,
  ⟨.flPtnPromotions, 0x700001c, [(0x40, 64)], 1, 0, 0, 32, .ro, 0, 4294967295⟩,
  ⟨.flPtnDestages, 0x7000020, [(0x40, 64)], 1, 0, 0, 32, .ro, 0, 4294967295⟩,
  ⟨.flPtnZeroElided, 0x7000024, [(0x40, 64)], 1, 0, 0, 32, .ro, 0, 4294967295⟩,
  ⟨.flDieStatusMounted, 0x7008000, [(0x100, 4)], 1, 0, 0, 1, .ro, 0, 1⟩,
  ⟨.flDieStatusGcActive, 0x7008000, [(0x100, 4)], 1, 0, 1, 1, .ro, 0, 1⟩,
  ⟨.flDieStatusKittyLow, 0x7008000, [(0x100, 4)], 1, 0, 2, 1, .ro, 0, 1⟩,
  ⟨.flDieStatusNoSpace, 0x7008000, [(0x100, 4)], 1, 0, 3, 1, .ro, 0, 1⟩,
  ⟨.flDieGcStart, 0x7008004, [(0x100, 4)], 1, 0, 0, 7, .rw, 1, 50⟩,
  ⟨.flDieGcUrgent, 0x7008004, [(0x100, 4)], 1, 0, 8, 7, .rw, 1, 50⟩,
  ⟨.flDieGcWeight, 0x7008004, [(0x100, 4)], 1, 0, 15, 8, .rw, 1, 255⟩,
  ⟨.flDieJrnlCommitUs, 0x7008008, [(0x100, 4)], 1, 0, 0, 16, .rw, 10, 10000⟩,
  ⟨.flDieFreeGroups, 0x700800c, [(0x100, 4)], 1, 0, 0, 32, .ro, 0, 4294967295⟩,
  ⟨.flDieKittyBlocks, 0x7008010, [(0x100, 4)], 1, 0, 0, 32, .ro, 0, 4294967295⟩,
  ⟨.flDieKittyBorrowed, 0x7008014, [(0x100, 4)], 1, 0, 0, 32, .ro, 0, 4294967295⟩,
  ⟨.flDieJrnlSeqLo, 0x7008018, [(0x100, 4)], 1, 0, 0, 32, .ro, 0, 4294967295⟩,
  ⟨.flDieJrnlSeqHi, 0x700801c, [(0x100, 4)], 1, 0, 0, 32, .ro, 0, 4294967295⟩,
  ⟨.flChStatusParked, 0x7010000, [(0x100, 32)], 1, 0, 0, 1, .ro, 0, 1⟩,
  ⟨.flChStatusTrained, 0x7010000, [(0x100, 32)], 1, 0, 1, 1, .ro, 0, 1⟩,
  ⟨.flChStatusCePresent, 0x7010000, [(0x100, 32)], 1, 0, 2, 8, .ro, 0, 255⟩,
  ⟨.flChStatusLunReject, 0x7010000, [(0x100, 32)], 1, 0, 10, 6, .ro, 0, 63⟩,
  ⟨.flChReads, 0x7010004, [(0x100, 32)], 1, 0, 0, 32, .ro, 0, 4294967295⟩,
  ⟨.flChPrograms, 0x7010008, [(0x100, 32)], 1, 0, 0, 32, .ro, 0, 4294967295⟩,
  ⟨.flChErases, 0x701000c, [(0x100, 32)], 1, 0, 0, 32, .ro, 0, 4294967295⟩,
  ⟨.flChRetryReads, 0x7010010, [(0x100, 32)], 1, 0, 0, 32, .ro, 0, 4294967295⟩,
  ⟨.flChUncorr, 0x7010014, [(0x100, 32)], 1, 0, 0, 32, .ro, 0, 4294967295⟩,
  ⟨.flChRetired, 0x7010018, [(0x100, 32)], 1, 0, 0, 32, .ro, 0, 4294967295⟩]

/-- Fields of the ECC block. -/
def regsEcc : List RegRow := [
  ⟨.eccChCfgAutoRemap, 0x8000000, [(0x100, 384)], 1, 0, 0, 1, .rw, 0, 1⟩,
  ⟨.eccChRepeatWindow, 0x8000004, [(0x100, 384)], 1, 0, 0, 20, .rw, 1, 604800⟩,
  ⟨.eccChStatusRemapFull, 0x8000008, [(0x100, 384)], 1, 0, 0, 1, .w1c, 0, 1⟩,
  ⟨.eccChStatusCopying, 0x8000008, [(0x100, 384)], 1, 0, 1, 1, .ro, 0, 1⟩,
  ⟨.eccChStatusEntriesUsed, 0x8000008, [(0x100, 384)], 1, 0, 2, 3, .ro, 0, 7⟩,
  ⟨.eccChCorrected, 0x800000c, [(0x100, 384)], 1, 0, 0, 32, .ro, 0, 4294967295⟩,
  ⟨.eccChUncorr, 0x8000010, [(0x100, 384)], 1, 0, 0, 32, .ro, 0, 4294967295⟩,
  ⟨.eccChPoisonReads, 0x8000014, [(0x100, 384)], 1, 0, 0, 32, .ro, 0, 4294967295⟩,
  ⟨.eccChRepaired, 0x8000018, [(0x100, 384)], 1, 0, 0, 32, .ro, 0, 4294967295⟩,
  ⟨.eccChRemapRefused, 0x800001c, [(0x100, 384)], 1, 0, 0, 32, .ro, 0, 4294967295⟩,
  ⟨.eccRemapLo, 0x8000020, [(0x100, 384), (0x8, 4)], 1, 0, 0, 32, .ro, 0, 4294967295⟩,
  ⟨.eccRemapHi, 0x8000024, [(0x100, 384), (0x8, 4)], 1, 0, 0, 32, .ro, 0, 4294967295⟩,
  ⟨.eccChSpareUsed, 0x8000040, [(0x100, 384), (0x4, 4)], 8, 0, 0, 4, .ro, 0, 15⟩,
  ⟨.eccChSpareUsed, 0x8000040, [(0x100, 384), (0x4, 4)], 8, 1, 4, 4, .ro, 0, 15⟩,
  ⟨.eccChSpareUsed, 0x8000040, [(0x100, 384), (0x4, 4)], 8, 2, 8, 4, .ro, 0, 15⟩,
  ⟨.eccChSpareUsed, 0x8000040, [(0x100, 384), (0x4, 4)], 8, 3, 12, 4, .ro, 0, 15⟩,
  ⟨.eccChSpareUsed, 0x8000040, [(0x100, 384), (0x4, 4)], 8, 4, 16, 4, .ro, 0, 15⟩,
  ⟨.eccChSpareUsed, 0x8000040, [(0x100, 384), (0x4, 4)], 8, 5, 20, 4, .ro, 0, 15⟩,
  ⟨.eccChSpareUsed, 0x8000040, [(0x100, 384), (0x4, 4)], 8, 6, 24, 4, .ro, 0, 15⟩,
  ⟨.eccChSpareUsed, 0x8000040, [(0x100, 384), (0x4, 4)], 8, 7, 28, 4, .ro, 0, 15⟩,
  ⟨.eccDieLogCount, 0x8020000, [(0x100, 4)], 1, 0, 0, 9, .ro, 0, 511⟩,
  ⟨.eccDieLogLost, 0x8020004, [(0x100, 4)], 1, 0, 0, 32, .ro, 0, 4294967295⟩]

/-- Fields of the SCB block. -/
def regsScb : List RegRow := [
  ⟨.scbPtnCfgMode, 0x8040000, [(0x40, 64)], 1, 0, 0, 1, .rw, 0, 1⟩,
  ⟨.scbPtnPeriod, 0x8040004, [(0x40, 64)], 1, 0, 0, 10, .rw, 1, 720⟩,
  ⟨.scbPtnDemandRate, 0x8040008, [(0x40, 64)], 1, 0, 0, 14, .rw, 1, 10000⟩,
  ⟨.scbPtnStatusWalking, 0x804000c, [(0x40, 64)], 1, 0, 0, 1, .ro, 0, 1⟩,
  ⟨.scbPtnStatusLate, 0x804000c, [(0x40, 64)], 1, 0, 1, 1, .w1c, 0, 1⟩,
  ⟨.scbPtnStatusDemandOpen, 0x804000c, [(0x40, 64)], 1, 0, 2, 3, .ro, 0, 7⟩,
  ⟨.scbPtnPasses, 0x8040010, [(0x40, 64)], 1, 0, 0, 32, .ro, 0, 4294967295⟩,
  ⟨.scbPtnLines, 0x8040014, [(0x40, 64)], 1, 0, 0, 32, .ro, 0, 4294967295⟩]

/-- Fields of the TILE block. -/
def regsTile : List RegRow := [
  ⟨.tileStateState, 0x9000000, [(0x20000, 32), (0x1000, 17)], 1, 0, 0, 2, .ro, 0, 3⟩,
  ⟨.tileStateReserve, 0x9000000, [(0x20000, 32), (0x1000, 17)], 1, 0, 2, 1, .ro, 0, 1⟩,
  ⟨.tileStateRetired, 0x9000000, [(0x20000, 32), (0x1000, 17)], 1, 0, 3, 1, .ro, 0, 1⟩,
  ⟨.tileStateLogical, 0x9000000, [(0x20000, 32), (0x1000, 17)], 1, 0, 4, 4, .ro, 0, 15⟩,
  ⟨.tileAccFlagsWindowExceeded, 0x9000004, [(0x20000, 32), (0x1000, 17)], 1, 0, 0, 1, .w1c, 0, 1⟩,
  ⟨.tileAccFlagsScRange, 0x9000004, [(0x20000, 32), (0x1000, 17)], 1, 0, 1, 1, .w1c, 0, 1⟩,
  ⟨.tileAccFlagsSpecialOut, 0x9000004, [(0x20000, 32), (0x1000, 17)], 1, 0, 2, 1, .w1c, 0, 1⟩,
  ⟨.tileAccFlagsSatOut, 0x9000004, [(0x20000, 32), (0x1000, 17)], 1, 0, 3, 1, .w1c, 0, 1⟩,
  ⟨.tileAccFlagged, 0x9000008, [(0x20000, 32), (0x1000, 17)], 1, 0, 0, 32, .ro, 0, 4294967295⟩,
  ⟨.tileMmaBusy, 0x9000010, [(0x20000, 32), (0x1000, 17)], 1, 0, 0, 32, .ro, 0, 4294967295⟩,
  ⟨.tileScrConflict, 0x9000014, [(0x20000, 32), (0x1000, 17)], 1, 0, 0, 32, .ro, 0, 4294967295⟩,
  ⟨.tileZskip, 0x9000018, [(0x20000, 32), (0x1000, 17)], 1, 0, 0, 32, .ro, 0, 4294967295⟩,
  ⟨.tileCluStateClockRun, 0x9018000, [(0x20000, 32)], 1, 0, 0, 1, .ro, 0, 1⟩,
  ⟨.tileCluStateOwned, 0x9018000, [(0x20000, 32)], 1, 0, 1, 1, .ro, 0, 1⟩,
  ⟨.tileCluStatePartition, 0x9018000, [(0x20000, 32)], 1, 0, 2, 6, .ro, 0, 63⟩,
  ⟨.tileCluStateClearing, 0x9018000, [(0x20000, 32)], 1, 0, 8, 1, .ro, 0, 1⟩,
  ⟨.tileCluSpareReservePhys, 0x9018004, [(0x20000, 32)], 1, 0, 0, 5, .ro, 0, 31⟩,
  ⟨.tileCluSpareRetiredPhys, 0x9018004, [(0x20000, 32)], 1, 0, 5, 5, .ro, 0, 31⟩,
  ⟨.tileCluScFlagsScRange, 0x9018008, [(0x20000, 32)], 1, 0, 0, 1, .w1c, 0, 1⟩,
  ⟨.tileCluScFlagsScCount, 0x9018008, [(0x20000, 32)], 1, 0, 1, 1, .w1c, 0, 1⟩,
  ⟨.tileCluCsConflict, 0x901800c, [(0x20000, 32)], 1, 0, 0, 32, .ro, 0, 4294967295⟩,
  ⟨.tileCluScConflict, 0x9018010, [(0x20000, 32)], 1, 0, 0, 32, .ro, 0, 4294967295⟩,
  ⟨.tileFaultCode, 0x9000020, [(0x20000, 32), (0x1000, 17)], 1, 0, 0, 8, .ro, 0, 255⟩,
  ⟨.tileFaultPc, 0x9000020, [(0x20000, 32), (0x1000, 17)], 1, 0, 16, 14, .ro, 0, 16383⟩,
  ⟨.tileFaultInstrLo, 0x9000024, [(0x20000, 32), (0x1000, 17)], 1, 0, 0, 32, .ro, 0, 4294967295⟩,
  ⟨.tileFaultInstrHi, 0x9000028, [(0x20000, 32), (0x1000, 17)], 1, 0, 0, 32, .ro, 0, 4294967295⟩,
  ⟨.tileFaultAddr, 0x900002c, [(0x20000, 32), (0x1000, 17)], 1, 0, 0, 32, .ro, 0, 4294967295⟩,
  ⟨.tileImemHandle, 0x9000030, [(0x20000, 32), (0x1000, 17)], 1, 0, 0, 16, .ro, 0, 65535⟩,
  ⟨.tileIssueStall, 0x9000034, [(0x20000, 32), (0x1000, 17)], 1, 0, 0, 32, .ro, 0, 4294967295⟩]

/-- Fields of the DEAL block. -/
def regsDeal : List RegRow := [
  ⟨.dealCfgTarget, 0x9400000, [(0x100, 64)], 1, 0, 0, 13, .rw, 16, 4096⟩,
  ⟨.dealCfgSpill, 0x9400000, [(0x100, 64)], 1, 0, 13, 1, .rw, 0, 1⟩,
  ⟨.dealDeadline, 0x9400004, [(0x100, 64)], 1, 0, 0, 17, .rw, 10, 100000⟩,
  ⟨.dealTlimit, 0x9400008, [(0x100, 64)], 1, 0, 0, 24, .rw, 1, 10000000⟩,
  ⟨.dealStage, 0x940000c, [(0x100, 64)], 1, 0, 0, 17, .ro, 0, 131071⟩,
  ⟨.dealOpenInv, 0x9400010, [(0x100, 64)], 1, 0, 0, 11, .ro, 0, 2047⟩,
  ⟨.dealQueued, 0x9400014, [(0x100, 64)], 1, 0, 0, 11, .ro, 0, 2047⟩,
  ⟨.dealCloseFull, 0x9400018, [(0x100, 64)], 1, 0, 0, 32, .ro, 0, 4294967295⟩,
  ⟨.dealCloseDeadline, 0x940001c, [(0x100, 64)], 1, 0, 0, 32, .ro, 0, 4294967295⟩,
  ⟨.dealSpillPpm, 0x9400020, [(0x100, 64)], 1, 0, 0, 20, .ro, 0, 1048575⟩,
  ⟨.dealPromoWait, 0x9400024, [(0x100, 64)], 1, 0, 0, 11, .ro, 0, 2047⟩,
  ⟨.dealTokens, 0x9400028, [(0x100, 64)], 1, 0, 0, 32, .ro, 0, 4294967295⟩,
  ⟨.dealKsplit, 0x940002c, [(0x100, 64)], 1, 0, 0, 32, .ro, 0, 4294967295⟩]

/-- Fields of the LK block. -/
def regsLk : List RegRow := [
  ⟨.lkClsCfgEn, 0xa000000, [(0x20, 4)], 1, 0, 0, 1, .rws, 0, 1⟩,
  ⟨.lkClsCfgK, 0xa000000, [(0x20, 4)], 1, 0, 1, 4, .rws, 0, 15⟩,
  ⟨.lkClsWake, 0xa000004, [(0x20, 4)], 1, 0, 0, 16, .rws, 1, 65535⟩,
  ⟨.lkClsSleep, 0xa000008, [(0x20, 4)], 1, 0, 0, 16, .rws, 0, 65534⟩,
  ⟨.lkClsIdle, 0xa00000c, [(0x20, 4)], 1, 0, 0, 20, .rws, 0, 1000000⟩,
  ⟨.lkPtnIdle, 0xa001000, [(0x4, 64)], 1, 0, 0, 20, .rws, 0, 1000000⟩,
  ⟨.lkThrotStart, 0xa002000, [], 1, 0, 0, 8, .rws, 70, 104⟩,
  ⟨.lkThrotHyst, 0xa002000, [], 1, 0, 8, 4, .rws, 1, 15⟩,
  ⟨.lkThermK, 0xa002000, [], 1, 0, 12, 4, .rws, 0, 15⟩,
  ⟨.lkRailWait, 0xa002004, [], 1, 0, 0, 16, .rws, 1, 1000⟩,
  ⟨.lkSensor, 0xa002100, [(0x4, 64)], 1, 0, 0, 8, .ro, 0, 255⟩,
  ⟨.lkFilt, 0xa004000, [(0x4, 94)], 1, 0, 0, 16, .ro, 0, 65535⟩]

/-- Fields of the PWR block. -/
def regsPwr : List RegRow := [
  ⟨.pwrStatusState, 0xd000000, [], 1, 0, 0, 2, .ro, 0, 3⟩,
  ⟨.pwrStatusTrip, 0xd000000, [], 1, 0, 2, 1, .w1c, 0, 1⟩,
  ⟨.pwrThrotLevel, 0xd000004, [(0x4, 9)], 1, 0, 0, 3, .ro, 0, 7⟩,
  ⟨.pwrTelemAlert, 0xd000030, [], 1, 0, 0, 16, .w1c, 0, 65535⟩,
  ⟨.pwrWakesAhead, 0xd000034, [], 1, 0, 0, 32, .ro, 0, 4294967295⟩,
  ⟨.pwrWakesDemand, 0xd000038, [], 1, 0, 0, 32, .ro, 0, 4294967295⟩,
  ⟨.gpioStrap, 0xd000100, [], 1, 0, 0, 16, .ro, 0, 65535⟩,
  ⟨.gpioDir, 0xd000104, [], 1, 0, 0, 16, .rws, 0, 65535⟩,
  ⟨.gpioOut, 0xd000108, [], 1, 0, 0, 16, .rws, 0, 65535⟩,
  ⟨.gpioOd, 0xd00010c, [], 1, 0, 0, 16, .rws, 0, 65535⟩,
  ⟨.gpioIn, 0xd000110, [], 1, 0, 0, 16, .ro, 0, 65535⟩,
  ⟨.pwrVddcVid, 0xd000120, [], 1, 0, 0, 7, .ro, 0, 127⟩]

/-- Fields of the PTN block. -/
def regsPtn : List RegRow := [
  ⟨.ptnStatusState, 0xb000000, [(0x100, 64)], 1, 0, 0, 2, .ro, 0, 3⟩,
  ⟨.ptnStatusFaultCause, 0xb000000, [(0x100, 64)], 1, 0, 2, 4, .ro, 0, 15⟩,
  ⟨.ptnStatusEnableDeferred, 0xb000000, [(0x100, 64)], 1, 0, 6, 1, .ro, 0, 1⟩,
  ⟨.ptnCfgAutoReset, 0xb000004, [(0x100, 64)], 1, 0, 0, 1, .rw, 0, 1⟩,
  ⟨.ptnClusters, 0xb000008, [(0x100, 64)], 1, 0, 0, 32, .ro, 0, 4294967295⟩,
  ⟨.ptnMbxLo, 0xb00000c, [(0x100, 64)], 1, 0, 0, 32, .ro, 0, 4294967295⟩,
  ⟨.ptnMbxHi, 0xb000010, [(0x100, 64)], 1, 0, 0, 32, .ro, 0, 4294967295⟩,
  ⟨.ptnFaults, 0xb000014, [(0x100, 64)], 1, 0, 0, 32, .ro, 0, 4294967295⟩,
  ⟨.ptnResets, 0xb000018, [(0x100, 64)], 1, 0, 0, 32, .ro, 0, 4294967295⟩,
  ⟨.ptnChan, 0xb000040, [(0x100, 64), (0x4, 12)], 1, 0, 0, 32, .ro, 0, 4294967295⟩]

/-- Fields of the CHK block. -/
def regsChk : List RegRow := [
  ⟨.chkCtrlInit, 0xc000000, [(0x100, 12)], 1, 0, 0, 1, .wo, 0, 1⟩,
  ⟨.chkCtrlAliveClr, 0xc000000, [(0x100, 12)], 1, 0, 1, 1, .wo, 0, 1⟩,
  ⟨.chkValue, 0xc000004, [(0x100, 12)], 1, 0, 0, 32, .rw, 0, 4294967295⟩,
  ⟨.chkResult, 0xc000008, [(0x100, 12)], 1, 0, 0, 32, .ro, 0, 4294967295⟩,
  ⟨.chkData8, 0xc00000c, [(0x100, 12)], 1, 0, 0, 8, .wo, 0, 255⟩,
  ⟨.chkData16, 0xc000010, [(0x100, 12)], 1, 0, 0, 16, .wo, 0, 65535⟩,
  ⟨.chkData32, 0xc000014, [(0x100, 12)], 1, 0, 0, 32, .wo, 0, 4294967295⟩,
  ⟨.chkAliveExpValue, 0xc000018, [(0x100, 12)], 1, 0, 0, 16, .rw, 0, 65535⟩,
  ⟨.chkAliveExpValid, 0xc000018, [(0x100, 12)], 1, 0, 16, 1, .rw, 0, 1⟩,
  ⟨.chkAliveIn, 0xc00001c, [(0x100, 12)], 1, 0, 0, 16, .wo, 0, 65535⟩,
  ⟨.chkStatusBusy, 0xc000020, [(0x100, 12)], 1, 0, 0, 1, .ro, 0, 1⟩,
  ⟨.chkStatusRepeat, 0xc000020, [(0x100, 12)], 1, 0, 1, 1, .w1c, 0, 1⟩,
  ⟨.chkStatusSkip, 0xc000020, [(0x100, 12)], 1, 0, 2, 1, .w1c, 0, 1⟩,
  ⟨.chkBytes, 0xc000024, [(0x100, 12)], 1, 0, 0, 32, .ro, 0, 4294967295⟩,
  ⟨.chkAliveErrs, 0xc000028, [(0x100, 12)], 1, 0, 0, 32, .ro, 0, 4294967295⟩,
  ⟨.chkCrcErrs, 0xc00002c, [(0x100, 12)], 1, 0, 0, 32, .ro, 0, 4294967295⟩]

/-- Fields of the SEC block. -/
def regsSec : List RegRow := [
  ⟨.secStatusProvisioned, 0xe000000, [], 1, 0, 0, 1, .ro, 0, 1⟩,
  ⟨.secStatusRecovery, 0xe000000, [], 1, 0, 1, 1, .ro, 0, 1⟩,
  ⟨.secStatusDebug, 0xe000000, [], 1, 0, 2, 1, .ro, 0, 1⟩,
  ⟨.secStatusFwOwner, 0xe000000, [], 1, 0, 3, 1, .ro, 0, 1⟩,
  ⟨.secStatusXmssFault, 0xe000000, [], 1, 0, 4, 1, .ro, 0, 1⟩,
  ⟨.secSvn, 0xe000004, [(0x4, 3)], 1, 0, 0, 32, .ro, 0, 4294967295⟩,
  ⟨.secNextLeaf, 0xe000010, [], 1, 0, 0, 20, .ro, 0, 1048575⟩,
  ⟨.secTree, 0xe000014, [], 1, 0, 0, 32, .ro, 0, 4294967295⟩,
  ⟨.secAgreeCountLo, 0xe000018, [], 1, 0, 0, 32, .ro, 0, 4294967295⟩,
  ⟨.secAgreeCountHi, 0xe00001c, [], 1, 0, 0, 32, .ro, 0, 4294967295⟩,
  ⟨.secAgreeWindow, 0xe000020, [], 1, 0, 0, 17, .rwl, 60, 86400⟩,
  ⟨.secOpenChanges, 0xe000024, [], 1, 0, 0, 4, .ro, 0, 15⟩,
  ⟨.secDebugLeftS, 0xe000028, [], 1, 0, 0, 32, .ro, 0, 4294967295⟩,
  ⟨.secSigFail, 0xe00002c, [], 1, 0, 0, 32, .ro, 0, 4294967295⟩]

/-- The fields of a block. -/
def Blk.rows : Blk → List RegRow
  | .arb => regsArb
  | .gl => regsGl
  | .rt => regsRt
  | .pol => regsPol
  | .sch => regsSch
  | .mc => regsMc
  | .dir => regsDir
  | .fl => regsFl
  | .ecc => regsEcc
  | .scb => regsScb
  | .tile => regsTile
  | .deal => regsDeal
  | .lk => regsLk
  | .pwr => regsPwr
  | .ptn => regsPtn
  | .chk => regsChk
  | .sec => regsSec

end Sys2Proof.Machine
end

