-- ==== Sys2Proof/Machine/Memory.lean ====
section
/-! DEFINITION. The machine's addressed memories (HBM arrays, scratch, cluster store, staged input and
output, mailbox memory) as lists of (address, byte) pairs in one canonical form: addresses strictly rising
and no entry equal to what an unlisted address reads as. What an unlisted address reads as is a function of
the address, given with each memory. -/

namespace Sys2Proof.Machine

/-- A memory: listed bytes, addresses strictly rising. -/
abbrev Mem := List Host.Cell

/-- The listed byte at an address. -/
def Mem.find? : Mem → Nat → Option Byte
  | [], _ => none
  | (k, v) :: t, a => if a = k then some v else if a < k then none else Mem.find? t a

/-- One byte: the listed one, else what an unlisted address reads as. -/
def Mem.read (dflt : Nat → Byte) (m : Mem) (a : Nat) : Byte := (Mem.find? m a).getD (dflt a)

/-- The entries below an address, and those from it on. -/
def Mem.below (m : Mem) (a : Nat) : Mem := m.takeWhile fun c => decide (c.1 < a)
def Mem.above (m : Mem) (a : Nat) : Mem := m.dropWhile fun c => decide (c.1 < a)

/-- Consecutive bytes as entries: one that equals what its address reads as unlisted is left out. -/
def Mem.cells (dflt : Nat → Byte) : Nat → List Byte → Mem
  | _, [] => []
  | a, b :: bs => if b = dflt a then Mem.cells dflt (a + 1) bs else (a, b) :: Mem.cells dflt (a + 1) bs

/-- Write consecutive bytes from an address, keeping the canonical form. -/
def Mem.writes (dflt : Nat → Byte) (m : Mem) (a : Nat) (bs : List Byte) : Mem :=
  Mem.below m a ++ (Mem.cells dflt a bs ++ Mem.above m (a + bs.length))

/-- Write one byte. -/
def Mem.write (dflt : Nat → Byte) (m : Mem) (a : Nat) (b : Byte) : Mem := Mem.writes dflt m a [b]

/-- Read `n` consecutive bytes from an address, which no entry of the memory lies below. -/
def Mem.readsAt (dflt : Nat → Byte) : Mem → Nat → Nat → List Byte
  | _, _, 0 => []
  | [], a, n + 1 => dflt a :: Mem.readsAt dflt [] (a + 1) n
  | (k, v) :: t, a, n + 1 =>
    if a = k then v :: Mem.readsAt dflt t (a + 1) n else dflt a :: Mem.readsAt dflt ((k, v) :: t) (a + 1) n

/-- Read `n` consecutive bytes from an address. -/
def Mem.reads (dflt : Nat → Byte) (m : Mem) (a n : Nat) : List Byte := Mem.readsAt dflt (Mem.above m a) a n

/-- Forget every listed byte of a range: it reads as unlisted again. -/
def Mem.clear (m : Mem) (a n : Nat) : Mem := Mem.below m a ++ Mem.above m (a + n)

/-- The canonical form: addresses strictly rising, no entry equal to the unlisted byte. -/
def Mem.wf (dflt : Nat → Byte) : Mem → Bool
  | [] => true
  | [(a, b)] => decide (b ≠ dflt a)
  | (a, b) :: (a', b') :: t => decide (a < a') && decide (b ≠ dflt a) && Mem.wf dflt ((a', b') :: t)

/-- A memory whose unlisted bytes read as zero. -/
def zeroByte : Nat → Byte := fun _ => 0#8

end Sys2Proof.Machine
end

