-- ==== Sys2Proof/Machine/StateFab.lean ====
section
/-! DEFINITION. State of the pool, of fabric transfers, of the home directory and of the Gleodlink ports
(spec/02_pool_model.md, 03_transfers.md, 07_tracked_regions.md, 08_gleodlink.md). -/

namespace Sys2Proof.Machine

/-- Partition states (R40). -/
inductive PtnState
  | unused | active | resetting | faulted
deriving DecidableEq, Repr

/-- One partition (R39 to R45, R197, R242). -/
structure PtnRec where
  st : PtnState := .unused
  channels : List Nat := []          -- owned HBM channels, ascending
  clusters : List Nat := []          -- owned clusters, ascending
  mailboxes : List Nat := []
  flashGib : Nat := 0                -- flash quota
  trackedUnits : Nat := 0            -- tracked quota in 2 MiB units
  admission : List Nat := []
  keyPub : List Byte := []           -- kernel key record; empty: none
  keyRequired : Bool := false
  blocks : List Nat := []            -- directory set blocks: 4 × slice + block, in the order taken per die
  cause : Nat := 0                   -- PTN_STATUS.FAULT_CAUSE
  resetStart : Nat := 0              -- when the running reset started
  clearing : List Nat := []          -- clusters whose clearing the reset waits for
  autoDone : Bool := false
deriving DecidableEq, Repr

/-- Extent states (R70); a FREE extent is one no longer listed. -/
inductive ExtState
  | active | revoking | revoked
deriving DecidableEq, Repr

/-- One access-list entry with its directory index (R54, R244). `idx = none`: waiting for a free index. -/
structure AclEntry where
  ep : Nat
  r : Bool
  w : Bool
  idx : Option Nat
deriving DecidableEq, Repr

/-- One extent (R46, R49, R63, R68, R70 to R74, R78). -/
structure ExtRec where
  ptn : Nat
  length : Nat
  tracked : Bool
  policy : Nat                       -- 0 DRAM_PINNED, 1 TIERED, 2 FLASH_HOME
  mirrored : Bool
  acl : List AclEntry
  init : Bool := false
  version : Nat := 0
  publisher : Nat := 0xFFFF
  drainMs : Nat := 1000
  controlDie : Nat
  st : ExtState := .active
  committed : Bool := true           -- its extent record has committed (R504)
  inflight : Nat := 0
  revokeAt : Nat := 0
  revokedAt : Nat := 0
  completed : Nat := 0               -- ended normally during the revoke (R72)
  cut : Nat := 0
  unanswered : Nat := 0
  sanitised : Bool := false
  oldAcl : List AclEntry := []       -- removed entries whose index the home still holds (R244)
  nextAcl : List AclEntry := []      -- the list of a deferred EXT_SET_ACL, in force once it completes (R55)
  aclStage : Nat := 0                -- an EXT_SET_ACL is deferred: 1 for its record, 2 for recalls
  aclLines : List (Nat × Nat) := []  -- lines, with the holder's index, it still has to recall
  waitSeq : Nat := 0                 -- the EXTENT frame whose answer its creation waits for (R485)
  policyPending : Bool := false      -- an EXT_SET_POLICY is deferred
  pinning : Bool := false            -- it makes the extent DRAM_PINNED, and its pages take their frames (R373)
  chans : List Nat := []             -- home channels of a DRAM_PINNED extent (R25)
  durVersion : Nat := 0              -- the pair of its committed records (R69)
  durPublisher : Nat := 0xFFFF
  zeroing : Bool := false            -- an EXT_ZERO is open (R73, R530)
deriving DecidableEq, Repr

/-- A handle that is not granted again until 60 s after MBX_READY (R497). -/
structure FreedRec where
  ptn : Nat
  since : Nat
deriving DecidableEq, Repr

/-- A duplicate-filter entry (R103): bit i of the record stands for H − i. -/
structure FilterEnt where
  h : BitVec 32
  marks : BitVec 1024
deriving DecidableEq, Repr

/-- An entry of the transfer table (R106, R108, R109): an open trick, or a refusal record. -/
structure TrickRec where
  src : Nat
  dst : Nat
  tag : Nat
  s0 : BitVec 32
  opcode : Nat
  count : Nat
  length : Nat
  ext : Nat
  ptn : Nat
  seen : Nat
  refused : Bool
  req : Packet                       -- the first packet that arrived, for the response (R111)
  port : Nat
  yellow : Bool := false
  write : Nat := 0                   -- the open write of its packets (R57)
  inv : Nat := 0                     -- INVOKE_DATA: the invocation it feeds
  age : Nat := 0                     -- order of entry
deriving DecidableEq, Repr

/-- Why an accepted request waits (R26, R58, R60, R65, R82, R83, R218, R366). -/
inductive WaitKind
  | serve                            -- pages absent or frames lacking: served again later
  | homeLine (mark : Nat)            -- a line the home writes: 0 the packet's data, 1 poison
  | cover                            -- FLUSH or PUBLISH: covered writes not yet performed
  | persist (stage : Nat)            -- PERSIST: 0 covered writes, 1 commits
  | invoke                           -- a green INVOKE at the dealer's ingress
deriving DecidableEq, Repr

/-- A request that has passed R23 and waits. -/
structure WaitReq where
  kind : WaitKind
  pkt : Packet
  port : Nat
  yellow : Bool := false
  since : Nat := 0
  ids : List Nat := []               -- open writes it waits for or belongs to; GET: packets still to send
  pages : List (Nat × Nat) := []     -- PERSIST: (page key, number of destages it waits for)
  seqs : List (Nat × Nat) := []      -- PERSIST: (die, journal SEQ that must be committed)
  status : Nat := 0
  reply : Bool := true
deriving DecidableEq, Repr

/-- Where an open write stands: accepted lines not yet in their channel's bank queue (R57, R58). -/
structure OpenWrite where
  host : Nat
  ext : Nat
  okSent : Bool                      -- its ST_OK has been sent: FLUSH covers it
  lines : Nat                        -- lines not yet performed
  inv : Option Nat := none           -- the invocation that stores it: accepted with its last RESULT (R59)
deriving DecidableEq, Repr

/-- The pool and its transfers. -/
structure Fabric where
  filters : Tab FilterEnt := []      -- source + 65536 × (0 own, 1 alias)
  seqs : Tab (BitVec 32) := []       -- DST + 65536 × SRC side (0 own, 1 alias): the next SEQ
  table : Tab TrickRec := []         -- by entry number
  crcDrops : Nat := 0                -- packets discarded with a wrong E2E_CRC (R91)
  nextAge : Nat := 0
  nextTag : Nat := 0
  waits : List WaitReq := []
  writes : Tab OpenWrite := []
  nextWrite : Nat := 0
  mgmtQ : List (Nat × Packet) := []  -- (port, packet): 256 entries (R302)
deriving DecidableEq, Repr

/-- STATE of a directory entry (R244, R245). -/
inductive DirSt
  | s | m
deriving DecidableEq, Repr

/-- One directory entry (R244). BLOCKED and AWAIT follow from the open transactions. -/
structure DirEnt where
  ext : Nat
  line : Nat
  st : DirSt := .s
  owner : Nat := 0
  sharers : List Nat := []           -- ascending access-list indices
  lru : Nat := 0
deriving DecidableEq, Repr

/-- A recall record (R249): its answer is awaited until RECALL_ACK or the home timeout. -/
structure Recall where
  ext : Nat
  line : Nat
  idx : Nat
  ep : Nat
  kind : Nat                         -- 1 INVALIDATE, 2 DOWNGRADE
  tag : Nat
  seq : Nat
  sentAt : Nat
  answered : Bool := false           -- answered by a RETURN (R252), or by death (R260)
  forRevoke : Bool := false
deriving DecidableEq, Repr

/-- What a transaction does when its last acknowledgement has arrived (R247, R255). -/
inductive TxnAct
  | grantS | grantX | write | atomic | victim (ext line : Nat) | revoke | acl | tileRead
deriving DecidableEq, Repr

/-- An open transaction on a line (R247): its line is BLOCKED. -/
structure Txn where
  ext : Nat
  line : Nat
  act : TxnAct
  req : Option WaitReq
  kind : Nat := 1                    -- of its recalls
  need : List Nat := []              -- indices still to be recalled for want of a record (R249)
  since : Nat                        -- when a wait for the owner's RETURN began to count (R258)
  await2 : Bool := false             -- it waits for the owner's RETURN (R251, R253)
  victim : Bool := false             -- it waits for the transaction of its victim (R257)
deriving DecidableEq, Repr

/-- A request queued behind a BLOCKED line (R248). -/
structure LineWait where
  ext : Nat
  line : Nat
  req : WaitReq
deriving DecidableEq, Repr

/-- The home directory. -/
structure Directory where
  ents : Tab DirEnt := []            -- (die × 131,072 sets + set) × 16 + way
  recalls : List Recall := []
  txns : List Txn := []
  queue : List LineWait := []        -- oldest first
  dead : List Nat := []              -- dead-host table (R260)
  scans : List (Nat × Nat) := []     -- (slice, endpoint) scans in progress
  clock : Nat := 0                   -- age source of LRU
deriving DecidableEq, Repr

/-- Port states, by code (R279). -/
inductive LinkSt
  | disabled | training | param | active | swap | lpIdle | down
deriving DecidableEq, Repr

/-- A packet in a port's receive buffer, holding its credit (R276). -/
structure RxPkt where
  vc : Nat
  flits : Nat
  pkt : Packet
  whole : Bool                       -- its last flit has arrived
  since : Nat                        -- when its header was accepted
deriving DecidableEq, Repr

/-- What a packet frees when its last flit has been sent (R276, R299): the table that routed it, the ingress port whose
credit it holds, its VC and its flits. -/
structure FlitOwner where
  table : Nat
  ingress : Option Nat
  vc : Nat
  flits : Nat
deriving DecidableEq, Repr

/-- A packet flit on its way out. -/
structure Flit where
  bytes : List Byte
  first : Bool                       -- a header
  owner : Option FlitOwner := none   -- on a packet's last flit, until it is sent
  last : Bool := false
deriving DecidableEq, Repr

/-- One port's link layer (R265 to R286). Counters and settings stand in the GL registers. -/
structure Link where
  st : LinkSt := .disabled
  stSince : Nat := 0
  hamper : List Flit := []           -- sent and not acknowledged, oldest first
  sending : List Flit := []          -- packets started and not yet sent
  requeue : List (List Flit) := []   -- packets an epoch change sends again as new (R281)
  nextLseq : BitVec 16 := 0#16
  expected : BitVec 16 := 0#16
  replayFrom : Option Nat := none    -- index in the hamper from which a replay goes on
  timerAt : Option Nat := none       -- when the replay timer started
  timerPer : Nat := 40               -- the period it started with, in 0.1 µs (R286)
  replaysSince : Nat := 0            -- replays without acknowledgement progress
  cvc : Nat := 0                     -- the VC whose counter the next trailer carries
  rx : List RxPkt := []
  rxUsed : Tab Nat := []             -- receive-buffer flits in use by VC
  rxPart : List (List Byte) := []    -- flits of the packet being received
  rxDrop : Nat := 0                  -- flits still to be dropped of an overrun packet
  itemNext : Nat := 0x10             -- the next PARAM item to send
  got : Tab Nat := []                -- PARAM items received: CMD → ARG
  sentDone : Bool := false
  firstParam : Bool := true          -- no PARAM since DISABLED
  txLanes : List Nat := [0, 1, 2, 3] -- physical lanes of logical lanes 0 to 3
  rxLanes : List Nat := [0, 1, 2, 3]
  txSpare : Nat := 4                 -- 7 = used
  rxSpare : Nat := 4
  symerr : List Nat := [0, 0, 0, 0, 0]
  symAt : Nat := 0                   -- when the present window of 1 ms began
  lpiSent : Option Nat := none
  cmdQ : List (Nat × Nat) := []      -- link commands waiting for a trailer
  swapReq : Option Nat := none       -- a SWAP_REQ held until ACTIVE
  swapLane : List (Bool × Nat) := []  -- lanes being moved: (transmit side, lane)
  noLane : Bool := false             -- alignment lost with no spare left: training cannot complete (R283)
  lastGroup : List Byte := []        -- the group last sent: 4,096 slot bytes and 16 trailer bytes
  shutting : Bool := false           -- a shut-down of R405 runs
  enableDeferred : Bool := false
  resetting : Bool := false          -- a port reset runs (R499)
deriving DecidableEq, Repr

end Sys2Proof.Machine
end

