-- ==== Sys2Proof/Machine/StateNet.lean ====
section
/-! DEFINITION. State of routing, policing, egress scheduling and arbitration (spec/09_routing_and_transit.md,
10_scheduling_and_policing.md, 14_arbitration_and_isolation.md). Counters and settings stand in the registers. -/

namespace Sys2Proof.Machine

/-- One copy of the 19 destination tables (R287): entries under table × 65,536 + endpoint ID, 0 unlisted, and the
direction map of the copy (R289). -/
structure RtCopy where
  cand : Tab Nat := []
  dir : Nat := 0
deriving DecidableEq, Repr

/-- A write to the shadow copy that waits for the end of a swap (R301). -/
inductive ShadowWrite
  | entries (table first : Nat) (vals : List Nat)
  | clear
  | dir (v : Nat)
deriving DecidableEq, Repr

/-- An open swap (R300): who waits, the affected tables, where it stands (2 draining, 5 resync). -/
structure Swap where
  stage : Nat
  affected : List Nat
  force : Bool
  startedAt : Nat
  froze : Nat                        -- the RT_FREEZE bits it set
deriving DecidableEq, Repr

/-- Where a packet takes its output port: at any candidate, at one of an X die where the table names one there
(spec/01_architecture.md on R26), or at the port R488 gives a mirror frame. -/
inductive Via
  | any
  | die (x : Nat)
  | port (n : Nat)
deriving DecidableEq, Repr

/-- A packet that waits in its ingress receive buffer for a candidate port or for ROUTE_EN (R292, R295). -/
structure Held where
  table : Nat
  vc : Nat
  x : Nat
  via : Via
  pkt : Packet
  transit : Bool
  since : Nat
deriving DecidableEq, Repr

/-- The router's state. `active` is the copy RT_STATUS.ACTIVE_COPY names. -/
structure Routing where
  copy0 : RtCopy := {}
  copy1 : RtCopy := {}
  activeCopy : Bool := false
  dirty : List Nat := []             -- tables whose shadow was written since the last swap
  swap : Option Swap := none
  delayed : List ShadowWrite := []
  held : List Held := []
  lastPick : Tab Nat := []           -- the previous choice made for each ingress table (R294)
  tkReset : Bool := false
  reports : List (Nat × Nat × Nat) := []  -- reports to the fabric-management core, oldest first: 0 an entry into DOWN (R279),
                                     -- 1 a lane alarm (R283); port; lane
  mgmtWait : List (Nat × Nat × Nat × Packet) := []  -- MGMT requests that wait: command code, object, port, request
deriving DecidableEq, Repr

/-- A packet in an egress queue: the table that routed it, the ingress VC credit it holds, when it entered. -/
structure OutPkt where
  pkt : Packet
  vc : Nat
  flits : Nat
  table : Nat
  ingress : Option Nat               -- the ingress port whose credit it holds (R276)
  since : Nat
  ptn : Option Nat                   -- its partition, for a packet that is not transit
deriving DecidableEq, Repr

/-- The egress side of one port (R315 to R322). Queues under subscriber × 4 + class; 2,048 + VC for VC2 and VC4. -/
structure Egress where
  queues : Tab (List OutPkt) := []
  subDef : Tab Int := []             -- deficits in bytes
  sqDef : Tab Int := []
  lastSub : Nat := 511
  lastSq : Tab Nat := []
  portBkt : Option (Int × Nat) := none  -- in 1 / 100,000 of a byte, and when it was computed; none: full
  subBkt : Tab (Int × Nat) := []
  sqBkt : Tab (Int × Nat) := []
  slots : Tab Nat := []              -- active slot table; 0x40 unlisted
  shadow : Tab Nat := []
  swapPending : Bool := false
  shadowAt : Nat := 0                -- when the pending image was written
  activeCopy : Bool := false
  skipAt : Tab Nat := []             -- service queue → end of the window in which its head was counted as skipped
  samples : Nat := 0                 -- samples taken (R323)
  sampleAt : Nat := 0
  hist : Tab Nat := []               -- queue × 64 + k: depth and delay buckets k and 16 + k from 1 to 15, 32 and 33 the
                                     -- maxima, 34 the samples at the last clear; ingress queue i is queue 2,048 + i
  snap : Tab Nat := []               -- the snapshot SCH_HIST_SEL took, under the same k
deriving DecidableEq, Repr

/-- The token buckets of one policer (R311): bytes in units of 1 / 20,000 of a byte, and when they were computed. -/
structure Policer where
  tc : Nat
  tp : Nat
  at' : Nat
deriving DecidableEq, Repr

/-- One arbiter instance (R395 to R401). -/
structure Arb where
  pointer : Nat := 0
  waits : Tab Nat := []              -- wait counters by requester
  trumps : List Nat := []            -- requesters that hold trumps, in arrival order
  frozen : Bool := false
  fwHold : Bool := false
  lastWinner : Nat := 0
  grants : Nat := 0
  trumpCount : Nat := 0
  maxWait : Nat := 0
deriving DecidableEq, Repr

end Sys2Proof.Machine
end

