-- ==== Sys2Proof/Machine/StateCtl.lean ====
section
/-! DEFINITION. State of the control cores, mailboxes and checkers, of trust and two-party changes, of the meter die,
of Lookout and power, of the partner pairing and spares, and of reset and the board (spec/15_control_and_mailboxes.md
to spec/21_board_attachment.md). -/
namespace Sys2Proof.Machine

/-- A deferred command (R418): the request it answers and the object whose change completes it. -/
structure Deferred where
  opcode : Nat
  alive : Nat
  reqId : Nat
  obj : Nat
deriving DecidableEq, Repr

/-- A completion that waits for delivery (R419). -/
structure Completion where
  opcode : Nat
  alive : Nat
  reqId : Nat
  status : Nat
  body : List Byte
deriving DecidableEq, Repr

/-- One mailbox (R411, R412, R416, R418, R419). -/
structure Mailbox where
  req : Mem := []                    -- request area
  resp : Mem := []                   -- response area
  hostDone : Bool := false
  owner : Bool := false              -- true: firmware
  unread : Bool := false
  collide : Bool := false
  ready : Bool := false
  seq : Nat := 0
  irqEn : Bool := false
  alive : Option Nat := none         -- the alive expectation (R416)
  deferred : List Deferred := []
  waiting : List Completion := []    -- oldest first
deriving DecidableEq, Repr

/-- A check-value unit (R430). -/
structure Checker where
  value : BitVec 32 := 0xFFFFFFFF#32
  expValue : BitVec 16 := 0#16
  expValid : Bool := false
  rep : Bool := false
  skip : Bool := false
  bytes : Nat := 0
  aliveErrs : Nat := 0
  crcErrs : Nat := 0
deriving DecidableEq, Repr

/-- A firmware duty moving from a failed core to a spare (R408). -/
structure DutyMove where
  duty : Nat
  target : Nat
  startedAt : Nat
deriving DecidableEq, Repr

/-- The control cores (R34, R35, R408): duty codes of DEV_INFO by core, 0xFF failed. -/
structure Cores where
  duty : List Nat := [1, 2, 3, 0, 4, 5, 6, 0]
  moves : List DutyMove := []
  polling : Bool := true             -- the mailbox service runs
  pollAt : Nat := 0                  -- when the last poll started
deriving DecidableEq, Repr

/-- The PCIe endpoint's side of the mailboxes (R517, R518). -/
structure Pcie where
  busMaster : Bool := false
  msixEn : Bool := false
  masked : Nat := 2 ^ 64 - 1
  d3 : Bool := false
  pend : Nat := 0                    -- pending-bit array
  sent : Tab Nat := []               -- vector → messages sent
  bar2 : Mem := []                   -- upload window (R409)
deriving DecidableEq, Repr

/-- A pairing in force (R483). -/
structure Pairing where
  takeover : Bool
  portA : Nat
  portB : Nat
  peer : Nat
  sharedId : Nat
  silenceMs : Nat
  ueLimit : Nat
  peerDev : List Byte
deriving DecidableEq, Repr

/-- What the protection record holds of a partition (R441). -/
structure PtnSet where
  channels : List Nat := []
  clusters : List Nat := []
  mailboxes : List Nat := []
  flashGib : Nat := 0
  trackedUnits : Nat := 0
  admission : List Nat := []
  keyPub : List Byte := []
  keyRequired : Bool := false
  blocks : List Nat := []            -- directory set blocks allotted at commit (R242)
deriving DecidableEq, Repr

/-- The protection record in force (R441). -/
structure Pset where
  ptns : Tab PtnSet := []
  opKey : List Byte := []
  custKey : List Byte := []
  fwOwner : List Byte := []
  debugMin : Nat := 0                -- minutes of a committed DEBUG_UNLOCK, 0 none
  pairing : Option Pairing := none
deriving DecidableEq, Repr

/-- An open change (R443). -/
structure Change where
  id : Nat
  kind : Nat
  body : List Byte
  digest : List Byte
  agree : Nat
  signed : Option Nat := none        -- the role that has signed
  until' : Nat                       -- when its window ends
deriving DecidableEq, Repr

/-- An XMSS key the device holds (R438). -/
structure XmssKey where
  nextBlock : Nat := 0               -- in the vault
  leaf : Nat := 0                    -- next leaf of the block in use
  blockEnd : Nat := 0                -- one past the last leaf of the block in use; leaf = blockEnd: none in use
  tree : Nat := 0
  certs : List (List Byte) := []
  fault : Bool := false
deriving DecidableEq, Repr

/-- Trust and two-party changes. -/
structure Sec where
  pset : Pset := {}
  slotB : Bool := false              -- which record slot is in force
  recordOk : Bool := true            -- a slot matches the vault (R441)
  agree : Nat := 0
  svn : List Nat := [0, 0, 0]        -- anti-rollback counters
  att : XmssKey := {}
  changes : List Change := []
  nextId : Nat := 1
  unlockDue : Bool := false          -- a committed DEBUG_UNLOCK waits for the next warm reset (R446)
  debugOn : Bool := false
  debugEnd : Nat := 0
deriving DecidableEq, Repr

/-- A firmware image in SPI NOR or in the meter's MRAM (R435, R451). -/
structure FwImage where
  svn : Nat
  owner : Bool                       -- OWNER_SIGNED
  digest : List Byte
  vendorOk : Bool                    -- DIGEST matches and the vendor signature verifies
  ownerSig : List Byte := []
deriving DecidableEq, Repr

/-- The SPI NOR (R519, R520): what the device reads from it. -/
structure Nor where
  present : Bool := true
  images : Tab FwImage := []         -- stage × 2 + slot
  run : Tab Nat := []                -- stage → slot that runs
  routing : Option RtCopy := none    -- routing record in force (R300, R307)
  routeOk : Bool := true             -- whether its KMAC seal holds (R307)
  routeSlotB : Bool := false
deriving DecidableEq, Repr

/-- A wear-record entry (R493). -/
structure WearEnt where
  kind : Nat
  unit : Nat
  a : Nat
  b : Nat
deriving DecidableEq, Repr

/-- A substitution decided and not yet recorded (R493), with the deferred INT_REMAP it completes. -/
structure WearPend where
  ent : WearEnt
  since : Nat
  remap : Option Nat := none
deriving DecidableEq, Repr

/-- The wear record (R493). -/
structure Wear where
  ents : List WearEnt := []
  seq : Nat := 0
  slotB : Bool := false
  sealOk : Bool := true
  pend : List WearPend := []
deriving DecidableEq, Repr

/-- A diagnosis record (R482, R494). -/
structure DiagRec where
  time : Nat
  code : Nat
  unit : Nat
  detail : Nat
  yield : Bool
deriving DecidableEq, Repr

/-- The diagnosis log (R482). -/
structure Diag where
  recs : List DiagRec := []          -- oldest first
  lost : Nat := 0
deriving DecidableEq, Repr

/-- States of a pair's member, in the order of R484. -/
inductive PrtSt
  | unpaired | waiting | active | standbySync | standby | takingOver | yielded
deriving DecidableEq, Repr

/-- A mirror frame kept until it is acknowledged (R488). -/
structure SentFrame where
  mseq : Nat
  frame : List Byte
  sentAt : Nat
deriving DecidableEq, Repr

/-- A response held until the frames its request caused are acknowledged (R486). -/
structure HeldResp where
  mseq : Nat                         -- the last frame it waits for
  port : Nat                         -- the port its request came by
  pkt : Packet
deriving DecidableEq, Repr

/-- The partner pairing (R483 to R491). -/
structure Partner where
  st : PrtSt := .unpaired
  roleActive : Bool := false         -- committed role (R484)
  peerSt : Nat := 0
  heard : Nat := 0                   -- when a valid frame last arrived
  silent : Bool := false
  mseq : Nat := 0                    -- last sequence number sent
  acked : Nat := 0
  applied : Nat := 0                 -- last frame applied in order
  early : Tab Packet := []           -- frames held ahead of order, by MSEQ
  openTags : Tab Nat := []           -- frames sent that wait for their ACK: tag → SEQ (R101)
  sent : List SentFrame := []
  held : List HeldResp := []
  resyncTodo : List Nat := []        -- page keys still to be copied to the partner (R488)
  resyncEnd : Nat := 0               -- MSEQ of the RESYNC_DONE sent, 0 none
  helloAt : Nat := 0                 -- when HELLO was last sent
  yielding : Bool := false           -- a yield has stopped the alias and waits (R489)
  switchovers : Nat := 0
  yieldAt : Nat := 0                 -- when a yield or a takeover began (R489, R490)
  ueTimes : List Nat := []           -- uncorrectable lines of mirrored extents in the last hour
  fcrcBad : Nat := 0
  yieldDue : Bool := false           -- a YIELD finding waits for its yield to start (R481)
  lines : List Nat := []             -- lines whose last DIR frame showed BLOCKED: extent × 2^40 + line
  dirm : Tab DirEnt := []            -- directory entries of mirrored lines, under the same key
deriving DecidableEq, Repr

/-- An event-log record of the meter (R462). -/
structure MtrEvent where
  seq : Nat
  time : Nat
  kind : Nat
  link : Nat
  count : Nat
  detail : Nat
deriving DecidableEq, Repr

/-- A snapshot of the meter (R460). -/
structure Snapshot where
  accs : Tab Nat := []               -- partition × 16 + quantity
  exps : Tab Nat := []
  time : Nat := 0
  seals : Nat := 0
  seq : Nat := 0                     -- newest event
  events : List MtrEvent := []       -- newest 4,096, oldest first
  lost : Nat := 0
  gaps : Nat := 0
  commits : Nat := 0
deriving DecidableEq, Repr

/-- A signing request queued at the meter (R465). -/
structure SignReq where
  mbx : Nat
  report : Bool
  ptn : Nat
  nonce : List Byte
  first : Nat
  no : Nat                           -- which request: the object its deferred command waits on
deriving DecidableEq, Repr

/-- One counter link's sender on its die (R454 to R456). -/
structure Sender where
  deltas : Tab Nat := []             -- partition × 16 + quantity
  alive : Nat := 0
  restart : Bool := true
  lastAt : Nat := 0                  -- when its last frame was sent
  wire : List (BitVec 128) := []     -- frames sent that have not reached the meter, oldest first
deriving DecidableEq, Repr

/-- The meter die (R449 to R466). -/
structure Meter where
  st : Nat := 0                      -- 0 RUNNING, 1 STARTING, 2 ABSENT: held in reset
  live : Snapshot := {}              -- accumulators as they stand
  slotA : Option Snapshot := none
  slotB : Option Snapshot := none
  writing : Option Snapshot := none  -- a snapshot whose closing word is not yet written
  epoch : Nat := 0                   -- device time at which METER_TIME of `live.time` held
  silent : List Nat := []
  heard : Tab Nat := []
  silenceMs : Nat := 10
  label : List Byte := List.replicate 8 0#8
  images : Tab FwImage := []         -- two slots
  run : Nat := 0
  lastDigest : List Byte := []
  svn : Nat := 0
  key : XmssKey := {}
  queue : List SignReq := []
  nextReq : Nat := 0
  lastSnap : Nat := 0                -- METER_TIME of the last snapshot taken
  reported : Tab Nat := []           -- partition → newest event at its previous report
deriving DecidableEq, Repr

/-- A telemetry slot (R477). -/
structure TelemSlot where
  addr : Nat := 0
  reg : Nat := 0
  thresh : Nat := 0
  value : Nat := 0
deriving DecidableEq, Repr

/-- Lookout (R467 to R477). Resources: clusters 0 to 31, stacks 32 to 43, ports 44 to 61, flash channels 62 to 93. -/
structure Lookout where
  lead : List Nat := []              -- resources with a lead event in the present interval
  lastLead : Tab Nat := []
  waking : Tab Nat := []             -- resource → when its wake began
  filt : Tab Nat := []               -- filtered sensor readings, × 256
  belowSince : Option Nat := none    -- every reading below the release level since (R473)
  telem : Tab TelemSlot := []
  state : Nat := 0                   -- 0 ACTIVE, 1 STANDBY, 2 entering DORMANT, 3 DORMANT
  dormantAt : Option Nat := none     -- when step 3 of R475 froze the routing tables
  froze : Nat := 0                   -- RT_FREEZE before that
  standbyAt : Nat := 0
  wokenAt : Tab Nat := []            -- when a resource last finished waking
  sampleAt : Nat := 0
  sampled : Bool := false            -- a sample whose decision has not been taken
  sensorAt : Nat := 0
  evalAt : Nat := 0
  telemAt : Nat := 0
  tripped : Bool := false            -- a thermal trip holds: THERMTRIP_N is low (R473)
  mainEn : Bool := true              -- PWR_MAIN_EN
  railAt : Option Nat := none        -- LK_RAIL_WAIT runs since
deriving DecidableEq, Repr

/-- Where start-up stands (R501, R516). -/
inductive BootPhase
  | reset | rom | selfTestFailed | noStage1 | stage1 | main | ready | recovery | lost
deriving DecidableEq, Repr

/-- Reset, start-up, balls and straps (R495 to R516, R523). -/
structure Board where
  phase : BootPhase := .rom
  kind : Nat := 0                    -- 0 power-on, 1 warm, 2 transit-keep: the reset that start-up follows
  startAt : Nat := 0
  stageAt : Nat := 0                 -- when stage 1 began
  linkOpen : Bool := false           -- stage 1 has opened the vault link, or given it up (R501, R503)
  readyAt : Nat := 0                 -- MBX_READY
  mainDone : Bool := false
  hbmDone : Bool := false
  flashDone : List Nat := []         -- dies whose flash bus training has ended
  portsDone : List Nat := []         -- ports whose training has ended, well or not
  noMain : Bool := false
  vault : Bool := true               -- the meter die answers on the vault link
  vaultAsk : List (Nat × Nat) := []  -- mailboxes whose command waits on the vault, and since when
  resetDue : Option (Nat × Nat) := none  -- (kind, when the DEV_RESET reply was written)
  porLow : Bool := false
  warmLow : Bool := false
  porVLow : Bool := false
  strap : Nat := 0
  gpio : Nat := 0                    -- levels on the balls
  vid : Nat := 60                    -- code on VDDC_VID (R512)
  vidAt : Nat := 0
  clocksLost : List Nat := []        -- reference inputs lost (R514)
  dbgPort : Bool := false            -- the debug access port is open (R521)
  upd : Option (Nat × Nat) := none   -- an open DEV_FW_UPDATE: stage, length
  updAt : Nat := 0
deriving DecidableEq, Repr

end Sys2Proof.Machine
end

