-- ==== Sys2Proof/Machine/Float.lean ====
section
/-! DEFINITION. Number formats, exact values, rounding and the operations of the vector and special-function
units (spec/04_compute_tiles.md R124, R125, R130, R148 to R153). Values are exact rationals; nothing is
rounded but at the one rounding step of each operation. -/

namespace Sys2Proof.Machine

/-- What a number in a format stands for. A finite value carries its sign apart, for the sign of zero. -/
inductive FVal
  | nan
  | inf (neg : Bool)
  | fin (neg : Bool) (mag : Rat)
deriving DecidableEq, Repr

/-- Two to an integer power, exactly. -/
def pow2 (e : Int) : Rat :=
  match e with
  | .ofNat n => ((2 ^ n : Nat) : Rat)
  | .negSucc n => mkRat 1 (2 ^ (n + 1))

/-- `m × 2^e`, exactly. -/
def dyad (m e : Int) : Rat := (m : Rat) * pow2 e

/-- `floor(log2 a)` of a positive rational. -/
def floorLog2 (a : Rat) : Int :=
  let k : Int := (Nat.log2 a.num.toNat : Int) - (Nat.log2 a.den : Int)
  if a < pow2 k then k - 1 else k

/-- A floating-point format of R130: total width, mantissa width, exponent bias, the code of the largest
finite magnitude, the code of infinity where there is one, and the canonical NaN of R153 where there is one. -/
structure Fmt where
  w : Nat
  p : Nat
  bias : Nat
  maxCode : Nat
  inf : Option Nat
  nan : Option Nat
deriving DecidableEq, Repr

/-- The floating-point formats of R130, by code. -/
def fmtOf (code : Nat) : Option Fmt :=
  match code with
  | 0x01 => some { w := 4, p := 1, bias := 1, maxCode := 0x7, inf := none, nan := none }
  | 0x02 => some { w := 6, p := 3, bias := 1, maxCode := 0x1F, inf := none, nan := none }
  | 0x03 => some { w := 6, p := 2, bias := 3, maxCode := 0x1F, inf := none, nan := none }
  | 0x04 => some { w := 8, p := 3, bias := 7, maxCode := 0x7E, inf := none, nan := some 0x7F }
  | 0x05 => some { w := 8, p := 2, bias := 15, maxCode := 0x7B, inf := some 0x7C, nan := some 0x7E }
  | 0x10 => some { w := 16, p := 7, bias := 127, maxCode := 0x7F7F, inf := some 0x7F80, nan := some 0x7FC0 }
  | 0x11 => some { w := 16, p := 10, bias := 15, maxCode := 0x7BFF, inf := some 0x7C00, nan := some 0x7E00 }
  | 0x12 => some { w := 32, p := 23, bias := 127, maxCode := 0x7F7FFFFF, inf := some 0x7F800000, nan := some 0x7FC00000 }
  | _ => none

/-- binary32. -/
def fp32 : Fmt :=
  { w := 32, p := 23, bias := 127, maxCode := 0x7F7FFFFF, inf := some 0x7F800000, nan := some 0x7FC00000 }

/-- Element width in bits of every format of R130; 0 for a code outside the table. -/
def fmtBits (code : Nat) : Nat :=
  match code with
  | 0x01 => 4 | 0x02 => 6 | 0x03 => 6 | 0x04 => 8 | 0x05 => 8 | 0x06 => 8 | 0x08 => 4 | 0x09 => 8
  | 0x10 => 16 | 0x11 => 16 | 0x12 => 32 | 0x13 => 32 | 0x30 => 384 | _ => 0

/-- The MX formats of R130. -/
def isMx (code : Nat) : Bool := decide (1 ≤ code ∧ code ≤ 6)
/-- The integer formats of R130. -/
def isInt (code : Nat) : Bool := decide (code = 0x08 ∨ code = 0x09 ∨ code = 0x13)
/-- Column M of R130: matrix operands. -/
def fmtM (code : Nat) : Bool := isMx code || decide (code = 0x08 ∨ code = 0x09 ∨ code = 0x10 ∨ code = 0x11)
/-- Column O of R130: outputs. -/
def fmtO (code : Nat) : Bool := fmtM code || decide (code = 0x12 ∨ code = 0x13 ∨ code = 0x30)

/-- The own LSB exponent and the integer significand of a code (R138): value = m × 2^u. -/
def sigOf (f : Fmt) (c : Nat) : Nat × Int :=
  let mag := c % 2 ^ (f.w - 1)
  let ex := mag >>> f.p
  let ma := mag % 2 ^ f.p
  if ex = 0 then (ma, 1 - (f.bias : Int) - f.p) else (ma + 2 ^ f.p, (ex : Int) - f.bias - f.p)

/-- The sign bit of a code. -/
def signOf (f : Fmt) (c : Nat) : Bool := c.testBit (f.w - 1)

/-- What a code of a floating-point format stands for (R130). -/
def decodeFp (f : Fmt) (c : Nat) : FVal :=
  let mag := c % 2 ^ (f.w - 1)
  if mag ≤ f.maxCode then
    let (m, u) := sigOf f c
    .fin (signOf f c) (dyad m u)
  else if f.inf = some mag then .inf (signOf f c)
  else .nan

/-- The signed value of a finite `FVal`, 0 otherwise. -/
def FVal.rat : FVal → Rat
  | .fin s x => if s then -x else x
  | _ => 0

/-- The two rounding modes of R148: to nearest with ties to even, or stochastic with the draw `r` (R151). -/
inductive Rnd
  | rne
  | sr (r : Nat)
deriving DecidableEq, Repr

/-- One rounding of `q ≥ 0` to an integer (R150, R151). -/
def roundInt (m : Rnd) (q : Rat) : Nat :=
  let fl := q.floor.toNat
  let fr := q - (fl : Rat)
  if fr = 0 then fl else
  match m with
  | .rne => if fr < mkRat 1 2 then fl else if mkRat 1 2 < fr then fl + 1 else fl + fl % 2
  | .sr r => if r < (fr * pow2 32).floor.toNat then fl + 1 else fl

/-- A rounded output: its code and whether it overflowed (R150). -/
structure Rounded where
  code : Nat
  sat : Bool
deriving DecidableEq, Repr

/-- One rounding of the exact value (sign, magnitude) to a floating-point format (R150, R151). An exact zero
gives +0 and a value that rounds to zero keeps its sign. -/
def roundFp (f : Fmt) (sat : Bool) (m : Rnd) (neg : Bool) (mag : Rat) : Rounded :=
  if mag = 0 then { code := 0, sat := false } else
  let e := max (floorLog2 mag) (1 - (f.bias : Int))
  let k := roundInt m (mag * pow2 ((f.p : Int) - e))
  let c := (e + f.bias - 1).toNat * 2 ^ f.p + k
  let sb := if neg then 2 ^ (f.w - 1) else 0
  if c ≤ f.maxCode then { code := sb + c, sat := false }
  else { code := sb + (if sat then f.maxCode else f.inf.getD f.maxCode), sat := true }

/-- One rounding of a signed exact value to a two's-complement integer of `w` bits, saturating (R149, R150). The lower bound
is −2^(w−1) (DESIGN CHOICE, log 141: R150 names the largest finite value only). -/
def roundSInt (w : Nat) (m : Rnd) (x : Rat) : Rounded :=
  let k : Int := if x < 0 then -(roundInt m (-x) : Int) else roundInt m x
  let hi : Int := (2 : Int) ^ (w - 1) - 1
  let lo : Int := -((2 : Int) ^ (w - 1))
  if hi < k then { code := unsext w hi, sat := true }
  else if k < lo then { code := unsext w lo, sat := true }
  else { code := unsext w k, sat := false }

/-- The canonical NaN of binary32 (R124). -/
def nan32 : BitVec 32 := 0x7FC00000#32

/-- What a binary32 word stands for. -/
def f32 (x : BitVec 32) : FVal := decodeFp fp32 x.toNat

/-- Round to binary32, to nearest with ties to even; an exact zero takes the sign given (IEEE 754). -/
def r32 (zneg : Bool) (x : Rat) : BitVec 32 :=
  if x = 0 then (if zneg then 0x80000000#32 else 0#32)
  else BitVec.ofNat 32 (roundFp fp32 false .rne (decide (x < 0)) (if x < 0 then -x else x)).code

/-- A signed infinity in binary32. -/
def inf32 (neg : Bool) : BitVec 32 := if neg then 0xFF800000#32 else 0x7F800000#32

/-- Sum of two values in binary32 (R124). -/
def addV (a b : FVal) : BitVec 32 :=
  match a, b with
  | .nan, _ => nan32
  | _, .nan => nan32
  | .inf s, .inf t => if s = t then inf32 s else nan32
  | .inf s, .fin .. => inf32 s
  | .fin .., .inf s => inf32 s
  | .fin s x, .fin t y => r32 (s && t && decide (x = 0) && decide (y = 0)) ((FVal.fin s x).rat + (FVal.fin t y).rat)

/-- The exact product of two values. -/
def mulExact (a b : FVal) : FVal :=
  match a, b with
  | .nan, _ => .nan
  | _, .nan => .nan
  | .inf s, .inf t => .inf (s != t)
  | .inf s, .fin t y => if y = 0 then .nan else .inf (s != t)
  | .fin s x, .inf t => if x = 0 then .nan else .inf (s != t)
  | .fin s x, .fin t y => .fin (s != t) (x * y)

/-- An exact value in binary32. -/
def toF32 (a : FVal) : BitVec 32 :=
  match a with
  | .nan => nan32
  | .inf s => inf32 s
  | .fin s x => r32 s (FVal.fin s x).rat

/-- FADD, FMUL and FMA (R124, R170): each rounds once. -/
def fadd (a b : BitVec 32) : BitVec 32 := addV (f32 a) (f32 b)
def fmul (a b : BitVec 32) : BitVec 32 := toF32 (mulExact (f32 a) (f32 b))
def fma (a b c : BitVec 32) : BitVec 32 := addV (mulExact (f32 a) (f32 b)) (f32 c)

/-- The order of R126 and of FMAX and FMIN on values that are no NaN: `a < b`. -/
def fltV (a b : FVal) : Bool :=
  match a, b with
  | .inf s, .inf t => s && !t
  | .inf s, .fin .. => s
  | .fin .., .inf t => !t
  | .fin .., .fin .. => decide (a.rat < b.rat)
  | _, _ => false

/-- FMAX (R170): the larger, +0 above −0, canonical NaN if either is NaN. -/
def fmax (a b : BitVec 32) : BitVec 32 :=
  if f32 a = .nan ∨ f32 b = .nan then nan32
  else if fltV (f32 a) (f32 b) then b
  else if fltV (f32 b) (f32 a) then a
  else if a.msb then b else a

/-- FMIN (R170): the smaller, −0 below +0, canonical NaN if either is NaN. -/
def fmin (a b : BitVec 32) : BitVec 32 :=
  if f32 a = .nan ∨ f32 b = .nan then nan32
  else if fltV (f32 a) (f32 b) then a
  else if fltV (f32 b) (f32 a) then b
  else if a.msb then a else b

/-- Compare conditions of R170 on binary32: 0 EQ, 1 LT, 2 LE, 3 NE. A NaN gives false except under NE.
LTU and LEU (4, 5) have no binary32 meaning of their own: a free comparison (log 31). -/
def fcond (c : Nat) (a b : BitVec 32) : Bool :=
  let va := f32 a
  let vb := f32 b
  let lt := fltV va vb
  let gt := fltV vb va
  if va = .nan ∨ vb = .nan then decide (c = 3)
  else match c with
    | 0 => !lt && !gt
    | 1 => lt
    | 2 => !gt
    | 3 => lt || gt
    | 4 => Config.fcmpUnsigned false a b
    | _ => Config.fcmpUnsigned true a b

/-- Compare conditions of R170 on integers of width `w`. -/
def icond (w c : Nat) (a b : Nat) : Bool :=
  match c with
  | 0 => decide (a = b)
  | 1 => decide (sext w a < sext w b)
  | 2 => decide (sext w a ≤ sext w b)
  | 3 => decide (a ≠ b)
  | 4 => decide (a < b)
  | _ => decide (a ≤ b)

/-- FTOI (R170): to nearest even, saturating; NaN gives 0. -/
def ftoi (a : BitVec 32) : BitVec 32 :=
  match f32 a with
  | .nan => 0#32
  | .inf s => if s then 0x80000000#32 else 0x7FFFFFFF#32
  | .fin s x => BitVec.ofNat 32 (roundSInt 32 .rne (FVal.fin s x).rat).code

/-- ITOF (R170). -/
def itof (a : BitVec 32) : BitVec 32 := r32 false (a.toInt : Rat)

/-- CVTW of one element (R170): exact widening of a BF16 or FP16 code; a NaN becomes the canonical NaN (R124). -/
def cvtw (f : Fmt) (c : Nat) : BitVec 32 := toF32 (decodeFp f c)

/-- CVTN of one element (R170): under R150 with SAT = 0, so a zero of either sign gives +0. -/
def cvtn (f : Fmt) (a : BitVec 32) : Nat :=
  match f32 a with
  | .nan => f.nan.getD 0
  | .inf s => (if s then 2 ^ (f.w - 1) else 0) + f.inf.getD f.maxCode
  | .fin s x => (roundFp f false .rne s x).code

/-! ### The special-function unit (R125)

The manual bounds each function's error and does not spell the function out. The unit's own value (`Config.sfu`) stands where
it lies within the bound of the exact value; where it does not, the exact value rounded to binary32 stands for it. Exact values
that are no rational are taken from expansions whose relative error is below 2^-60 (log 30). -/

/-- The error allowed at `x`: `k` ulps of binary32, or 2^-126 (R125). -/
def sfuBound (k : Nat) (x : Rat) : Rat :=
  if x = 0 then pow2 (-126) else max (k * pow2 (max (floorLog2 (if x < 0 then -x else x)) (-126) - 23)) (pow2 (-126))
/-- The unit's value `c` where it lies within `k` ulps of `y`, else `y` rounded. -/
def within (k : Nat) (c : BitVec 32) (y : Rat) : BitVec 32 :=
  match f32 c with
  | .fin s z =>
    let d := (FVal.fin s z).rat - y
    if (if d < 0 then -d else d) ≤ sfuBound k y then c else r32 false y
  | _ => r32 false y

/-- A rational cut to 160 bits after the binary point. -/
def cut160 (x : Rat) : Rat := mkRat (x * 2 ^ 160).floor (2 ^ 160)
/-- ln 2, to 100 bits after the binary point. -/
def ln2 : Rat := mkRat 878668439483319573618263538048 (2 ^ 100)
/-- `1 + x/n (1 + x/(n+1) (…))`, `k` terms. -/
def expTail (x : Rat) : Nat → Nat → Rat
  | 0, _ => 1
  | k + 1, n => 1 + cut160 (x / (n : Rat) * expTail x k (n + 1))
/-- e^x for `|x|` up to some thousands. -/
def expRat (x : Rat) : Rat :=
  let n := (x / ln2).floor
  expTail (cut160 (x - n * ln2)) 30 1 * pow2 n
/-- `t (1 + t²/3 + t⁴/5 + …)`, `k` terms: the inverse hyperbolic tangent. -/
def atanhTail (q : Rat) : Nat → Nat → Rat
  | 0, _ => 0
  | k + 1, n => 1 / (n : Rat) + cut160 (q * atanhTail q k (n + 2))
/-- The natural logarithm of a positive rational: of 2^n m with m from 2/3 to 4/3. -/
def logRat (x : Rat) : Rat :=
  let n := floorLog2 (x * mkRat 3 2)
  let m := x * pow2 (-n)
  let t := (m - 1) / (m + 1)
  n * ln2 + 2 * t * atanhTail (t * t) 40 1
/-- The hyperbolic tangent. -/
def tanhRat (x : Rat) : Rat :=
  let a := if x < 0 then -x else x
  if a < mkRat 1 1024 then x * (1 - x * x * (1 / 3 - x * x * (2 / 15 - x * x * (17 / 315))))
  else
    let e := expRat (2 * min a 64)
    let y := (e - 1) / (e + 1)
    if x < 0 then -y else y
/-- The tanh form of GELU: `0.5 x (1 + tanh z)` is `x / (1 + e^(-2z))`. -/
def geluRat (x : Rat) : Rat :=
  let z := mkRat 7978846 10000000 * (x + mkRat 44715 1000000 * (x * x * x))
  x / (1 + expRat (-2 * max (-128) (min z 128)))

/-- Whether `z ≥ 0` lies within `d` of the square root of `y`. -/
def nearSqrt (z d y : Rat) : Bool :=
  decide (y ≤ (z + d) * (z + d)) && (decide (z ≤ d) || decide ((z - d) * (z - d) ≤ y))

/-- RSQRT (R125): the chip's own value where it lies within 1 ulp; the bound is checked by squaring. A value of
the chip outside the bound is replaced by a binary32 number next to the root. -/
def sfuRsqrt (a : BitVec 32) : BitVec 32 :=
  match f32 a with
  | .nan => nan32
  | .inf s => if s then nan32 else 0#32
  | .fin s x =>
    if x = 0 then (if s then Config.sfu .rsqrt a else inf32 false)
    else if s then nan32
    else
      let y := x⁻¹
      let c := Config.sfu .rsqrt a
      let e := floorLog2 y / 2
      let u := pow2 (e - 23)
      let alt := r32 false ((Nat.sqrt (y * pow2 (46 - 2 * e)).floor.toNat : Rat) * u)
      match f32 c with
      | .fin false z => if nearSqrt z u y then c else alt
      | _ => alt

/-- Whether a finite value is below `-103.97208` (R125, EXP). -/
def expLow (x : Rat) : Bool := decide (x < mkRat (-10397208) 100000)
/-- Whether a finite value is above `88.72283` (R125, EXP). -/
def expHigh (x : Rat) : Bool := decide (mkRat 8872283 100000 < x)

/-- The special-function unit (R125): the special cases as the table gives them, otherwise the chip's fixed function of the
input within the table's bound. -/
def sfu (fn : SfuFn) (a : BitVec 32) : BitVec 32 :=
  match fn, f32 a with
  | _, .nan => nan32
  | .rcp, .inf s => if s then 0x80000000#32 else 0#32
  | .rcp, .fin s x => if x = 0 then inf32 s else within 1 (Config.sfu .rcp a) (FVal.fin s x).rat⁻¹
  | .rsqrt, _ => sfuRsqrt a
  | .exp, .inf s => if s then 0#32 else inf32 false
  | .exp, .fin s x =>
    let y := (FVal.fin s x).rat
    if expHigh y then inf32 false else if expLow y then 0#32 else within 2 (Config.sfu .exp a) (expRat y)
  | .log, .inf s => if s then nan32 else Config.sfu .log a
  | .log, .fin s x => if x = 0 then inf32 true else if s then nan32 else within 2 (Config.sfu .log a) (logRat x)
  | .tanh, .inf s => if s then 0xBF800000#32 else 0x3F800000#32
  | .tanh, .fin s x => within 2 (Config.sfu .tanh a) (tanhRat (FVal.fin s x).rat)
  | .gelu, .inf s => if s then 0x80000000#32 else inf32 false
  | .gelu, .fin s x => within 4 (Config.sfu .gelu a) (geluRat (FVal.fin s x).rat)

/-- sr_draw of R151. -/
def srDraw (seed ctr : Nat) : Nat :=
  let m := 2 ^ 64
  let x := (seed + ctr * 0x9E3779B97F4A7C15) % m
  let x := ((x ^^^ (x >>> 30)) * 0xBF58476D1CE4E5B9) % m
  let x := ((x ^^^ (x >>> 27)) * 0x94D049BB133111EB) % m
  let x := x ^^^ (x >>> 31)
  x >>> 32

end Sys2Proof.Machine
end

