-- ==== Sys2Proof/Machine/Exact.lean ====
section
/-! DEFINITION. Exact accumulation: lane sums, anchored windows and their spill records, scorecards and their
images, and the one rounding of each output (spec/04_compute_tiles.md R131 to R153). -/

namespace Sys2Proof.Machine

/-- The 16-byte arithmetic settings block (R148). -/
structure Settings where
  aFmt : Nat := 0
  wFmt : Nat := 0
  outFmt : Nat := 0
  mode : Nat := 0
  srStream : Nat := 0
  srSeed : Nat := 0
deriving DecidableEq, Repr

/-- Read a settings block (R148). -/
def Settings.ofBytes (l : List Byte) : Settings :=
  { aFmt := field l 0 1, wFmt := field l 1 1, outFmt := field l 2 1, mode := field l 3 1,
    srStream := field l 4 2, srSeed := field l 8 8 }

/-- The bytes of a settings block (R148). -/
def Settings.bytes (s : Settings) : List Byte :=
  le 1 s.aFmt ++ le 1 s.wFmt ++ le 1 s.outFmt ++ le 1 s.mode ++ le 2 s.srStream ++ zeros 2 ++ le 8 s.srSeed

/-- The ROUND, ACC_MODE, SAT and W_SPARSITY subfields of MODE (R148). -/
def Settings.round (s : Settings) : Nat := bits s.mode 0 2
def Settings.accFault (s : Settings) : Bool := bit s.mode 2
def Settings.sat (s : Settings) : Bool := bit s.mode 3
def Settings.sparsity (s : Settings) : Nat := bits s.mode 4 2

/-- The rounding mode of output element `i` (R148, R151). -/
def Settings.rnd (s : Settings) (i : Nat) : Rnd :=
  if s.round = 1 then .sr (srDraw s.srSeed (((s.srStream <<< 48) ||| i) % 2 ^ 64)) else .rne

/-- An anchored window (R139, R140, R143). `b = emax - 64`. -/
structure Window where
  w : BitVec 128 := 0#128
  emax : Int := 0
  emin : Int := 0
  n : Nat := 0
  empty : Bool := true
  exceeded : Bool := false
  nan : Bool := false
  posInf : Bool := false
  negInf : Bool := false
deriving DecidableEq, Repr

/-- The LSB exponent of a window (R139). -/
def Window.b (x : Window) : Int := x.emax - 64

/-- The conditions of R140. -/
def Window.ovfl (x : Window) : Bool := decide (64 < x.emax - x.emin) || decide (65536 < x.n)

/-- Take one lane sum `l × 2^e` (R139), then set the window-exceeded flag where R140 says so. -/
def Window.take (x : Window) (l e : Int) : Window :=
  if l = 0 then x else
  let n := min 65537 (x.n + 1)
  if x.empty then
    { x with w := BitVec.ofInt 128 l <<< 64, emax := e, emin := e, n := n, empty := false }
  else
    let y : Window :=
      if x.emax < e then { x with w := x.w.sshiftRight (e - x.emax).toNat, emax := e } else x
    let y := { y with n := n, emin := min y.emin e }
    let add : BitVec 128 :=
      if y.b ≤ e then BitVec.ofInt 128 l <<< (e - y.b).toNat
      else (BitVec.ofInt 128 l).sshiftRight (y.b - e).toNat
    let y := { y with w := y.w + add }
    { y with exceeded := y.exceeded || y.ovfl }

/-- The exact value of a window (R149). -/
def Window.val (x : Window) : Rat := if x.empty then 0 else dyad x.w.toInt x.b

/-- The 32-byte spill record (R143). -/
def Window.record (x : Window) : List Byte :=
  le 16 x.w.toNat ++ le 2 (unsext 16 x.emax) ++ le 2 (unsext 16 x.emin) ++ le 4 x.n ++
    le 1 (b2n x.empty + 2 * b2n x.exceeded + 4 * b2n x.nan + 8 * b2n x.posInf + 16 * b2n x.negInf) ++ zeros 7

/-- Restore a window from its record (R143). -/
def Window.ofRecord (l : List Byte) : Window :=
  let f := field l 24 1
  { w := BitVec.ofNat 128 (field l 0 16), emax := sext 16 (field l 16 2), emin := sext 16 (field l 18 2),
    n := min 65537 (bits (field l 20 4) 0 17), empty := bit f 0, exceeded := bit f 1, nan := bit f 2, posInf := bit f 3,
    negInf := bit f 4 }

/-- A scorecard (R145). -/
structure Card where
  v : BitVec 320 := 0#320
  count : Nat := 0
  nan : Bool := false
  posInf : Bool := false
  negInf : Bool := false
  range : Bool := false
  ovfl : Bool := false
deriving DecidableEq, Repr

/-- The largest count a scorecard holds (R145). -/
def Card.maxCount : Nat := 2 ^ 41 - 1

/-- Add to the count; above 2^40 SC_COUNT is set (R146). -/
def Card.addCount (c : Card) (k : Nat) : Card :=
  let n := min Card.maxCount (c.count + k)
  { c with count := n, ovfl := c.ovfl || decide (2 ^ 40 < n) }

/-- Contribute a finite, infinite or NaN floating-point value (R146). -/
def Card.addF (c : Card) (x : FVal) : Card :=
  match x with
  | .nan => { c.addCount 1 with nan := true }
  | .inf s => if s then { c.addCount 1 with negInf := true } else { c.addCount 1 with posInf := true }
  | .fin _ _ => { c.addCount 1 with v := c.v + BitVec.ofInt 320 (x.rat * pow2 149).floor }

/-- Contribute an INT32 value (R146). -/
def Card.addI (c : Card) (x : BitVec 32) : Card :=
  { c.addCount 1 with v := c.v + (BitVec.ofInt 320 x.toInt <<< 149) }

/-- Contribute a window spill record (R146): bits below 2^-149 are dropped by floor and set SC_RANGE; a
magnitude of 2^167 or more sets it too. An EMPTY window contributes nothing (R177). -/
def Card.addW (c : Card) (x : Window) : Card :=
  if x.empty then c
  else
    let q := x.val * pow2 149
    let lost := decide (q ≠ (q.floor : Rat))
    let big := decide (pow2 167 ≤ x.val) || decide (x.val ≤ -(pow2 167))
    { c.addCount x.n with
      v := c.v + BitVec.ofInt 320 q.floor, nan := c.nan || x.nan, posInf := c.posInf || x.posInf,
      negInf := c.negInf || x.negInf, range := c.range || lost || big }

/-- Contribute another scorecard's image (R146). -/
def Card.addRaw (c d : Card) : Card :=
  let e := c.addCount d.count
  { e with v := c.v + d.v, nan := c.nan || d.nan, posInf := c.posInf || d.posInf, negInf := c.negInf || d.negInf,
           range := c.range || d.range, ovfl := e.ovfl || d.ovfl }

/-- The 48-byte raw image (R145). -/
def Card.image (c : Card) : List Byte :=
  le 40 c.v.toNat ++ le 6 c.count ++
    le 1 (b2n c.nan + 2 * b2n c.posInf + 4 * b2n c.negInf + 8 * b2n c.range + 16 * b2n c.ovfl) ++ zeros 1

/-- Read a raw image (R145). -/
def Card.ofImage (l : List Byte) : Card :=
  let f := field l 46 1
  { v := BitVec.ofNat 320 (field l 0 40), count := bits (field l 40 6) 0 41, nan := bit f 0, posInf := bit f 1,
    negInf := bit f 2, range := bit f 3, ovfl := bit f 4 }

/-- The exact value of a scorecard (R149). -/
def Card.val (c : Card) : Rat := dyad c.v.toInt (-149)

/-- An exact value on its way to one rounding, with the special states of R133 and R146. -/
structure XVal where
  x : Rat
  nan : Bool := false
  posInf : Bool := false
  negInf : Bool := false
deriving DecidableEq, Repr

def Window.xval (y : Window) : XVal := { x := y.val, nan := y.nan, posInf := y.posInf, negInf := y.negInf }
def Card.xval (c : Card) : XVal := { x := c.val, nan := c.nan, posInf := c.posInf, negInf := c.negInf }
def FVal.xval (v : FVal) : XVal :=
  match v with
  | .nan => { x := 0, nan := true }
  | .inf s => { x := 0, posInf := !s, negInf := s }
  | .fin .. => { x := v.rat }

/-- Multiply by a binary32 scale, exactly; a scale that is no finite number makes it a free value (log 35). -/
def XVal.scale (v : XVal) (q : BitVec 32) : XVal :=
  match f32 q with
  | .fin s m => { v with x := v.x * (FVal.fin s m).rat }
  | _ =>
    let r := Config.badScale v.x q
    { x := r.1, nan := v.nan || r.2.1, posInf := v.posInf || r.2.2.1, negInf := v.negInf || r.2.2.2 }

/-- NaN state of R153: NAN set, or both infinities. -/
def XVal.isNan (v : XVal) : Bool := v.nan || (v.posInf && v.negInf)
def XVal.special (v : XVal) : Bool := v.nan || v.posInf || v.negInf

/-- One rounded output element: code and the two TILE_ACC_FLAGS conditions of R150 and R153. -/
structure OutElem where
  code : Nat
  sat : Bool := false
  special : Bool := false
deriving DecidableEq, Repr

/-- The element code of R153 for a value in a special state. -/
def specialCode (fmt i : Nat) (v : XVal) : Nat :=
  if isInt fmt then 0
  else match fmtOf fmt with
    | none => if v.isNan then Config.nanElem fmt i % 256 else if v.negInf then 0x81 else 0x7F
    | some f =>
      if v.isNan then f.nan.getD (Config.nanElem fmt i % 2 ^ f.w)
      else (if v.negInf then 2 ^ (f.w - 1) else 0) + f.inf.getD f.maxCode

/-- MXINT8: two's complement × 2^-6, saturating at the largest finite magnitude (R130, R152; log 36). -/
def roundMxInt8 (m : Rnd) (x : Rat) : Rounded :=
  let k := roundInt m ((if x < 0 then -x else x) * 64)
  let k' := min k 127
  { code := unsext 8 (if x < 0 then -(k' : Int) else k'), sat := decide (127 < k) }

/-- Round one value to a format without block scale (R149, R150, R151, R153). -/
def roundElem (st : Settings) (fmt i : Nat) (v : XVal) : OutElem :=
  if v.special then { code := specialCode fmt i v, special := true } else
  if isInt fmt then
    let r := roundSInt (fmtBits fmt) (st.rnd i) v.x
    { code := r.code, sat := r.sat }
  else match fmtOf fmt with
    | some f =>
      let r := roundFp f st.sat (st.rnd i) (decide (v.x < 0)) (if v.x < 0 then -v.x else v.x)
      { code := r.code, sat := r.sat }
    | none =>
      let r := roundMxInt8 (st.rnd i) v.x
      { code := r.code, sat := r.sat }

/-- emax_elem of R152. -/
def emaxElem (fmt : Nat) : Int :=
  match fmt with
  | 0x01 => 2 | 0x02 => 2 | 0x03 => 4 | 0x04 => 8 | 0x05 => 15 | _ => 0

/-- A rounded MX block: element codes and the E8M0 scale code. -/
structure OutBlock where
  elems : List OutElem
  scale : Nat
deriving DecidableEq, Repr

/-- The largest magnitude of a list of values. -/
def amax : List XVal → Rat
  | [] => 0
  | v :: vs => max (if v.x < 0 then -v.x else v.x) (amax vs)

/-- Round consecutive elements from index `i`. -/
def roundFrom (f : Nat → XVal → OutElem) : Nat → List XVal → List OutElem
  | _, [] => []
  | i, v :: vs => f i v :: roundFrom f (i + 1) vs

/-- Round one block of 32 values to an MX format (R152, R153). `i` is the index of its first element. -/
def roundBlock (st : Settings) (fmt i : Nat) (vs : List XVal) : OutBlock :=
  let m := amax vs
  let ex : Int := if m = 0 then -127 else max (-127) (min 127 (floorLog2 m - emaxElem fmt))
  let sp := vs.any XVal.special
  let one (j : Nat) (v : XVal) : OutElem :=
    if v.special then { code := specialCode fmt j v, special := true } else
    let x := v.x * pow2 (-ex)
    match fmtOf fmt with
    | some f =>
      let r := roundFp f true (st.rnd j) (decide (x < 0)) (if x < 0 then -x else x)
      { code := r.code, sat := r.sat }
    | none =>
      let r := roundMxInt8 (st.rnd j) x
      { code := r.code, sat := r.sat }
  { elems := roundFrom one i vs, scale := if sp then 0xFF else (ex + 127).toNat }

/-- Pack codes of `w` bits, the first lowest (R131). -/
def packNat (w : Nat) : List Nat → Nat
  | [] => 0
  | c :: cs => c % 2 ^ w + (packNat w cs <<< w)

/-- The bytes of packed codes (R131). -/
def packCodes (w : Nat) (cs : List Nat) : List Byte := le (ceilDiv (w * cs.length) 8) (packNat w cs)

/-- The first `n` codes of `w` bits of packed bytes (R131). -/
def unpackCodes (w n : Nat) (l : List Byte) : List Nat :=
  let x := ofLe (slice l 0 (ceilDiv (w * n) 8))
  tabulate n fun i => bits x (w * i) w

/-- A rounded row: element bytes, scale bytes (MX only), and how often each flag arose. -/
structure OutRow where
  bytes : List Byte
  scales : List Byte
  sat : Bool
  special : Bool
deriving DecidableEq, Repr

/-- Round a row of values to OUT_FMT from element index `i` (R149 to R153). -/
def roundRow (st : Settings) (fmt i : Nat) (vs : List XVal) : OutRow :=
  if isMx fmt then
    let bs := (chunks 32 vs).zipIdx.map fun p => roundBlock st fmt (i + 32 * p.2) p.1
    let es := bs.flatMap OutBlock.elems
    { bytes := packCodes (fmtBits fmt) (es.map OutElem.code), scales := bs.flatMap fun b => le 1 b.scale,
      sat := es.any OutElem.sat, special := es.any OutElem.special }
  else
    let es := roundFrom (roundElem st fmt) i vs
    { bytes := packCodes (fmtBits fmt) (es.map OutElem.code), scales := [],
      sat := es.any OutElem.sat, special := es.any OutElem.special }

/-- fl32 of an exact value: its one rounding to binary32, nearest even (R226, R149, R150, R153). -/
def fl32 (v : XVal) : BitVec 32 :=
  BitVec.ofNat 32 (roundElem { outFmt := 0x12 } 0x12 0 v).code

/-- One matrix operand element: its significand against the block's fixed LSB (or its own), and its special
state (R133, R138). -/
structure MElem where
  m : Int := 0
  u : Int := 0
  nan : Bool := false
  inf : Bool := false
  neg : Bool := false
deriving DecidableEq, Repr

/-- la and lw of R138: the fixed LSB exponent of a block-lane element; 0 for the integers. -/
def lsbExp (fmt : Nat) : Int :=
  match fmt with
  | 0x01 => -1 | 0x02 => -3 | 0x03 => -4 | 0x04 => -9 | 0x06 => -6 | _ => 0

/-- Decode one matrix operand element. `own` picks the element's own LSB exponent (product lanes). -/
def mElem (fmt : Nat) (own : Bool) (c : Nat) : MElem :=
  if fmt = 0x06 ∨ fmt = 0x09 then { m := sext 8 c, u := if fmt = 0x06 then -6 else 0, neg := c.testBit 7 }
  else if fmt = 0x08 then { m := sext 4 c, neg := c.testBit 3 }
  else match fmtOf fmt with
    | none => {}
    | some f =>
      match decodeFp f c with
      | .nan => { nan := true }
      | .inf s => { inf := true, neg := s }
      | .fin s _ =>
        let (k, u) := sigOf f c
        let k' : Int := if own then k else (k : Int) * (2 : Int) ^ (u - lsbExp fmt).toNat
        { m := if s then -k' else k', u := if own then u else lsbExp fmt, neg := s }

/-- The special states a product sets (R133): NAN, POS_INF, NEG_INF. -/
structure Spec3 where
  nan : Bool := false
  pos : Bool := false
  neg : Bool := false
deriving DecidableEq, Repr

/-- One product: its integer, or its special state with 0 (R133). The product of two infinities, which R133 does not name, is
marked by its sign (DESIGN CHOICE, log 141). -/
def mProd (a w : MElem) : Int × Spec3 :=
  if a.nan || w.nan then (0, { nan := true })
  else if a.inf || w.inf then
    if (!a.inf && decide (a.m = 0)) || (!w.inf && decide (w.m = 0)) then (0, { nan := true })
    else if a.neg != w.neg then (0, { neg := true }) else (0, { pos := true })
  else (a.m * w.m, {})

def Window.mark (x : Window) (f : Spec3) : Window :=
  { x with nan := x.nan || f.nan, posInf := x.posInf || f.pos, negInf := x.negInf || f.neg }

end Sys2Proof.Machine
end

