-- ==== Sys2Proof/Machine/StateTile.lean ====
section
/-! DEFINITION. The compute dies' state: tiles, clusters, kernel images (spec/04_compute_tiles.md R115 to
R119, R158 to R160; spec/05_tile_programming.md R161, R162, R195 to R200). -/

namespace Sys2Proof.Machine

/-- TILE_STATE.STATE (R159). -/
inductive TileRun
  | stopped | idle | running | faulted
deriving DecidableEq, Repr

/-- One level of the loop stack (R161, R180): the body is words `start` to `stop - 1`. -/
structure LoopLvl where
  start : Nat
  stop : Nat
  count : Nat
  lc : Nat
deriving DecidableEq, Repr

/-- A resident weight tile (R119, R161, R174): the formats it was loaded under, its dense K, and for each of its
128 columns the kept elements as (K position, code) in K order, with the MX scale codes of the column. -/
structure WTile where
  fmt : Nat
  sparsity : Nat
  k : Nat
  cols : List (List (Nat × Nat))
  scales : List (List Nat)
  occ : Nat × Nat := (1, 1)
deriving DecidableEq, Repr

/-- A tile fault (R191, R192): its code and what its report carries. -/
structure TileFault where
  code : Nat
  addr : Nat := 0
  win : Nat := 0xFF
  fmt : Nat := 0
  ucode : Nat := 0
  arg0 : Nat := 0
  arg1 : Nat := 0
deriving DecidableEq, Repr

/-- A stream descriptor in an engine's queue (R184): the word index of its START and its 64 bytes. -/
abbrev StreamDesc := Nat × List Byte

/-- What a tile waits at (R178, R187). -/
inductive TileWait
  | none
  | bar (scope : Nat) (id : Nat)
  | streams (mask : Nat)
deriving DecidableEq, Repr

/-- One physical tile. -/
structure Tile where
  st : TileRun := .stopped
  v : Tab (BitVec 32) := []          -- register r, lane j under r × 64 + j (R161)
  s : Tab (BitVec 64) := []
  a : Tab (BitVec 32) := []
  p : BitVec 8 := 0#8                -- p1 to p7; p0 reads 1
  lc : Tab Nat := []                 -- the last loop index of each level (R161)
  loops : List LoopLvl := []         -- innermost first
  pc : Nat := 0
  aset : Settings := {}
  win : Tab Window := []             -- row × 128 + column
  current : Option WTile := none
  standby : Option WTile := none
  scratch : Mem := []
  inv : List Byte := []              -- the invocation block (R182)
  streams : Tab (List StreamDesc) := []
  wait : TileWait := .none
  invKey : Option Nat := none        -- the invocation or basket it runs
  rank : Nat := 0                    -- rank of its cluster (s1)
  ranks : List Nat := []             -- the clusters of the invocation, in rank order
  scratchBytes : Nat := 0            -- limits of the resident image (R181)
  csBytes : Nat := 0
  cards : Nat := 0
  code : List Nat := []              -- resident code words
  imem : Nat := 0                    -- TILE_IMEM.HANDLE
  imemPtn : Nat := 0
  accFlags : Nat := 0                -- TILE_ACC_FLAGS
  flagged : Nat := 0                 -- TILE_ACC_FLAGGED
  mmaBusy : Nat := 0                 -- TILE_MMA_BUSY
  scrConflict : Nat := 0             -- TILE_SCR_CONFLICT
  zskip : Nat := 0                   -- TILE_ZSKIP
  faultCode : Nat := 0               -- TILE_FAULT
  faultPc : Nat := 0
  faultInstr : Nat := 0
  faultAddr : Nat := 0
  issueStall : Nat := 0              -- TILE_ISSUE_STALL
  invFlags : Nat := 0                -- TILE_ACC_FLAGS bits set during the running invocation
  invFlagged : Nat := 0              -- outputs flagged during the running invocation
  bytesIn : Nat := 0                 -- window bytes its streams read and wrote in this invocation (R212)
  bytesOut : Nat := 0
  ops : Nat := 0                     -- dense-equivalent operations of this invocation (R212)
  startNow : Nat := 0                -- when its program started
  report : Option TileFault := none  -- a fault the dealer has not received (R190)
  faultAt : Nat := 0
deriving DecidableEq, Repr

/-- One cluster: its shared store, scorecards, ownership and spare state (R115, R118, R160). -/
structure Cluster where
  store : Mem := []
  cards : Tab Card := []
  clockRun : Bool := false
  clearing : Bool := false
  clearStart : Nat := 0
  pendingOwner : Option (Option Nat) := none  -- the partition it joins, if any, once cleared (R405)
  reserve : Nat := 16                -- TILE_CLU_SPARE.RESERVE_PHYS, 31 = none
  retired : Nat := 31                -- TILE_CLU_SPARE.RETIRED_PHYS, 31 = none
  scFlags : Nat := 0                 -- TILE_CLU_SC_FLAGS
  csConflict : Nat := 0
  scConflict : Nat := 0
  lost : Bool := false               -- out of service (R492)
  hung : Bool := false               -- a CLUSTER_HANG not yet followed by a test (R402, R492)
  test : Option Nat := none          -- when the self-test in progress began (R492)
  testedAt : Nat := 0
deriving DecidableEq, Repr

/-- The compute dies: tiles by 17 × cluster + physical index, clusters by global index. -/
structure Comp where
  tiles : Tab Tile := []
  clus : Tab Cluster := []
deriving DecidableEq, Repr

/-- A loaded kernel image (R195, R196). -/
structure Image where
  ptn : Nat
  handle : Nat
  flags : Nat
  entry : Nat
  scratchBytes : Nat
  csBytes : Nat
  cards : Nat
  constAddr : Nat
  timeLimit : Nat
  code : List Nat
  consts : List Byte
  digest : List Byte
  sign : List Byte
  pages : Nat
  unloading : Bool := false
deriving DecidableEq, Repr

end Sys2Proof.Machine
end

