-- ==== Sys2Proof/Machine/Flags.lean ====
section
/-! DEFINITION. The output flags a tile keeps: the bits of TILE_ACC_FLAGS and the count TILE_ACC_FLAGGED
(spec/05_tile_programming.md R159). The flags themselves are computed with the rounding that sets them (Exact.lean). -/
namespace Sys2Proof.Machine

/-- Record output flags (R159): bits of TILE_ACC_FLAGS and the count of flagged outputs. -/
def Tile.flag (t : Tile) (m : Nat) : Tile := { t with accFlags := t.accFlags ||| m, invFlags := t.invFlags ||| m }
def Tile.countFlagged (t : Tile) (n : Nat) : Tile :=
  { t with flagged := satAdd 0xFFFFFFFF t.flagged n, invFlagged := t.invFlagged + n }

end Sys2Proof.Machine
end

