-- ==== Sys2Proof/Machine/Operands.lean ====
section
/-! DEFINITION. The operand forms of tile instruction words: the register files, the fields of a word, the operand
codes, the words that are legal, and scalar sources and destinations (spec/05_tile_programming.md R161 to R165). -/
namespace Sys2Proof.Machine

/-- Scalar registers. -/
def Tile.sreg (t : Tile) (i : Nat) : BitVec 64 := Tab.getD t.s i 0#64
def Tile.setS (t : Tile) (i : Nat) (x : BitVec 64) : Tile := { t with s := Tab.set 0#64 t.s i x }
/-- Address registers. -/
def Tile.areg (t : Tile) (i : Nat) : BitVec 32 := Tab.getD t.a i 0#32
def Tile.setA (t : Tile) (i : Nat) (x : BitVec 32) : Tile := { t with a := Tab.set 0#32 t.a i x }
/-- Predicates: p0 always reads 1 and ignores writes (R161). -/
def Tile.preg (t : Tile) (i : Nat) : Bool := if i = 0 then true else t.p.getLsbD i
def Tile.setP (t : Tile) (i : Nat) (b : Bool) : Tile :=
  if i = 0 ∨ 8 ≤ i then t else { t with p := BitVec.ofNat 8 (setBits t.p.toNat i 1 (b2n b)) }
/-- Vector lanes: lane `j` of the group that starts at register `r` (R169). -/
def Tile.lane (t : Tile) (r j : Nat) : BitVec 32 := Tab.getD t.v (r * 64 + j) 0#32
def Tile.setLane (t : Tile) (r j : Nat) (x : BitVec 32) : Tile :=
  { t with v := Tab.set 0#32 t.v (r * 64 + j) x }
def Tile.lanes (t : Tile) (r n : Nat) : List (BitVec 32) := tabulate n fun j => t.lane r j
def Tile.setLanesFrom (t : Tile) (r : Nat) : Nat → List (BitVec 32) → Tile
  | _, [] => t
  | j, x :: xs => Tile.setLanesFrom (t.setLane r j x) r (j + 1) xs
def Tile.setLanes (t : Tile) (r : Nat) (xs : List (BitVec 32)) : Tile := t.setLanesFrom r 0 xs
/-- Windows of the window file (R161). -/
def Tile.window (t : Tile) (row col : Nat) : Window := Tab.getD t.win (row * 128 + col) {}
def Tile.setWindow (t : Tile) (row col : Nat) (x : Window) : Tile :=
  { t with win := Tab.set {} t.win (row * 128 + col) x }

/-- The guard of a word (R164, R168). -/
def Tile.guard (t : Tile) (w : TileWord) : Bool := t.preg w.pred.toNat != w.pneg

/-- The whole 64-bit word of a row's instruction (R164). -/
def wordOf (cls func : Nat) (w : TileWord) : Nat :=
  cls <<< 60 ||| w.pred.toNat <<< 57 ||| b2n w.pneg <<< 56 ||| func <<< 50 ||| w.body.toNat

/-- A field of the body. -/
def wfld (w : TileWord) (lo n : Nat) : Nat := bits w.body.toNat lo n

/-- R163: sources. -/
def srcCode (c : Nat) : Bool := decide (c < 52)
/-- R163: destinations of a scalar operation. -/
def dstCode (c : Nat) : Bool := decide (c < 40)
def sCode (c : Nat) : Bool := decide (c < 32)
def aCode (c : Nat) : Bool := decide (32 ≤ c ∧ c < 40)
def pCode (c : Nat) : Bool := decide (40 ≤ c ∧ c < 48)
def grp (vl r : Nat) : Bool := decide (r % 2 ^ vl = 0)
/-- The group of packed 16-bit elements of 64 × 2^VL lanes (R170, CVTW, CVTN). -/
def grpHalf (vl r : Nat) : Bool := grp (vl - 1) r

/-- The functions of class VEC that have only the vector form (R170). -/
def vecOnly (f : Nat) : Bool := decide (f ≤ 9 ∨ f = 0x1C ∨ f = 0x20 ∨ f = 0x21)

/-- R165: whether a word is legal. -/
def legalWord (cls func : Nat) (w : TileWord) : Bool :=
  let d := wfld w 44 6
  let a := wfld w 38 6
  let b := wfld w 32 6
  let c := wfld w 26 6
  let vl := wfld w 24 2
  let bsel := wfld w 19 1 = 1
  let typ := decide (wfld w 20 4 < 2)
  match cls with
  | 0 => if func = 0 then decide (wfld w 0 45 = 0) else decide (func = 1 ∧ wfld w 0 41 = 0 ∧ wfld w 45 5 = 0)
  | 1 => decide (func ≤ 6 ∧ wfld w 0 17 = 0)
  | 2 =>
    typ &&
    if func = 0x20 ∨ func = 0x21 then (decide (vl = 3) || grp vl d) && aCode a
    else if func = 0x22 ∨ func = 0x23 then sCode d && aCode a
    else if ¬(func ≤ 9 ∨ (0x10 ≤ func ∧ func ≤ 0x1D)) then false
    else if vl = 3 then
      vecOnly func ||
      (if func = 0x1B then pCode d else dstCode d) &&
      (decide (func = 0x1D) && bsel || srcCode a) &&
      (decide (func = 0x1D) || bsel || srcCode b)
    else if func = 6 then grp vl d && grpHalf vl a
    else if func = 7 then grpHalf vl d && grp vl a
    else if func = 8 ∨ func = 9 then grp vl d && grp vl a
    else
      grp vl d && (decide (func = 0x1D) && bsel || grp vl a) &&
      (decide (func = 0x1D) || bsel || grp vl b) && (!decide (func = 0 ∨ func = 0x1C) || grp vl c)
  | 3 => decide (func ≤ 5) && typ && (decide (vl = 3) || grp vl d && grp vl a)
  | 4 => decide (func ≤ 1) && aCode a && aCode d && sCode b && sCode c && typ
  | 5 => decide (func ≤ 6 ∧ wfld w 0 14 = 0) && (!decide (func = 1 ∨ func = 2) || decide (wfld w 14 2 = 3) || grp (wfld w 14 2) d)
  | 6 =>
    decide (func ≤ 8) && typ && (decide (vl = 3) || grp vl a) &&
    (if func ≤ 1 then decide (vl = 3) || grp vl d
     else if func = 2 then decide (vl = 3) || grp vl d && grp vl c
     else if func ≤ 6 then sCode d else pCode d)
  | 7 =>
    if func = 0 then decide (wfld w 0 26 = 0)
    else if func = 1 then decide (wfld w 0 14 = 0)
    else decide (func = 2 ∧ w.body = 0#50)
  | 8 => decide (func = 0 ∧ wfld w 0 45 = 0)
  | 9 => decide (func = 0 ∧ wfld w 0 24 = 0)
  | _ => false

/-- Whether the operands of a legal word are in the range its chapter gives: the form of a function that has only one, TYPE
0 of SFU, the VL of ADDVF and ADDVI, a LOOP body of at least one word, a SCOPE of the table. A word out of range raises
PARAM when it executes (R169 to R172, R177, R179, R191). -/
def formOk (cls func : Nat) (w : TileWord) : Bool :=
  let vl := wfld w 24 2
  match cls with
  | 2 => if func = 0x22 ∨ func = 0x23 then decide (vl = 3) else !(vecOnly func) || decide (vl < 3)
  | 3 => decide (vl < 3 ∧ wfld w 20 4 = 0)
  | 5 => !decide (func = 1 ∨ func = 2) || decide (wfld w 14 2 < 3)
  | 6 => decide (vl < 3)
  | 7 => !decide (func = 1) || decide (1 ≤ wfld w 14 14)
  | 8 => decide (wfld w 48 2 < 2)
  | _ => true

/-- A scalar source (R163). An inactive loop level reads a free value of the program's state (log 37). -/
def Tile.src (t : Tile) (c : Nat) : BitVec 64 :=
  if c < 32 then t.sreg c
  else if c < 40 then (t.areg (c - 32)).setWidth 64
  else if c < 48 then BitVec.ofNat 64 (b2n (t.preg (c - 40)))
  else if c - 48 < t.loops.length then BitVec.ofNat 64 (Tab.getD t.lc (c - 48) 0)
  else BitVec.ofNat 64 (Config.idleLc t.code t.pc (c - 48) t.lc % 2 ^ 32)

/-- A scalar destination (R163). -/
def Tile.dst (t : Tile) (c : Nat) (x : BitVec 64) : Tile :=
  if c < 32 then t.setS c x
  else if c < 40 then t.setA (c - 32) (x.setWidth 32)
  else t.setP (c - 40) (x.getLsbD 0)

end Sys2Proof.Machine
end

