-- ==== Sys2Proof/Machine/TileOps.lean ====
section
/-! DEFINITION. Shared operations of the tile instructions: tile memory, the program counter and the loop stack, and
tile faults (spec/05_tile_programming.md R167, R168, R179 to R183, R190, R191). -/

namespace Sys2Proof.Machine

/-- The physical tile that serves logical index `t` (R117): a retired tile's index is served by the former
reserve, physical tile 16. -/
def Cluster.phys (c : Cluster) (t : Nat) : Nat := if c.retired = t then 16 else t

/-- The logical index a physical tile serves, if any (R117, R159). -/
def Cluster.logical (c : Cluster) (p : Nat) : Option Nat :=
  if c.reserve = p ∨ c.retired = p then none
  else if p = 16 then (if c.retired < 16 then some c.retired else none) else some p

def Comp.clu (c : Comp) (g : Nat) : Cluster := Tab.getD c.clus g {}
def Comp.setClu (c : Comp) (g : Nat) (x : Cluster) : Comp := { c with clus := Tab.set {} c.clus g x }
/-- The key of logical tile `t` of cluster `g`. -/
def Comp.key (c : Comp) (g t : Nat) : Nat := 17 * g + (c.clu g).phys t
def Comp.tile (c : Comp) (g t : Nat) : Tile := Tab.getD c.tiles (c.key g t) {}
def Comp.setTile (c : Comp) (g t : Nat) (x : Tile) : Comp := { c with tiles := Tab.set {} c.tiles (c.key g t) x }

/-- A tile operation: a new value of the compute state, or a tile fault (R190). -/
abbrev TRes (α : Type) := Except TileFault α

def tfault {α : Type} (code : Nat) (addr : Nat := 0) : TRes α := .error { code := code, addr := addr }

/-- Fault codes of R191. -/
def fIllegal : Nat := 0x01
def fFormat : Nat := 0x02
def fParam : Nat := 0x03
def fWindow : Nat := 0x04
def fBounds : Nat := 0x05
def fAccess : Nat := 0x06
def fMisalign : Nat := 0x07
def fData : Nat := 0x08
def fPoison : Nat := 0x09
def fLoop : Nat := 0x0A
def fLimit : Nat := 0x0B
def fUser : Nat := 0x0C
def fSync : Nat := 0x0D

def fmtFault {α : Type} (fmt : Nat) : TRes α := .error { code := fFormat, fmt := fmt }

/-- Kinds of tile memory (R181). -/
inductive TSpace
  | scratch | block | store
deriving DecidableEq, Repr

/-- Where a tile address range lies (R181). -/
def Tile.locate (t : Tile) (addr n : Nat) : Option TSpace :=
  if addr + n ≤ t.scratchBytes then some .scratch
  else if 0x1FF000 ≤ addr ∧ addr + n ≤ 0x200000 then some .block
  else if 0x400000 ≤ addr ∧ addr + n ≤ 0x400000 + t.csBytes then some .store
  else none

/-- Read tile memory (R181): outside the ranges a BOUNDS fault. -/
def tread (t : Tile) (c : Cluster) (addr n : Nat) : TRes (List Byte) :=
  match t.locate addr n with
  | some .scratch => .ok (Mem.reads zeroByte t.scratch addr n)
  | some .block => .ok (slice t.inv (addr - 0x1FF000) n)
  | some .store => .ok (Mem.reads zeroByte c.store (addr - 0x400000) n)
  | none => tfault fBounds addr

/-- Write tile memory (R181): into the invocation block an ACCESS fault. -/
def twrite (t : Tile) (c : Cluster) (addr : Nat) (bs : List Byte) : TRes (Tile × Cluster) :=
  match t.locate addr bs.length with
  | some .scratch => .ok ({ t with scratch := Mem.writes zeroByte t.scratch addr bs }, c)
  | some .block => tfault fAccess addr
  | some .store => .ok (t, { c with store := Mem.writes zeroByte c.store (addr - 0x400000) bs })
  | none => tfault fBounds addr

/-- Leave every loop level whose body ends at the next word, or go back to its start (R180). -/
def Tile.loopEnd (t : Tile) : Nat → Tile
  | 0 => t
  | f + 1 =>
    match t.loops with
    | [] => t
    | l :: ls =>
      if t.pc = l.stop then
        if l.lc + 1 < l.count then
          { t with pc := l.start, loops := { l with lc := l.lc + 1 } :: ls,
                   lc := Tab.set 0 t.lc ls.length (l.lc + 1) }
        else Tile.loopEnd { t with loops := ls } f
      else t

/-- Go on at word `n`, the end of the code space included: a body may end there (R179, R180). -/
def Tile.goOn (t : Tile) (n : Nat) : Tile :=
  let x := Tile.loopEnd { t with pc := n } 4
  { x with pc := x.pc % 2 ^ 14 }
/-- Advance to the next word (R180). -/
def Tile.next (t : Tile) : Tile := t.goOn (t.pc + 1)

/-- What an instruction does to its tile and cluster. -/
abbrev TileFn := Tile → Cluster → TRes (Tile × Cluster)

/-- Record a tile fault in the tile's registers (R190, R200). -/
def Tile.faulted (t : Tile) (word : Nat) (f : TileFault) : Tile :=
  { t with st := .faulted, faultCode := f.code, faultPc := t.pc, faultInstr := word, faultAddr := f.addr % 2 ^ 32 }

/-- The mark of an instruction that waits for a resource: no fault, no effect, the word issues again later
(R167, R175, R178). -/
def tWait {α : Type} : TRes α := .error { code := 0 }

/-- Run one instruction on a running tile that waits for nothing: legality (R165), guard (R168), operand ranges (R191),
effect `k`, which also moves the program counter. A fault leaves the effect out (R190) and is answered beside the state. -/
def Comp.issueRaw (c : Comp) (g t : Nat) (cls func : Nat) (w : TileWord) (k : TileFn) : Comp × Option TileFault :=
  let x := c.tile g t
  if x.st ≠ .running ∨ x.wait ≠ .none then (c, none)
  else if legalWord cls func w = false then
    (c.setTile g t (x.faulted (wordOf cls func w) { code := fIllegal }), some { code := fIllegal })
  else if x.guard w = false then (c.setTile g t x.next, none)
  else if formOk cls func w = false then
    (c.setTile g t (x.faulted (wordOf cls func w) { code := fParam }), some { code := fParam })
  else
    match k x (c.clu g) with
    | .ok (y, z) => ((c.setClu g z).setTile g t y, none)
    | .error f =>
      if f.code = 0 then (c, none) else (c.setTile g t (x.faulted (wordOf cls func w) f), some f)

/-- An effect followed by the step to the next word. -/
def andNext (k : TileFn) : TileFn := fun t c =>
  match k t c with
  | .ok (y, z) => .ok (y.next, z)
  | .error f => .error f

/-- Run one instruction that steps to the next word. -/
def Comp.issue (c : Comp) (g t : Nat) (cls func : Nat) (w : TileWord) (k : TileFn) : Comp × Option TileFault :=
  c.issueRaw g t cls func w (andNext k)

end Sys2Proof.Machine
end

