-- ==== Sys2Proof/Machine/Elbs.lean ====
section
/-! DEFINITION. The EL-BS and EL-NM storage formats (spec/04_compute_tiles.md R134, R135), read through a
reader of bytes so that tiles and stock kernels share them. -/

namespace Sys2Proof.Machine

/-- A reader of `n` bytes at an offset. -/
abbrev Reader := Nat → Nat → TRes (List Byte)

/-- The header of an EL-BS tensor (R135). -/
structure ElbsHdr where
  fmt : Nat
  rows : Nat
  cols : Nat
  payload : Nat
deriving DecidableEq, Repr

/-- The element formats EL-BS may hold (R135). -/
def elbsFmt (f : Nat) : Bool := isMx f || decide (f = 0x08 ∨ f = 0x09 ∨ f = 0x10 ∨ f = 0x11)

/-- Read the header; an element format outside the table raises FORMAT (R135). -/
def elbsHdr (rd : Reader) : TRes ElbsHdr :=
  match rd 0 64 with
  | .error e => .error e
  | .ok l =>
    let h : ElbsHdr := { fmt := field l 0 1, rows := field l 4 4, cols := field l 8 4, payload := field l 16 8 }
    if elbsFmt h.fmt && decide (field l 1 1 = 1 ∧ h.rows % 64 = 0 ∧ h.cols % 64 = 0) then .ok h else fmtFault h.fmt

/-- The number of super-blocks, and where the payload starts: records are 64 B-aligned, so it starts at the
next 64 B boundary after the table (log 39). -/
def ElbsHdr.count (h : ElbsHdr) : Nat := (h.rows / 64) * (h.cols / 64)
def ElbsHdr.base (h : ElbsHdr) : Nat := 64 + roundUp (4 * h.count) 64

/-- One super-block: its occupancy map, its scales, and the codes of its stored micro-blocks by map bit. -/
structure Super where
  map : Nat
  scales : List Byte
  blocks : Tab (List Nat)
deriving DecidableEq, Repr

/-- Spread packed micro-blocks over the ones of the map, in ascending bit order. -/
def spreadBlocks (w : Nat) (map : Nat) (l : List Byte) : Nat → Nat → Tab (List Nat)
  | 0, _ => []
  | f + 1, i =>
    if bit map i then (i, unpackCodes w 16 l) :: spreadBlocks w map (l.drop (2 * w)) f (i + 1)
    else spreadBlocks w map l f (i + 1)

/-- Read super-block `n` in row-major order; a record outside PAYLOAD_BYTES raises FORMAT (R135). -/
def elbsSuper (rd : Reader) (h : ElbsHdr) (n : Nat) : TRes Super :=
  let w := fmtBits h.fmt
  let sc := if isMx h.fmt then 128 else 0
  match rd (64 + 4 * n) 4 with
  | .error e => .error e
  | .ok o =>
    let off := 64 * ofLe o
    if h.payload < off + 32 + sc then fmtFault h.fmt else
    match rd (h.base + off) (32 + sc) with
    | .error e => .error e
    | .ok hd =>
      let map := field hd 0 32
      let len := 2 * w * popcount 256 map
      if h.payload < off + 32 + sc + len then fmtFault h.fmt else
      match rd (h.base + off + 32 + sc) len with
      | .error e => .error e
      | .ok l => .ok { map := map, scales := hd.drop 32, blocks := spreadBlocks w map l 256 0 }

/-- The code of an element of a super-block, if its micro-block is stored. -/
def Super.elem (b : Super) (r c : Nat) : Option Nat :=
  match Tab.get? b.blocks (16 * (r / 4) + c / 4) with
  | some l => l[4 * (r % 4) + c % 4]?
  | none => none

/-- Whether the 16 × 16 block of an element is occupied (R136). -/
def Super.occupiedAt (b : Super) (r c : Nat) : Bool :=
  (List.range 16).any fun m => bit b.map (16 * (4 * (r / 16) + m / 4) + 4 * (c / 16) + m % 4)

/-- The scale code of row `r`, K half `h` (R135). -/
def Super.scale (b : Super) (r h : Nat) : Nat := field b.scales (2 * r + h) 1

/-- How many of the sixteen 16 × 16 blocks of a super-block are occupied (R136): block (i, j) covers
micro-block rows 4i to 4i + 3 and columns 4j to 4j + 3. -/
def Super.occupied (b : Super) : Nat :=
  ((List.range 16).filter fun q =>
    (List.range 16).any fun m => bit b.map (16 * (4 * (q / 4) + m / 4) + 4 * (q % 4) + m % 4)).length

/-- Collect a list of results, stopping at the first fault. -/
def collect {α β : Type} (f : α → TRes β) : List α → TRes (List β)
  | [] => .ok []
  | x :: xs =>
    match f x with
    | .error e => .error e
    | .ok y =>
      match collect f xs with
      | .error e => .error e
      | .ok ys => .ok (y :: ys)

/-- The kept positions of one EL-NM column from its metadata (R134): groups of 4 dense positions, two kept
indices of 2 bits each at 2:4 (FORMAT where they do not rise), one at 1:4. -/
def nmPositions (two : Bool) (fmt : Nat) (md : Nat) : Nat → Nat → TRes (List Nat)
  | 0, _ => .ok []
  | f + 1, g =>
    let here : TRes (List Nat) :=
      if two then
        let i := bits md (4 * g) 2
        let j := bits md (4 * g + 2) 2
        if j ≤ i then fmtFault fmt else .ok [4 * g + i, 4 * g + j]
      else .ok [4 * g + bits md (2 * g) 2]
    match here, nmPositions two fmt md f (g + 1) with
    | .ok a, .ok b => .ok (a ++ b)
    | .error e, _ => .error e
    | _, .error e => .error e

end Sys2Proof.Machine
end

