-- ==== Sys2Proof/Machine/TileMma.lean ====
section
/-! DEFINITION. Class MMA: weight loads, runs, windows (spec/05_tile_programming.md R174 to R176;
spec/04_compute_tiles.md R119 to R123, R132 to R143, R149). -/

namespace Sys2Proof.Machine

def mX (w : TileWord) : Nat := wfld w 47 3
def mY (w : TileWord) : Nat := wfld w 44 3
def mZ (w : TileWord) : Nat := wfld w 41 3
def mSP (w : TileWord) : Nat := wfld w 36 5
def mSQ (w : TileWord) : Nat := wfld w 31 5
def mRow (w : TileWord) : Nat := wfld w 24 7
def mRows (w : TileWord) : Nat := wfld w 17 7 + 1

/-- The classes of the matrix unit (R119): 4-bit, 6-bit and 8-bit, 16-bit. -/
inductive MClass
  | c4 | c8 | c16
deriving DecidableEq, Repr

/-- Dense K per row of a class (R119). -/
def MClass.k : MClass → Nat
  | .c4 => 256
  | .c8 => 128
  | .c16 => 64

/-- The MX formats whose elements have a fixed LSB (R120, block lanes). -/
def blockMx (f : Nat) : Bool := decide (f = 1 ∨ f = 2 ∨ f = 3 ∨ f = 4 ∨ f = 6)

/-- The accepted operand pairs, their class and lane kind (R120); `true` = product lanes. -/
def pairOf (a w : Nat) : Option (MClass × Bool) :=
  if a = 1 ∧ w = 1 then some (.c4, false)
  else if a = 8 ∧ w = 8 then some (.c4, false)
  else if blockMx a ∧ blockMx w then some (.c8, false)
  else if (a = 5 ∧ isMx w) ∨ (isMx a ∧ w = 5) then some (.c8, true)
  else if (a = 8 ∨ a = 9) ∧ w = 9 then some (.c8, false)
  else if a = 9 ∧ w = 8 then some (.c8, false)
  else if (a = 0x10 ∧ w = 0x10) ∨ (a = 0x11 ∧ w = 0x11) then some (.c16, true)
  else none

/-- Kept elements per column and dense K of one weight tile (R119, R134, R137). -/
def keptK (cl : MClass) (sp : Nat) : Nat × Nat :=
  match sp with
  | 1 => (cl.k, 2 * cl.k)
  | 2 => (cl.k * 7 / 8, cl.k * 7 / 2)
  | _ => (cl.k, cl.k)

/-- Rows in range (R174). -/
def rowsOk (w : TileWord) : Bool := decide (mRow w + mRows w ≤ 128)

/-- A tile address, modulo 2^32 (R161). -/
def rowAddr (a : BitVec 32) (i : Nat) (stride : BitVec 64) : Nat := (a.toNat + i * stride.toNat) % 2 ^ 32

/-- Read one dense or EL-NM column from the element, scale and metadata arrays (R131, R134, R174). -/
def wldColumn (t : Tile) (c : Cluster) (cl : MClass) (fmt sp x y z n : Nat) : TRes (List (Nat × Nat) × List Nat) :=
  let (kept, dense) := keptK cl sp
  let eb := kept * fmtBits fmt / 8
  match tread t c ((x + n * eb) % 2 ^ 32) eb with
  | .error e => .error e
  | .ok el =>
    let codes := unpackCodes (fmtBits fmt) kept el
    let scales : TRes (List Nat) :=
      if isMx fmt then
        match tread t c ((y + n * (dense / 32)) % 2 ^ 32) (dense / 32) with
        | .error e => .error e
        | .ok l => .ok (l.map BitVec.toNat)
      else .ok []
    let pos : TRes (List Nat) :=
      if sp = 1 ∨ sp = 2 then
        let mb := if sp = 1 then dense / 8 else dense / 16
        match tread t c ((z + n * mb) % 2 ^ 32) mb with
        | .error e => .error e
        | .ok l => nmPositions (decide (sp = 1)) fmt (ofLe l) (dense / 4) 0
      else .ok (List.range dense)
    match scales, pos with
    | .ok s, .ok p => .ok (p.zip codes, s)
    | .error e, _ => .error e
    | _, .error e => .error e

/-- Element and scale lookups of one EL-BS column over the super-blocks of a slice: in an occupied 16 × 16 block the absent
micro-blocks are zeros, other blocks take part in nothing (R136). -/
def elbsColumn (supers : Tab Super) (h : ElbsHdr) (col k0 k : Nat) : List (Nat × Nat) :=
  (List.range k).filterMap fun i =>
    let kk := k0 + i
    match Tab.get? supers ((col / 64) * (h.cols / 64) + kk / 64) with
    | some b => if kk < h.cols ∧ col < h.rows then 
        if b.occupiedAt (col % 64) (kk % 64) then some (i, (b.elem (col % 64) (kk % 64)).getD 0) else none
      else none
    | none => none

def elbsScales (supers : Tab Super) (h : ElbsHdr) (col k0 k : Nat) : List Nat :=
  tabulate (k / 32) fun b =>
    let kk := k0 + 32 * b
    if kk < h.cols ∧ col < h.rows then
      match Tab.get? supers ((col / 64) * (h.cols / 64) + kk / 64) with
      | some u => u.scale (col % 64) (kk % 64 / 32)
      | none => 0
    else 0

/-- The super-blocks a slice of 128 columns from `col0` and `k` positions from `k0` touches. -/
def elbsNeeded (h : ElbsHdr) (col0 k0 k : Nat) : List Nat :=
  (List.range (h.count)).filter fun n =>
    let r := n / (h.cols / 64)
    let q := n % (h.cols / 64)
    decide (col0 / 64 ≤ r ∧ r < col0 / 64 + 2 ∧ k0 / 64 ≤ q ∧ 64 * q < k0 + k)

/-- WLD (R174, R175): loads STANDBY; waits while STANDBY holds a tile no RUN has taken. -/
def tWld (w : TileWord) : TileFn := fun t c =>
  let st := t.aset
  if rowsOk w = false then tfault fParam else
  match pairOf st.aFmt st.wFmt with
  | none => fmtFault st.wFmt
  | some (cl, _) =>
    if t.standby.isSome then tWait else
    let x := (t.areg (mX w)).toNat
    let y := (t.areg (mY w)).toNat
    let z := (t.areg (mZ w)).toNat
    if st.sparsity = 3 then
      let rd : Reader := fun o n => tread t c ((x + o) % 2 ^ 32) n
      let col0 := (t.sreg (mSP w)).toNat
      let k0 := (t.sreg (mSQ w)).toNat
      if col0 % 64 ≠ 0 ∨ k0 % 64 ≠ 0 ∨ 8 < mRows w then tfault fParam else
      let k := mRows w * cl.k
      match elbsHdr rd with
      | .error e => .error e
      | .ok h =>
        if h.fmt ≠ st.wFmt then fmtFault h.fmt
        else if h.rows ≤ col0 ∨ h.cols ≤ k0 then tfault fParam else
        let need := elbsNeeded h col0 k0 k
        match collect (elbsSuper rd h) need with
        | .error e => .error e
        | .ok bs =>
          let supers := need.zip bs
          let occ := (bs.map Super.occupied).foldl (· + ·) 0
          let wt : WTile :=
            { fmt := h.fmt, sparsity := 3, k := k,
              cols := tabulate 128 fun n => elbsColumn supers h (col0 + n) k0 k,
              scales := tabulate 128 fun n => elbsScales supers h (col0 + n) k0 k,
              occ := (occ, 16 * bs.length) }
          .ok ({ t with standby := some wt }, c)
    else
      match collect (wldColumn t c cl st.wFmt st.sparsity x y z) (List.range 128) with
      | .error e => .error e
      | .ok cs =>
        let wt : WTile :=
          { fmt := st.wFmt, sparsity := st.sparsity, k := (keptK cl st.sparsity).2, cols := cs.map Prod.fst,
            scales := cs.map Prod.snd }
        .ok ({ t with standby := some wt }, c)

/-- One lane sum of a window: the special states and (L, e) (R133, R138). -/
structure Lane where
  l : Int
  e : Int
  sp : Spec3 := {}
deriving DecidableEq, Repr

def Spec3.or (a b : Spec3) : Spec3 := { nan := a.nan || b.nan, pos := a.pos || b.pos, neg := a.neg || b.neg }

/-- The value a scale code stands for as an exponent (R130): code − 127. -/
def scaleExp (c : Nat) : Int := (c : Int) - 127

/-- The products of one list of (position, weight code) against a row's codes. -/
def prods (aFmt wFmt : Nat) (own : Bool) (row : List Nat) (ws : List (Nat × Nat)) : List (MElem × MElem) :=
  ws.map fun p => (mElem aFmt own ((row[p.1]?).getD 0), mElem wFmt own p.2)

/-- The lane sums of one output in ascending K (R138, R176). -/
def laneSums (aFmt : Nat) (wt : WTile) (prod : Bool) (row : List Nat) (aScale : List Nat) (col : List (Nat × Nat))
    (wScale : List Nat) : List Lane :=
  let blocks := List.range (ceilDiv wt.k 32)
  blocks.flatMap fun b =>
    let ws := col.filter fun p => decide (p.1 / 32 = b)
    let sa := (aScale[b]?).getD 127
    let sw := (wScale[b]?).getD 127
    let bad := (isMx aFmt && decide (sa = 0xFF)) || (isMx wt.fmt && decide (sw = 0xFF))
    let se := (if isMx aFmt then scaleExp sa else 0) + (if isMx wt.fmt then scaleExp sw else 0)
    if ws.isEmpty then []
    else if bad then [{ l := 0, e := 0, sp := { nan := true } }]
    else
      let ps := prods aFmt wt.fmt prod row ws
      if prod then
        ps.map fun p => { l := (mProd p.1 p.2).1, e := se + p.1.u + p.2.u, sp := (mProd p.1 p.2).2 }
      else
        [ps.foldl (fun acc p => { acc with l := acc.l + (mProd p.1 p.2).1, sp := acc.sp.or (mProd p.1 p.2).2 })
          { l := 0, e := se + lsbExp aFmt + lsbExp wt.fmt }]

/-- Feed lane sums into a window; under EXACT_OR_FAULT the first flagged window stops (R139, R141). -/
def feed (fault : Bool) : Window → List Lane → TRes Window
  | x, [] => .ok x
  | x, l :: ls =>
    let y := (x.take l.l l.e).mark l.sp
    if fault && y.exceeded && !x.exceeded then tfault fWindow else feed fault y ls

/-- Feed one A row into the 128 windows of a row. -/
def feedRow (fault : Bool) (aFmt : Nat) (wt : WTile) (prod : Bool) (row aScale : List Nat) (r : Nat) :
    Tile → List ((List (Nat × Nat) × List Nat) × Nat) → TRes Tile
  | t, [] => .ok t
  | t, ((col, ws), n) :: rest =>
    match feed fault (t.window r n) (laneSums aFmt wt prod row aScale col ws) with
    | .error e => .error e
    | .ok x => feedRow fault aFmt wt prod row aScale r (t.setWindow r n x) rest

/-- Groups of 16 consecutive K elements of a row that are all zero (R122). -/
def zeroGroups (aFmt : Nat) (row : List Nat) : Nat :=
  ((chunks 16 row).filter fun g => g.all fun c =>
    let e := mElem aFmt true c
    decide (e.m = 0) && !e.nan && !e.inf).length

/-- The A rows of a RUN from row `i`. -/
def runRows (w : TileWord) (wt : WTile) (prod : Bool) : Nat → Nat → Tile → Cluster → TRes Tile
  | 0, _, t, _ => .ok t
  | f + 1, i, t, c =>
    let st := t.aset
    let xa := rowAddr (t.areg (mX w)) i (t.sreg (mSP w))
    let ya := rowAddr (t.areg (mY w)) i (t.sreg (mSQ w))
    match tread t c xa (wt.k * fmtBits st.aFmt / 8), (if isMx st.aFmt then tread t c ya (wt.k / 32) else .ok []) with
    | .error e, _ => .error e
    | _, .error e => .error e
    | .ok el, .ok sl =>
      let row := unpackCodes (fmtBits st.aFmt) wt.k el
      let z := zeroGroups st.aFmt row
      let dense := ceilDiv wt.k (if wt.fmt = 1 ∧ st.aFmt = 1 ∨ wt.fmt = 8 ∧ st.aFmt = 8 then 256 else if st.aFmt < 0x10 then 128 else 64)
      let busy := if z = ceilDiv wt.k 16 then 0
        else if wt.sparsity = 3 then ceilDiv (max (8 * dense * wt.occ.1) (dense * wt.occ.2)) (8 * max 1 wt.occ.2)
        else 1
      match feedRow st.accFault st.aFmt wt prod row (sl.map BitVec.toNat) (mRow w + i) t ((wt.cols.zip wt.scales).zipIdx) with
      | .error e => .error e
      | .ok t' =>
        runRows w wt prod f (i + 1)
          { t' with mmaBusy := wrapAdd 32 t'.mmaBusy busy, zskip := wrapAdd 32 t'.zskip z,
                    ops := t'.ops + 2 * 128 * wt.k } c

/-- RUN (R174, R175): the first RUN after a WLD swaps STANDBY into CURRENT. -/
def tRun (w : TileWord) : TileFn := fun t c =>
  if rowsOk w = false then tfault fParam else
  let t1 := match t.standby with
    | some x => { t with current := some x, standby := none }
    | none => t
  match t1.current with
  | none => tfault fParam
  | some wt =>
    match pairOf t1.aset.aFmt wt.fmt with
    | none => fmtFault t1.aset.aFmt
    | some (_, prod) =>
      match runRows w wt prod (mRows w) 0 t1 c with
      | .error e => .error e
      | .ok t' => .ok (t', c)

/-- A function over the windows of the rows of an instruction. -/
def overRows (w : TileWord) (f : Tile → Nat → Nat → Tile) (t : Tile) : Tile :=
  (List.range (mRows w)).foldl (fun t i => (List.range 128).foldl (fun t n => f t (mRow w + i) n) t) t

/-- WCLR (R174). -/
def tWclr (w : TileWord) : TileFn := fun t c =>
  if rowsOk w = false then tfault fParam else .ok (overRows w (fun t r n => t.setWindow r n {}) t, c)

/-- WSPILL (R174): 128 records of each row. -/
def spillRows (w : TileWord) : Nat → Nat → Tile → Cluster → TRes (Tile × Cluster)
  | 0, _, t, c => .ok (t, c)
  | f + 1, i, t, c =>
    let a := rowAddr (t.areg (mX w)) i (t.sreg (mSP w))
    match twrite t c a ((List.range 128).flatMap fun n => (t.window (mRow w + i) n).record) with
    | .error e => .error e
    | .ok (t', c') => spillRows w f (i + 1) t' c'
def tWspill (w : TileWord) : TileFn := fun t c =>
  if rowsOk w = false then tfault fParam else spillRows w (mRows w) 0 t c

/-- WREST (R174). -/
def restRows (w : TileWord) : Nat → Nat → Tile → Cluster → TRes Tile
  | 0, _, t, _ => .ok t
  | f + 1, i, t, c =>
    let a := rowAddr (t.areg (mX w)) i (t.sreg (mSP w))
    match tread t c a 4096 with
    | .error e => .error e
    | .ok l =>
      restRows w f (i + 1)
        (((chunks 32 l).zipIdx).foldl (fun t p => t.setWindow (mRow w + i) p.2 (Window.ofRecord p.1)) t) c
def tWrest (w : TileWord) : TileFn := fun t c =>
  if rowsOk w = false then tfault fParam else
  match restRows w (mRows w) 0 t c with
  | .error e => .error e
  | .ok t' => .ok (t', c)

/-- SETFMT (R174): 16 bytes at a 16 B boundary. -/
def tSetfmt (w : TileWord) : TileFn := fun t c =>
  let a := (t.areg (mX w)).toNat
  if rowsOk w = false then tfault fParam else
  if a % 16 ≠ 0 then tfault fMisalign a else
  match tread t c a 16 with
  | .error e => .error e
  | .ok l => .ok ({ t with aset := Settings.ofBytes l }, c)

/-- The rounding formats a step may use (R130, R148): a reserved ROUND or a format outside column O faults. -/
def roundOk (st : Settings) (fmt : Nat) : Bool := decide (st.round < 2) && fmtO fmt && decide (fmt ≠ 0x30)

/-- WRND (R174, R149 to R153). -/
def rndRows (w : TileWord) (scales : List Byte) : Nat → Nat → Tile → Cluster → TRes (Tile × Cluster)
  | 0, _, t, c => .ok (t, c)
  | f + 1, i, t, c =>
    let st := t.aset
    let r := mRow w + i
    let q (base n : Nat) : BitVec 32 := BitVec.ofNat 32 (field scales (base + 4 * n) 4)
    let val (n : Nat) : XVal :=
      let v := (t.window r n).xval
      let v := if isInt st.aFmt then (v.scale (q 0 r)).scale (q 512 n) else v
      if isInt st.outFmt then v.scale (q 1024 n) else v
    let row := roundRow st st.outFmt (128 * r) (tabulate 128 val)
    let ovfl := ((List.range 128).filter fun n => (t.window r n).exceeded).length
    let m := (if ovfl = 0 then 0 else 1) + (if row.special then 4 else 0) + (if row.sat then 8 else 0)
    match twrite t c (rowAddr (t.areg (mX w)) i (t.sreg (mSP w))) row.bytes with
    | .error e => .error e
    | .ok (t1, c1) =>
      match (if isMx st.outFmt then twrite t1 c1 (rowAddr (t.areg (mZ w)) i (t.sreg (mSQ w))) row.scales
             else .ok (t1, c1)) with
      | .error e => .error e
      | .ok (t2, c2) => rndRows w scales f (i + 1) ((t2.flag m).countFlagged ovfl) c2

def tWrnd (w : TileWord) : TileFn := fun t c =>
  if rowsOk w = false then tfault fParam
  else if roundOk t.aset t.aset.outFmt = false then fmtFault t.aset.outFmt
  else
    match (if isInt t.aset.aFmt || isInt t.aset.outFmt then tread t c (t.areg (mY w)).toNat 1536 else .ok []) with
    | .error e => .error e
    | .ok sc => rndRows w sc (mRows w) 0 t c

end Sys2Proof.Machine
end

