-- ==== Sys2Proof/Machine/TileCtl.lean ====
section
/-! DEFINITION. Classes SCORE, STREAM (issue side), BRANCH/LOOP, SYNC and FAULT
(spec/05_tile_programming.md R177 to R180, R184, R187, R189). -/

namespace Sys2Proof.Machine

def scV (w : TileWord) : Nat := wfld w 44 6
def scAreg (w : TileWord) : Nat := wfld w 41 3
def scSI (w : TileWord) : Nat := wfld w 36 5
def scRank (w : TileWord) : Nat := wfld w 30 6
def scRow (w : TileWord) : Nat := wfld w 23 7
def scRows (w : TileWord) : Nat := wfld w 16 7 + 1
def scVL (w : TileWord) : Nat := wfld w 14 2

/-- The cluster a CRANK names (R177): 32 is the tile's own; 0 to 31 a rank below s2; else PARAM. -/
def rankCluster (t : Tile) (own : Nat) (r : Nat) : TRes Nat :=
  if r = 32 then .ok own
  else match t.ranks[r]? with
    | some g => if r < 32 then .ok g else tfault fParam
    | none => tfault fParam

/-- Scorecard indices `base` to `base + n - 1`: above 16,383 PARAM, at or above SCORECARDS BOUNDS (R177). -/
def cardRange (t : Tile) (base n : Nat) : TRes Unit :=
  if 16384 < base + n then tfault fParam
  else if t.cards < base + n then tfault fBounds else .ok ()

def Cluster.card (c : Cluster) (i : Nat) : Card := Tab.getD c.cards i {}
def Cluster.setCard (c : Cluster) (i : Nat) (x : Card) : Cluster := { c with cards := Tab.set {} c.cards i x }

/-- Apply a contribution to one scorecard, raising the cluster's SC_RANGE and SC_COUNT (R160). A contribution to a
scorecard that already holds the flag raises the bit again after a W1C clear (DESIGN CHOICE, log 142: R160 does not say). -/
def Cluster.contrib (c : Cluster) (i : Nat) (f : Card → Card) : Cluster :=
  let y := f (c.card i)
  let m := (if y.range then 1 else 0) + (if y.ovfl then 2 else 0)
  { c.setCard i y with scFlags := c.scFlags ||| m }

/-- Contributions to consecutive scorecards. -/
def Cluster.contribs (c : Cluster) : Nat → List (Card → Card) → Cluster
  | _, [] => c
  | i, f :: fs => Cluster.contribs (c.contrib i f) (i + 1) fs

/-- SC_RANGE as this tile's contributions set it (R159). -/
def rangeSet (fs : List (Card → Card)) : Bool := fs.any fun f => (f {}).range

/-- A SCORE instruction of one tile: its own state and a list of contributions for one cluster. -/
def Comp.score (c : Comp) (g t func : Nat) (w : TileWord)
    (k : Tile → TRes (Tile × Nat × List (Card → Card))) : Comp × Option TileFault :=
  let x := c.tile g t
  if x.st ≠ .running ∨ x.wait ≠ .none then (c, none)
  else if legalWord 5 func w = false then
    (c.setTile g t (x.faulted (wordOf 5 func w) { code := fIllegal }), some { code := fIllegal })
  else if x.guard w = false then (c.setTile g t x.next, none)
  else if formOk 5 func w = false then
    (c.setTile g t (x.faulted (wordOf 5 func w) { code := fParam }), some { code := fParam })
  else
    let res : TRes (Tile × Nat × Nat × List (Card → Card)) :=
      match rankCluster x g (scRank w) with
      | .error f => .error f
      | .ok h =>
        match k x with
        | .error f => .error f
        | .ok (y, base, fs) =>
          match cardRange x base fs.length with
          | .error f => .error f
          | .ok () => .ok (y, h, base, fs)
    match res with
    | .error f => (c.setTile g t (x.faulted (wordOf 5 func w) f), some f)
    | .ok (y, h, base, fs) =>
      let y := if rangeSet fs then y.flag 2 else y
      ((c.setTile g t y.next).setClu h ((c.clu h).contribs base fs), none)

/-- ADDW (R177, R146): window (WROW + i, c) to scorecard s[SI] + 128 i + c. -/
def kAddw (w : TileWord) (t : Tile) : TRes (Tile × Nat × List (Card → Card)) :=
  if 128 < scRow w + scRows w then tfault fParam else
  let ws := (List.range (128 * scRows w)).map fun j => t.window (scRow w + j / 128) (j % 128)
  let t' := if ws.any Window.exceeded then t.flag 1 else t
  .ok (t', (t.sreg (scSI w)).toNat, ws.map fun x => fun c => c.addW x)

/-- ADDVF and ADDVI (R177): lane j of V to scorecard s[SI] + j. -/
def kAddvf (w : TileWord) (t : Tile) : TRes (Tile × Nat × List (Card → Card)) :=
  .ok (t, (t.sreg (scSI w)).toNat, (t.lanes (scV w) (64 * 2 ^ scVL w)).map fun x => fun c => c.addF (f32 x))
def kAddvi (w : TileWord) (t : Tile) : TRes (Tile × Nat × List (Card → Card)) :=
  .ok (t, (t.sreg (scSI w)).toNat, (t.lanes (scV w) (64 * 2 ^ scVL w)).map fun x => fun c => c.addI x)

/-- Functions 0x03 to 0x06 name their own cluster only and 64 scorecards (R177). -/
def own64 (w : TileWord) (t : Tile) : TRes Nat :=
  if scRank w ≠ 32 then tfault fParam
  else
    let b := (t.sreg (scSI w)).toNat
    match cardRange t b 64 with
    | .error f => .error f
    | .ok () => .ok b

def tRdraw (w : TileWord) : TileFn := fun t c =>
  match own64 w t with
  | .error f => .error f
  | .ok b => twrite t c (t.areg (scAreg w)).toNat ((List.range 64).flatMap fun i => (c.card (b + i)).image)

/-- RDRND (R177, R149): OUT_FMT must be FP32, BF16 or FP16. Stochastic rounding takes the scorecard's index as
the element index (log 40). -/
def tRdrnd (w : TileWord) : TileFn := fun t c =>
  let st := t.aset
  match own64 w t with
  | .error f => .error f
  | .ok b =>
    if ¬(st.outFmt = 0x10 ∨ st.outFmt = 0x11 ∨ st.outFmt = 0x12) ∨ 2 ≤ st.round then fmtFault st.outFmt else
    let row := roundRow st st.outFmt b ((List.range 64).map fun i => (c.card (b + i)).xval)
    let m := (if row.special then 4 else 0) + (if row.sat then 8 else 0)
    match twrite t c (t.areg (scAreg w)).toNat row.bytes with
    | .error f => .error f
    | .ok (t', c') => .ok (t'.flag m, c')

def tCardClr (w : TileWord) : TileFn := fun t c =>
  match own64 w t with
  | .error f => .error f
  | .ok b => .ok (t, (List.range 64).foldl (fun c i => c.setCard (b + i) {}) c)

/-- SCORE LD (R177): an image that holds SC_RANGE or SC_COUNT leaves TILE_CLU_SC_FLAGS as it is (DESIGN CHOICE, log 142:
R160 does not say). -/
def tCardLd (w : TileWord) : TileFn := fun t c =>
  match own64 w t with
  | .error f => .error f
  | .ok b =>
    match tread t c (t.areg (scAreg w)).toNat 3072 with
    | .error f => .error f
    | .ok l => .ok (t, ((chunks 48 l).zipIdx).foldl (fun c p => c.setCard (b + p.2) (Card.ofImage p.1)) c)

/-- The fields of a stream descriptor (R184). -/
structure Stream where
  srcSpace : Nat
  srcWin : Nat
  dstSpace : Nat
  dstWin : Nat
  gather : Bool
  zeroSrc : Bool
  rowBytes : Nat
  rows : Nat
  planes : Nat
  src : Nat
  dst : Nat
  srcRow : Nat
  dstRow : Nat
  srcPlane : Nat
  dstPlane : Nat
  index : Nat
deriving DecidableEq, Repr

def Stream.ofBytes (l : List Byte) : Stream :=
  { srcSpace := bits (field l 0 1) 0 2, srcWin := bits (field l 0 1) 4 4, dstSpace := bits (field l 1 1) 0 2,
    dstWin := bits (field l 1 1) 4 4, gather := bit (field l 2 1) 0, zeroSrc := bit (field l 2 1) 1,
    rowBytes := field l 4 4, rows := field l 8 4, planes := field l 12 4, src := field l 16 8, dst := field l 24 8,
    srcRow := field l 32 4, dstRow := field l 36 4, srcPlane := field l 40 8, dstPlane := field l 48 8,
    index := field l 56 4 }

/-- R184: fields in range. -/
def Stream.ok (d : Stream) : Bool :=
  decide (64 ≤ d.rowBytes ∧ d.rowBytes ≤ 16777216 ∧ 1 ≤ d.rows ∧ d.rows ≤ 16777216 ∧ 1 ≤ d.planes ∧ d.planes ≤ 65535 ∧
    d.srcSpace ≤ 2 ∧ d.dstSpace ≤ 2 ∧ d.index % 4 = 0)

/-- STREAM.START (R178): waits while the queue holds 4 descriptors. -/
def tStart (w : TileWord) : TileFn := fun t c =>
  let e := wfld w 48 2
  let q := Tab.getD t.streams e []
  if 4 ≤ q.length then tWait else
  match tread t c (t.areg (wfld w 45 3)).toNat 64 with
  | .error f => .error f
  | .ok l => .ok ({ t with streams := Tab.set [] t.streams e (q ++ [(t.pc, l)]) }, c)

/-- Whether every engine of a mask has an empty queue. -/
def Tile.drained (t : Tile) (mask : Nat) : Bool :=
  (List.range 4).all fun e => !bit mask e || (Tab.getD t.streams e []).isEmpty

/-- STREAM.WAIT (R178): the tile waits at the word until every named engine has drained. -/
def tStreamWait (w : TileWord) : TileFn := fun t c =>
  let m := wfld w 41 4
  .ok (if t.drained m then t else { t with wait := .streams m }, c)

/-- Pop the levels whose body does not hold the target (R180). -/
def popLoops (target : Nat) : List LoopLvl → List LoopLvl
  | [] => []
  | l :: ls => if l.start ≤ target ∧ target < l.stop then l :: ls else popLoops target ls

/-- BR (R179, R180): to PC + OFF. -/
def tBr (w : TileWord) : TileFn := fun t c =>
  let target := ((t.pc : Int) + sext 24 (wfld w 26 24)).emod (2 ^ 14) |>.toNat
  .ok ({ t with pc := target, loops := popLoops target t.loops }, c)

/-- LOOP (R179, R180). -/
def tLoop (w : TileWord) : TileFn := fun t c =>
  let count := if wfld w 44 1 = 1 then wfld w 28 16 else ((t.sreg (wfld w 45 5)).toNat % 2 ^ 32)
  let body := wfld w 14 14
  let stop := t.pc + 1 + body
  let nested := match t.loops with
    | [] => true
    | l :: _ => decide (stop ≤ l.stop)
  if 4 ≤ t.loops.length ∨ nested = false then tfault fLoop
  else if count = 0 then .ok (t.goOn stop, c)
  else
    .ok ({ t with pc := t.pc + 1, loops := { start := t.pc + 1, stop := stop, count := count, lc := 0 } :: t.loops,
                  lc := Tab.set 0 t.lc t.loops.length 0 }, c)

/-- HALT (R189): the tile becomes IDLE. It waits while streams it started still run, for a HALT first completes
every earlier instruction. -/
def tHalt (_w : TileWord) : TileFn := fun t c =>
  if t.drained 15 then .ok ({ t with st := .idle }, c) else tWait

/-- BAR (R187): the tile arrives and waits, once its streams have completed. -/
def tBar (w : TileWord) : TileFn := fun t c =>
  if t.drained 15 then .ok ({ t with wait := .bar (wfld w 48 2) (wfld w 45 3) }, c) else tWait

/-- RAISE (R179): a USER tile fault with UCODE, s[SA] and s[SB]. -/
def tRaise (w : TileWord) : TileFn := fun t _ =>
  .error { code := fUser, ucode := wfld w 34 16, arg0 := (t.sreg (wfld w 29 5)).toNat, arg1 := (t.sreg (wfld w 24 5)).toNat }

end Sys2Proof.Machine
end

