-- ==== Sys2Proof/Machine/TileVec.lean ====
section
/-! DEFINITION. Classes VEC, SFU, SCAN and GATE (spec/05_tile_programming.md R169 to R173; the gate unit's
order R126). One function per mnemonic over shared forms. -/

namespace Sys2Proof.Machine

def vD (w : TileWord) : Nat := wfld w 44 6
def vA (w : TileWord) : Nat := wfld w 38 6
def vB (w : TileWord) : Nat := wfld w 32 6
def vC (w : TileWord) : Nat := wfld w 26 6
def vVL (w : TileWord) : Nat := wfld w 24 2
def vBsel (w : TileWord) : Bool := decide (wfld w 19 1 = 1)
def vSB (w : TileWord) : Nat := wfld w 14 5
/-- The signed 19-bit immediate (R169). -/
def vImm (w : TileWord) : Int := sext 19 (wfld w 0 19)
/-- Lanes of the vector form (R169). -/
def vN (w : TileWord) : Nat := 64 * 2 ^ vVL w

/-- Operand B of the vector form: a group, or s[SB][31:0] in every lane (R169). -/
def vecB (t : Tile) (w : TileWord) : List (BitVec 32) :=
  if vBsel w then List.replicate (vN w) ((t.sreg (vSB w)).setWidth 32) else t.lanes (vB w) (vN w)

/-- Operand B of the scalar form: a code of R163, or IMM (R169). -/
def scaB (t : Tile) (w : TileWord) : BitVec 64 :=
  if vBsel w then BitVec.ofInt 64 (vImm w) else t.src (vB w)

/-- Vector form of one source. -/
def vec1 (f : BitVec 32 → BitVec 32) (w : TileWord) : TileFn := fun t c =>
  .ok (t.setLanes (vD w) ((t.lanes (vA w) (vN w)).map f), c)

/-- Vector form of two sources. -/
def vec2 (f : BitVec 32 → BitVec 32 → BitVec 32) (w : TileWord) : TileFn := fun t c =>
  .ok (t.setLanes (vD w) (List.zipWith f (t.lanes (vA w) (vN w)) (vecB t w)), c)

/-- Lane by lane over three sources. -/
def zip3 (f : BitVec 32 → BitVec 32 → BitVec 32 → BitVec 32) :
    List (BitVec 32) → List (BitVec 32) → List (BitVec 32) → List (BitVec 32)
  | x :: xs, y :: ys, z :: zs => f x y z :: zip3 f xs ys zs
  | _, _, _ => []

/-- Vector form of three sources. -/
def vec3 (f : BitVec 32 → BitVec 32 → BitVec 32 → BitVec 32) (w : TileWord) : TileFn := fun t c =>
  .ok (t.setLanes (vD w) (zip3 f (t.lanes (vA w) (vN w)) (vecB t w) (t.lanes (vC w) (vN w))), c)

/-- Both forms of an integer operation (R170): modulo 2^32 in lanes, modulo 2^64 in scalars. -/
def both2 (f : BitVec 32 → BitVec 32 → BitVec 32) (h : BitVec 64 → BitVec 64 → BitVec 64) (w : TileWord) :
    TileFn := fun t c =>
  if vVL w = 3 then .ok (t.dst (vD w) (h (t.src (vA w)) (scaB t w)), c) else vec2 f w t c

def mask32 (b : Bool) : BitVec 32 := if b then 0xFFFFFFFF#32 else 0#32

def tFma (w : TileWord) : TileFn := vec3 fma w
def tFadd (w : TileWord) : TileFn := vec2 fadd w
def tFmul (w : TileWord) : TileFn := vec2 fmul w
def tFmax (w : TileWord) : TileFn := vec2 fmax w
def tFmin (w : TileWord) : TileFn := vec2 fmin w

/-- FCMP: a condition outside the table raises a PARAM tile fault (R170). -/
def tFcmp (w : TileWord) : TileFn := fun t c =>
  if 5 < vC w then tfault fParam else vec2 (fun x y => mask32 (fcond (vC w) x y)) w t c

/-- The 16-bit format that C names (R170, R130). -/
def half (w : TileWord) : TRes Fmt :=
  if vC w = 0x10 ∨ vC w = 0x11 then .ok ((fmtOf (vC w)).getD fp32) else fmtFault (vC w)

/-- 16-bit element `j` of the packed group that starts at register `r`. -/
def Tile.half (t : Tile) (r j : Nat) : Nat := bits (t.lane r (j / 2)).toNat (16 * (j % 2)) 16

/-- CVTW: widen packed 16-bit elements exactly (R170). -/
def tCvtw (w : TileWord) : TileFn := fun t c =>
  match half w with
  | .error f => .error f
  | .ok f => .ok (t.setLanes (vD w) (tabulate (vN w) fun j => cvtw f (t.half (vA w) j)), c)

/-- CVTN: narrow to packed 16-bit elements; unfilled lanes of the last register are 0 (R170). -/
def tCvtn (w : TileWord) : TileFn := fun t c =>
  match half w with
  | .error f => .error f
  | .ok f =>
    let n := vN w
    let e (j : Nat) : Nat := if j < n then cvtn f (t.lane (vA w) j) else 0
    .ok (t.setLanes (vD w) (tabulate (64 * ceilDiv n 128) fun j => BitVec.ofNat 32 (e (2 * j) + e (2 * j + 1) * 65536)), c)

def tFtoi (w : TileWord) : TileFn := vec1 ftoi w
def tItof (w : TileWord) : TileFn := vec1 itof w
def tIadd (w : TileWord) : TileFn := both2 (· + ·) (· + ·) w
def tIsub (w : TileWord) : TileFn := both2 (· - ·) (· - ·) w
def tImul (w : TileWord) : TileFn := both2 (· * ·) (· * ·) w
def tAnd (w : TileWord) : TileFn := both2 (· &&& ·) (· &&& ·) w
def tOr (w : TileWord) : TileFn := both2 (· ||| ·) (· ||| ·) w
def tXor (w : TileWord) : TileFn := both2 (· ^^^ ·) (· ^^^ ·) w

/-- A shift count: bits [5:0] of B (R170). -/
def shcnt {n : Nat} (y : BitVec n) : Nat := y.toNat % 64
def tShl (w : TileWord) : TileFn := both2 (fun x y => x <<< shcnt y) (fun x y => x <<< shcnt y) w
def tShr (w : TileWord) : TileFn := both2 (fun x y => x >>> shcnt y) (fun x y => x >>> shcnt y) w
def tSar (w : TileWord) : TileFn :=
  both2 (fun x y => x.sshiftRight (shcnt y)) (fun x y => x.sshiftRight (shcnt y)) w

def imax {n : Nat} (x y : BitVec n) : BitVec n := if x.toInt < y.toInt then y else x
def imin {n : Nat} (x y : BitVec n) : BitVec n := if y.toInt < x.toInt then y else x
def tImax (w : TileWord) : TileFn := both2 imax imax w
def tImin (w : TileWord) : TileFn := both2 imin imin w

/-- ICMP: a lane mask, or in scalar form a predicate (R170). -/
def tIcmp (w : TileWord) : TileFn := fun t c =>
  if 5 < vC w then tfault fParam
  else if vVL w = 3 then
    .ok (t.setP (vD w - 40) (icond 64 (vC w) (t.src (vA w)).toNat (scaB t w).toNat), c)
  else vec2 (fun x y => mask32 (icond 32 (vC w) x.toNat y.toNat)) w t c

/-- SEL: D = A where lane C is nonzero, else B (R170). -/
def tSel (w : TileWord) : TileFn := vec3 (fun x y z => if z = 0#32 then y else x) w

/-- MOV: D = A, or D = B when BSEL = 1 (R170). -/
def tMov (w : TileWord) : TileFn := fun t c =>
  if vVL w = 3 then .ok (t.dst (vD w) (if vBsel w then scaB t w else t.src (vA w)), c)
  else .ok (t.setLanes (vD w) (if vBsel w then vecB t w else t.lanes (vA w) (vN w)), c)

/-- The address of a memory function: a[A] + IMM × unit, modulo 2^32 (R161, R170). -/
def memAddr (t : Tile) (w : TileWord) (unit : Nat) : Nat :=
  (((t.areg (vA w - 32)).toNat : Int) + vImm w * unit).emod (2 ^ 32) |>.toNat

/-- The 256 bytes of one vector register's lanes. -/
def laneBytes (xs : List (BitVec 32)) : List Byte := xs.flatMap fun x => le 4 x.toNat
/-- The lanes of bytes. -/
def bytesLanes (l : List Byte) : List (BitVec 32) := (chunks 4 l).map fun x => BitVec.ofNat 32 (ofLe x)

/-- VLD (R170): an address off a 64 B boundary raises MISALIGN. -/
def tVld (w : TileWord) : TileFn := fun t c =>
  let a := memAddr t w 64
  if a % 64 ≠ 0 then tfault fMisalign a else
  match tread t c a (4 * vN w) with
  | .error f => .error f
  | .ok l => .ok (t.setLanes (vD w) (bytesLanes l), c)

/-- VST (R170). -/
def tVst (w : TileWord) : TileFn := fun t c =>
  let a := memAddr t w 64
  if a % 64 ≠ 0 then tfault fMisalign a else twrite t c a (laneBytes (t.lanes (vD w) (vN w)))

/-- SLD (R170): 8 bytes at an 8 B boundary. -/
def tSld (w : TileWord) : TileFn := fun t c =>
  let a := memAddr t w 8
  if a % 8 ≠ 0 then tfault fMisalign a else
  match tread t c a 8 with
  | .error f => .error f
  | .ok l => .ok (t.setS (vD w) (BitVec.ofNat 64 (ofLe l)), c)

/-- SST (R170). -/
def tSst (w : TileWord) : TileFn := fun t c =>
  let a := memAddr t w 8
  if a % 8 ≠ 0 then tfault fMisalign a else twrite t c a (le 8 (t.sreg (vD w)).toNat)

/-- SFU functions (R171). -/
def tSfu (fn : SfuFn) (w : TileWord) : TileFn := vec1 (sfu fn) w

/-- Running sums from `acc`, the sum including each lane (PSUMI). -/
def scanIncl (acc : BitVec 32) : List (BitVec 32) → List (BitVec 32)
  | [] => []
  | x :: xs => (acc + x) :: scanIncl (acc + x) xs
/-- Running sums before each lane (PSUMX). -/
def scanExcl (acc : BitVec 32) : List (BitVec 32) → List (BitVec 32)
  | [] => []
  | x :: xs => acc :: scanExcl (acc + x) xs

def tPsumi (w : TileWord) : TileFn := fun t c => .ok (t.setLanes (vD w) (scanIncl 0#32 (t.lanes (vA w) (vN w))), c)
def tPsumx (w : TileWord) : TileFn := fun t c => .ok (t.setLanes (vD w) (scanExcl 0#32 (t.lanes (vA w) (vN w))), c)

/-- COMPACT (R172): the kept lanes in order, the rest 0; s[SB] receives the count. -/
def tCompact (w : TileWord) : TileFn := fun t c =>
  let n := vN w
  let keep := ((t.lanes (vA w) n).zip (t.lanes (vC w) n)).filterMap fun p => if p.2 = 0#32 then none else some p.1
  let t' := t.setLanes (vD w) (keep ++ List.replicate (n - keep.length) 0#32)
  .ok (t'.setS (vSB w) (BitVec.ofNat 64 keep.length), c)

/-- RSUMI (R172): the exact 64-bit sum of the INT32 lanes. -/
def tRsumi (w : TileWord) : TileFn := fun t c =>
  .ok (t.setS (vD w) (BitVec.ofInt 64 ((t.lanes (vA w) (vN w)).foldl (fun a x => a + x.toInt) 0)), c)

/-- A fold over at least one lane. -/
def fold1 (f : BitVec 32 → BitVec 32 → BitVec 32) : List (BitVec 32) → BitVec 32
  | [] => 0#32
  | x :: xs => xs.foldl f x

/-- RMAXF, RMINF (R172) write s[D][31:0]; the high half keeps its value (log 38). -/
def tRmaxf (w : TileWord) : TileFn := fun t c =>
  .ok (t.setS (vD w) ((t.sreg (vD w)) &&& 0xFFFFFFFF00000000#64 ||| (fold1 fmax (t.lanes (vA w) (vN w))).setWidth 64), c)
def tRminf (w : TileWord) : TileFn := fun t c =>
  .ok (t.setS (vD w) ((t.sreg (vD w)) &&& 0xFFFFFFFF00000000#64 ||| (fold1 fmin (t.lanes (vA w) (vN w))).setWidth 64), c)

def nonzeroLanes (t : Tile) (w : TileWord) : Nat := ((t.lanes (vA w) (vN w)).filter fun x => decide (x ≠ 0#32)).length
def tRcnt (w : TileWord) : TileFn := fun t c => .ok (t.setS (vD w) (BitVec.ofNat 64 (nonzeroLanes t w)), c)
def tRany (w : TileWord) : TileFn := fun t c => .ok (t.setP (vD w - 40) (decide (0 < nonzeroLanes t w)), c)
def tRall (w : TileWord) : TileFn := fun t c => .ok (t.setP (vD w - 40) (decide (nonzeroLanes t w = vN w)), c)

/-- The order of R126: candidate `x` ranks before `y`. NaN ranks below −∞; ties go to the lower index. -/
def topkBefore (x y : FVal × Nat) : Bool :=
  match x.1, y.1 with
  | .nan, .nan => decide (x.2 < y.2)
  | .nan, _ => false
  | _, .nan => true
  | a, b => if fltV b a then true else if fltV a b then false else decide (x.2 < y.2)

/-- Insert by rank. -/
def topkInsert (x : FVal × Nat) : List (FVal × Nat) → List (FVal × Nat)
  | [] => [x]
  | y :: ys => if topkBefore x y then x :: y :: ys else y :: topkInsert x ys

/-- The k largest of the candidates with their indices, in descending order (R126). -/
def topk (k : Nat) (vs : List FVal) : List (FVal × Nat) :=
  vs.zipIdx.foldl (fun acc p => (topkInsert (p.1, p.2) acc).take k) []

/-- TOPK_F32 and TOPK_BF16 (R173, R126). -/
def tTopk (f : Fmt) (w : TileWord) : TileFn := fun t c =>
  let n := (t.sreg (vB w)).toNat
  let k := (t.sreg (vC w)).toNat
  if n < 1 ∨ 4096 < n ∨ k < 1 ∨ 16 < k ∨ n < k then tfault fParam else
  match tread t c (t.areg (vA w - 32)).toNat (n * f.w / 8) with
  | .error e => .error e
  | .ok l =>
    let sel := topk k ((unpackCodes f.w n l).map (decodeFp f))
    twrite t c (t.areg (vD w - 32)).toNat (sel.flatMap fun p => le 4 (toF32 p.1).toNat ++ le 4 p.2)

end Sys2Proof.Machine
end

