-- ==== Sys2Proof/Machine/KernelBase.lean ====
section
/-! DEFINITION. What the stock kernels share: arguments and windows, their reports, readers, output rows
(spec/06_kernels_and_dealer.md R202, R204, "Stock kernels"; R192, R212). A kernel is a function of the bytes it
reads, its arguments and its settings (R154). -/

namespace Sys2Proof.Machine

/-- What a stock kernel sees: ARGS, SETTINGS, the descriptor's window indices, INPUT_BYTES, OUTPUT_BYTES, the
bound windows as (R, W, LENGTH), their BASEs, and a reader of window bytes that raises the faults of R183 and R185. -/
structure KEnv where
  args : List Byte
  st : Settings
  inWin : Nat
  outWin : Nat
  inBytes : Nat
  wins : List (Bool × Bool × Nat)
  bases : List Nat
  rd : Nat → Nat → Nat → TRes (List Byte)

/-- What a stock kernel leaves: stores as (window, offset, bytes), its flags (the bits of R212), flagged outputs,
operations, zero pages to record, the fault that ended it, if any, and the ranges it read as (window, offset, bytes).
`rewrites` counts bytes it wrote that `writes` holds once for several writes, `scCount` that a scorecard set SC_COUNT. -/
structure KRes where
  writes : List (Nat × Nat × List Byte) := []
  flags : Nat := 0
  flagged : Nat := 0
  ops : Nat := 0
  bytesIn : Nat := 0
  zeroPages : List Nat := []
  fault : Option TileFault := none
  reads : List (Nat × Nat × Nat) := []
  rewrites : Nat := 0
  scCount : Bool := false
deriving DecidableEq, Repr

/-- A PARAM report at an ARGS field (R192, R204). -/
def paramArg {α : Type} (off : Nat) : TRes α := .error { code := fParam, addr := off }
/-- A PARAM report at a SETTINGS field (R192). -/
def paramSet {α : Type} (off : Nat) : TRes α := .error { code := fParam, addr := 2 ^ 63 + off }
/-- A FORMAT report at a SETTINGS field, of a stock kernel's own checks (R148, R192, log 45). -/
def formatSet {α : Type} (off fmt : Nat) : TRes α := .error { code := fFormat, addr := 2 ^ 63 + off, fmt := fmt }
/-- A report at a value read from a window (R192). -/
def reportWin {α : Type} (code win off : Nat) : TRes α := .error { code := code, addr := off, win := win }

def KEnv.arg (e : KEnv) (off n : Nat) : Nat := field e.args off n

/-- Check conditions in order; the first that fails is the report. -/
def checks : List (Bool × TRes Unit) → TRes Unit
  | [] => .ok ()
  | (b, r) :: cs => if b then checks cs else r

/-- The check of a reserved ROUND of a kernel that rounds nothing (R148). -/
def roundSet (st : Settings) : Bool × TRes Unit := (decide (st.round < 2), formatSet 3 st.outFmt)
def argOk (b : Bool) (off : Nat) : Bool × TRes Unit := (b, paramArg off)
def setOk (b : Bool) (off : Nat) : Bool × TRes Unit := (b, paramSet off)

/-- Whether window `i` is bound with the rights asked for and at least `n` bytes. -/
def KEnv.winOk (e : KEnv) (i : Nat) (r w : Bool) (n : Nat) : Bool :=
  match e.wins[i]? with
  | some (r', w', l) => decide (0 < l) && (!r || r') && (!w || w') && decide (n ≤ l)
  | none => false

/-- A value in one of the value formats FP32, BF16, FP16, INT32 added to a scorecard (R146). -/
def addCode (fmt : Nat) (c : Card) (x : Nat) : Card :=
  if fmt = 0x13 then c.addI (BitVec.ofNat 32 x) else c.addF (decodeFp ((fmtOf fmt).getD fp32) x)

/-- A value format as an exact value. -/
def valOf (fmt : Nat) (x : Nat) : XVal :=
  if isInt fmt then { x := (sext (fmtBits fmt) x : Int) }
  else if fmt = 0x06 then { x := dyad (sext 8 x) (-6) }
  else (decodeFp ((fmtOf fmt).getD fp32) x).xval

/-- The element and scale bytes of `n` values of a format. -/
def elemBytes (fmt n : Nat) : Nat := ceilDiv (n * fmtBits fmt) 8
def scaleBytes (fmt n : Nat) : Nat := if isMx fmt then ceilDiv n 32 else 0

/-- Exact values of `n` elements with their MX scales (R130, R131, R133). -/
def valuesOf (fmt n : Nat) (el sc : List Byte) : List XVal :=
  if fmt = 0x30 then (chunks 48 el).map fun l => (Card.ofImage l).xval else
  ((unpackCodes (fmtBits fmt) n el).zipIdx).map fun p =>
    let v := valOf fmt p.1
    if isMx fmt then
      let s := field sc (p.2 / 32) 1
      if s = 0xFF then { v with nan := true } else { v with x := v.x * pow2 (scaleExp s) }
    else v

/-- Output rows of scorecards: raw images for SC_RAW, else one rounding each (R147, R149). `i` is the linear
index of the first element. An integer output takes q = 1, for no descriptor names a q array (DESIGN CHOICE, log 41). -/
def cardRow (st : Settings) (i : Nat) (cs : List Card) : OutRow :=
  if st.outFmt = 0x30 then { bytes := cs.flatMap Card.image, scales := [], sat := false, special := false }
  else roundRow st st.outFmt i (cs.map Card.xval)

/-- The FINAL flag bits of R212 that an output row sets. -/
def OutRow.flags (r : OutRow) : Nat := (if r.special then 4 else 0) + (if r.sat then 8 else 0)
def cardFlags (cs : List Card) : Nat := if cs.any Card.range then 2 else 0

/-- Rows of an output tensor: each row's element bytes padded to `pad`; the scale bytes of an MX output follow
the whole element array at a 64 B boundary, row by row (R131; log 41). -/
def rowWrites (win pad : Nat) (rows : List OutRow) : List (Nat × Nat × List Byte) :=
  let w := match rows with
    | [] => 0
    | r :: _ => roundUp r.bytes.length pad
  let el := rows.flatMap fun r => padTo w r.bytes
  let sc := rows.flatMap OutRow.scales
  (win, 0, el) :: (if sc.isEmpty then [] else [(win, roundUp el.length 64, sc)])

/-- The output formats a kernel may round to (R130, R148, R152): a reserved ROUND, a format outside column O, or
an MX output whose rows are no whole blocks raise FORMAT. -/
def outOk (st : Settings) (n : Nat) : TRes Unit :=
  if fmtO st.outFmt = false ∨ (isMx st.outFmt = true ∧ n % 32 ≠ 0) then formatSet 2 st.outFmt
  else if 2 ≤ st.round then formatSet 3 st.outFmt else .ok ()

/-- The same for an output that is rounded from a window or a quotient, which has no raw image (R145, R149). -/
def outNum (st : Settings) (n : Nat) : TRes Unit := if st.outFmt = 0x30 then formatSet 2 0x30 else outOk st n

/-- The bytes of one weight matrix of N columns and K rows, as WLD reads it (R221): elements, MX scales,
EL-NM metadata, each array 64 B-aligned. -/
def matKept (sp k : Nat) : Nat := if sp = 1 then k / 2 else if sp = 2 then k / 4 else k
def matMeta (sp k : Nat) : Nat := if sp = 1 then k else if sp = 2 then k / 2 else 0
def matSizes (fmt sp k n : Nat) : Nat × Nat × Nat :=
  (roundUp (n * matKept sp k * fmtBits fmt / 8) 64, if isMx fmt then roundUp (n * (k / 32)) 64 else 0,
    roundUp (ceilDiv (n * matMeta sp k) 8) 64)
def matBytes (fmt sp k n : Nat) : Nat :=
  let (a, b, c) := matSizes fmt sp k n
  a + b + c

/-- Read `n` bits from a bit offset past a byte address. -/
def readBits (rd : Reader) (base off n : Nat) : TRes Nat :=
  if n = 0 then .ok 0 else
  match rd (base + off / 8) (ceilDiv (off % 8 + n) 8) with
  | .error e => .error e
  | .ok l => .ok (bits (ofLe l) (off % 8) n)

/-- Read one column of such a matrix. -/
def matColumn (rd : Reader) (fmt sp k n j : Nat) : TRes (List (Nat × Nat) × List Nat) :=
  let w := fmtBits fmt
  let kept := matKept sp k
  let (eb, sb, _) := matSizes fmt sp k n
  let mb := matMeta sp k
  match readBits rd 0 (j * kept * w) (kept * w),
        (if isMx fmt then rd (eb + j * (k / 32)) (k / 32) else .ok []),
        readBits rd (eb + sb) (j * mb) mb with
  | .error e, _, _ => .error e
  | _, .error e, _ => .error e
  | _, _, .error e => .error e
  | .ok el, .ok sc, .ok md =>
    let codes := tabulate kept fun i => bits el (w * i) w
    match (if mb = 0 then .ok (List.range k) else nmPositions (decide (sp = 1)) fmt md (k / 4) 0) with
    | .error e => .error e
    | .ok ps => .ok (ps.zip codes, sc.map BitVec.toNat)

/-- A whole weight matrix. -/
def matrix (rd : Reader) (fmt sp k n : Nat) : TRes WTile :=
  match collect (matColumn rd fmt sp k n) (List.range n) with
  | .error e => .error e
  | .ok cs => .ok { fmt := fmt, sparsity := sp, k := k, cols := cs.map Prod.fst, scales := cs.map Prod.snd }

/-- The windows of one A row against every column of a matrix, K ascending (R138, R139). -/
def rowWindows (fault : Bool) (aFmt : Nat) (wt : WTile) (row aScale : List Nat) : TRes (List Window) :=
  match pairOf aFmt wt.fmt with
  | none => formatSet 0 aFmt
  | some (_, prod) =>
    collect (fun p => feed fault {} (laneSums aFmt wt prod row aScale p.1 p.2)) (wt.cols.zip wt.scales)

end Sys2Proof.Machine
end

