-- ==== Sys2Proof/Machine/KernelMisc.lean ====
section
/-! DEFINITION. Stock kernels TOPK_GATE, GATHER_REDUCE, SPARSE_ACCUM and CONVERT
(spec/06_kernels_and_dealer.md R229, R230, R237, R239, R240). -/

namespace Sys2Proof.Machine

/-- The gate weights of one token's logits (R229): pairs of weight bits and expert index. -/
def gateToken (norm k : Nat) (logits : List (BitVec 32)) : List (BitVec 32 × Nat) :=
  let sel := topk k (logits.map f32)
  match norm with
  | 2 => sel.map fun p => (toF32 p.1, p.2)
  | _ =>
    let m := match topk 1 (logits.map f32) with
      | p :: _ => toF32 p.1
      | [] => 0#32
    let negm := m ^^^ 0x80000000#32
    let ex (l : BitVec 32) : BitVec 32 := sfu .exp (fadd l negm)
    let chosen := sel.map fun p => ex ((logits[p.2]?).getD 0#32)
    let terms := if norm = 0 then logits.map ex else chosen
    let s := fl32 (terms.foldl (fun c x => c.addF (f32 x)) ({} : Card)).xval
    let r := sfu .rcp s
    (sel.zip chosen).map fun p => (fmul p.2 r, p.1.2)

def gateBytes (ps : List (BitVec 32 × Nat)) : List Byte := ps.flatMap fun p => le 4 p.1.toNat ++ le 4 p.2

/-- The logits of one token as binary32 words. -/
def logitWords (fmt n : Nat) (l : List Byte) : List (BitVec 32) :=
  (unpackCodes (fmtBits fmt) n l).map fun c => toF32 (decodeFp ((fmtOf fmt).getD fp32) c)

/-- TOPK_GATE (R229). -/
def kTopkGate (v : KEnv) : TRes KRes :=
  let e := v.arg 0 2
  let k := v.arg 2 1
  let fmt := v.arg 3 1
  let n := v.arg 4 4
  let norm := v.arg 8 1
  let iw := v.arg 9 1
  let ow := v.arg 10 1
  match checks
    [argOk (decide (1 ≤ e ∧ e ≤ 4096)) 0, argOk (decide (1 ≤ k ∧ k ≤ 16 ∧ k ≤ e)) 2,
     argOk (decide (fmt = 0x12 ∨ fmt = 0x10)) 3, argOk (decide (1 ≤ n ∧ n ≤ 1048576)) 4, argOk (decide (norm ≤ 2)) 8,
     argOk (v.winOk iw true false 1) 9, argOk (v.winOk ow false true (roundUp (n * 8 * k) 128)) 10, roundSet v.st] with
  | .error f => .error f
  | .ok () =>
    let rb := roundUp (elemBytes fmt e) 64
    match collect (fun t => v.rd iw (t * rb) rb) (List.range n) with
    | .error f => .error f
    | .ok rows =>
      let out := rows.flatMap fun r => gateBytes (gateToken norm k (logitWords fmt e r))
      .ok { writes := [(ow, 0, out)], bytesIn := n * rb, reads := [(iw, 0, n * rb)] }

/-- The scorecards of one bag (R230): each kept row's elements added in turn. -/
def bagCards (v : KEnv) (tabWin rowBytes dim fmt : Nat) (weighted : Bool) :
    List Card → List (Nat × BitVec 32) → TRes (List Card)
  | cs, [] => .ok cs
  | cs, (i, w) :: rest =>
    match v.rd tabWin (i * rowBytes) (roundUp (elemBytes fmt dim) 64) with
    | .error f => .error f
    | .ok l =>
      let codes := unpackCodes (fmtBits fmt) dim l
      let cs' := List.zipWith (fun (c : Card) x =>
        if weighted then c.addF (f32 (toF32 (mulExact (f32 w) (decodeFp ((fmtOf fmt).getD fp32) x))))
        else addCode fmt c x) cs codes
      bagCards v tabWin rowBytes dim fmt weighted cs' rest

/-- The mean of a scorecard by a count: the exact quotient (R230). -/
def Card.mean (c : Card) (n : Nat) : XVal := { c.xval with x := c.val / (n : Rat) }

/-- The bags of GATHER_REDUCE in order: output rows, stopping at the first fault. -/
def bagRows (v : KEnv) (tw rowBytes dim fmt mode : Nat) (offs : List Nat) (idx : List (Nat × BitVec 32)) :
    Nat → Nat → TRes (List (OutRow × Nat))
  | 0, _ => .ok []
  | f + 1, b =>
    let o := (offs[b]?).getD 0
    let n := (offs[b + 1]?).getD 0 - o
    match bagCards v tw rowBytes dim fmt (decide (mode = 2)) (List.replicate dim {}) ((idx.drop o).take n) with
    | .error e => .error e
    | .ok cs =>
      let row :=
        if mode = 1 then
          roundRow { v.st with mode := v.st.mode - v.st.round } v.st.outFmt (b * dim)
            (cs.map fun c => if n = 0 then { x := 0 } else c.mean n)
        else cardRow v.st (b * dim) cs
      match bagRows v tw rowBytes dim fmt mode offs idx f (b + 1) with
      | .error e => .error e
      | .ok rs => .ok ((row, cardFlags cs) :: rs)

/-- The first offset of the bag list found wrong (R230). -/
def badOffset (nidx : Nat) : Nat → List Nat → Option Nat
  | i, a :: b :: rest => if b < a then some (i + 1) else badOffset nidx (i + 1) (b :: rest)
  | i, [a] => if a = nidx then none else some i
  | _, [] => none

/-- GATHER_REDUCE (R230). -/
def kGather (v : KEnv) : TRes KRes :=
  let rows := v.arg 0 4
  let dim := v.arg 4 2
  let fmt := v.arg 6 1
  let mode := v.arg 7 1
  let rowBytes := v.arg 8 4
  let bags := v.arg 12 4
  let nidx := v.arg 16 4
  let tw := v.arg 20 1
  let ow := v.arg 21 1
  match checks
    [argOk (decide (1 ≤ rows)) 0, argOk (decide (16 ≤ dim ∧ dim ≤ 4096 ∧ dim % 16 = 0)) 4,
     argOk (decide (fmt = 0x12 ∨ fmt = 0x10 ∨ fmt = 0x11)) 6, argOk (decide (mode ≤ 2)) 7,
     argOk (decide (rowBytes % 64 = 0 ∧ elemBytes fmt dim ≤ rowBytes)) 8, argOk (decide (1 ≤ bags ∧ bags ≤ 1048576)) 12,
     argOk (decide (nidx ≤ 2 ^ 28)) 16, argOk (v.winOk tw true false 1) 20,
     argOk (v.winOk ow false true (bags * roundUp (elemBytes v.st.outFmt dim) 128)) 21] with
  | .error f => .error f
  | .ok () =>
    match (if mode = 1 then outNum v.st dim else outOk v.st dim) with
    | .error f => .error f
    | .ok () =>
    let a1 := roundUp (4 * (bags + 1)) 64
    let a2 := roundUp (4 * nidx) 64
    match v.rd v.inWin 0 a1, v.rd v.inWin a1 a2, (if mode = 2 then v.rd v.inWin (a1 + a2) a2 else .ok []) with
    | .error f, _, _ => .error f
    | _, .error f, _ => .error f
    | _, _, .error f => .error f
    | .ok ol, .ok il, .ok wl =>
      let offs := tabulate (bags + 1) fun i => field ol (4 * i) 4
      match badOffset nidx 0 offs with
      | some i => reportWin fParam v.inWin (4 * i)
      | none =>
        let idx := tabulate nidx fun i => (field il (4 * i) 4, BitVec.ofNat 32 (field wl (4 * i) 4))
        match idx.find? fun p => decide (rows ≤ p.1) with
        | some p => .error { code := fBounds, addr := p.1, win := tw }
        | none =>
          match bagRows v tw rowBytes dim fmt mode offs idx bags 0 with
          | .error f => .error f
          | .ok rs =>
            .ok { writes := rowWrites ow 128 (rs.map Prod.fst)
                  flags := rs.foldl (fun m r => m ||| r.1.flags ||| r.2) 0
                  bytesIn := a1 + a2 + wl.length + nidx * roundUp (elemBytes fmt dim) 64
                  reads := idx.map fun p => (tw, p.1 * rowBytes, roundUp (elemBytes fmt dim) 64) }

/-- The accumulators of one row of SPARSE_ACCUM, read once and kept by index. -/
def accRow (v : KEnv) (win width : Nat) (t : Tab (List Card)) (r : Nat) : TRes (List Card) :=
  match Tab.get? t r with
  | some cs => .ok cs
  | none =>
    match v.rd win (r * width * 48) (width * 48) with
    | .error f => .error f
    | .ok l => .ok ((chunks 48 l).map Card.ofImage)

/-- Add pairs in order; the pairs before a fault stay added (R237, R238). The number counts the pairs added. -/
def accPairs (v : KEnv) (fmt width rows win step : Nat) : Nat → Nat → Tab (List Card) → Tab (List Card) × Nat × Option TileFault
  | 0, i, t => (t, i, none)
  | f + 1, i, t =>
    match v.rd v.inWin (i * step) step with
    | .error e => (t, i, some e)
    | .ok l =>
      let r := field l 0 4
      if rows ≤ r then (t, i, some { code := fBounds, addr := r, win := win }) else
      match accRow v win width t r with
      | .error e => (t, i, some e)
      | .ok cs =>
        let vs := unpackCodes (fmtBits fmt) width (l.drop 64)
        accPairs v fmt width rows win step f (i + 1) (Tab.put t r (List.zipWith (fun c x => addCode fmt c x) cs vs))

/-- SPARSE_ACCUM (R237). -/
def kSparseAccum (v : KEnv) : TRes KRes :=
  let op := v.arg 0 1
  let fmt := v.arg 1 1
  let width := v.arg 2 2
  let rows := v.arg 4 4
  let n := v.arg 8 4
  let aw := v.arg 12 1
  let ow := v.arg 13 1
  match checks
    [argOk (decide (op ≤ 1)) 0, argOk (decide (fmt = 0x12 ∨ fmt = 0x10 ∨ fmt = 0x11 ∨ fmt = 0x13)) 1,
     argOk (decide (1 ≤ width ∧ width ≤ 4096)) 2, argOk (decide (1 ≤ rows ∧ rows ≤ 2 ^ 28)) 4,
     argOk (decide (n ≤ 2 ^ 24)) 8, argOk (v.winOk aw true true (rows * width * 48)) 12,
     argOk (decide (op = 0) || v.winOk ow false true (rows * roundUp (elemBytes v.st.outFmt width) 128)) 13] with
  | .error f => .error f
  | .ok () =>
    if op = 0 then
      match (roundSet v.st).2, (roundSet v.st).1 with
      | .error f, false => .error f
      | _, _ =>
      let (t, done, fault) := accPairs v fmt width rows aw (64 + roundUp (elemBytes fmt width) 64) n 0 []
      .ok { writes := t.map fun p => (aw, p.1 * width * 48, p.2.flatMap Card.image)
            flags := t.foldl (fun m p => m ||| cardFlags p.2) 0, fault := fault
            scCount := t.any fun p => p.2.any Card.ovfl
            bytesIn := n * (64 + roundUp (elemBytes fmt width) 64) + done * width * 48
            rewrites := done * width * 48 - t.length * width * 48
            reads := t.map fun p => (aw, p.1 * width * 48, width * 48) }
    else
      match outOk v.st width with
      | .error f => .error f
      | .ok () =>
        match collect (fun r => accRow v aw width [] r) (List.range rows) with
        | .error f => .error f
        | .ok cs =>
          let outs := cs.zipIdx.map fun p => cardRow v.st (p.2 * width) p.1
          .ok { writes := rowWrites ow 128 outs ++ [(aw, 0, zeros (rows * width * 48))]
                flags := outs.foldl (fun m r => m ||| r.flags) (cs.foldl (fun m c => m ||| cardFlags c) 0)
                bytesIn := rows * width * 48
                reads := [(aw, 0, rows * width * 48)] }

/-- The sizes of a dense tensor's element array and its scale array, and where the scales start (R131). -/
def denseScaleAt (fmt r c : Nat) : Nat := roundUp (elemBytes fmt (r * c)) 64
/-- The ranges of a dense tensor in its window (R131). -/
def denseReads (win fmt r c : Nat) : List (Nat × Nat × Nat) :=
  [(win, 0, elemBytes fmt (r * c))] ++ if isMx fmt then [(win, denseScaleAt fmt r c, r * scaleBytes fmt c)] else []

/-- One row of a dense tensor as exact values. -/
def denseRow (v : KEnv) (win fmt r c i : Nat) : TRes (List XVal) :=
  let eb := elemBytes fmt c
  match v.rd win (i * eb) eb,
        (if isMx fmt then v.rd win (denseScaleAt fmt r c + i * (c / 32)) (c / 32) else .ok []) with
  | .error f, _ => .error f
  | _, .error f => .error f
  | .ok el, .ok sc => .ok (valuesOf fmt c el sc)

/-- A row of values in an output format, SC_RAW included. -/
def outRow (st : Settings) (i : Nat) (vs : List XVal) : OutRow :=
  if st.outFmt = 0x30 then
    { bytes := vs.flatMap fun x =>
        (({ } : Card).addF (if x.isNan then .nan else if x.posInf then .inf false else if x.negInf then .inf true
          else .fin (decide (x.x < 0)) (if x.x < 0 then -x.x else x.x))).image
      scales := [], sat := false, special := false }
  else roundRow st st.outFmt i vs

/-- The magnitude order of TO_ELNM (R239): NaN counts as largest, infinities next. -/
def nmKey (x : XVal) : Nat × Rat :=
  if x.isNan then (2, 0) else if x.posInf || x.negInf then (1, 0) else (0, if x.x < 0 then -x.x else x.x)
def nmBefore (x y : XVal × Nat) : Bool :=
  let a := nmKey x.1
  let b := nmKey y.1
  decide (b.1 < a.1) || (decide (a.1 = b.1) && (decide (b.2 < a.2) || (decide (a.2 = b.2) && decide (x.2 < y.2))))
def nmInsert (x : XVal × Nat) : List (XVal × Nat) → List (XVal × Nat)
  | [] => [x]
  | y :: ys => if nmBefore x y then x :: y :: ys else y :: nmInsert x ys

/-- The kept elements of one group of 4, in index order (R239). -/
def nmKeep (nm : Nat) (g : List XVal) : List (XVal × Nat) :=
  let top := (g.zipIdx.foldl (fun acc p => nmInsert (p.1, p.2) acc) []).take nm
  g.zipIdx.filter fun p => top.any fun q => decide (q.2 = p.2)

/-- One row of an EL-NM tensor: kept values and the metadata number. -/
def nmRow (nm : Nat) (row : List XVal) : List XVal × Nat :=
  let ks := (chunks 4 row).map (nmKeep nm)
  (ks.flatMap fun k => k.map Prod.fst, packNat 2 (ks.flatMap fun k => k.map Prod.snd))

/-- Round the kept values of a row; an MX scale covers the kept values of 8 groups (R134, R239). -/
def nmRound (st : Settings) (nm i : Nat) (vs : List XVal) : List OutElem × List Byte :=
  if isMx st.outFmt then
    let bs := (chunks (8 * nm) vs).zipIdx.map fun p => roundBlock st st.outFmt (i + 8 * nm * p.2) p.1
    (bs.flatMap OutBlock.elems, bs.flatMap fun b => le 1 b.scale)
  else (roundFrom (roundElem st st.outFmt) i vs, [])

def elemFlags (es : List OutElem) : Nat :=
  (if es.any OutElem.special then 4 else 0) + (if es.any OutElem.sat then 8 else 0)

/-- One super-block of TO_ELBS: 64 rows of 64 values, already rounded row by row to codes and scales. A
micro-block is stored when one of its input values is not zero (R239). -/
def elbsRecord (fmt : Nat) (vals : List (List XVal)) (codes : List (List Nat)) (scales : List (List Nat)) : List Byte :=
  let micro (m : Nat) : List (Nat × Nat) :=
    (List.range 16).map fun q => (4 * (m / 16) + q / 4, 4 * (m % 16) + q % 4)
  let zero (m : Nat) : Bool := (micro m).all fun p =>
    match (vals[p.1]?).bind fun r => r[p.2]? with
    | some x => decide (x.x = 0) && !x.special
    | none => true
  let kept := (List.range 256).filter fun m => !zero m
  let map := kept.foldl (fun a m => a ||| (1 <<< m)) 0
  let sc := if isMx fmt then (List.range 64).flatMap fun r =>
      (List.range 2).flatMap fun h => le 1 (((scales[r]?).bind fun s => s[h]?).getD 0) else []
  let body := kept.flatMap fun m => packCodes (fmtBits fmt) ((micro m).map fun p =>
    ((codes[p.1]?).bind fun r => r[p.2]?).getD 0)
  padTo (roundUp (32 + sc.length + body.length) 64) (le 32 map ++ sc ++ body)

/-- Offsets of consecutive records, in 64 B units. -/
def recordOffsets : Nat → List (List Byte) → List Nat
  | _, [] => []
  | o, r :: rs => o / 64 :: recordOffsets (o + r.length) rs

/-- Rows `i` of a super-block row as values, codes and scales. -/
def elbsTensor (st : Settings) (rows : List (List XVal)) (r c : Nat) : List Byte :=
  let fmt := st.outFmt
  let rounded := rows.zipIdx.map fun p => roundRow st fmt (p.2 * c) p.1
  let codes := rounded.map fun o => unpackCodes (fmtBits fmt) c o.bytes
  let scs := rounded.map fun o => o.scales.map BitVec.toNat
  let recs := (List.range ((r / 64) * (c / 64))).map fun n =>
    let i := 64 * (n / (c / 64))
    let j := 64 * (n % (c / 64))
    let cut {α : Type} (l : List (List α)) (a w : Nat) : List (List α) := ((l.drop i).take 64).map fun x => (x.drop a).take w
    elbsRecord fmt (cut rows j 64) (cut codes j 64) (cut scs (j / 32) 2)
  let payload := recs.flatten
  let offs := (recordOffsets 0 recs).flatMap (le 4)
  le 1 fmt ++ le 1 1 ++ zeros 2 ++ le 4 r ++ le 4 c ++ zeros 4 ++ le 8 payload.length ++ zeros 40 ++
    padTo (roundUp offs.length 64) offs ++ payload

/-- One row of an EL-BS tensor as exact values, absent micro-blocks zero (R239). -/
def elbsRowVals (h : ElbsHdr) (supers : List Super) (i : Nat) : List XVal :=
  tabulate h.cols fun k =>
    match supers[(i / 64) * (h.cols / 64) + k / 64]? with
    | some b =>
      match b.elem (i % 64) (k % 64) with
      | some c =>
        let v := valOf h.fmt c
        if isMx h.fmt then
          let s := b.scale (i % 64) (k % 64 / 32)
          if s = 0xFF then { v with nan := true } else { v with x := v.x * pow2 (scaleExp s) }
        else v
      | none => { x := 0 }
    | none => { x := 0 }

/-- One row of an EL-NM tensor of R × C read back as exact values (R239). -/
def nmBackRow (v : KEnv) (win fmt sp r c i : Nat) : TRes (List XVal) :=
  match matColumn (fun o n => v.rd win o n) fmt sp c r i with
  | .error f => .error f
  | .ok (ks, sc) =>
    .ok (tabulate c fun k =>
      match ks.find? fun p => decide (p.1 = k) with
      | some p =>
        let x := valOf fmt p.2
        if isMx fmt then
          let s := (sc[k / 32]?).getD 0
          if s = 0xFF then { x with nan := true } else { x with x := x.x * pow2 (scaleExp s) }
        else x
      | none => { x := 0 })

/-- CONVERT (R239). -/
def kConvert (v : KEnv) : TRes KRes :=
  let op := v.arg 0 1
  let inF := v.arg 1 1
  let nm := v.arg 2 1
  let rec' := v.arg 3 1
  let r := v.arg 4 4
  let c := v.arg 8 4
  let sw := v.arg 12 1
  let dw := v.arg 13 1
  match checks
    [argOk (decide (op ≤ 5)) 0, argOk (decide (fmtBits inF ≠ 0) || decide (op = 5)) 1,
     argOk (if op = 3 then decide (nm = 1 ∨ nm = 2) else decide (nm = 0)) 2,
     argOk (decide (op = 5 ∨ (1 ≤ r ∧ r ≤ 2 ^ 24 ∧ (¬(op = 1 ∨ op = 2) ∨ r % 64 = 0)))) 4,
     argOk (decide (op = 5 ∨ (1 ≤ c ∧ c ≤ 2 ^ 24 ∧ c % (if isMx inF then 32 else 4) = 0 ∧ (¬(op = 1 ∨ op = 2) ∨ c % 64 = 0)))) 8,
     argOk (v.winOk sw true (decide (op = 5 ∧ rec' = 1)) 1) 12, argOk (v.winOk dw false true 1) 13,
     setOk (decide (op ≠ 4 ∨ v.st.sparsity = 1 ∨ v.st.sparsity = 2)) 3] with
  | .error f => .error f
  | .ok () =>
    let inB := r * (elemBytes inF c + scaleBytes inF c)
    let done (reads : List (Nat × Nat × Nat)) (inB : Nat) (rows : List OutRow) (ws : List (Nat × Nat × List Byte)) : TRes KRes :=
      .ok { writes := ws, flags := rows.foldl (fun m x => m ||| x.flags) 0, bytesIn := inB, reads := reads }
    match (if op = 5 then checks [roundSet v.st] else if op = 3 then outNum v.st c else outOk v.st c) with
    | .error f => .error f
    | .ok () =>
    match op with
    | 0 =>
      match collect (denseRow v sw inF r c) (List.range r) with
      | .error f => .error f
      | .ok vs =>
        let rows := vs.zipIdx.map fun p => outRow v.st (p.2 * c) p.1
        done (denseReads sw inF r c) inB rows (rowWrites dw 1 rows)
    | 1 =>
      if elbsFmt v.st.outFmt = false then formatSet 2 v.st.outFmt else
      match collect (denseRow v sw inF r c) (List.range r) with
      | .error f => .error f
      | .ok vs => done (denseReads sw inF r c) inB (vs.zipIdx.map fun p => outRow v.st (p.2 * c) p.1) [(dw, 0, elbsTensor v.st vs r c)]
    | 2 =>
      let rd : Reader := fun o n => v.rd sw o n
      match elbsHdr rd with
      | .error f => .error f
      | .ok h =>
        if h.rows ≠ r then reportWin fParam sw 4 else if h.cols ≠ c then reportWin fParam sw 8 else
        match collect (elbsSuper rd h) (List.range h.count) with
        | .error f => .error f
        | .ok bs =>
          let rows := (List.range r).map fun i => outRow v.st (i * c) (elbsRowVals h bs i)
          done [(sw, 0, 64 + 4 * h.count + h.payload)] (64 + 4 * h.count + h.payload) rows (rowWrites dw 1 rows)
    | 3 =>
      match collect (denseRow v sw inF r c) (List.range r) with
      | .error f => .error f
      | .ok vs =>
        let nr := vs.map (nmRow nm)
        let outs := nr.zipIdx.map fun p => nmRound v.st nm (p.2 * c * nm / 4) p.1.1
        let es := outs.flatMap Prod.fst
        let el := packCodes (fmtBits v.st.outFmt) (es.map OutElem.code)
        let sc := outs.flatMap Prod.snd
        let md := packNat (c * nm / 2) (nr.map Prod.snd)
        .ok { writes := [(dw, 0, padTo (roundUp el.length 64) el ++ padTo (roundUp sc.length 64) sc ++
                le (ceilDiv (r * c * nm / 2) 8) md)]
              flags := elemFlags es, bytesIn := inB, reads := denseReads sw inF r c }
    | 4 =>
      match collect (nmBackRow v sw inF v.st.sparsity r c) (List.range r) with
      | .error f => .error f
      | .ok vs =>
        let rows := vs.zipIdx.map fun p => outRow v.st (p.2 * c) p.1
        done [(sw, 0, matBytes inF v.st.sparsity c r)] (matBytes inF v.st.sparsity c r) rows (rowWrites dw 1 rows)
    | _ =>
      let len := ((v.wins[sw]?).getD (false, false, 0)).2.2
      if len % 65536 ≠ 0 ∨ ((v.bases[sw]?).getD 0) % 65536 ≠ 0 then paramArg 12 else
      match collect (fun p => v.rd sw (p * 65536) 65536) (List.range (len / 65536)) with
      | .error f => .error f
      | .ok ps =>
        let zs := ps.map fun p => p.all fun b => decide (b = 0#8)
        let n := zs.zipIdx.foldl (fun a p => a + (b2n p.1 <<< p.2)) 0
        .ok { writes := [(dw, 0, le (ceilDiv zs.length 8) n)]
              zeroPages := if rec' = 1 then (zs.zipIdx.filter fun p => p.1).map Prod.snd else [], bytesIn := len, reads := [(sw, 0, len)] }

end Sys2Proof.Machine
end

