-- ==== Sys2Proof/Machine/KernelMat.lean ====
section
/-! DEFINITION. Stock kernels ATTN_DECODE, BSGEMM and the expert of MOE_FFN
(spec/06_kernels_and_dealer.md R226 to R233, R236). -/

namespace Sys2Proof.Machine

/-- The parameters of ATTN_DECODE (R231). -/
structure Attn where
  batch : Nat
  dim : Nat
  kvh : Nat
  group : Nat
  pt : Nat
  fmt : Nat
  mask : Bool
  drop : Bool
  scale : BitVec 32
  kvWin : Nat
  ptWin : Nat
  outWin : Nat
deriving DecidableEq, Repr

/-- Bytes of one head's block, scales included, and of a page (R231). -/
def Attn.rowB (a : Attn) : Nat := elemBytes a.fmt a.dim
def Attn.headB (a : Attn) : Nat := a.pt * a.rowB + scaleBytes a.fmt (a.pt * a.dim)
def Attn.pageB (a : Attn) : Nat := 2 * a.kvh * a.headB

/-- One row of a head's block: codes and MX scale codes. `kv` is the head among the 2 × KV_HEADS of the page. -/
def attnRow (v : KEnv) (a : Attn) (page kv i : Nat) : TRes (List Nat × List Nat) :=
  let base := page * a.pageB + kv * a.headB
  match v.rd a.kvWin (base + i * a.rowB) a.rowB,
        (if isMx a.fmt then v.rd a.kvWin (base + a.pt * a.rowB + i * (a.dim / 32)) (a.dim / 32) else .ok []) with
  | .error f, _ => .error f
  | _, .error f => .error f
  | .ok el, .ok sc => .ok (unpackCodes (fmtBits a.fmt) a.dim el, sc.map BitVec.toNat)

/-- q·k in a window, one product per lane, K ascending (R233, R138, R139). -/
def dotWindow (fault : Bool) (qFmt kFmt : Nat) (q k ks : List Nat) : TRes Window :=
  let lanes := (q.zip k).zipIdx.map fun p =>
    let sc := (ks[p.2 / 32]?).getD 127
    if isMx kFmt && decide (sc = 0xFF) then ({ l := 0, e := 0, sp := { nan := true } } : Lane)
    else
      let x := mElem qFmt true p.1.1
      let y := mElem kFmt true p.1.2
      { l := (mProd x y).1, e := x.u + y.u + (if isMx kFmt then scaleExp sc else 0), sp := (mProd x y).2 }
  feed fault {} lanes

/-- One included position of one head: its score s (R233). -/
def attnScore (v : KEnv) (a : Attn) (q : List Nat) (kv : Nat) (pos : Nat × Nat) : TRes (BitVec 32 × Bool) :=
  match attnRow v a pos.2 kv (pos.1 % a.pt) with
  | .error f => .error f
  | .ok (k, ks) =>
    match dotWindow v.st.accFault v.st.aFmt a.fmt q k ks with
    | .error f => .error f
    | .ok w => .ok (fmul (fl32 w.xval) a.scale, w.exceeded)

/-- Add fl32(p × v_d) of one position to the head's accumulators. -/
def attnAdd (a : Attn) (p : BitVec 32) (row : List Nat × List Nat) (cs : List Card) : List Card :=
  (cs.zip (row.1.zipIdx)).map fun q =>
    let sc := (row.2[q.2.2 / 32]?).getD 127
    let x := decodeFp ((fmtOf a.fmt).getD fp32) q.2.1
    let x := if isMx a.fmt then
        (if sc = 0xFF then .nan else match x with
          | .fin s m => .fin s (m * pow2 (scaleExp sc))
          | y => y)
      else x
    q.1.addF (f32 (toF32 (mulExact (f32 p) x)))

def attnSum (v : KEnv) (a : Attn) (kv : Nat) : List (BitVec 32 × (Nat × Nat)) → List Card → TRes (List Card)
  | [], cs => .ok cs
  | (p, pos) :: rest, cs =>
    match attnRow v a pos.2 (a.kvh + kv) (pos.1 % a.pt) with
    | .error f => .error f
    | .ok row => attnSum v a kv rest (attnAdd a p row cs)

/-- One query head over its included positions (R233). -/
def attnHead (v : KEnv) (a : Attn) (q : List Nat) (kv i : Nat) (ps : List (Nat × Nat)) : TRes (OutRow × Nat) :=
  match collect (attnScore v a q kv) ps with
  | .error f => .error f
  | .ok ss =>
    let flagged := (ss.filter Prod.snd).length
    match ss with
    | [] => .ok (roundRow v.st v.st.outFmt i (List.replicate a.dim { x := 0 }), 0)
    | s0 :: rest =>
      let m := rest.foldl (fun m s => fmax m s.1) s0.1
      let pw := ss.map fun s => sfu .exp (fadd s.1 (m ^^^ 0x80000000#32))
      let sum := fl32 (pw.foldl (fun c x => c.addF (f32 x)) ({} : Card)).xval
      let r := sfu .rcp sum
      match attnSum v a kv (pw.zip ps) (List.replicate a.dim {}) with
      | .error f => .error f
      | .ok cs =>
        let outs := cs.map fun c => (f32 (fmul (fl32 c.xval) r)).xval
        .ok (roundRow v.st v.st.outFmt i outs, flagged)

/-- The sizes of a request record's parts (R232): mask, drop list, Q. -/
def attnParts (a : Attn) (v : KEnv) (seq drops : Nat) : Nat × Nat × Nat :=
  (if a.mask then roundUp (ceilDiv (ceilDiv seq a.pt) 8) 64 else 0, if a.drop then roundUp (4 * drops) 64 else 0,
    roundUp (elemBytes v.st.aFmt (a.kvh * a.group * a.dim)) 64)

/-- What the requests give: output rows with their flagged counts, the end of the input, window bytes read and
multiply-accumulates. -/
structure AttnRes where
  rows : List (OutRow × Nat) := []
  stop : Nat
  bytes : Nat := 0
  macs : Nat := 0
  reads : List (Nat × Nat × Nat) := []

/-- Requests from input offset `o` (R232, R233). A record that passes INPUT_BYTES is a PARAM report. -/
def attnReqs (v : KEnv) (a : Attn) : Nat → Nat → Nat → TRes AttnRes
  | 0, _, o => .ok { stop := o }
  | f + 1, b, o =>
    if v.inBytes < o + 64 then .error { code := fParam } else
    match v.rd v.inWin o 64 with
    | .error e => .error e
    | .ok h =>
      let seq := field h 0 4
      let pf := field h 4 4
      let drops := field h 8 2
      if seq < 1 ∨ 1048576 < seq then reportWin fParam v.inWin o
      else if 1024 < drops then reportWin fParam v.inWin (o + 8) else
      let (mb, db, qb) := attnParts a v seq drops
      let np := ceilDiv seq a.pt
      if v.inBytes < o + roundUp (64 + mb + db + qb) 128 then .error { code := fParam } else
      match v.rd v.inWin (o + 64) mb, v.rd v.inWin (o + 64 + mb) db, v.rd v.inWin (o + 64 + mb + db) qb,
            v.rd a.ptWin (4 * pf) (4 * np) with
      | .error e, _, _, _ => .error e
      | _, .error e, _, _ => .error e
      | _, _, .error e, _ => .error e
      | _, _, _, .error e => .error e
      | .ok ml, .ok dl, .ok ql, .ok pl =>
        let dropped := if a.drop then tabulate drops fun i => field dl (4 * i) 4 else []
        match dropped.findIdx? fun d => decide (seq ≤ d) with
        | some i => reportWin fParam v.inWin (o + 64 + mb + 4 * i)
        | none =>
          let page (p : Nat) : Nat := field pl (4 * p) 4
          let kept := (List.range np).filter fun p => !a.mask || bit (ofLe (slice ml (p / 8) 1)) (p % 8)
          let kvLen := ((v.wins[a.kvWin]?).getD (false, false, 0)).2.2
          match kept.find? fun p => decide (kvLen < (page p + 1) * a.pageB) with
          | some p => .error { code := fParam, addr := page p, win := a.kvWin }
          | none =>
            let ps := (List.range seq).filterMap fun i =>
              if kept.contains (i / a.pt) && !dropped.contains i then some (i, page (i / a.pt)) else none
            let q := unpackCodes (fmtBits v.st.aFmt) (a.kvh * a.group * a.dim) ql
            match collect (fun hd => attnHead v a ((q.drop (hd * a.dim)).take a.dim) (hd / a.group)
                ((b * a.kvh * a.group + hd) * a.dim) ps) (List.range (a.kvh * a.group)) with
            | .error e => .error e
            | .ok rows =>
              match attnReqs v a f (b + 1) (o + roundUp (64 + mb + db + qb) 128) with
              | .error e => .error e
              | .ok x =>
                .ok { rows := rows ++ x.rows, stop := x.stop, bytes := x.bytes + 4 * np + kept.length * a.pageB
                      macs := x.macs + ps.length * a.kvh * a.group * a.dim
                      reads := (a.ptWin, 4 * pf, 4 * np) :: kept.map (fun p => (a.kvWin, page p * a.pageB, a.pageB)) ++ x.reads }

/-- ATTN_DECODE (R231 to R233). Its operations are those of q·k and of p·v (R137, R212). -/
def kAttn (v : KEnv) : TRes KRes :=
  let a : Attn :=
    { batch := v.arg 0 4, dim := v.arg 4 2, kvh := v.arg 6 1, group := v.arg 7 1, pt := v.arg 8 2, fmt := v.arg 10 1,
      mask := bit (v.arg 11 1) 0, drop := bit (v.arg 11 1) 1, scale := BitVec.ofNat 32 (v.arg 12 4),
      kvWin := v.arg 16 1, ptWin := v.arg 17 1, outWin := v.arg 18 1 }
  match checks
    [argOk (decide (1 ≤ a.batch ∧ a.batch ≤ 4096)) 0, argOk (decide (a.dim = 64 ∨ a.dim = 128 ∨ a.dim = 256)) 4,
     argOk (decide (1 ≤ a.kvh ∧ a.kvh ≤ 64)) 6, argOk (decide (1 ≤ a.group ∧ a.group ≤ 16)) 7,
     argOk (decide (a.pt = 16 ∨ a.pt = 32 ∨ a.pt = 64 ∨ a.pt = 128 ∨ a.pt = 256)) 8,
     argOk (decide (a.fmt = 0x10 ∨ a.fmt = 0x11 ∨ a.fmt = 0x04)) 10, argOk (v.winOk a.kvWin true false 1) 16,
     argOk (v.winOk a.ptWin true false 1) 17,
     argOk (v.winOk a.outWin false true (elemBytes v.st.outFmt (a.batch * a.kvh * a.group * a.dim))) 18,
     (fmtM v.st.aFmt, formatSet 0 v.st.aFmt), setOk (decide (v.st.aFmt = 0x10 ∨ v.st.aFmt = 0x11)) 0] with
  | .error f => .error f
  | .ok () =>
    match outNum v.st a.dim with
    | .error f => .error f
    | .ok () =>
      match attnReqs v a a.batch 0 0 with
      | .error f => .error f
      | .ok x =>
        if x.stop ≠ v.inBytes then .error { code := fParam } else
        let n := x.rows.foldl (fun s r => s + r.2) 0
        .ok { writes := rowWrites a.outWin 1 (x.rows.map Prod.fst)
              flags := x.rows.foldl (fun m r => m ||| r.1.flags) (if n = 0 then 0 else 1)
              flagged := n, ops := 4 * x.macs, bytesIn := x.stop + x.bytes, reads := x.reads }

/-- BSGEMM rows (R236): one A row against the whole EL-BS operand. -/
def gemmRow (v : KEnv) (wt : WTile) (m k n aw i : Nat) : TRes (OutRow × Nat) :=
  match v.rd aw (i * elemBytes v.st.aFmt k) (elemBytes v.st.aFmt k),
        (if isMx v.st.aFmt then v.rd aw (denseScaleAt v.st.aFmt m k + i * (k / 32)) (k / 32) else .ok []) with
  | .error f, _ => .error f
  | _, .error f => .error f
  | .ok el, .ok sc =>
    match rowWindows v.st.accFault v.st.aFmt wt (unpackCodes (fmtBits v.st.aFmt) k el) (sc.map BitVec.toNat) with
    | .error f => .error f
    | .ok ws => .ok (roundRow v.st v.st.outFmt (i * n) (ws.map Window.xval), (ws.filter Window.exceeded).length)

/-- BSGEMM (R236). -/
def kBsgemm (v : KEnv) : TRes KRes :=
  let m := v.arg 0 4
  let n := v.arg 4 4
  let k := v.arg 8 4
  let aw := v.arg 12 1
  let ww := v.arg 13 1
  let cw := v.arg 14 1
  match checks
    [argOk (decide (1 ≤ m ∧ m ≤ 1048576)) 0, argOk (decide (64 ≤ n ∧ n ≤ 65536 ∧ n % 64 = 0)) 4,
     argOk (decide (64 ≤ k ∧ k ≤ 65536 ∧ k % 64 = 0)) 8, argOk (v.winOk aw true false 1) 12,
     argOk (v.winOk ww true false 1) 13, argOk (v.winOk cw false true (m * roundUp (elemBytes v.st.outFmt n) 128)) 14,
     setOk (decide (v.st.sparsity = 3)) 3] with
  | .error f => .error f
  | .ok () =>
    match outNum v.st n with
    | .error f => .error f
    | .ok () =>
      let rd : Reader := fun o l => v.rd ww o l
      match elbsHdr rd with
      | .error f => .error f
      | .ok h =>
        if h.fmt ≠ v.st.wFmt then fmtFault h.fmt
        else if h.rows ≠ n then reportWin fParam ww 4
        else if h.cols ≠ k then reportWin fParam ww 8
        else if (pairOf v.st.aFmt h.fmt).isNone then formatSet 0 v.st.aFmt else
        match collect (elbsSuper rd h) (List.range h.count) with
        | .error f => .error f
        | .ok bs =>
          let supers : Tab Super := (List.range h.count).zip bs
          let wt : WTile :=
            { fmt := h.fmt, sparsity := 3, k := k, cols := tabulate n fun j => elbsColumn supers h j 0 k
              scales := tabulate n fun j => elbsScales supers h j 0 k }
          match collect (gemmRow v wt m k n aw) (List.range m) with
          | .error f => .error f
          | .ok rows =>
            let fl := rows.foldl (fun s r => s + r.2) 0
            .ok { writes := rowWrites cw 128 (rows.map Prod.fst)
                  flags := rows.foldl (fun x r => x ||| r.1.flags) (if fl = 0 then 0 else 1)
                  flagged := fl, ops := 2 * m * n * k
                  bytesIn := m * (elemBytes v.st.aFmt k + scaleBytes v.st.aFmt k) + 64 + 4 * h.count + h.payload
                  reads := denseReads aw v.st.aFmt m k ++ [(ww, 0, 64 + 4 * h.count + h.payload)] }

/-- The record of a model that the expert needs (R221). -/
structure ModelHdr where
  experts : Nat
  dModel : Nat
  dFf : Nat
  gated : Bool
  act : Nat
  wFmt : Nat
  sparsity : Nat
  inter : Nat
  hotCount : Nat
  expertBytes : Nat
deriving DecidableEq, Repr

def ModelHdr.ofBytes (l : List Byte) : ModelHdr :=
  { experts := field l 6 2, dModel := field l 8 4, dFf := field l 12 4, gated := decide (field l 16 1 = 1),
    act := field l 17 1, wFmt := field l 18 1, sparsity := field l 19 1, inter := field l 20 1, hotCount := field l 22 2,
    expertBytes := field l 24 8 }

/-- The bytes one expert needs (R221). -/
def ModelHdr.bytesNeeded (h : ModelHdr) : Nat :=
  (if h.gated then 2 else 1) * matBytes h.wFmt h.sparsity h.dModel h.dFf + matBytes h.wFmt h.sparsity h.dFf h.dModel

/-- ACT of R226. -/
def actFn (a : Nat) (x : BitVec 32) : BitVec 32 :=
  match a with
  | 0 => fmax x 0#32
  | 1 => sfu .gelu x
  | _ => fmul x (sfu .rcp (fadd 0x3F800000#32 (sfu .exp (x ^^^ 0x80000000#32))))

/-- One token through one expert (R226): the windows of y_e, how many intermediate outputs were flagged and the flags that
the rounding of h sets (R150, R153). `rd` reads the expert's bytes, `i` is the token's index in its invocation. -/
def expertToken (h : ModelHdr) (st : Settings) (rd : Reader) (i : Nat) (x xs : List Nat) : TRes (List Window × Nat × Nat) :=
  let mb := matBytes h.wFmt h.sparsity h.dModel h.dFf
  let at' (o : Nat) : Reader := fun p n => rd (o + p) n
  let one (o : Nat) : TRes (List Window) :=
    match matrix (at' o) h.wFmt h.sparsity h.dModel h.dFf with
    | .error f => .error f
    | .ok wt => rowWindows st.accFault st.aFmt wt x xs
  let upAt := if h.gated then mb else 0
  match (if h.gated then one 0 else .ok []), one upAt, matrix (at' (upAt + mb)) h.wFmt h.sparsity h.dFf h.dModel with
  | .error f, _, _ => .error f
  | _, .error f, _ => .error f
  | _, _, .error f => .error f
  | .ok gw, .ok uw, .ok down =>
    let u := uw.map fun w => fl32 w.xval
    let hs := if h.gated then List.zipWith (fun (g : Window) y => fmul (actFn h.act (fl32 g.xval)) y) gw u else u.map (actFn h.act)
    let inter := roundRow { st with outFmt := h.inter } h.inter (i * h.dFf) (hs.map fun y => (f32 y).xval)
    let fl := ((gw ++ uw).filter Window.exceeded).length
    match rowWindows st.accFault h.inter down (unpackCodes (fmtBits h.inter) h.dFf inter.bytes) (inter.scales.map BitVec.toNat) with
    | .error f => .error f
    | .ok ws => .ok (ws, fl, inter.flags)

/-- The layout of one MOE_FFN token record (R227): header bytes, logit bytes, activation bytes, RS. -/
def moeHdrB (gating k : Nat) : Nat := if gating = 1 then 64 else 64 * ceilDiv (8 + 8 * k) 64
def moeLogB (gating e : Nat) : Nat := if gating = 1 then roundUp (4 * e) 64 else 0
def moeActB (fmt d : Nat) : Nat := elemBytes fmt d + scaleBytes fmt d
def moeRS (gating k e fmt d : Nat) : Nat := roundUp (moeHdrB gating k + moeLogB gating e + moeActB fmt d) 128

/-- One token of MOE_FFN: its tag, its experts with weights in list order, its activation (R227). -/
structure MoeTok where
  tag : Nat
  experts : List (Nat × BitVec 32)
  codes : List Nat
  scales : List Nat
deriving DecidableEq, Repr

/-- Read token `i` of the input window (R227). -/
def moeToken (v : KEnv) (h : ModelHdr) (gating k norm i : Nat) : TRes MoeTok :=
  let rs := moeRS gating k h.experts v.st.aFmt h.dModel
  match v.rd v.inWin (i * rs) rs with
  | .error f => .error f
  | .ok l =>
    let hb := moeHdrB gating k
    let lb := moeLogB gating h.experts
    let ex : List (Nat × BitVec 32) :=
      if gating = 1 then
        (gateToken norm k (logitWords 0x12 h.experts (l.drop hb))).map fun p => (p.2, p.1)
      else tabulate k fun j => (field l (8 + 8 * j) 2, BitVec.ofNat 32 (field l (12 + 8 * j) 4))
    let act := l.drop (hb + lb)
    let eb := elemBytes v.st.aFmt h.dModel
    .ok { tag := field l 0 4, experts := ex, codes := unpackCodes (fmtBits v.st.aFmt) h.dModel act
          scales := (slice act eb (scaleBytes v.st.aFmt h.dModel)).map BitVec.toNat }

/-- The position of the first fault in one token's expert list: an index of E or above, or a repeat (R227). -/
def badExpert (e : Nat) : Nat → List Nat → List (Nat × BitVec 32) → Option Nat
  | _, _, [] => none
  | j, seen, (x, _) :: rest => if e ≤ x ∨ seen.contains x then some j else badExpert e (j + 1) (x :: seen) rest

/-- The arguments and the input of MOE_FFN, checked (R226, R227): an operand pair outside R120 and an OUT_FMT outside column
O raise FORMAT, as R120 and R130 say, the cases of R227 PARAM. `m` is the model named, if loaded. -/
def moeCheck (v : KEnv) (m : Option ModelHdr) : TRes (List MoeTok) :=
  let gating := v.arg 2 1
  let k := v.arg 3 1
  let n := v.arg 4 4
  let comb := v.arg 8 1
  let norm := v.arg 9 1
  match m with
  | none => paramArg 0
  | some h =>
    match checks
      [argOk (decide (gating ≤ 1)) 2, argOk (decide (1 ≤ k ∧ k ≤ 16 ∧ (gating = 0 ∨ k ≤ h.experts))) 3,
       argOk (decide (1 ≤ n ∧ n ≤ 16384)) 4, argOk (decide (comb ≤ 1)) 8, argOk (decide (gating = 0 ∨ norm ≤ 2)) 9,
       (decide (pairOf v.st.aFmt h.wFmt ≠ none), formatSet 0 v.st.aFmt), setOk (decide (v.st.wFmt = h.wFmt)) 1,
       (fmtO v.st.outFmt, formatSet 2 v.st.outFmt),
       setOk (decide (comb = 0) || decide (v.st.outFmt = 0x12 ∨ v.st.outFmt = 0x10 ∨ v.st.outFmt = 0x11)) 2,
       setOk (decide (v.st.sparsity = h.sparsity)) 3, setOk (decide (pairOf h.inter h.wFmt ≠ none)) 1] with
    | .error f => .error f
    | .ok () =>
      match outNum v.st h.dModel with
      | .error f => .error f
      | .ok () =>
      if v.inBytes ≠ n * moeRS gating k h.experts v.st.aFmt h.dModel then .error { code := fParam } else
      match collect (moeToken v h gating k norm) (List.range n) with
      | .error f => .error f
      | .ok ts =>
        match ts.zipIdx.findSome? fun p => (badExpert h.experts 0 [] p.1.experts).map fun j => (p.2, j) with
        | some (i, j) => reportWin fParam v.inWin (i * moeRS gating k h.experts v.st.aFmt h.dModel + 8 + 8 * j)
        | none => .ok ts

end Sys2Proof.Machine
end

