-- ==== Sys2Proof/Machine/StateDeal.lean ====
section
/-! DEFINITION. State of the dealer: open invocations, work items, baskets, models, collectives and loaded images
(spec/06_kernels_and_dealer.md R201 to R241). Settings and counters stand in the DEAL registers. -/
namespace Sys2Proof.Machine

/-- A window binding of an invocation descriptor (R202). -/
structure Binding where
  ext : Nat
  rights : Nat
  offset : Nat
  length : Nat
deriving DecidableEq, Repr

/-- Where an open invocation stands (R207, R209, R215, R234). -/
inductive InvSt
  | input                            -- its input is not complete
  | ready                            -- a work item that waits for clusters, or a contribution that waits
  | running                          -- its tiles run
  | tokens                           -- its tokens are in baskets
  | joined                           -- it has contributed to its collective
deriving DecidableEq, Repr

/-- An open invocation (R202 to R214). -/
structure Inv where
  ptn : Nat
  req : Packet                       -- the INVOKE, for its RESULT transfers (R211)
  port : Nat
  x : Nat
  kernel : Nat
  inputWin : Nat
  outputWin : Nat
  clusters : Nat
  inputBytes : Nat
  outputBytes : Nat
  settings : List Byte
  wins : List Binding
  args : List Byte
  acceptedAt : Nat
  st : InvSt := .input
  readyAt : Nat := 0
  marks : Nat := 0                   -- one bit per input line (R207)
  input : Mem := []
  output : Mem := []
  reserved : List Nat := []          -- clusters it holds, in rank order
  todo : List (Nat × Nat × Nat) := []  -- entries not yet in a basket: token, expert, weight (R215, R218)
  left : Nat := 0                    -- token entries not yet run
  tokLeft : Tab Nat := []            -- experts still open, by token
  tokAcc : Tab (List Card) := []     -- scorecards of a token (R228)
  sent : Nat := 0                    -- DATA and TOKEN transfers sent
  cut : Nat := 0                     -- TOKENS_CUT (R212)
  flags : Nat := 0
  flagged : Nat := 0
  passes : Nat := 1
  tiles : Nat := 16                  -- s3 (R162, R210)
  prep : List Nat := []              -- clusters still preparing (R199)
  startedAt : Nat := 0               -- when its first tile, or its first basket, started (R194, R220)
  ops : Nat := 0
  bytesIn : Nat := 0
  bytesOut : Nat := 0
deriving DecidableEq, Repr

/-- A loaded model (R221 to R224). -/
structure Model where
  ptn : Nat
  handle : Nat
  hdr : ModelHdr
  experts : Mem := []                -- expert e from byte e × EXPERT_BYTES
  resident : List Nat := []
  cache : List Nat := []             -- promoted experts
  dealt : Tab Nat := []              -- expert → the number of its last dealing (R224)
  slots : Tab (List Nat) := []       -- expert → global clusters
  spillPpm : Nat := 0
  unloading : Bool := false
  lastInv : Nat := 0                 -- invocations of a lower number may still use an unloading model (R221)
  promoting : List Nat := []
deriving DecidableEq, Repr

/-- A basket (R215 to R217): entries are (invocation, token). -/
structure Basket where
  ptn : Nat
  model : Nat
  expert : Nat
  entries : List (Nat × Nat)
  weights : List Nat                 -- gate weight of each entry, binary32
  openedAt : Nat
  deadline : Nat
  target : Nat
  due : Bool := false                -- its model was unloaded: it closes as soon as the partition has room (R216, R218)
  closed : Bool := false
  order : Nat := 0                   -- its number in the order of closing (R217)
  cluster : Option Nat := none
deriving DecidableEq, Repr

/-- An open collective (R234, R235). -/
structure Coll where
  ptn : Nat
  id : Nat
  parties : Nat
  elems : Nat
  inFmt : Nat
  mode : Nat
  settings : List Byte
  clusters : List Nat
  opener : Nat                       -- the invocation that opened it
  openedAt : Nat
  ranks : Tab Nat := []              -- rank → invocation that contributed
deriving DecidableEq, Repr

/-- The dealer. -/
structure Dealer where
  invs : Tab Inv := []
  nextInv : Nat := 0
  images : Tab Image := []           -- partition × 65,536 + handle
  models : Tab Model := []           -- partition × 65,536 + handle
  baskets : Tab Basket := []
  nextBasket : Nat := 0
  nextClose : Nat := 0               -- baskets closed so far (R217)
  nextDeal : Nat := 0                -- baskets dealt so far (R224)
  colls : Tab Coll := []
  nextColl : Nat := 0
  stage : Tab Nat := []              -- partition → staging pool units, 1,024 unlisted (R206)
deriving DecidableEq, Repr

end Sys2Proof.Machine
end

