-- ==== Sys2Proof/Machine/StateMem.lean ====
section
/-! DEFINITION. State of the HBM tier, of line integrity and of the flash tier (spec/11_hbm_tier.md,
12_flash_tier.md, 13_data_integrity.md). Counters and settings stand in the MC, ECC, SCB and FL registers. -/

namespace Sys2Proof.Machine

/-- A tier page's state (R357). A DRAM_PINNED page is `dirty` for as long as it has a frame. -/
inductive PageSt
  | unwritten | zero | flash | promoting | clean | dirty
deriving DecidableEq, Repr

/-- A tier page that has been given space (R25, R357, R358, R530). The key is handle × 2^28 + page number. -/
structure PageRec where
  home : Nat                         -- home channel
  st : PageSt := .unwritten
  frame : Option Nat := none
  loc : Option Nat := none           -- LOCATION of its committed flash copy (R363)
  committedZero : Bool := false      -- the last committed record of the page is ZERO
  zeroPending : Bool := false        -- a ZERO record not yet committed (R530)
  dirtyAt : Nat := 0
  usedAt : Nat := 0
  destaging : Bool := false          -- a snapshot is being programmed
  rewritten : Bool := false          -- written after its snapshot (R361)
  prio : Nat := 0                    -- 1: named by an open PERSIST, 2: frees a frame (R360)
  zeroed : Bool := false             -- written whole by ZERO, for INIT (R78)
  commits : Nat := 0                 -- destages of it that have committed
deriving DecidableEq, Repr

/-- What a queue entry does. -/
inductive ReqKind
  | read
  | write (data : List Byte) (mark : Nat)   -- mark: 0 data, 1 poison code, 2 data-error marker (R376)
deriving DecidableEq, Repr

/-- An entry of a tag's input queue or of a bank queue (R332, R333). -/
structure ChanReq where
  kind : ReqKind
  bank : Nat
  row : Nat
  slot : Nat
  tag : Nat
  wr : Option Nat := none            -- the accepted write it belongs to (R57)
  since : Nat := 0
  reserved : Bool := false           -- a write-back in the reserved entry (R333)
  li : Nat := 0                      -- its channel line index (R330)
deriving DecidableEq, Repr

/-- A remap entry (R381). -/
structure RemapEnt where
  valid : Bool
  copying : Bool
  bank : Nat
  row : Nat
  spare : Nat
  cause : Nat
  fails : Nat
deriving DecidableEq, Repr

/-- A repeat-log entry (R384). -/
structure RepeatEnt where
  bank : Nat
  row : Nat
  slot : Nat
  time : Nat
  fails : Nat := 1
deriving DecidableEq, Repr

/-- A pending row copy (R383). -/
structure CopyJob where
  bank : Nat
  row : Nat
  spare : Nat
  cause : Nat
  fails : Nat
  entry : Nat
deriving DecidableEq, Repr

/-- One HBM channel controller (R329 to R350, R381 to R384). -/
structure Channel where
  frames : Tab Nat := []             -- frame in use → page key
  failed : Bool := false
  trainFails : Nat := 0
  pwr : Nat := 0                     -- MC_CH_STATUS.PWR
  tagQ : Tab (List ChanReq) := []    -- input queues by tag
  bankQ : Tab (List ChanReq) := []   -- bank queues
  openRow : Tab Nat := []            -- open row by bank, spare rows as 49,152 + n
  checkBuf : Tab (List Byte) := []   -- columns 30 and 31 of the open row (R329), 128 B
  checkDirty : List Nat := []        -- banks whose check buffer was changed
  idleSince : Tab Nat := []          -- when a bank queue became empty
  emptySince : Nat := 0
  postponed : Tab Nat := []          -- refreshes postponed by bank; 32 for all-bank
  refBank : Nat := 0                 -- next bank of per-bank refresh
  refAt : Nat := 0                   -- when the last refresh fell due
  trainTemp : Nat := 25              -- stack temperature at the last training
  hot : Bool := false
  refMode : Nat := 1                 -- the refresh mode of the running interval (R341)
  tagActs : Tab Nat := []            -- bank × 64 + tag → activations in the epoch
  level : Tab Nat := []              -- throttle level by tag
  levelAt : Tab Nat := []            -- last throttle that named the tag
  grantAt : Tab Nat := []            -- last grant of a throttled tag
  remap : List RemapEnt := []        -- 4 entries, in order
  spareUsed : Tab Nat := []          -- bank → 4 bits
  copies : List CopyJob := []
  repeatLog : List RepeatEnt := []   -- 16 entries, oldest first
  pausedTo : Nat := 0                -- end of a calibration or retraining pause (R346)
deriving DecidableEq, Repr

/-- One HBM stack (R343 to R346, R352). -/
structure Stack where
  selfRefresh : Bool := false
  temp : Nat := 25
  tempAt : Nat := 0                  -- when the temperature was last read (R341)
  hot : Bool := false
  trained : Bool := false
  epoch : Nat := 0
  epochAt : Nat := 0
  zqAt : Tab Nat := []               -- last ZQ calibration by channel
  trainAt : Tab Nat := []            -- last retraining by channel
deriving DecidableEq, Repr

/-- An error log record as kept (R392). -/
structure ErrRec where
  time : Nat
  chan : Nat
  bank : Nat
  slot : Nat
  row : Nat
  kind : Nat
  tag : Nat
  symbols : Nat
deriving DecidableEq, Repr

/-- A scrub pass in progress, or its summary (R389 to R391). -/
structure ScrubPass where
  ptn : Nat
  ext : Nat := 0
  demand : Bool
  startAt : Nat
  off : Nat := 0
  len : Nat := 0
  pos : Tab Nat := []                -- walk: next line index by channel
  gap : Tab Nat := []                -- walk: time between reads by channel (R389)
  readAt : Tab Nat := []             -- the last read by channel
  cur : Nat := 0                     -- on demand: next byte of the range
  late : Bool := false
  early : Bool := false
  read : Nat := 0
  clean : Nat := 0
  corrected : Nat := 0
  uncorr : Nat := 0
  poisoned : Nat := 0
  remapped : Nat := 0
  skipped : Nat := 0
  flashPages : Nat := 0
  flashUncorr : Nat := 0
  firstUe : List Nat := []
deriving DecidableEq, Repr

/-- What the commit of an extent record carries out (R504). -/
inductive ExtAct
  | none
  | create
  | policy (p : Nat)
  | acl (l : List AclEntry)
  | drain (ms : Nat)
  | init
  | moved                            -- a MAP record of garbage collection (R367)
deriving DecidableEq, Repr

/-- A journal record (R363, R364). -/
structure JRec where
  seq : Nat
  kind : Nat
  ext : Nat
  page : Nat
  loc : Nat
  version : Nat
  publisher : Nat
  acl : List AclEntry := []          -- EXT_ACL: the entries of its chunk
  act : ExtAct := .none
deriving DecidableEq, Repr

/-- What a queued flash operation is (R372). -/
inductive FlOp
  | promote (key : Nat)
  | destage (key : Nat) (data : List Byte) (poison uncorr : Nat)   -- the snapshot, and its line marks
  | expert (model expert : Nat)
  | scrub (key : Nat)                -- a FLASH page read for its check alone (R390)
  | erase (group : Nat)
  | journal
deriving DecidableEq, Repr

structure FlReq where
  op : FlOp
  ptn : Nat                          -- 64 for garbage collection
  prio : Nat
  since : Nat
  loc : Nat := 0
  started : Bool := false
  bad : List Nat := []               -- codewords found uncorrectable (R369)
deriving DecidableEq, Repr

/-- The flash contents of one tier page (R356): data with zeros in marked lines, and the line marks. -/
structure FlashPage where
  ext : Nat
  page : Nat
  wseq : Nat
  data : Mem
  poison : Nat
  uncorr : Nat
  valid : Bool := true
deriving DecidableEq, Repr

/-- One flash channel (R353, R354, R372). -/
structure FlashCh where
  parked : Bool := false
  trained : Bool := false
  ce : Nat := 0                      -- FL_CH_STATUS.CE_PRESENT
  lunReject : Nat := 0
  queue : List FlReq := []
  deficit : Tab Int := []
  last : Nat := 64
deriving DecidableEq, Repr

/-- One M die's flash side (R363 to R371). -/
structure FlashDie where
  mounted : Bool := false
  seq : Nat := 1                     -- SEQ of the next record
  log : List JRec := []              -- committed records since the checkpoint and before, newest last
  pend : List JRec := []             -- written, not yet committed
  firstUncommitted : Nat := 0        -- when the first uncommitted record was written
  commitAsked : Bool := false
  commitOpen : Option Nat := none    -- SEQ of a COMMIT being programmed
  chans : List Nat := [0, 4]
  pages : Tab FlashPage := []        -- LOCATION → contents
  luns : List Nat := []              -- usable LUNs as LOCATION[7:0] (R354, R363)
  groups : Tab Nat := []             -- block groups of each LUN
  kitties : Tab Nat := []            -- kitty blocks left of each LUN (R371)
  used : List Nat := []              -- block groups in use: being filled, filled or retired
  filling : List (Nat × Nat) := []   -- block groups being filled, with their next page index
  borrowed : Nat := 0
  gcActive : Bool := false
  gcQueue : List Nat := []           -- block groups queued for garbage collection (R369, R370)
  dead : List Nat := []              -- block groups retired with an empty kitty (R371)
  noSpace : Bool := false
  ckAt : Nat := 0
  ckRecords : Nat := 0
  erased : Tab Nat := []
  maps : Tab Nat := []               -- MC_CH_CFG.MAP of owned channels in the last committed checkpoint (R504)
  mapsNew : Tab Nat := []            -- and in the one last written
  annex : List (Nat × Nat) := []     -- retired blocks: (channel, block group) (R370, R493)
deriving DecidableEq, Repr

/-- The memory-side dies. -/
structure MemSide where
  chans : Tab Channel := []
  stks : Tab Stack := []
  dram : Mem := []                   -- ((channel × 32 + bank) × 49,156 + row) × 2,048 + byte
  pages : Tab PageRec := []          -- handle × 2^28 + page
  fch : Tab FlashCh := []
  dies : Tab FlashDie := []
  errLog : Tab (List ErrRec) := []   -- per die, oldest first
  scrubs : List ScrubPass := []
  lastPass : Tab ScrubPass := []     -- last walk pass by partition
  draining : List Nat := []          -- partitions whose DIRTY share rose above FL_PTN_DIRTY_HIGH and is not yet below LOW (R360)
deriving DecidableEq, Repr

end Sys2Proof.Machine
end

