-- ==== Sys2Proof/Machine/State.lean ====
section
/-! DEFINITION. The state of the device, why it can stop, and the state right after a power-on reset
(spec/20_reset_and_bringup.md R495, R501). Times are in units of 10 ps. -/
namespace Sys2Proof.Machine

/-- Everything the manual gives the device. -/
structure State where
  now : Nat := 0                     -- device time in units of 10 ps
  pending : List Instr := []         -- commands that wait, first in first out
  free : Nat := 0                    -- the model's own counter of free values (log 2)
  regs : Tab Nat := []               -- register fields whose value differs from their reset value
  comp : Comp := {}
  deal : Dealer := {}
  fab : Fabric := {}
  dir : Directory := {}
  links : Tab Link := []
  rt : Routing := {}
  egr : Tab Egress := []
  groupMap : Tab Nat := []           -- destination group map, 0 unlisted (R316)
  pols : Tab Policer := []
  arbs : Tab Arb := []               -- class × 2^16 + instance
  arbSel : Tab Nat := []             -- ARB_SEL of each mailbox, class + 16 × instance
  mem : MemSide := {}
  ptns : Tab PtnRec := []
  exts : Tab ExtRec := []
  freed : Tab FreedRec := []
  mbx : Tab Mailbox := []
  chk : Tab Checker := []
  cores : Cores := {}
  pcie : Pcie := {}
  sec : Sec := {}
  nor : Nor := {}
  wear : Wear := {}
  diag : Diag := {}
  prt : Partner := {}
  mtr : Meter := {}
  send : Tab Sender := []            -- counter-link senders by link
  lk : Lookout := {}
  board : Board := {}
deriving DecidableEq, Repr

/-- Why the device stops: a command that names a unit the manual says does not exist. -/
inductive Fault
  /-- ARBITER_GRANT names a class and instance absent from R394. Safe: no run of the device has such an event. -/
  | absentArbiter
  /-- HBM_COLUMN_READ names a row past a bank's last spare row (R327, R381). Safe, as above. -/
  | absentRow
deriving DecidableEq, Repr

/-- Why a command has no meaning. -/
inductive Refusal
  /-- Raised by an arm of exec that has no meaning yet. Safe: the device goes on where the model stops. -/
  | notModelled (mnemonic : String)
deriving DecidableEq, Repr

/-- An image slot as the board ships it (log 10). -/
def shipped (stage : Nat) : FwImage :=
  { svn := 1, owner := false, digest := Config.provisioned (100 + stage) 32, vendorOk := true }

/-- The device right after a power-on reset: the mask ROM runs, no partition exists, every register stands at its
reset value, memories list nothing. Values the manual does not give are those of log 3 to log 10. -/
def State.reset : State :=
  { nor := { images := [(0, shipped 0), (2, shipped 1), (4, shipped 2)] },
    mtr := { images := [(0, shipped 2)], lastDigest := Config.provisioned 102 32, svn := 1 } }

end Sys2Proof.Machine
end

