-- ==== Sys2Proof/Machine/Ops.lean ====
section
/-! DEFINITION. Operations over the state that the families share: time, registers, free values, access to the parts
of the state, the meter's pending deltas, findings of self-diagnosis, and deferred mailbox completions. -/
namespace Sys2Proof.Machine

/-- One microsecond, one millisecond and one second of device time. -/
def usec : Nat := 100000
def msec : Nat := 100000000
def oneSec : Nat := 100000000000

/-- One KCLK period passes (log 11). -/
def State.idle (s : State) : State := { s with now := s.now + 50 }
/-- Whether `d` has passed since `t`. -/
def State.past (s : State) (t d : Nat) : Bool := decide (t + d ≤ s.now)
/-- Device time in whole microseconds since MBX_READY. -/
def State.upUs (s : State) : Nat := (s.now - s.board.readyAt) / usec

/-- Draw the next free value (log 2). -/
def State.draw (s : State) : Nat × State := (Config.free s.free, { s with free := s.free + 1 })

/-- A register field. -/
def State.reg (s : State) (r : Reg) (i : Nat) : Nat := Tab.getD s.regs (r.key i) (r.resetAt i)
/-- Set a register field. -/
def State.setReg (s : State) (r : Reg) (i v : Nat) : State :=
  { s with regs := Tab.set (r.resetAt i) s.regs (r.key i) v }
/-- Add to a 32-bit counter that wraps. -/
def State.bumpN (s : State) (r : Reg) (i n : Nat) : State := s.setReg r i (wrapAdd 32 (s.reg r i) n)
/-- Add one to a 32-bit counter that wraps. -/
def State.bump (s : State) (r : Reg) (i : Nat) : State := s.bumpN r i 1

/-- Forget the listed values of registers that satisfy `f` (their index and instance): they read as at reset. -/
def State.clearRegs (s : State) (f : Nat → Nat → Bool) : State :=
  { s with regs := s.regs.filter fun e => !(f (e.1 / 2 ^ 20) (e.1 % 2 ^ 20)) }
/-- Whether a register index lies from field `a` up to, not including, field `b`. -/
def regRange (a b : Reg) (k : Nat) : Bool := decide (a.ctorIdx ≤ k) && decide (k < b.ctorIdx)

/-- Parts of the state by number; a part never touched stands as at reset. -/
def State.link (s : State) (n : Nat) : Link := Tab.getD s.links n {}
def State.setLink (s : State) (n : Nat) (l : Link) : State := { s with links := Tab.set {} s.links n l }
def State.onLink (s : State) (n : Nat) (f : Link → Link) : State := s.setLink n (f (s.link n))
def State.eg (s : State) (n : Nat) : Egress := Tab.getD s.egr n {}
def State.setEg (s : State) (n : Nat) (e : Egress) : State := { s with egr := Tab.set {} s.egr n e }
def State.onEg (s : State) (n : Nat) (f : Egress → Egress) : State := s.setEg n (f (s.eg n))
def State.chan (s : State) (c : Nat) : Channel := Tab.getD s.mem.chans c {}
def State.onMem (s : State) (f : MemSide → MemSide) : State := { s with mem := f s.mem }
def State.setChan (s : State) (c : Nat) (x : Channel) : State :=
  s.onMem fun m => { m with chans := Tab.set {} m.chans c x }
def State.onChan (s : State) (c : Nat) (f : Channel → Channel) : State := s.setChan c (f (s.chan c))
def State.stack (s : State) (k : Nat) : Stack := Tab.getD s.mem.stks k {}
def State.onStack (s : State) (k : Nat) (f : Stack → Stack) : State :=
  s.onMem fun m => { m with stks := Tab.set {} m.stks k (f (s.stack k)) }
def State.fch (s : State) (f : Nat) : FlashCh := Tab.getD s.mem.fch f {}
def State.onFch (s : State) (c : Nat) (f : FlashCh → FlashCh) : State :=
  s.onMem fun m => { m with fch := Tab.set {} m.fch c (f (s.fch c)) }
def State.fdie (s : State) (m : Nat) : FlashDie := Tab.getD s.mem.dies m {}
def State.onFdie (s : State) (d : Nat) (f : FlashDie → FlashDie) : State :=
  s.onMem fun m => { m with dies := Tab.set {} m.dies d (f (s.fdie d)) }
def State.page (s : State) (k : Nat) : Option PageRec := Tab.get? s.mem.pages k
def State.setPage (s : State) (k : Nat) (p : PageRec) : State :=
  s.onMem fun m => { m with pages := Tab.put m.pages k p }
def State.onPage (s : State) (k : Nat) (f : PageRec → PageRec) : State :=
  s.onMem fun m => { m with pages := Tab.modify m.pages k f }
def State.ptn (s : State) (q : Nat) : PtnRec := Tab.getD s.ptns q {}
def State.onPtn (s : State) (q : Nat) (f : PtnRec → PtnRec) : State :=
  { s with ptns := Tab.set {} s.ptns q (f (s.ptn q)) }
def State.ext (s : State) (h : Nat) : Option ExtRec := Tab.get? s.exts h
def State.onExt (s : State) (h : Nat) (f : ExtRec → ExtRec) : State := { s with exts := Tab.modify s.exts h f }
def State.box (s : State) (m : Nat) : Mailbox := Tab.getD s.mbx m {}
def State.onBox (s : State) (m : Nat) (f : Mailbox → Mailbox) : State :=
  { s with mbx := Tab.set {} s.mbx m (f (s.box m)) }
def State.clu (s : State) (g : Nat) : Cluster := Tab.getD s.comp.clus g {}
def State.onClu (s : State) (g : Nat) (f : Cluster → Cluster) : State :=
  { s with comp := { s.comp with clus := Tab.set {} s.comp.clus g (f (s.clu g)) } }
def State.tile (s : State) (k : Nat) : Tile := Tab.getD s.comp.tiles k {}
def State.onTile (s : State) (k : Nat) (f : Tile → Tile) : State :=
  { s with comp := { s.comp with tiles := Tab.set {} s.comp.tiles k (f (s.tile k)) } }
def State.checker (s : State) (i : Nat) : Checker := Tab.getD s.chk i {}
def State.onChk (s : State) (i : Nat) (f : Checker → Checker) : State :=
  { s with chk := Tab.set {} s.chk i (f (s.checker i)) }
def State.arb (s : State) (k : Nat) : Arb := Tab.getD s.arbs k {}
def State.onArb (s : State) (k : Nat) (f : Arb → Arb) : State :=
  { s with arbs := Tab.set {} s.arbs k (f (s.arb k)) }
def State.sender (s : State) (l : Nat) : Sender := Tab.getD s.send l {}
def State.onSender (s : State) (l : Nat) (f : Sender → Sender) : State :=
  { s with send := Tab.set {} s.send l (f (s.sender l)) }
def State.inv (s : State) (k : Nat) : Option Inv := Tab.get? s.deal.invs k
def State.onDeal (s : State) (f : Dealer → Dealer) : State := { s with deal := f s.deal }
def State.onInv (s : State) (k : Nat) (f : Inv → Inv) : State :=
  s.onDeal fun d => { d with invs := Tab.modify d.invs k f }
def State.onFab (s : State) (f : Fabric → Fabric) : State := { s with fab := f s.fab }
def State.onDir (s : State) (f : Directory → Directory) : State := { s with dir := f s.dir }
def State.onRt (s : State) (f : Routing → Routing) : State := { s with rt := f s.rt }
def State.onPrt (s : State) (f : Partner → Partner) : State := { s with prt := f s.prt }
def State.onLk (s : State) (f : Lookout → Lookout) : State := { s with lk := f s.lk }
def State.onBoard (s : State) (f : Board → Board) : State := { s with board := f s.board }
def State.onSec (s : State) (f : Sec → Sec) : State := { s with sec := f s.sec }
def State.onMtr (s : State) (f : Meter → Meter) : State := { s with mtr := f s.mtr }
def State.onPcie (s : State) (f : Pcie → Pcie) : State := { s with pcie := f s.pcie }

/-- Run a state change for each element of a list. -/
def State.each {α : Type} (s : State) (l : List α) (f : State → α → State) : State := l.foldl f s

/-- The device's own endpoint ID: the value latched from the strap, none from 0xC000 on (R523). -/
def State.ownId (s : State) : Nat := if s.board.strap < 0xC000 then s.board.strap else 0xFFFF

/-- Whether every M die has mounted its tiers (R505). -/
def State.mounted (s : State) : Bool := (List.range 4).all fun m => (s.fdie m).mounted

/-- Put a finding of self-diagnosis in the log of 64 records; a YIELD finding on the active member of a pair whose
partner is in STANDBY makes a yield due (R481, R482). -/
def State.finding (s : State) (code unit detail : Nat) : State :=
  let y := [2, 3, 4, 8, 10, 11].contains code
  let r : DiagRec := { time := s.upUs, code := code, unit := unit, detail := detail, yield := y }
  let full := 64 ≤ s.diag.recs.length
  let s := { s with diag := { recs := (if full then s.diag.recs.drop 1 else s.diag.recs) ++ [r],
                              lost := s.diag.lost + b2n full } }
  if y && decide (s.prt.st = .active) && s.prt.peerSt == 4 then s.onPrt fun p => { p with yieldDue := true } else s

/-- Add to a sender's pending delta of a partition's quantity (R454). -/
def State.count (s : State) (link q qty n : Nat) : State :=
  if n = 0 then s else
  s.onSender link fun x => { x with deltas := Tab.put x.deltas (q * 16 + qty) (Tab.getD x.deltas (q * 16 + qty) 0 + n) }

/-- Note a lead event of a Lookout resource (R468). -/
def State.lead (s : State) (r : Nat) : State :=
  s.onLk fun k => { k with lead := if k.lead.contains r then k.lead else r :: k.lead,
                           lastLead := Tab.put k.lastLead r s.now }

/-- Complete every open deferred command of an opcode on an object: the final response waits for delivery in the
order of completion (R418, R419). -/
def State.complete (s : State) (opcode obj status : Nat) (body : List Byte) : State :=
  { s with mbx := s.mbx.map fun e =>
      let hit (d : Deferred) : Bool := d.opcode == opcode && d.obj == obj
      (e.1, { e.2 with
        deferred := e.2.deferred.filter fun d => !hit d
        waiting := e.2.waiting ++ (e.2.deferred.filter hit).map fun d =>
          { opcode := d.opcode, alive := d.alive, reqId := d.reqId, status := status, body := body } }) }
/-- Whether a deferred command of an opcode is open on an object. -/
def State.isDeferred (s : State) (opcode obj : Nat) : Bool :=
  s.mbx.any fun e => e.2.deferred.any fun d => d.opcode == opcode && d.obj == obj

/-- Record a substitution; it is written within 1 s of the decision (R493). -/
def State.wearOut (s : State) (e : WearEnt) (remap : Option Nat) : State :=
  { s with wear := { s.wear with pend := s.wear.pend ++ [{ ent := e, since := s.now, remap := remap }] } }

end Sys2Proof.Machine
end

