-- ==== Sys2Proof/Machine/Arbiter.lean ====
section
/-! DEFINITION. How every arbiter decides a grant (spec/14_arbitration_and_isolation.md R394 to R400). -/
namespace Sys2Proof.Machine

/-- The instances of a class (R394). -/
def arbInstances (cls : Nat) : Nat := ([384, 32, 48, 34, 19, 17408, 2048, 2048][cls]?).getD 0
/-- The requesters of an instance (R394). -/
def arbRequesters (cls inst : Nat) : Nat :=
  match cls with
  | 0 => 53 | 1 => 65 | 2 => 24 | 3 => 18 | 4 => if inst = 18 then 7 else 5 | 5 => 8 | _ => 17

/-- The requesters whose counter stands at the limit: those that held a trump first, in their order, then the others
in ascending index (R397, R398). -/
def arbTrumps (limit n : Nat) (waits : Tab Nat) (held : List Nat) : List Nat :=
  let at' (r : Nat) : Bool := decide (limit ≤ Tab.getD waits r 0)
  held.filter at' ++ (List.range n).filter fun r => at' r && !held.contains r

/-- The first eligible requester at or after the pointer, with wrap (R397 rule 2). -/
def arbRotate (n pointer : Nat) (eligible : List Nat) : Option Nat :=
  ((List.range n).map fun i => (pointer + i) % n).find? eligible.contains

/-- The wait counters after a decision: an eligible loser rises, the winner is set to 0 (R396). -/
def arbRaise (limit win : Nat) : List Nat → Tab Nat → Tab Nat
  | [], w => Tab.set 0 w win 0
  | r :: rs, w => arbRaise limit win rs (if r = win then w else Tab.set 0 w r (min limit (Tab.getD w r 0 + 1)))

/-- One decision among `n` requesters: `asserting` have a request, `eligible` meet the class's conditions (R395 to
R399). The winner, if any, and the arbiter afterwards. -/
def Arb.decide (limit n : Nat) (asserting eligible : List Nat) (a : Arb) : Option Nat × Arb :=
  if a.frozen || a.fwHold then (none, a) else
  let eligible := eligible.filter fun r => asserting.contains r && r < n
  let w := Tab.keep a.waits fun r _ => asserting.contains r
  let trumps := arbTrumps limit n w a.trumps
  let byTrump := trumps.find? eligible.contains
  match byTrump.orElse fun _ => arbRotate n a.pointer eligible with
  | none => (none, { a with waits := w, trumps := trumps })
  | some r =>
    let w' := arbRaise limit r eligible w
    (some r, { a with waits := w'
                      trumps := arbTrumps limit n w' (trumps.filter (· ≠ r))
                      pointer := if byTrump.isSome then a.pointer else (r + 1) % n
                      lastWinner := r
                      grants := wrapAdd 32 a.grants 1
                      trumpCount := wrapAdd 32 a.trumpCount (b2n byTrump.isSome)
                      maxWait := max a.maxWait ((w'.map Prod.snd).foldl max 0) })

/-- The key of an arbiter instance. -/
def arbKey (cls inst : Nat) : Nat := cls * 2 ^ 16 + inst
/-- One decision of an instance; a router lookup whose table RT_FREEZE names makes none (R299). -/
def State.arbDecide (s : State) (cls inst : Nat) (asserting eligible : List Nat) : Option Nat × State :=
  if cls = 4 && bit (s.reg .rtFreeze 0) inst then (none, s) else
  let d := (s.arb (arbKey cls inst)).decide (s.reg .arbTrumpLimit 0) (arbRequesters cls inst) asserting eligible
  (d.1, s.onArb (arbKey cls inst) fun _ => d.2)

/-- The losers of a grant of a scratch bank, a cluster-store bank or a scorecard lane stall for one cycle each, which their tile
or cluster counts (R128, R159, R160). -/
def State.stalls (s : State) (cls inst n : Nat) : State :=
  match cls with
  | 5 => s.onTile (17 * (inst / 544) + inst % 544 / 32) fun x => { x with scrConflict := wrapAdd 32 x.scrConflict n }
  | 6 => s.onClu (inst / 64) fun c => { c with csConflict := wrapAdd 32 c.csConflict n }
  | 7 => s.onClu (inst / 64) fun c => { c with scConflict := wrapAdd 32 c.scConflict n }
  | _ => s
/-- The requesters that lose a grant to `win` (R128, R396). -/
def arbLosers (n win : Nat) (asserting eligible : List Nat) : List Nat :=
  (List.range n).filter fun r => asserting.contains r && eligible.contains r && r != win
/-- ARBITER_GRANT: an arbiter decides its next grant and its losers stall (R128, R395 to R397); an instance absent from R394
does not exist. -/
def execArbiterGrant (cls : Fin 8) (inst : BitVec 16) (asserting eligible : List Nat) (s : State) :
    Host.Outcome State Fault Refusal :=
  if inst.toNat < arbInstances cls then
    match s.arbDecide cls inst.toNat asserting eligible with
    | (none, s) => .next s
    | (some w, s) => .next (s.stalls cls inst.toNat (arbLosers (arbRequesters cls inst.toNat) w asserting eligible).length)
  else .fault .absentArbiter

/-- Freeze or release an arbiter on firmware's behalf (R400). -/
def State.fwHold (s : State) (key : Nat) (v : Bool) : State := s.onArb key fun a => { a with fwHold := v }

end Sys2Proof.Machine
end

