-- ==== Sys2Proof/Machine/Boot.lean ====
section
/-! DEFINITION. Start-up from step 2 to step 3: when the four parallel actions have ended, and what main firmware restores
at once (spec/20_reset_and_bringup.md R501, R504; spec/09_routing_and_transit.md R307; spec/13_data_integrity.md R387). -/
namespace Sys2Proof.Machine

/-- A remap entry as its 64 bits (R381). -/
def RemapEnt.bits (e : RemapEnt) : Nat :=
  b2n e.valid + 2 * b2n e.copying + 4 * e.bank + 128 * e.row + 2 ^ 23 * e.spare + 2 ^ 25 * e.cause + 2 ^ 32 * (e.fails % 65536)
/-- The entry of a wear-record REMAP (R381, R493). -/
def remapOf (b : Nat) : RemapEnt :=
  { valid := true, copying := false, bank := bits b 2 5, row := bits b 7 16, spare := bits b 23 2, cause := bits b 25 3, fails := bits b 32 16 }
/-- A channel takes a REMAP entry of the wear record: its table, and the spare row's use (R387). -/
def Channel.loadRemap (x : Channel) (e : RemapEnt) : Channel :=
  { x with
    remap := (x.remap.filter fun y => !(y.bank == e.bank && y.row == e.row)) ++ [e]
    spareUsed := Tab.put x.spareUsed e.bank (Tab.getD x.spareUsed e.bank 0 ||| 2 ^ e.spare) }
/-- Remap tables as the wear record gives them; empty when it fails its seal (R387). -/
def State.loadRemaps (s : State) : State :=
  if !s.wear.sealOk then s else
  s.each (s.wear.ents.filter fun e => e.kind == 4) fun s e => s.onChan e.unit fun x => x.loadRemap (remapOf e.b)
/-- MC_CH_CFG.MAP of owned channels as the last committed checkpoints hold it (R504). -/
def State.restoreMaps (s : State) : State :=
  s.each ((s.ptns.flatMap fun e => e.2.channels).filterMap fun c =>
    (Tab.get? (s.fdie (c / 96)).maps c).map fun v => (c, v)) fun s x => s.setReg .mcChCfgMap x.1 x.2
/-- The routing record goes into both copies, empty when it is missing or fails its KMAC check, and ROUTE_EN is set
(R307). -/
def State.restoreRoutes (s : State) : State :=
  let c := if s.nor.routeOk then s.nor.routing.getD {} else {}
  (s.onRt fun r => { r with copy0 := c, copy1 := c, dirty := [] }).setReg .rtCtrlRouteEn 0 1

/-- Whether the four actions of step 2 have ended (R501). -/
def State.stepTwoDone (s : State) : Bool :=
  let b := s.board
  b.linkOpen && b.mainDone && b.hbmDone && (List.range 4).all b.flashDone.contains
    && (b.kind == 2 || s.ownId == 0xFFFF || (List.range 18).all fun n => b.portsDone.contains n || s.reg .glCtrlEnable n == 0)
/-- Step 3 begins once step 2 has ended, unless no main image qualifies (R501, R503). -/
def State.advance (s : State) : State :=
  if s.board.phase ≠ .stage1 || !s.stepTwoDone || s.board.noMain then s else
  let s := (s.onBoard fun b => { b with phase := .main }).loadRemaps
  if s.board.kind = 2 then s else s.restoreMaps.restoreRoutes

end Sys2Proof.Machine
end

