-- ==== Sys2Proof/Machine/LineCode.lean ====
section
/-! DEFINITION. The line code RS(136,128) with its poison code and marker, and CRC-32C
(spec/13_data_integrity.md R375 to R377; spec/03_transfers.md R89). -/

namespace Sys2Proof.Machine

/-- Multiplication by α in GF(2^8) modulo 0x11D (R375). -/
def gfX (a : Nat) : Nat := let b := 2 * a; if 256 ≤ b then (b ^^^ 0x11D) else b

/-- Multiplication in GF(2^8), bit by bit. -/
def gfMulAux : Nat → Nat → Nat → Nat
  | 0, _, _ => 0
  | n + 1, a, b => (if b % 2 = 1 then a else 0) ^^^ gfMulAux n (gfX a) (b / 2)
def gfMul (a b : Nat) : Nat := gfMulAux 8 a b

def gfPow (a : Nat) : Nat → Nat
  | 0 => 1
  | n + 1 => gfMul a (gfPow a n)

/-- The inverse of a nonzero element: its 254th power. -/
def gfInv (a : Nat) : Nat :=
  let a2 := gfMul a a
  let a4 := gfMul a2 a2
  let a8 := gfMul a4 a4
  let a16 := gfMul a8 a8
  let a32 := gfMul a16 a16
  let a64 := gfMul a32 a32
  let a128 := gfMul a64 a64
  gfMul (gfMul (gfMul a2 a4) (gfMul a8 a16)) (gfMul (gfMul a32 a64) a128)

/-- α^n. -/
def gfAlpha (n : Nat) : Nat := gfPow 2 (n % 255)

/-- g(x) but for its leading 1, coefficients of x^7 down to x^0 (R375): the product of (x − α^i), i from 0 to 7. -/
def rsGen : List Nat :=
  (List.range 8).foldl (fun g i =>
    List.zipWith (fun a b => a ^^^ gfMul (gfAlpha i) b) (g.drop 1 ++ [0]) g) [0, 0, 0, 0, 0, 0, 0, 1]

/-- One step of the division by g(x): the remainder register, c0 first, takes the next data byte. -/
def rsStep (gen r : List Nat) (d : Nat) : List Nat :=
  let f := (r.headD 0) ^^^ d
  List.zipWith (fun a g => a ^^^ gfMul f g) (r.drop 1 ++ [0]) gen

/-- The check bytes c0 to c7 of a line (R375). -/
def rsCheckWith (gen : List Nat) (data : List Byte) : List Byte :=
  (data.foldl (fun r b => rsStep gen r b.toNat) [0, 0, 0, 0, 0, 0, 0, 0]).map (BitVec.ofNat 8)

/-- The generator's coefficients, multiplied out once: the roots are α^0 to α^7. -/
def rsGenC : List Nat := [255, 11, 81, 54, 239, 173, 200, 24]

def rsCheck (data : List Byte) : List Byte := rsCheckWith rsGenC data

/-- The pattern P of a marking (R376): 0 data, 1 poison, 2 marker. -/
def markPattern (m : Nat) : List Byte :=
  match m with
  | 1 => le 8 0x9D3B6E2AC47158F0
  | 2 => le 8 0x3E81D27C0B5AE966
  | _ => zeros 8

def xorBytes (a b : List Byte) : List Byte := List.zipWith (· ^^^ ·) a b

/-- A syndrome: the codeword's polynomial at α^0 to α^7. -/
def rsSyndrome (word : List Byte) : List Nat :=
  tabulate 8 fun i => let a := gfAlpha i; word.foldl (fun s b => gfMul s a ^^^ b.toNat) 0

/-- The syndrome of stored data and check bytes. -/
def lineSyndrome (data check : List Byte) : List Nat := rsSyndrome (data ++ check)

def isZeroSyn (s : List Nat) : Bool := s.all fun x => decide (x = 0)
def xorSyn (a b : List Nat) : List Nat := List.zipWith (· ^^^ ·) a b

/-- The syndrome a marking's pattern has over zero data. -/
def markSyn (m : Nat) : List Nat := lineSyndrome (zeros 128) (markPattern m)

/-- Polynomials over GF(2^8), lowest coefficient first. -/
def polyScale (k : Nat) (p : List Nat) : List Nat := p.map (gfMul k)
def polyAdd : List Nat → List Nat → List Nat
  | [], q => q
  | p, [] => p
  | a :: p, b :: q => (a ^^^ b) :: polyAdd p q
def polyEval (p : List Nat) (x : Nat) : Nat := p.foldr (fun c acc => c ^^^ gfMul x acc) 0
def polyMul (p q : List Nat) : List Nat := p.foldr (fun c acc => polyAdd (polyScale c q) (0 :: acc)) []

/-- Berlekamp–Massey: the error locator of a syndrome. State: (C, B, L, m, b). -/
def bmLoop (s : List Nat) : Nat → Nat → List Nat × List Nat × Nat × Nat × Nat → List Nat × Nat
  | 0, _, (c, _, l, _, _) => (c, l)
  | f + 1, n, (c, b, l, m, bd) =>
    let d := (List.range (l + 1)).foldl (fun d i => d ^^^ gfMul (c.getD i 0) (s.getD (n - i) 0)) 0
    if d = 0 then bmLoop s f (n + 1) (c, b, l, m + 1, bd)
    else
      let t := polyAdd c (polyScale (gfMul d (gfInv bd)) (List.replicate m 0 ++ b))
      if 2 * l ≤ n then bmLoop s f (n + 1) (t, c, n + 1 - l, 1, d)
      else bmLoop s f (n + 1) (t, b, l, m + 1, bd)

/-- Up to `t` symbol errors: positions (0 is data byte 0, 135 is c7) with their values, if the syndrome has such a
solution (R377, `solve`). -/
def rsSolve (s : List Nat) (t : Nat) : Option (List (Nat × Nat)) :=
  let (c, l) := bmLoop s 8 0 ([1], [1], 0, 1, 1)
  if l = 0 ∨ t < l then none else
  let roots := (List.range 136).filter fun p => decide (polyEval c (gfAlpha (255 - (135 - p) % 255)) = 0)
  if roots.length ≠ l then none else
  let om := (polyMul s c).take 8
  let der := (c.zipIdx.map fun p => if p.2 % 2 = 1 then p.1 else 0).drop 1
  let es := roots.map fun p =>
    let x := gfAlpha (135 - p)
    let xi := gfInv x
    (p, gfMul x (gfMul (polyEval om xi) (gfInv (polyEval der xi))))
  if rsSyndrome (tabulate 136 fun i => BitVec.ofNat 8 ((es.find? fun e => e.1 = i).elim 0 Prod.snd)) = s
    ∧ es.all (fun e => decide (e.2 ≠ 0)) then some es else none

/-- The outcomes of a line decode (R377). -/
inductive LineOut
  | data | corrected (symbols : Nat) | poison | poisonRepaired (symbols : Nat) | marked
  | markedRepaired (symbols : Nat) | uncorrectable
deriving DecidableEq, Repr

/-- Decode stored data and check bytes (R377): the outcome and the line as data. -/
def decodeLine (data check : List Byte) : LineOut × List Byte :=
  let s := lineSyndrome data check
  if isZeroSyn s then (.data, data)
  else if s = markSyn 1 then (.poison, zeros 128)
  else if s = markSyn 2 then (.marked, zeros 128)
  else match rsSolve s 4 with
    | some es =>
      (.corrected es.length, (data.zipIdx).map fun p =>
        match es.find? fun e => e.1 = p.2 with
        | some e => p.1 ^^^ BitVec.ofNat 8 e.2
        | none => p.1)
    | none =>
      match rsSolve (xorSyn s (markSyn 1)) 3 with
      | some es => (.poisonRepaired es.length, zeros 128)
      | none =>
        match rsSolve (xorSyn s (markSyn 2)) 3 with
        | some es => (.markedRepaired es.length, zeros 128)
        | none => (.uncorrectable, zeros 128)

/-- CRC-32C, reflected, one bit (R89). -/
def crcBit (c : Nat) : Nat := if c % 2 = 1 then (c / 2) ^^^ 0x82F63B78 else c / 2
def crcBits : Nat → Nat → Nat
  | 0, c => c
  | n + 1, c => crcBits n (crcBit c)
/-- One byte into the register. -/
def crcByte (c : Nat) (b : Byte) : Nat := crcBits 8 (c ^^^ b.toNat)
/-- The register over bytes, from a running value. -/
def crcRun (c : Nat) (l : List Byte) : Nat := l.foldl crcByte c
/-- CRC-32C: initial value and final XOR 0xFFFF_FFFF (R89). The polynomial is CRC-32C's own (log 42). -/
def crc32c (l : List Byte) : BitVec 32 := BitVec.ofNat 32 (crcRun 0xFFFFFFFF l ^^^ 0xFFFFFFFF)

end Sys2Proof.Machine
end

