-- ==== Sys2Proof/Machine/Hbm.lean ====
section
/-! DEFINITION. The HBM tier: where lines lie, how they are read, written, decoded and written back, refresh, power-down,
training, row disturbance and remapping (spec/11_hbm_tier.md R327 to R350, spec/13_data_integrity.md R375 to R387). -/
namespace Sys2Proof.Machine

/-- What a byte of the DRAM arrays nothing has written reads as: the row of a poisoned line with a zero activation
count (R76, R345, R376; log 7). -/
def dramByte (a : Nat) : Byte :=
  let b := a % 2048
  if b < 1920 then 0#8
  else if b < 2040 then ((markPattern 1)[(b - 1920) % 8]?).getD 0#8
  else if b < 2044 then 0#8 else 255#8

/-- The address of a byte of a row (R327, R328). -/
def dramAddr (c bank row byte : Nat) : Nat := ((c * 32 + bank) * 49156 + row) * 2048 + byte

/-- The bank, row and slot of a channel line index under a map (R339). -/
def mapLine (map li : Nat) : Nat × Nat × Nat :=
  if map = 0 then (li / 15 % 32, li / 15 / 32, li % 15)
  else
    let t := li / 32
    let row := t / 15
    let b := li % 32
    (if map = 2 then b ^^^ (row % 32) ^^^ (row / 32 % 32) ^^^ (row / 1024 % 32) ^^^ (row / 32768) else b, row, t % 15)

/-- The channel line index of a bank, row and slot under a map (R339). -/
def lineOf (map bank row slot : Nat) : Nat :=
  if map = 0 then (row * 32 + bank) * 15 + slot
  else
    let b := if map = 2 then bank ^^^ (row % 32) ^^^ (row / 32 % 32) ^^^ (row / 1024 % 32) ^^^ (row / 32768) else bank
    (row * 15 + slot) * 32 + b

/-- Where a column command goes: the spare row of a valid remap entry, else the row (R381). -/
def Channel.rowOf (ch : Channel) (bank row : Nat) : Nat :=
  match ch.remap.find? fun e => e.valid && e.bank == bank && e.row == row with
  | some e => 49152 + e.spare
  | none => row

/-- The M die of a channel (R20). -/
def dieOf (c : Nat) : Nat := c / 96
/-- The error log of an M die takes a record; a full log loses its oldest (R392). -/
def State.errLog (s : State) (c bank row slot kind tag symbols : Nat) : State :=
  let m := dieOf c
  let log := Tab.getD s.mem.errLog m []
  let full := decide (256 ≤ log.length)
  let r : ErrRec := { time := s.upUs, chan := c, bank := bank, slot := slot, row := row, kind := kind, tag := tag, symbols := symbols }
  let s := s.onMem fun x => { x with errLog := Tab.put x.errLog m ((if full then log.drop 1 else log) ++ [r]) }
  if full then s.bump .eccDieLogLost m else s

/-- Columns 30 and 31 of a row: the check buffer when the row is open, else the array (R329). -/
def State.checkCols (s : State) (c bank row : Nat) : List Byte :=
  let ch := s.chan c
  if Tab.get? ch.openRow bank = some row then Tab.getD ch.checkBuf bank (zeros 128)
  else Mem.reads dramByte s.mem.dram (dramAddr c bank row 1920) 128
/-- Write bytes of columns 30 and 31: into the check buffer when the row is open (R329). -/
def State.setCheck (s : State) (c bank row off : Nat) (v : List Byte) : State :=
  let ch := s.chan c
  if Tab.get? ch.openRow bank = some row then
    s.onChan c fun x =>
      { x with checkBuf := Tab.put x.checkBuf bank (patch (Tab.getD x.checkBuf bank (zeros 128)) off v)
               checkDirty := if x.checkDirty.contains bank then x.checkDirty else bank :: x.checkDirty }
  else s.onMem fun m => { m with dram := Mem.writes dramByte m.dram (dramAddr c bank row (1920 + off)) v }
/-- Store a whole line and its check bytes in a row as addressed after remapping (R328, R376, R380). -/
def State.storeLine (s : State) (c bank row slot mark : Nat) (data : List Byte) : State :=
  let d := if mark = 0 then data else zeros 128
  let s := s.onMem fun m => { m with dram := Mem.writes dramByte m.dram (dramAddr c bank row (128 * slot)) d }
  s.setCheck c bank row (8 * slot) (xorBytes (rsCheck d) (markPattern mark))

/-- The marking a reader sees: 0 data, 1 poisoned, 2 uncorrectable (R378). -/
def LineOut.mark : LineOut → Nat
  | .data => 0 | .corrected _ => 0 | .poison => 1 | .poisonRepaired _ => 1 | _ => 2
/-- The record kind of an outcome, 0 for none, and its symbols (R378, R392). -/
def LineOut.kind : LineOut → Nat × Nat
  | .corrected n => (1, n) | .poisonRepaired n => (2, n) | .markedRepaired n => (3, n) | .uncorrectable => (4, 0)
  | _ => (0, 0)

/-- The lowest spare row of a bank never used (R382). -/
def Channel.freeSpare (ch : Channel) (bank : Nat) : Option Nat :=
  (List.range 4).find? fun i => !(bit (Tab.getD ch.spareUsed bank 0) i)

/-- A remap is not made (R385). -/
def State.remapRefused (s : State) (c bank row slot tag : Nat) : State :=
  (((s.setReg .eccChStatusRemapFull c 1).bump .eccChRemapRefused c).errLog c bank row slot 6 tag 0).finding 5 c (bank * 65536 + row)

/-- Start the remap of a row: take an entry and a spare row, or queue behind the channel's running copy (R383 to R385).
`none` when it is not made. -/
def State.startRemap (s : State) (c bank row cause fails : Nat) : Option State :=
  let ch := s.chan c
  let old := indexOf? (fun e => e.valid && e.bank == bank && e.row == row) ch.remap
  match ch.freeSpare bank, old with
  | some sp, some i =>
    some (s.onChan c fun x => { x with
      spareUsed := Tab.put x.spareUsed bank (Tab.getD x.spareUsed bank 0 ||| 2 ^ sp)
      copies := x.copies ++ [{ bank := bank, row := row, spare := sp, cause := 3, fails := fails, entry := i }] })
  | some sp, none =>
    if 4 ≤ ch.remap.length then none else
    some (s.onChan c fun x => { x with
      spareUsed := Tab.put x.spareUsed bank (Tab.getD x.spareUsed bank 0 ||| 2 ^ sp)
      remap := x.remap ++ [{ valid := false, copying := ch.copies.isEmpty, bank := bank, row := row, spare := sp, cause := cause, fails := min 65535 fails }]
      copies := x.copies ++ [{ bank := bank, row := row, spare := sp, cause := cause, fails := fails, entry := ch.remap.length }] })
  | none, _ => none

/-- Whether a row is being copied (R384, R386). -/
def Channel.copying (ch : Channel) (bank row : Nat) : Bool := ch.copies.any fun j => j.bank == bank && j.row == row

/-- The repeat log takes a failed line; a second failure inside the window starts a remap or is refused (R384). -/
def State.repeatFail (s : State) (c bank row slot tag : Nat) : State :=
  let ch := s.chan c
  let same (e : RepeatEnt) : Bool := e.bank == bank && e.row == row && e.slot == slot
  let fails := 1 + ((ch.repeatLog.filter fun e => e.bank == bank && e.row == row).map RepeatEnt.fails).sum
  let fresh := ch.repeatLog.find? fun e => same e && decide (s.now < e.time + s.reg .eccChRepeatWindow c * oneSec)
  let rest := ch.repeatLog.filter fun e => !same e
  match fresh with
  | some _ =>
    let s := s.onChan c fun x => { x with repeatLog := rest }
    if ch.copying bank row then s
    else if s.reg .eccChCfgAutoRemap c = 1 then
      (s.startRemap c bank row 1 fails).getD (s.remapRefused c bank row slot tag)
    else s.errLog c bank row slot 6 tag 0
  | none =>
    let keep := if 16 ≤ rest.length then rest.drop 1 else rest
    s.onChan c fun x => { x with repeatLog := keep ++ [{ bank := bank, row := row, slot := slot, time := s.now }] }

/-- The effects of a decode outcome: counters, the write-back directly behind the read, log and repeat log
(R333, R378). -/
def State.outcome (s : State) (c bank row slot tag : Nat) (o : LineOut) (d : List Byte) : State :=
  let s := match o with
    | .corrected _ => s.bump .eccChCorrected c
    | .poison => s.bump .eccChPoisonReads c
    | .poisonRepaired _ => (s.bump .eccChPoisonReads c).bump .eccChRepaired c
    | .marked => s.bump .eccChUncorr c
    | .markedRepaired _ => (s.bump .eccChUncorr c).bump .eccChRepaired c
    | .uncorrectable => s.bump .eccChUncorr c
    | .data => s
  if o.kind.1 = 0 then s else
  let wb : ChanReq :=
    { kind := .write d o.mark, bank := bank, row := row, slot := slot, tag := tag, since := s.now, reserved := true
      li := lineOf (s.reg .mcChCfgMap c) bank row slot }
  let s := s.onChan c fun x => { x with bankQ := Tab.put x.bankQ bank (wb :: Tab.getD x.bankQ bank []) }
  (s.errLog c bank row slot o.kind.1 tag o.kind.2).repeatFail c bank row slot tag

/-- A queued write to a line, as data and mark: the newest in the tag's own input queue, else in the bank queue. -/
def Channel.queued (ch : Channel) (bank row slot tag : Nat) : Option (Bool × Nat × List Byte) :=
  let hit (r : ChanReq) : Option (Nat × List Byte) :=
    if r.bank == bank && r.row == row && r.slot == slot then
      match r.kind with
      | .write d m => some (m, d)
      | .read => none
    else none
  match (Tab.getD ch.tagQ tag []).reverse.findSome? hit with
  | some x => some (false, x)
  | none => ((Tab.getD ch.bankQ bank []).reverse.findSome? hit).map fun x => (true, x)

/-- Read one line for a requester tag: (marking, data) and the state after the decode's effects (R334, R347, R377 to
R379). A read behind a queued write takes what that write stores, and its code is checked as on any other. -/
def State.readLine (s : State) (c bank row slot tag : Nat) : (Nat × List Byte) × State :=
  let ch := s.chan c
  if ch.failed then ((2, zeros 128), s) else
  let s := s.bump .mcRdLines c
  match ch.queued bank row slot tag with
  | some (inBank, m, d) =>
    let s := if inBank then s.bump .mcHazardWaits c else s
    ((m, d), s.outcome c bank row slot tag (if m = 0 then .data else if m = 1 then .poison else .marked) d)
  | none =>
    let r := ch.rowOf bank row
    let data := Mem.reads dramByte s.mem.dram (dramAddr c bank r (128 * slot)) 128
    let o := decodeLine data (slice (s.checkCols c bank r) (8 * slot) 8)
    ((o.1.mark, o.2), s.outcome c bank row slot tag o.1 o.2)

/-- One line of an accepted write has been performed (R57). -/
def State.performed (s : State) (wr : Option Nat) : State :=
  match wr with
  | none => s
  | some k => s.onFab fun f =>
    match Tab.get? f.writes k with
    | some w => { f with writes := if w.lines ≤ 1 then Tab.del f.writes k else Tab.put f.writes k { w with lines := w.lines - 1 } }
    | none => f

/-- Whether a stack's clock runs (R344). -/
def State.chanAwake (s : State) (c : Nat) : Bool := !(s.stack (c / 32)).selfRefresh
/-- A sleeping resource starts to wake on demand (R26, R467). -/
def State.wakeRes (s : State) (r : Nat) : State :=
  if Tab.has s.lk.waking r then s
  else (s.onLk fun k => { k with waking := Tab.put k.waking r s.now }).bump .pwrWakesDemand 0
/-- A demand on a channel: it leaves power-down at once and wakes its stack (R26, R343, R344). -/
def State.demandChan (s : State) (c : Nat) : State :=
  let s := s.onChan c fun x => { x with emptySince := s.now }
  let s := if (s.chan c).pwr = 1 then (s.onChan c fun x => { x with pwr := 0 }).bump .pwrWakesDemand 0 else s
  if s.chanAwake c then s else s.wakeRes (32 + c / 32)

/-- Whether a tag may be granted now: a free bank-queue entry, no copy of the bank, and the throttle (R332, R350, R383). -/
def State.tagOk (s : State) (c : Nat) (r : ChanReq) : Bool :=
  let ch := s.chan c
  let l := Tab.getD ch.level r.tag 0
  s.chanAwake c && decide (((Tab.getD ch.bankQ r.bank []).filter fun x => !x.reserved).length < 8)
    && !((ch.copies.head?).elim false fun j => j.bank == r.bank)
    && (l == 0 || !(Tab.has ch.grantAt r.tag) || s.past (Tab.getD ch.grantAt r.tag 0) (2 ^ (l + 1) * 80))

/-- Admit a request into its bank queue, which performs a write; a FAILED channel discards it (R332, R347). -/
def State.takeIn (s : State) (c : Nat) (r : ChanReq) : State :=
  let s := s.performed r.wr
  if (s.chan c).failed then s.bump .mcWrDiscard c else
  s.onChan c fun x => { x with bankQ := Tab.put x.bankQ r.bank (Tab.getD x.bankQ r.bank [] ++ [r])
                               grantAt := if Tab.getD x.level r.tag 0 = 0 then x.grantAt else Tab.put x.grantAt r.tag s.now }

/-- Write one line for a requester tag: it is admitted at once when its tag's queue is empty and the channel takes it,
else it waits in the tag's input queue (R57, R332; log 12). -/
def State.writeLine (s : State) (c li tag mark : Nat) (data : List Byte) (wr : Option Nat) : State :=
  let s := s.demandChan c
  let m := mapLine (s.reg .mcChCfgMap c) li
  let r : ChanReq := { kind := .write data mark, bank := m.1, row := m.2.1, slot := m.2.2, tag := tag, wr := wr, since := s.now, li := li }
  let q := Tab.getD (s.chan c).tagQ tag []
  let a := s.arb (arbKey 0 c)
  if q.isEmpty && s.tagOk c r && !a.frozen && !a.fwHold then s.takeIn c r
  else s.onChan c fun x => { x with tagQ := Tab.put x.tagQ tag (q ++ [r]) }

/-- The tags of a channel with a request, and those whose head may be granted. -/
def State.tagsOf (s : State) (c : Nat) : List Nat × List Nat :=
  let qs := (s.chan c).tagQ.filter fun e => !e.2.isEmpty
  (qs.map Prod.fst, (qs.filter fun e => (e.2.head?).elim false (s.tagOk c)).map Prod.fst)

/-- The input arbiter of a channel admits at most one request (R332). -/
def State.admitOne (s : State) (c : Nat) : State :=
  let ts := s.tagsOf c
  match s.arbDecide 0 c ts.1 ts.2 with
  | (none, s) => s
  | (some t, s) =>
    match Tab.getD (s.chan c).tagQ t [] with
    | [] => s
    | r :: q => (s.onChan c fun x => { x with tagQ := if q.isEmpty then Tab.del x.tagQ t else Tab.put x.tagQ t q }).takeIn c r

/-- Count an activation in the row's tail (R348): the new count. -/
def State.actCount (s : State) (c bank row : Nat) : Nat × State :=
  let ep := (s.stack (c / 32)).epoch
  let tail := slice (s.checkCols c bank row) 120 8
  let inv := decide (field tail 4 4 + field tail 0 4 = 2 ^ 32 - 1)
  let n := if !inv then s.reg .mcRhThresh c else if field tail 2 1 ≠ ep then 0 else field tail 0 2
  let n' := min 65535 (n + 1)
  let w := n' + ep * 65536
  (n', s.setCheck c bank row 120 (le 4 w ++ le 4 (2 ^ 32 - 1 - w)))

/-- The tag with the most activations of a bank, the lower on a tie (R349). -/
def heaviest (acts : Tab Nat) (bank : Nat) : Nat :=
  ((List.range 64).foldl (fun b t => let n := Tab.getD acts (bank * 64 + t) 0
    if b.2 < n then (t, n) else b) (0, 0)).1

/-- A row reached the threshold: RFMpb, its count written 0, the heaviest tag throttled, the trigger recorded
(R349, R350). -/
def State.rowTrigger (s : State) (c bank row : Nat) : State :=
  let t := heaviest (s.chan c).tagActs bank
  let ep := (s.stack (c / 32)).epoch
  let s := s.setCheck c bank ((s.chan c).rowOf bank row) 120 (le 4 (ep * 65536) ++ le 4 (2 ^ 32 - 1 - ep * 65536))
  let s := s.onChan c fun x => { x with level := Tab.put x.level t (min (s.reg .mcRhFloor c) (Tab.getD x.level t 0 + 1))
                                        levelAt := Tab.put x.levelAt t s.now }
  let s := ((s.setReg .mcRhLastBank c bank).setReg .mcRhLastTag c t).setReg .mcRhLastRow c row
  (s.bump .mcRhEvents c).bump .mcRfmIssued c

/-- ACT: the row of the bank's head entry is opened, its activation counted, mitigation triggered (R335, R336, R348,
R349). -/
def State.activate (s : State) (c bank : Nat) : State :=
  match Tab.getD (s.chan c).bankQ bank [] with
  | [] => s
  | r :: _ =>
    if Tab.has (s.chan c).openRow bank || !s.chanAwake c || (s.chan c).failed then s else
    let row := (s.chan c).rowOf bank r.row
    let cols := s.checkCols c bank row
    let s := s.onChan c fun x => { x with openRow := Tab.put x.openRow bank row
                                          checkBuf := Tab.put x.checkBuf bank cols
                                          tagActs := Tab.put x.tagActs (bank * 64 + r.tag) (Tab.getD x.tagActs (bank * 64 + r.tag) 0 + 1) }
    let n := (s.bump .mcActs c).actCount c bank row
    if s.reg .mcRhThresh c ≤ n.1 then n.2.rowTrigger c bank r.row else n.2

/-- A bank precharges: its changed check buffer is written back first (R329, R336). -/
def State.precharge (s : State) (c bank : Nat) : State :=
  match Tab.get? (s.chan c).openRow bank with
  | none => s
  | some row =>
    let s := if (s.chan c).checkDirty.contains bank then
        let v := Tab.getD (s.chan c).checkBuf bank (zeros 128)
        s.onMem fun m => { m with dram := Mem.writes dramByte m.dram (dramAddr c bank row 1920) v }
      else s
    s.onChan c fun x => { x with openRow := Tab.del x.openRow bank, checkBuf := Tab.del x.checkBuf bank, emptySince := s.now
                                 checkDirty := x.checkDirty.filter (· ≠ bank) }

/-- ACT: the controller activates the row its bank queue's head needs (R348). -/
def execAct (c : Chan) (b : Fin 32) (s : State) : Host.Outcome State Fault Refusal := .next (s.activate c b)

/-- PRE: a bank whose head entry targets another row, or whose queue is empty, precharges (R336). -/
def execPre (c : Chan) (b : Fin 32) (s : State) : Host.Outcome State Fault Refusal :=
  let ch := s.chan c
  match Tab.getD ch.bankQ b [] with
  | r :: _ => .next (if Tab.get? ch.openRow b = some (ch.rowOf b r.row) then s else s.precharge c b)
  | [] => .next (s.precharge c b)

/-- IDLE_CLOSE_EXPIRY: a bank whose queue has been empty for IDLE_CLOSE MCLK cycles closes its row (R336). -/
def execIdleCloseExpiry (c : Chan) (b : Fin 32) (s : State) : Host.Outcome State Fault Refusal :=
  let ch := s.chan c
  .next (if (Tab.getD ch.bankQ b []).isEmpty && s.past (Tab.getD ch.idleSince b 0) (s.reg .mcChCfgIdleClose c * 80)
    then s.precharge c b else s)

/-- Whether a refresh target has work in a bank other than `b` (R342). -/
def Channel.busyBut (ch : Channel) (b t : Nat) : Bool :=
  ch.bankQ.any fun e => e.1 != b && (e.1 == t || t == 32) && !e.2.isEmpty

/-- Serve the head entry of a bank queue: a write is stored in its open row (R335, R380). -/
def State.columnWrite (s : State) (c bank : Nat) : State :=
  match Tab.getD (s.chan c).bankQ bank [] with
  | [] => s
  | r :: q =>
    let row := (s.chan c).rowOf bank r.row
    if Tab.get? (s.chan c).openRow bank ≠ some row || s.now < (s.chan c).pausedTo then s else
    let s := match r.kind with
      | .write d m => (s.storeLine c bank row r.slot m d).bump .mcWrLines c
      | .read => s
    s.onChan c fun x => { x with bankQ := if q.isEmpty then Tab.del x.bankQ bank else Tab.put x.bankQ bank q
                                 idleSince := if q.isEmpty then Tab.put x.idleSince bank s.now else x.idleSince
                                 emptySince := s.now
                                 postponed := if q.isEmpty then x.postponed.filter fun e => x.busyBut bank e.1 else x.postponed }

/-- HBM_COLUMN_WRITE (R380). -/
def execHbmColumnWrite (c : Chan) (b : Fin 32) (s : State) : Host.Outcome State Fault Refusal :=
  .next (s.columnWrite c b)

/-- Symbol errors strike the stored bytes of a line: positions 0 to 127 data, 128 to 135 check bytes. -/
def State.strike (s : State) (c bank row slot : Nat) (errs : List (Fin 136 × Byte)) : State :=
  s.each errs fun s e =>
    let r := (s.chan c).rowOf bank row
    if e.1.val < 128 then
      let a := dramAddr c bank r (128 * slot + e.1.val)
      s.onMem fun m => { m with dram := Mem.write dramByte m.dram a (Mem.read dramByte m.dram a ^^^ e.2) }
    else
      let off := 8 * slot + (e.1.val - 128)
      s.setCheck c bank r off [((s.checkCols c bank r)[off]?).getD 0#8 ^^^ e.2]

/-- HBM_COLUMN_READ: a line is read by the scrubber's or controller's column command, with the symbol errors its
storage has suffered, decoded, and handled by its outcome (R377 to R379, R384). Rows past the last spare row do not
exist (R327). -/
def execHbmColumnRead (c : Chan) (b : Fin 32) (row : BitVec 16) (slot : Fin 15) (errs : List (Fin 136 × Byte))
    (s : State) : Host.Outcome State Fault Refusal :=
  if row.toNat < 49152 then
    if s.now < (s.chan c).pausedTo || !s.chanAwake c then .next s
    else .next ((s.strike c b row.toNat slot errs).readLine c b row.toNat slot 51).2
  else .fault .absentRow

/-- The refresh target of a due refresh: the next bank in per-bank mode, 32 for the whole channel (R341). -/
def State.refTarget (s : State) (c : Nat) : Nat := if (s.chan c).refMode = 1 then (s.chan c).refBank else 32
/-- The refresh interval of a channel (R341). -/
def State.refInterval (s : State) (c : Nat) : Nat :=
  (if (s.chan c).refMode = 1 then (if (s.chan c).hot then 76 else 152) else if (s.chan c).hot then 2438 else 4875) * 80
/-- Whether a refresh target has work queued, or a row of it is being copied (R342, R383). -/
def Channel.busy (ch : Channel) (t : Nat) : Bool :=
  ((ch.copies.head?).elim false fun j => j.bank == t || t == 32) ||
    if t < 32 then !(Tab.getD ch.bankQ t []).isEmpty else ch.bankQ.any fun e => !e.2.isEmpty

/-- REFRESH_DUE: a refresh is issued, postponed while its target has work, or forced at the ninth; it wakes a channel from
power-down (R341 to R344). -/
def execRefreshDue (c : Chan) (s : State) : Host.Outcome State Fault Refusal :=
  if !s.chanAwake c || !(s.past (s.chan c).refAt (s.refInterval c)) then .next s else
  let t := s.refTarget c
  let ch := s.chan c
  let n := Tab.getD ch.postponed t 0
  let s := s.onChan c fun x => { x with refBank := if t < 32 then (t + 1) % 32 else x.refBank, hot := (s.stack (c / 32)).hot
                                        refMode := s.reg .mcChCfgRefMode c, refAt := s.now, pwr := if x.pwr = 1 then 0 else x.pwr
                                        emptySince := if x.pwr = 1 then s.now else x.emptySince }
  if !ch.busy t then .next (s.onChan c fun x => { x with postponed := Tab.del x.postponed t })
  else if n < 8 then .next (s.onChan c fun x => { x with postponed := Tab.put x.postponed t (n + 1) })
  else .next ((s.bumpN .mcRefForced c 9).onChan c fun x => { x with postponed := Tab.del x.postponed t })

/-- The refresh window of a stack (R341). -/
def State.window (s : State) (k : Nat) : Nat := if (s.stack k).hot then 16 * msec else 32 * msec

/-- REFRESH_WINDOW_END: the epoch advances and the activation counts of tags are zeroed (R348, R349). -/
def execRefreshWindowEnd (k : Stk) (s : State) : Host.Outcome State Fault Refusal :=
  if s.past (s.stack k).epochAt (s.window k) then
    let s := s.onStack k fun x => { x with epoch := (x.epoch + 1) % 256, epochAt := s.now }
    .next (s.onMem fun m => { m with chans := m.chans.map fun e =>
      (e.1, if e.1 / 32 = k.val then { e.2 with tagActs := [] } else e.2) })
  else .next s

/-- THROTTLE_HOLD_END: a tag's level returns to 0 one refresh window after its last throttle (R350). -/
def execThrottleHoldEnd (c : Chan) (tag : Ptn) (s : State) : Host.Outcome State Fault Refusal :=
  if s.past (Tab.getD (s.chan c).levelAt tag 0) (s.window (c / 32)) then
    .next (s.onChan c fun x => { x with level := Tab.del x.level tag, levelAt := Tab.del x.levelAt tag, grantAt := Tab.del x.grantAt tag })
  else .next s

/-- Whether a channel's queues are empty and every bank precharged (R343). -/
def Channel.quiet (ch : Channel) : Bool :=
  ch.bankQ.all (fun e => e.2.isEmpty) && ch.tagQ.all (fun e => e.2.isEmpty) && ch.openRow.isEmpty

/-- POWER_DOWN_ENTRY: a channel idle for PD_IDLE × 16 MCLK cycles enters power-down (R343). -/
def execPowerDownEntry (c : Chan) (s : State) : Host.Outcome State Fault Refusal :=
  let pd := s.reg .mcChCfgPdIdle c
  .next (if pd ≠ 0 && (s.chan c).quiet && (s.chan c).pwr == 0 && s.past (s.chan c).emptySince (pd * 16 * 80)
    then s.onChan c fun x => { x with pwr := 1 } else s)

/-- STACK_TEMP_READ: every 1 ms the stack's temperature sets or clears the hot rates (R341). -/
def execStackTempRead (k : Stk) (temp : BitVec 8) (s : State) : Host.Outcome State Fault Refusal :=
  if !(s.past (s.stack k).tempAt msec) then .next s else
  .next (s.onStack k fun x => { x with temp := temp.toNat, tempAt := s.now
                                       hot := if 85 < temp.toNat then true else if temp.toNat < 82 then false else x.hot })

/-- Whether a channel of a stack is in a pause of calibration or retraining: one channel of a stack at a time (R346). -/
def State.stackPauses (s : State) (k : Nat) : Bool :=
  s.mem.chans.any fun e => e.1 / 32 == k && decide (s.now < e.2.pausedTo)

/-- ZQ_CALIBRATION: a calibration that is due pauses one channel of the stack for 1 µs (R346). -/
def execZqCalibration (k : Stk) (i : Fin 32) (s : State) : Host.Outcome State Fault Refusal :=
  if !(s.stack k).selfRefresh && s.past (Tab.getD (s.stack k).zqAt i 0) (s.reg .mcStkZqPeriod k * msec) && !(s.stackPauses k) then
    .next ((s.onStack k fun x => { x with zqAt := Tab.put x.zqAt i s.now }).onChan (32 * k.val + i.val) fun x =>
      { x with pausedTo := s.now + usec })
  else .next s

/-- A channel is marked FAILED and reported; the writes in its bank queues are discarded as later ones are (R346, R347). -/
def State.chanFailed (s : State) (c : Nat) : State :=
  let n := ((s.chan c).bankQ.map fun e => e.2.length).sum
  ((s.bumpN .mcWrDiscard c n).onChan c fun x => { x with failed := true, bankQ := [] }).finding 3 c 0
/-- A stack leaves self-refresh: each channel refreshes at once, and its next interval begins (R344). -/
def State.leaveSelfRefresh (s : State) (k : Nat) : State :=
  (s.each (List.range 32) fun s i => s.onChan (32 * k + i) fun x => { x with refAt := s.now }).onStack k fun x =>
    { x with selfRefresh := false }

/-- Whether a channel's retraining is due: its period, a moved temperature, or a failed attempt (R346). -/
def State.retrainDue (s : State) (c : Nat) : Bool :=
  let st := s.stack (c / 32)
  let at' := (s.chan c).trainTemp
  let d := s.reg .mcStkRetrainDelta (c / 32)
  s.past (Tab.getD st.trainAt (c % 32) 0) (s.reg .mcStkRetrainPeriod (c / 32) * msec)
    || decide (at' + d ≤ st.temp) || decide (st.temp + d ≤ at') || (s.chan c).trainFails != 0

/-- RETRAINING: a channel retrains in a 20 µs pause; the third failure in a row marks it FAILED (R346, R347). -/
def execRetraining (c : Chan) (ok : Bool) (s : State) : Host.Outcome State Fault Refusal :=
  if (s.stack (c / 32)).selfRefresh || (s.chan c).failed || !s.retrainDue c || s.stackPauses (c / 32) then .next s else
  let s := s.onChan c fun x => { x with pausedTo := s.now + 20 * usec, trainFails := if ok then 0 else x.trainFails + 1 }
  if ok then .next ((s.onStack (c / 32) fun x => { x with trainAt := Tab.put x.trainAt (c % 32) s.now }).onChan c fun x =>
    { x with trainTemp := (s.stack (c / 32)).temp })
  else
    let s := s.bump .mcTrainFail c
    .next (if 3 ≤ (s.chan c).trainFails then s.chanFailed c else s)

/-- Copy a row into its spare row: the entries queued for the bank are served first, then every line is decoded and
stored as data, poison or marker, with a zero activation count (R383). -/
def State.copyRow (s : State) (c bank old spare : Nat) : State :=
  let s := s.precharge c bank
  let s := s.each (Tab.getD (s.chan c).bankQ bank []) fun s r =>
    match r.kind with
    | .write d m => (s.storeLine c bank ((s.chan c).rowOf bank r.row) r.slot m d).bump .mcWrLines c
    | .read => s
  let s := s.onChan c fun x => { x with bankQ := Tab.del x.bankQ bank, idleSince := Tab.put x.idleSince bank s.now
                                        postponed := x.postponed.filter fun e => x.busyBut bank e.1 }
  let s := s.each (List.range 15) fun s slot =>
    let o := decodeLine (Mem.reads dramByte s.mem.dram (dramAddr c bank old (128 * slot)) 128)
      (slice (s.checkCols c bank old) (8 * slot) 8)
    s.storeLine c bank spare slot o.1.mark o.2
  let ep := (s.stack (c / 32)).epoch
  s.setCheck c bank spare 120 (le 4 (ep * 65536) ++ le 4 (2 ^ 32 - 1 - ep * 65536))

/-- The entry of the copy that is next in line is marked COPYING, but for one that replaces a valid entry (R383, R384). -/
def startNext (l : List RemapEnt) (js : List CopyJob) : List RemapEnt :=
  match js with
  | [] => l
  | j :: _ => l.zipIdx.map fun e => if e.2 = j.entry && !e.1.valid then { e.1 with copying := true } else e.1

/-- REMAP_COPY_DONE: the channel's running copy ends; its entry is valid, the bank admits again, the wear record takes
it (R383, R384, R386). -/
def execRemapCopyDone (c : Chan) (s : State) : Host.Outcome State Fault Refusal :=
  match (s.chan c).copies with
  | [] => .next s
  | j :: js =>
    let old := (s.chan c).rowOf j.bank j.row
    let s := s.copyRow c j.bank old (49152 + j.spare)
    let e : RemapEnt := { valid := true, copying := false, bank := j.bank, row := j.row, spare := j.spare, cause := j.cause, fails := min 65535 j.fails }
    let s := s.onChan c fun x => { x with remap := startNext (x.remap.set j.entry e) js, copies := js }
    .next (s.wearOut { kind := 4, unit := c, a := 0, b := e.bits } (some (c.val * 2 ^ 21 + j.bank * 65536 + j.row)))

/-- HBM_BOOT_TRAINING_DONE: boot training of the stacks ends; channels that failed three times are FAILED; remaps are
loaded from the wear record (R345, R387, R501). -/
def execHbmBootTrainingDone (failed : List Nat) (s : State) : Host.Outcome State Fault Refusal :=
  if s.board.phase ≠ .stage1 || !s.board.linkOpen then .next s else
  let s := s.each (List.range 12) fun s k => (s.onStack k fun x => { x with trained := true, epochAt := s.now }).each (List.range 32) fun s i =>
    s.onChan (32 * k + i) fun x => { x with trainTemp := (s.stack k).temp }
  let s := s.each (failed.filter (· < 384)) fun s c => (s.bumpN .mcTrainFail c 3).chanFailed c
  .next (s.onBoard fun b => { b with hbmDone := true }).advance

end Sys2Proof.Machine
end

