-- ==== Sys2Proof/Machine/PacketFmt.lean ====
section
/-! DEFINITION. Packets as bytes: header, payload, trailer, check value; opcodes and their form rules
(spec/03_transfers.md R85 to R95, R99, R107, R111; spec/08_gleodlink.md R275). -/
namespace Sys2Proof
open Sys2Proof.Machine

/-- Take a little-endian number of `n` bytes off a list. -/
def getLe (n : Nat) (l : List Byte) : Nat × List Byte := (ofLe (l.take n), l.drop n)

/-- The 64 header bytes (R88). -/
def Packet.header (p : Packet) : List Byte :=
  le 1 p.opcode.toNat ++ (le 1 p.flags.toNat ++ (le 1 p.sclass.toNat ++ (le 1 p.ptn.toNat ++ (le 2 p.dst.toNat ++
  (le 2 p.src.toNat ++ (le 4 p.tag.toNat ++ (le 4 p.seq.toNat ++ (le 2 p.pktIndex.toNat ++ (le 2 p.pktCount.toNat ++
  (le 4 p.extent.toNat ++ (le 8 p.offset.toNat ++ (le 8 p.length.toNat ++ (le 2 p.payloadLen.toNat ++
  (le 1 p.status.toNat ++ (le 1 p.subop.toNat ++ (le 4 p.hintUs.toNat ++ (le 8 p.arg0.toNat ++ le 8 p.arg1.toNat)))))))))))))))))
/-- The 64 trailer bytes (R89). -/
def Packet.trailer (p : Packet) : List Byte :=
  le 4 p.e2eCrc.toNat ++ (le 1 p.hops.toNat ++ (le 3 p.rsvd5.toNat ++ (le 4 p.reqSeq0.toNat ++ le 52 p.rsvd12.toNat)))
/-- A packet as it travels: header, payload flits, trailer. -/
def Packet.bytes (p : Packet) : List Byte := p.header ++ (p.payload ++ p.trailer)

/-- Read a packet back from its bytes: a header, whole payload flits and a trailer. -/
def Packet.ofBytes (l : List Byte) : Option Packet :=
  if l.length < 128 ∨ l.length % 64 ≠ 0 then none else
  let np := l.length - 128
  let (opcode, l) := getLe 1 l
  let (flags, l) := getLe 1 l
  let (sclass, l) := getLe 1 l
  let (ptn, l) := getLe 1 l
  let (dst, l) := getLe 2 l
  let (src, l) := getLe 2 l
  let (tag, l) := getLe 4 l
  let (seq, l) := getLe 4 l
  let (pktIndex, l) := getLe 2 l
  let (pktCount, l) := getLe 2 l
  let (extent, l) := getLe 4 l
  let (offset, l) := getLe 8 l
  let (length, l) := getLe 8 l
  let (payloadLen, l) := getLe 2 l
  let (status, l) := getLe 1 l
  let (subop, l) := getLe 1 l
  let (hintUs, l) := getLe 4 l
  let (arg0, l) := getLe 8 l
  let (arg1, l) := getLe 8 l
  let payload := l.take np
  let (e2eCrc, l) := getLe 4 (l.drop np)
  let (hops, l) := getLe 1 l
  let (rsvd5, l) := getLe 3 l
  let (reqSeq0, l) := getLe 4 l
  let (rsvd12, _) := getLe 52 l
  some { opcode := BitVec.ofNat 8 opcode, flags := BitVec.ofNat 8 flags, sclass := BitVec.ofNat 8 sclass,
         ptn := BitVec.ofNat 8 ptn, dst := BitVec.ofNat 16 dst, src := BitVec.ofNat 16 src, tag := BitVec.ofNat 32 tag,
         seq := BitVec.ofNat 32 seq, pktIndex := BitVec.ofNat 16 pktIndex, pktCount := BitVec.ofNat 16 pktCount,
         extent := BitVec.ofNat 32 extent, offset := BitVec.ofNat 64 offset, length := BitVec.ofNat 64 length,
         payloadLen := BitVec.ofNat 16 payloadLen, status := BitVec.ofNat 8 status, subop := BitVec.ofNat 8 subop,
         hintUs := BitVec.ofNat 32 hintUs, arg0 := BitVec.ofNat 64 arg0, arg1 := BitVec.ofNat 64 arg1, payload := payload,
         e2eCrc := BitVec.ofNat 32 e2eCrc, hops := BitVec.ofNat 8 hops, rsvd5 := BitVec.ofNat 24 rsvd5,
         reqSeq0 := BitVec.ofNat 32 reqSeq0, rsvd12 := BitVec.ofNat 416 rsvd12 }

/-- The bytes E2E_CRC covers: the header, then the first PAYLOAD_LEN payload bytes (R89). -/
def Packet.crcOf (p : Packet) : BitVec 32 := crc32c (p.header ++ p.payload.take p.payloadLen.toNat)
/-- Flits of a packet: header, payload, trailer (R86). -/
def Packet.flits (p : Packet) : Nat := 2 + ceilDiv p.payload.length 64

/-- Fields as numbers, reserved bits ignored (R88). -/
def Packet.rsp (p : Packet) : Bool := bit p.flags.toNat 0
def Packet.dirty (p : Packet) : Bool := bit p.flags.toNat 2
def Packet.notHeld (p : Packet) : Bool := bit p.flags.toNat 3
def Packet.svc (p : Packet) : Nat := p.sclass.toNat % 4
def Packet.colour (p : Packet) : Nat := p.sclass.toNat / 4 % 4
def Packet.q (p : Packet) : Nat := p.ptn.toNat % 64
def Packet.tg (p : Packet) : Nat := p.tag.toNat % 2 ^ 20
def Packet.ext (p : Packet) : Nat := p.extent.toNat % 2 ^ 20
def Packet.off (p : Packet) : Nat := p.offset.toNat % 2 ^ 44
def Packet.len (p : Packet) : Nat := p.length.toNat % 2 ^ 44
/-- The transfer's first sequence number (R102, R106). -/
def Packet.s0 (p : Packet) : BitVec 32 := p.seq - BitVec.ofNat 32 p.pktIndex.toNat

/-- Opcodes of R93. -/
def opcodes : List Nat :=
  [0x01, 0x02, 0x03, 0x04, 0x10, 0x11, 0x12, 0x13, 0x20, 0x21, 0x22, 0x23, 0x24, 0x25, 0x26, 0x30, 0x31, 0x32, 0x40, 0x50]
/-- The virtual channel of an opcode, request or response (R93, R111, R275). -/
def vcOf (op : Nat) (rsp : Bool) : Nat :=
  if !(opcodes.contains op) then 0 else if op = 0x40 then 4 else if op = 0x50 then 3
  else if rsp || op = 0x22 || op = 0x26 || op = 0x32 then 1 else if op = 0x25 then 2 else 0
/-- The packets of a transfer by opcode and length (R93). -/
def countOf (op len : Nat) : Nat := if op = 0x02 || op = 0x03 || op = 0x31 then ceilDiv len 4096 else 1
/-- The size of packet i's range of a transfer (R94). -/
def rangeOf (len i : Nat) : Nat := min len ((i + 1) * 4096) - i * 4096

/-- The form checks of R107, which depend only on the packet and its channel. -/
def Packet.formOk (p : Packet) (vc : Nat) : Bool :=
  let op := p.opcode.toNat
  opcodes.contains op && vc == vcOf op p.rsp && decide (p.pktIndex.toNat < p.pktCount.toNat)
    && decide (p.payload.length = 64 * ceilDiv p.payloadLen.toNat 64) && decide (p.payloadLen.toNat ≤ 4096)
    && !(op == 0x25 && p.rsp) && !((op == 0x26 || op == 0x32) && !p.rsp)

/-- Rules of R93, R94 and R99 on a request's range, count, payload and line map (R95). -/
def Packet.rangeOk (p : Packet) : Bool :=
  let op := p.opcode.toNat
  let len := p.len
  let pl := p.payloadLen.toNat
  let whole := decide (p.off % 128 = 0) && decide (len % 128 = 0) && decide (128 ≤ len)
  let line := decide (p.off % 128 = 0) && decide (len = 128)
  let zero := decide (p.off = 0) && decide (len = 0) && decide (pl = 0)
  p.pktCount.toNat == countOf op len &&
  match op with
  | 0x01 => whole && decide (len ≤ 268431360) && decide (pl = 0)
  | 0x02 => whole && decide (len ≤ 268431360) && decide (pl = rangeOf len p.pktIndex.toNat)
  | 0x31 => whole && decide (len ≤ 268431360) && decide (pl = rangeOf len p.pktIndex.toNat)
  | 0x03 =>
    let m := p.arg1.toNat % 2 ^ 32
    whole && decide (len ≤ 268431360) && decide (pl = 128 * popcount 32 m)
      && decide (m < 2 ^ (rangeOf len p.pktIndex.toNat / 128))
  | 0x04 => whole && decide (pl = 0)
  | 0x10 => zero | 0x11 => zero | 0x12 => zero | 0x13 => zero
  | 0x20 => line && decide (pl = 0)
  | 0x21 => line && decide (pl = 0)
  | 0x22 => line && decide (pl = if p.dirty then 128 else 0)
  | 0x23 => line && decide (pl = 128)
  | 0x24 => (len == 4 || len == 8) && decide (p.off % len = 0) && decide (pl = 0)
      && decide (1 ≤ p.subop.toNat ∧ p.subop.toNat ≤ 3)
  | _ => true

/-- A response to a request: fields copied as R111 says, reserved bits sent as 0 (R88). -/
def Packet.resp (p : Packet) (status : Nat) : Packet :=
  { opcode := p.opcode, flags := 3#8, sclass := p.sclass &&& 0x0F#8, ptn := p.ptn &&& 0x3F#8, dst := p.src, src := p.dst
    tag := p.tag &&& 0xFFFFF#32, extent := p.extent &&& 0xFFFFF#32, offset := p.offset &&& 0xFFFFFFFFFFF#64
    length := p.length &&& 0xFFFFFFFFFFF#64, status := BitVec.ofNat 8 status, reqSeq0 := p.s0, subop := 0#8 }

end Sys2Proof
end

