-- ==== Sys2Proof/Machine/Tier.lean ====
section
/-! DEFINITION. Tier pages, their frames, the flash tier and its journal (spec/02_pool_model.md R25, R43 to R52, R57 to
R84; spec/12_flash_tier.md R353 to R373; spec/20_reset_and_bringup.md R504). -/
namespace Sys2Proof.Machine

/-- The key of a tier page. -/
def pageKey (h page : Nat) : Nat := h * 2 ^ 28 + page
def keyExt (k : Nat) : Nat := k / 2 ^ 28
def keyPage (k : Nat) : Nat := k % 2 ^ 28

/-- Whether an extent's pages are held in frames: DRAM_PINNED, or about to be (R357, R373). -/
def ExtRec.pinned (e : ExtRec) : Bool := e.policy == 0 || e.pinning
/-- The home channel a page takes when it is first given space (R25). -/
def State.homeOf (s : State) (e : ExtRec) (page : Nat) : Nat :=
  let l := if e.pinned then e.chans else (s.ptn e.ptn).channels
  (l[page % max 1 l.length]?).getD 0
/-- The page record, as UNWRITTEN where the page has no space yet. -/
def State.pageOr (s : State) (h page : Nat) : PageRec :=
  (s.page (pageKey h page)).getD
    { home := (s.ext h).elim 0 fun e => s.homeOf e page, zeroed := false }

/-- Whole tier pages (64 KiB) of a length. -/
def pagesOf (len : Nat) : Nat := len / 65536
/-- DRAM_PINNED extents of a partition, in pages; images, models and staging pool beside them (R50, R52, R206). -/
def State.pinned (s : State) (q : Nat) : Nat :=
  ((s.exts.filter fun e => e.2.ptn == q && e.2.pinned && !e.2.sanitised).map fun e => pagesOf e.2.length).sum
    + Tab.getD s.deal.stage q 1024
    + ((s.deal.images.filter fun e => e.2.ptn == q).map fun e => e.2.pages).sum
    + ((s.deal.models.filter fun e => e.2.ptn == q).map fun e =>
        ceilDiv ((e.2.resident.length + 2) * e.2.hdr.expertBytes) 65536).sum
/-- The DRAM quota in pages (R43). -/
def State.dramQuota (s : State) (q : Nat) : Nat := (s.ptn q).channels.length * 46080
/-- Flash charged: the full length of TIERED and FLASH_HOME extents, from the command that makes them so, and spilled experts
(R50, R84, R373), in bytes. -/
def State.flashUsed (s : State) (q : Nat) : Nat :=
  ((s.exts.filter fun e => e.2.ptn == q && (e.2.policy != 0 || e.2.policyPending) && !e.2.sanitised).map fun e => e.2.length).sum
    + ((s.deal.models.filter fun e => e.2.ptn == q).map fun e => (e.2.hdr.experts - e.2.resident.length) * e.2.hdr.expertBytes).sum
/-- Tracked charge in bytes (R43). -/
def State.trackedUsed (s : State) (q : Nat) : Nat :=
  ((s.exts.filter fun e => e.2.ptn == q && e.2.tracked && !e.2.sanitised).map fun e => e.2.length).sum
/-- Frames a partition's TIERED and FLASH_HOME pages hold. -/
def State.tierFrames (s : State) (q : Nat) : Nat :=
  (s.mem.pages.filter fun e => e.2.frame.isSome && (s.ext (keyExt e.1)).elim false fun x => x.ptn == q && !x.pinned).length
/-- Frames of a channel that pages of DRAM_PINNED extents hold and nothing has written yet (R25, R357; log 17). -/
def State.heldFrames (s : State) (c : Nat) : Nat :=
  (s.exts.map fun e =>
    if !e.2.pinned || e.2.sanitised then 0 else
    let n := max 1 e.2.chans.length
    let i := (indexOf? (fun x => x == c) e.2.chans).getD n
    let mine := s.mem.pages.filter fun x => keyExt x.1 == e.1
    (if i < n then ceilDiv (pagesOf e.2.length - i) n - (mine.filter fun x => keyPage x.1 % n == i).length else 0)
      + (mine.filter fun x => x.2.home == c && x.2.frame.isNone).length).sum
/-- Frames of a channel allotted to tier pages (R357, R453). -/
def State.chanFrames (s : State) (c : Nat) : Nat := (s.chan c).frames.length + s.heldFrames c
/-- DIRTY pages of a partition, as (key, record). -/
def State.dirtyPages (s : State) (q : Nat) : Tab PageRec :=
  s.mem.pages.filter fun e => (e.2.st == .dirty || e.2.zeroPending)
    && (s.ext (keyExt e.1)).elim false fun x => x.ptn == q && !x.pinned
/-- Whether a partition has a TIERED or FLASH_HOME extent (R52). -/
def State.hasTiered (s : State) (q : Nat) : Bool := s.exts.any fun e => e.2.ptn == q && e.2.policy != 0 && !e.2.sanitised

/-- Whether a frame has queued entries on its channel, write-backs among them (R333, R359). -/
def Channel.frameBusy (ch : Channel) (f : Nat) : Bool :=
  let hit (r : ChanReq) : Bool := r.li / 512 == f
  ch.bankQ.any (fun e => e.2.any hit) || ch.tagQ.any (fun e => e.2.any hit)
/-- The queued entries of a frame are performed and stored (R358). -/
def State.drainFrame (s : State) (c f : Nat) : State :=
  let hit (r : ChanReq) : Bool := r.li / 512 == f
  let store (s : State) (r : ChanReq) : State :=
    match r.kind with
    | .write d m => (s.storeLine c r.bank ((s.chan c).rowOf r.bank r.row) r.slot m d).bump .mcWrLines c
    | .read => s
  let ch := s.chan c
  let bq := ch.bankQ.flatMap fun e => e.2.filter hit
  let tq := ch.tagQ.flatMap fun e => e.2.filter hit
  let s := s.each bq store
  let s := s.each tq fun s r => (store s r).performed r.wr
  s.onChan c fun x => { x with bankQ := (x.bankQ.map fun e => (e.1, e.2.filter fun r => !hit r)).filter fun e => !e.2.isEmpty
                               tagQ := (x.tagQ.map fun e => (e.1, e.2.filter fun r => !hit r)).filter fun e => !e.2.isEmpty }

/-- Make every line of a frame poison: the bytes read as unlisted again (R74, R76, R358). -/
def State.poisonLine (s : State) (c li : Nat) : State :=
  let m := mapLine (s.reg .mcChCfgMap c) li
  let row := (s.chan c).rowOf m.1 m.2.1
  let s := s.onMem fun x => { x with dram := Mem.clear x.dram (dramAddr c m.1 row (128 * m.2.2)) 128 }
  s.setCheck c m.1 row (8 * m.2.2) (markPattern 1)
def State.poisonFrame (s : State) (c f : Nat) : State :=
  s.each (List.range 512) fun s n => s.poisonLine c (f * 512 + n)
/-- Store a line of a frame directly (fills and firmware writes). -/
def State.fillLine (s : State) (c li mark : Nat) (d : List Byte) : State :=
  let m := mapLine (s.reg .mcChCfgMap c) li
  s.storeLine c m.1 ((s.chan c).rowOf m.1 m.2.1) m.2.2 mark d
def State.zeroFrame (s : State) (c f : Nat) : State :=
  s.each (List.range 512) fun s n => s.fillLine c (f * 512 + n) 0 (zeros 128)

/-- Give a page's frame back. -/
def State.freeFrame (s : State) (k : Nat) : State :=
  match s.page k with
  | some p =>
    match p.frame with
    | some f =>
      (s.onChan p.home fun x => { x with frames := Tab.del x.frames f }).onPage k fun p => { p with frame := none }
    | none => s
  | none => s

/-- The pages a byte range touches. -/
def pagesIn (off len : Nat) : List Nat :=
  if len = 0 then [] else (List.range ((off + len - 1) / 65536 - off / 65536 + 1)).map (off / 65536 + ·)
/-- The pages a waiting request still needs: those of a GET's packets to come, of a ZERO's parts, of a write's packet, of a
line. -/
def WaitReq.pagesLeft (w : WaitReq) : List Nat :=
  let p := w.pkt
  match w.kind with
  | .serve =>
    if p.opcode = 0x01#8 then w.ids.flatMap fun i => pagesIn (p.off + 4096 * i) (rangeOf p.len i)
    else if p.opcode = 0x04#8 then w.ids
    else pagesIn (p.off + 4096 * p.pktIndex.toNat) (rangeOf p.len p.pktIndex.toNat)
  | .homeLine _ => [p.off / 65536]
  | _ => []
/-- Whether a waiting request needs a page. -/
def WaitReq.touches (w : WaitReq) (k : Nat) : Bool := w.pkt.ext == keyExt k && w.pagesLeft.contains (keyPage k)

/-- The CLEAN page a partition gives up first, of one channel where `on` names it: FLASH_HOME before TIERED, least
recently used first (R359). -/
def State.victim (s : State) (q : Nat) (on : Option Nat) : Option Nat :=
  let ok (e : Nat × PageRec) : Bool :=
    e.2.st == .clean && on.elim true (· == e.2.home) && !(s.fab.waits.any fun w => w.touches e.1)
      && !(e.2.frame.elim false fun f => (s.chan e.2.home).frameBusy f)
      && (s.ext (keyExt e.1)).elim false fun x => x.ptn == q && !x.pinned
  let pol (e : Nat × PageRec) : Nat := (s.ext (keyExt e.1)).elim 0 fun x => x.policy
  ((s.mem.pages.filter ok).foldl (fun (b : Option (Nat × PageRec)) e =>
    match b with
    | none => some e
    | some x => if pol x < pol e || (pol x == pol e && e.2.usedAt < x.2.usedAt) then some e else b) none).map Prod.fst

/-- Whether a channel has no frame left for a page; tier pages leave those kept for DRAM_PINNED pages. -/
def State.chanFull (s : State) (home : Nat) (pinned : Bool) : Bool :=
  decide (46080 ≤ if pinned then (s.chan home).frames.length else s.chanFrames home)
/-- Whether a page needs another page's frame: its home channel is full, or its partition has no free unpinned frame. -/
def State.mustEvict (s : State) (q home : Nat) (pinned : Bool) : Bool :=
  s.chanFull home pinned || !(pinned || decide (s.tierFrames q < s.dramQuota q - s.pinned q))
/-- The page that gives way, where one can: of the home channel when that is full (R359; log 137). -/
def State.evictee (s : State) (q home : Nat) (pinned : Bool) : Option Nat :=
  s.victim q (if s.chanFull home pinned then some home else none)
/-- Take a frame of a page's home channel, evicting a CLEAN page where that needs one; none when no page can give way
(R83, R359). -/
def State.takeFrame (s : State) (q k home : Nat) (pinned : Bool) : Option (Nat × State) :=
  let place (s : State) : Option (Nat × State) :=
    (Tab.firstFree (s.chan home).frames 46080 0).map fun f =>
      (f, s.onChan home fun x => { x with frames := Tab.put x.frames f k })
  if !(s.mustEvict q home pinned) then place s
  else
    match s.evictee q home pinned with
    | some v => place ((s.freeFrame v).onPage v fun p => { p with st := .flash })
    | none => none
/-- The channel a DRAM_PINNED page takes its frame of: its home channel, or the next of its extent's that has a frame which
is not another DRAM_PINNED page's (R25, R357; log 17). -/
def State.pinHome (s : State) (e : ExtRec) (home : Nat) (ok : Nat → Bool) : Nat :=
  let i := (indexOf? (fun x => x == home) e.chans).getD 0
  let open' (c : Nat) : Bool := ok c && (decide ((s.chan c).frames.length < 46080)
    || (s.chan c).frames.any fun f => (s.ext (keyExt f.2)).elim false fun x => !x.pinned)
  ((e.chans.drop i ++ e.chans.take i).find? open').getD home

/-- The flash channel a location lies on: die × 8 + LOCATION[2:0] (R363). -/
def locChan (die loc : Nat) : Nat := die * 8 + loc % 8
/-- The block group of a location: its LUN in bits [7:0] and its number there (R363). -/
def locGroup (loc : Nat) : Nat := loc % 2 ^ 24
/-- Whether a block group is one of its LUN's own, and not one made of kitty blocks (R371). -/
def FlashDie.own (d : FlashDie) (g : Nat) : Bool := decide (g / 256 < Tab.getD d.groups (g % 256) 0)
def FlashDie.goodGroups (d : FlashDie) : Nat := (d.groups.map Prod.snd).sum - (d.dead.filter d.own).length
def FlashDie.freeGroups (d : FlashDie) : Nat := (d.groups.map Prod.snd).sum - (d.used.filter d.own).length
def FlashDie.kitty (d : FlashDie) : Nat := (d.kitties.map Prod.snd).sum
/-- The lowest free block group of a LUN. -/
def FlashDie.freeOn (d : FlashDie) (lun : Nat) : Option Nat :=
  ((List.range (Tab.getD d.groups lun 0)).map fun n => lun + 256 * n).find? fun g => !(d.used.contains g)
/-- Open a free block group for filling, on the LUN with the fewest in use (log 13). -/
def FlashDie.openFree (d : FlashDie) : Option FlashDie :=
  let inUse (l : Nat) : Nat := (d.used.filter fun g => g % 256 == l).length
  let lun := (d.luns.filter fun l => (d.freeOn l).isSome).foldl (fun (b : Option Nat) l =>
    if b.elim true fun x => decide (inUse l < inUse x) then some l else b) none
  (lun.bind d.freeOn).map fun g => { d with used := d.used ++ [g], filling := (g, 0) :: d.filling }
/-- Open a block group made of four kitty blocks of a LUN (R371). -/
def FlashDie.openKitty (d : FlashDie) : Option FlashDie :=
  (d.luns.find? fun l => decide (4 ≤ Tab.getD d.kitties l 0)).bind fun l =>
    (((List.range (d.used.length + 1)).map fun n => l + 256 * (Tab.getD d.groups l 0 + n)).find? fun g => !(d.used.contains g)).map fun g =>
      { d with used := d.used ++ [g], filling := (g, 0) :: d.filling, borrowed := wrapAdd 32 d.borrowed 4
               kitties := Tab.put d.kitties l (Tab.getD d.kitties l 0 - 4) }
/-- The next page slot of a die: groups are filled side by side, one for each channel while free groups last, and kitty blocks
are drawn only when no group is left (R371; log 13). -/
def FlashDie.slot (d : FlashDie) : Option (Nat × FlashDie) :=
  let wide := decide (((d.luns.map (· % 8)).eraseDups).length ≤ d.filling.length)
  let d := if wide then d else (d.openFree.orElse fun _ => if d.filling.isEmpty then d.openKitty else none).getD d
  match d.filling with
  | [] => none
  | (g, i) :: rest => some (g + i * 2 ^ 24, { d with filling := if i < 4095 then rest ++ [(g, i + 1)] else rest })

/-- Queue a flash operation; a parked channel wakes, and a promotion or destage leads its die's channels (R26, R372, R468). -/
def State.flashOp (s : State) (f : Nat) (r : FlReq) : State :=
  let s := (s.onFch f fun x => { x with queue := x.queue ++ [r] }).lead (62 + f)
  let s := match r.op with
    | .promote _ | .destage .. => s.each (List.range 8) fun s i => s.lead (62 + f / 8 * 8 + i)
    | _ => s
  if (s.fch f).parked then s.wakeRes (62 + f) else s

/-- Start the promotion of a FLASH page: it takes a frame and is read from flash (R82, R358). -/
def State.promote (s : State) (q h page : Nat) : Option State :=
  let k := pageKey h page
  match s.page k with
  | some p =>
    match s.takeFrame q k p.home false, p.loc with
    | some (f, s), some loc =>
      let s := (s.demandChan p.home).onPage k fun p => { p with st := .promoting, frame := some f }
      some (s.flashOp (locChan (dieOf p.home) loc) { op := .promote k, ptn := q, prio := 3, since := s.now, loc := loc })
    | _, _ => none
  | none => none

/-- A request waits for a frame: the partition's oldest DIRTY page not yet due is destaged at priority 2 (R360). -/
def State.askFrame (s : State) (q : Nat) : State :=
  let ds := s.dirtyPages q
  if ds.any fun e => e.2.prio == 2 || e.2.destaging then s else
  match (ds.filter fun e => e.2.st == .dirty).foldl (fun (b : Option (Nat × PageRec)) e =>
      match b with
      | none => some e
      | some x => if e.2.dirtyAt < x.2.dirtyAt then some e else b) none with
  | some e => s.onPage e.1 fun p => { p with prio := if p.prio = 1 then 1 else 2 }
  | none => s

/-- What a page needs before its lines can be used (R77, R82, R83, R357, R358). -/
inductive PageNeed
  | ready (s : State)                -- its lines can be used now
  | wait (s : State)                 -- it waits for a promotion or a destage

/-- Make a page ready to be written: UNWRITTEN and ZERO pages take a filled frame, once their stack is awake, and FLASH
pages are promoted (R26, R358). -/
def State.pageForWrite (s : State) (h page : Nat) : PageNeed :=
  match s.ext h with
  | none => .ready s
  | some e =>
    let k := pageKey h page
    let p := s.pageOr h page
    let p := if e.pinned && p.frame.isNone then { p with home := s.pinHome e p.home fun _ => true } else p
    match p.st, p.frame with
    | .promoting, _ => .wait s
    | .clean, some _ => .ready (s.onPage k fun p => { p with usedAt := s.now })
    | .dirty, some _ => .ready (s.onPage k fun p => { p with usedAt := s.now })
    | .flash, _ => .wait ((s.promote e.ptn h page).getD (s.askFrame e.ptn))
    | st, _ =>
      if !s.chanAwake p.home then .wait (s.demandChan p.home) else
      match s.takeFrame e.ptn k p.home e.pinned with
      | none => .wait (s.askFrame e.ptn)
      | some (f, s) =>
        let s := if st = .zero then s.zeroFrame p.home f else s.poisonFrame p.home f
        .ready (s.setPage k { p with st := .clean, frame := some f, usedAt := s.now })

/-- Note whether the DIRTY share of a partition's unpinned frames has risen above FL_PTN_DIRTY_HIGH or fallen below
FL_PTN_DIRTY_LOW (R360). -/
def State.noteShare (s : State) (q : Nat) : State :=
  let unp := s.dramQuota q - s.pinned q
  let n := 100 * (s.dirtyPages q).length
  let on := decide (s.reg .flPtnDirtyHigh q * unp < n) || (s.mem.draining.contains q && decide (s.reg .flPtnDirtyLow q * unp ≤ n))
  s.onMem fun m => { m with draining := if on then (if m.draining.contains q then m.draining else q :: m.draining) else m.draining.filter (· != q) }

/-- Mark a page written: DIRTY from now (R358); a write after its snapshot keeps it DIRTY (R361). -/
def State.dirtied (s : State) (h page : Nat) : State :=
  let was := (s.page (pageKey h page)).elim false fun p => p.st == .dirty
  let s := s.onPage (pageKey h page) fun p => { p with st := .dirty, dirtyAt := if p.st = .dirty then p.dirtyAt else s.now,
                                                       rewritten := p.destaging, usedAt := s.now, zeroPending := false }
  match s.ext h with
  | some e => if was || e.policy = 0 then s else s.noteShare e.ptn
  | none => s

/-- Make a page ready to be read; UNWRITTEN and ZERO pages need no frame, and a page in a frame waits for its stack to wake
(R26, R357). -/
def State.pageForRead (s : State) (h page : Nat) : PageNeed :=
  match s.ext h with
  | none => .ready s
  | some e =>
    let p := s.pageOr h page
    match p.st with
    | .promoting => .wait s
    | .flash => .wait ((s.promote e.ptn h page).getD (s.askFrame e.ptn))
    | _ => if p.frame.isSome && !s.chanAwake p.home then .wait (s.demandChan p.home) else .ready (s.onPage (pageKey h page) fun p => { p with usedAt := s.now })

/-- Note a line read as uncorrectable: a mirrored extent's counts towards UE_RATE (R377, R481 code 8). -/
def State.noteUe (s : State) (h : Nat) : State :=
  if (s.ext h).elim false (·.mirrored) then
    let ts := s.now :: s.prt.ueTimes.filter fun t => decide (s.now < t + 3600 * oneSec)
    let s := s.onPrt fun p => { p with ueTimes := ts }
    if (s.sec.pset.pairing).elim false fun g => g.ueLimit < ts.length then s.finding 8 h ts.length else s
  else s

/-- Read one line of an extent whose page is ready: (marking, data) (R77, R357, R379). -/
def State.readExt (s : State) (h line tag : Nat) : (Nat × List Byte) × State :=
  let p := s.pageOr h (line / 512)
  match p.frame with
  | some f =>
    let m := mapLine (s.reg .mcChCfgMap p.home) (f * 512 + line % 512)
    let r := (s.demandChan p.home).readLine p.home m.1 m.2.1 m.2.2 tag
    (r.1, if r.1.1 = 2 then r.2.noteUe h else r.2)
  | none => (if p.st = .zero then (0, zeros 128) else (1, zeros 128), s)

/-- Write one line of an extent whose page is ready (R57, R380). -/
def State.writeExt (s : State) (h line tag mark : Nat) (data : List Byte) (wr : Option Nat) : State :=
  let p := s.pageOr h (line / 512)
  match p.frame with
  | some f => (s.writeLine p.home (f * 512 + line % 512) tag mark data wr).dirtied h (line / 512)
  | none => s.performed wr

/-- The value of a line as a reader finds it at last, whether its page is in HBM or in flash (R357): for streams of
tiles and kernels, whose wait for a promotion is inside their step (R185). -/
def State.peekLine (s : State) (h line : Nat) : Nat × List Byte :=
  let p := s.pageOr h (line / 512)
  match p.frame, p.st with
  | some f, .clean | some f, .dirty =>
    let m := mapLine (s.reg .mcChCfgMap p.home) (f * 512 + line % 512)
    (s.readLine p.home m.1 m.2.1 m.2.2 50).1
  | _, .zero => (0, zeros 128)
  | _, .unwritten => (1, zeros 128)
  | _, _ =>
    match p.loc.bind fun l => Tab.get? (s.fdie (dieOf p.home)).pages l with
    | some fp =>
      let n := line % 512
      if bit fp.uncorr n then (2, zeros 128)
      else if bit fp.poison n then (1, zeros 128)
      else (0, Mem.reads zeroByte fp.data (n * 128) 128)
    | none => (1, zeros 128)

/-- Make a page resident at once, as a kernel's access does after its wait: the fill of a promotion (R185, R358). -/
def State.fillFromFlash (s : State) (k : Nat) (fp : FlashPage) (bad : List Nat) : State :=
  match s.page k with
  | some p =>
    match p.frame with
    | some f => s.each (List.range 512) fun s n =>
        let mark := if bit fp.uncorr n || bad.contains (n / 32) then 2 else if bit fp.poison n then 1 else 0
        if mark = 1 then s.poisonLine p.home (f * 512 + n)
        else s.fillLine p.home (f * 512 + n) mark (Mem.reads zeroByte fp.data (n * 128) 128)
    | none => s
  | none => s

/-! ### The journal -/

/-- Write a COMMIT: its journal page is to be programmed on both journal channels (R363, R365). -/
def State.openCommit (s : State) (m : Nat) : State :=
  (s.onFdie m fun d => { d with commitOpen := some d.seq, seq := d.seq + 1 }).each (s.fdie m).chans fun s c =>
    s.flashOp (8 * m + c) { op := .journal, ptn := 65, prio := 0, since := s.now }
/-- Write records into a die's journal; `now` writes a COMMIT at once (R365). -/
def State.journal (s : State) (m : Nat) (rs : List JRec) (now : Bool) : State :=
  let d := s.fdie m
  let n := rs.length
  let rs := rs.zipIdx.map fun p => { p.1 with seq := d.seq + p.2 }
  let s := s.onFdie m fun d => { d with pend := d.pend ++ rs, seq := d.seq + n, ckRecords := d.ckRecords + n
                                        firstUncommitted := if d.pend.isEmpty then s.now else d.firstUncommitted }
  if !now then s else if d.commitOpen.isNone then s.openCommit m else s.onFdie m fun d => { d with commitAsked := true }

/-- A page record of the journal with the extent's visible pair (R69, R363). -/
def State.pageRec (s : State) (kind k loc : Nat) : JRec :=
  let e := s.ext (keyExt k)
  { seq := 0, kind := kind, ext := keyExt k, page := keyPage k, loc := loc,
    version := e.elim 0 (·.version), publisher := e.elim 0xFFFF (·.publisher) }

/-- LOCATION of an EXT_ATTR record (R364). -/
def attrLoc (e : ExtRec) (st : Nat) : Nat :=
  e.ptn + 64 * b2n e.tracked + 128 * e.policy + 512 * b2n e.mirrored + 1024 * b2n e.init + 2048 * st
    + 2 ^ 13 * e.controlDie + 2 ^ 16 * e.drainMs

/-- The records of a change of an extent: one EXT_ATTR, and the EXT_ACL chunks when the list changed (R364). -/
def extRecs (h : Nat) (e : ExtRec) (st : Nat) (act : ExtAct) (withAcl : Bool) : List JRec :=
  let attr : JRec := { seq := 0, kind := 6, ext := h, page := e.length / 2 ^ 21, loc := attrLoc e st,
                       version := e.version, publisher := e.publisher, act := act }
  let cs := chunks 4 e.acl
  attr :: if withAcl then (if cs.isEmpty then [[]] else cs).zipIdx.map fun c =>
    { seq := 0, kind := 7, ext := h, page := c.2 + 256 * e.acl.length, loc := 0, version := 0, publisher := 0, acl := c.1 }
  else []

/-- STATE of an EXT_ATTR record (R364). -/
def ExtState.code : ExtState → Nat
  | .active => 0 | .revoking => 1 | .revoked => 2

/-- Write an extent's record on M0 with a COMMIT at once (R364, R504). -/
def State.extRecord (s : State) (h : Nat) (act : ExtAct) : State :=
  match s.ext h with
  | none => s
  | some e =>
    let e' := match act with
      | .policy p => { e with policy := p }
      | .acl l => { e with acl := l }
      | .drain ms => { e with drainMs := ms }
      | .init => { e with init := true }
      | _ => e
    s.journal 0 (extRecs h e' e.st.code act (match act with | .create => true | .acl _ => true | _ => false)) true

/-- A LUN's kitty that has fallen below 1% of the LUN's good blocks sets KITTY_LOW and is reported, once (R371). -/
def State.noteKitty (s : State) (m : Nat) : State :=
  let d := s.fdie m
  let low (l : Nat) : Bool := let k := Tab.getD d.kitties l 0; decide (100 * k < 4 * Tab.getD d.groups l 0 + k)
  if s.reg .flDieStatusKittyLow m = 0 && d.luns.any low then (s.setReg .flDieStatusKittyLow m 1).finding 6 m d.kitty else s
/-- Allocate the next page slot of a die (R361, R371). -/
def State.flashSlot (s : State) (m : Nat) : Option (Nat × State) :=
  (s.fdie m).slot.map fun x => (x.1, (s.onFdie m fun _ => x.2).noteKitty m)
/-- Whether a die has exhausted free flash and kitty (R371). -/
def State.flashFull (s : State) (m : Nat) : Bool := (s.fdie m).slot.isNone

/-- Level of a page in the destage order: R360's number, FLASH_HOME before TIERED at each level. -/
def State.destageLevel (s : State) (q : Nat) (e : Nat × PageRec) : Nat :=
  let pr := if e.2.prio = 1 || e.2.prio = 2 then e.2.prio else if s.mem.draining.contains q then 3 else if e.2.prio ≠ 0 then e.2.prio else 9
  pr * 2 + (if (s.ext (keyExt e.1)).elim 1 (·.policy) = 2 then 0 else 1)

/-- DESTAGE_START: a DIRTY page that is due is snapshot; an all-zero one is recorded ZERO, another is programmed. A page whose
die has no room holds no other back (R360, R361, R366, R530). -/
def State.destage (s : State) (h page : Nat) : State :=
  let k := pageKey h page
  match s.ext h, s.page k with
  | some e, some p =>
    let q := e.ptn
    let s := s.noteShare q
    let lv := s.destageLevel q (k, p)
    let ahead := (s.dirtyPages q).any fun x => !x.2.destaging && (x.2.zeroPending || !(s.flashFull (dieOf x.2.home)))
      && (decide (s.destageLevel q x < lv) || (lv / 2 == 3 && s.destageLevel q x == lv && decide (x.2.dirtyAt < p.dirtyAt)))
    if e.pinned || p.destaging || 18 ≤ lv || ahead then s else
    let m := dieOf p.home
    if p.zeroPending then
      (s.onPage k fun p => { p with destaging := true }).journal m [s.pageRec 2 k 0] (p.prio == 1)
    else if p.st ≠ .dirty then s
    else if !s.chanAwake p.home then s.demandChan p.home else
    let rd := (List.range 512).foldl (fun (acc : List (Nat × List Byte) × State) n =>
      let r := acc.2.readExt h (page * 512 + n) 50
      (acc.1 ++ [r.1], r.2)) ([], s)
    let s := rd.2
    if rd.1.all fun l => l.1 == 0 && l.2.all (· == 0#8) then
      ((s.onPage k fun p => { p with destaging := true, rewritten := false }).bump .flPtnZeroElided q).journal m
        [s.pageRec 2 k 0] (p.prio == 1)
    else
      match s.flashSlot m with
      | none => s.onFdie m fun d => { d with noSpace := true }
      | some (loc, s) =>
        let mask (v : Nat) : Nat := (rd.1.zipIdx.map fun x => if x.1.1 = v then 2 ^ x.2 else 0).sum
        let op : FlOp := .destage k (rd.1.flatMap Prod.snd) (mask 1) (mask 2)
        (s.onPage k fun p => { p with destaging := true, rewritten := false }).flashOp (locChan m loc)
          { op := op, ptn := q, prio := p.prio, since := s.now, loc := loc }
  | _, _ => s

def execDestageStart (ext : BitVec 20) (page : BitVec 28) (s : State) : Host.Outcome State Fault Refusal :=
  .next (s.destage ext.toNat page.toNat)

/-- DESTAGE_AGE_EXPIRY: a page DIRTY for longer than FL_PTN_DESTAGE_AGE is queued for destage (R360). -/
def execDestageAgeExpiry (ext : BitVec 20) (page : BitVec 28) (s : State) : Host.Outcome State Fault Refusal :=
  let k := pageKey ext.toNat page.toNat
  match s.ext ext.toNat, s.page k with
  | some e, some p =>
    if e.policy ≠ 0 && (p.st == .dirty || p.zeroPending) && p.prio == 0
        && s.past p.dirtyAt (s.reg .flPtnDestageAge e.ptn * msec) then
      .next (s.onPage k fun p => { p with prio := 4 })
    else .next s
  | _, _ => .next s

/-- Take a started operation off a channel's queue. -/
def State.takeOp (s : State) (f : Nat) (hit : FlReq → Bool) : Option (FlReq × State) :=
  match (s.fch f).queue.find? fun r => r.started && hit r with
  | none => none
  | some r => some (r, s.onFch f fun x => { x with queue := x.queue.erase r })

/-- DESTAGE_PROGRAM_DONE: a destage's program ends and its MAP record is written (R361). -/
def execDestageProgramDone (ext : BitVec 20) (page : BitVec 28) (s : State) : Host.Outcome State Fault Refusal :=
  let k := pageKey ext.toNat page.toNat
  match s.page k with
  | none => .next s
  | some p =>
    let m := dieOf p.home
    let isIt (r : FlReq) : Bool := match r.op with | .destage k' _ _ _ => k' == k | _ => false
    match (List.range 8).findSome? fun c => (s.takeOp (m * 8 + c) isIt).map fun x => (m * 8 + c, x) with
    | none => .next s
    | some (f, r, s) =>
      match r.op with
      | .destage _ data poison uncorr =>
        let fp : FlashPage := { ext := keyExt k, page := keyPage k, wseq := (s.fdie m).seq, poison := poison, uncorr := uncorr,
                                data := Mem.writes zeroByte [] 0 data }
        let s := (s.onFdie m fun d => { d with pages := Tab.put d.pages r.loc fp }).bump .flChPrograms f
        .next (s.journal m [s.pageRec 1 k r.loc] (p.prio == 1))
      | _ => .next s

/-- Whether pair (v1, p1) is higher than pair (v2, p2) (R64). -/
def pairHigher (v1 p1 v2 p2 : Nat) : Bool := decide (v2 < v1) || (v1 == v2 && decide (p1 < p2))
/-- A committed record that carries an extent's pair raises the pair a replay returns to (R69, R368). -/
def State.pairDurable (s : State) (r : JRec) : State :=
  s.onExt r.ext fun e => if pairHigher r.version r.publisher e.durVersion e.durPublisher
    then { e with durVersion := r.version, durPublisher := r.publisher } else e
/-- A committed record takes effect on its page (R361, R363, R530). -/
def State.pageCommitted (s : State) (m : Nat) (r : JRec) : State :=
  let k := pageKey r.ext r.page
  match s.page k, s.ext r.ext with
  | some p, some e =>
    let s := match p.loc with
      | some l => if some l = (if r.kind = 1 then some r.loc else none) then s else s.onFdie m fun d => { d with pages := Tab.del d.pages l }
      | none => s
    if r.act = .moved then s.onPage k fun p => { p with loc := some r.loc } else
    if r.kind = 3 then s.onPage k fun p => { p with loc := none, committedZero := false } else
    let s := s.onPage k fun p =>
      { p with loc := if r.kind = 1 then some r.loc else none
               committedZero := r.kind = 2
               commits := p.commits + 1
               destaging := false
               zeroPending := if r.kind = 2 then false else p.zeroPending
               prio := if p.rewritten && p.prio ≠ 1 then 0 else if p.rewritten then p.prio else 0
               rewritten := false
               st := if p.rewritten || p.st ≠ .dirty then p.st else .clean }
    let s := s.bump .flPtnDestages e.ptn
    match s.page k with
    | some p' => if p'.st = .clean && r.kind = 2 then (s.freeFrame k).onPage k fun p => { p with st := .zero } else s
    | none => s
  | _, _ => s

/-- Whether a host is recorded as a holder. -/
def DirEnt.holds (e : DirEnt) (i : Nat) : Bool := (e.st == .m && e.owner == i) || (e.st == .s && e.sharers.contains i)
/-- Whether the home records a holding of an index in an extent. -/
def State.holdsIdx (s : State) (h i : Nat) : Bool := s.dir.ents.any fun e => e.2.ext == h && e.2.holds i
/-- A list in force in place of the old one: it names admitted endpoints only, and removed entries whose index the home still
holds are kept beside it (R44, R55, R244). -/
def State.aclInForce (s : State) (h : Nat) (l : List AclEntry) : State :=
  s.onExt h fun e =>
    let l := l.filter fun a => (s.ptn e.ptn).admission.contains a.ep
    { e with acl := l, oldAcl := (e.acl ++ e.oldAcl).filter fun a => !(l.any fun b => b.ep == a.ep) && a.idx.any (s.holdsIdx h) }
/-- The new list of a command is in force (R55). -/
def State.putAcl (s : State) (h : Nat) (l : List AclEntry) : State :=
  (s.aclInForce h l).onExt h fun e => { e with nextAcl := [], aclStage := 0 }
/-- Apply the effect of a committed extent record (R504): the change applies from now, and the command completes. -/
def State.extCommitted (s : State) (r : JRec) : State :=
  let h := r.ext
  match r.act with
  | .none => s
  | .moved => s
  | .create => (s.onExt h fun e => { e with committed := true }).complete 0x0301 h 0 (le 4 h)
  | .policy p => (s.onExt h fun e => { e with policy := p, policyPending := false, pinning := false }).complete 0x0303 h 0 []
  | .acl l => (s.putAcl h l).complete 0x0304 h 0 []
  | .drain ms => (s.onExt h fun e => { e with drainMs := ms }).complete 0x0305 h 0 []
  | .init => ((s.onExt h fun e => { e with init := true }).complete 0x0308 h 0 []).complete 0x0307 h 0 []

/-- The committed records a replay needs: those from the last committed CHECKPOINT on (R368). -/
def sinceCheckpoint (l : List JRec) : List JRec :=
  (l.foldl (fun (a : List JRec) r => if r.kind = 5 then [r] else r :: a) []).reverse

/-- Whether a die's COMMIT is being programmed on each of its journal channels (R365, R372). -/
def State.commitRuns (s : State) (m : Nat) : Bool :=
  (s.fdie m).chans.all fun c => (s.fch (8 * m + c)).queue.any fun r => r.started && r.op == .journal
/-- A COMMIT has been programmed on both channels: every earlier record of the die is committed (R365). -/
def State.committed (s : State) (m : Nat) : State :=
  match (s.fdie m).commitOpen with
  | none => s
  | some q =>
    if !(s.commitRuns m) then s else
    let s := s.each (s.fdie m).chans fun s c => s.onFch (8 * m + c) fun x => { x with queue := x.queue.filter fun r => r.op != .journal }
    let again := (s.fdie m).commitAsked && (s.fdie m).pend.any fun r => decide (q ≤ r.seq)
    let done := (s.fdie m).pend.filter fun r => r.seq < q
    let s := s.onFdie m fun d =>
      let rest := d.pend.filter fun r => q ≤ r.seq
      { d with log := sinceCheckpoint (d.log ++ done), pend := rest, firstUncommitted := s.now
               commitOpen := none, commitAsked := false }
    let s := if again then s.openCommit m else s
    let s := (s.setReg .flDieJrnlSeqLo m (q % 2 ^ 32)).setReg .flDieJrnlSeqHi m (q / 2 ^ 32)
    let s := if done.any fun r => r.kind == 5 then s.onFdie m fun d => { d with maps := d.mapsNew } else s
    s.each done fun s r =>
      if r.kind = 6 then (s.pairDurable r).extCommitted r else if r.kind ≤ 3 then (s.pairDurable r).pageCommitted m r else s

/-- JOURNAL_COMMIT_TIMER: FL_DIE_JRNL_COMMIT_US after the first uncommitted record, a COMMIT is written (R365). -/
def execJournalCommitTimer (m : MDie) (s : State) : Host.Outcome State Fault Refusal :=
  let d := s.fdie m
  if !d.pend.isEmpty && d.commitOpen.isNone && s.past d.firstUncommitted (s.reg .flDieJrnlCommitUs m * usec) then
    .next (s.openCommit m)
  else .next s

/-- CHECKPOINT: every 10 s or 4,194,304 records a die programs its map and a CHECKPOINT record (R368). -/
def execCheckpoint (m : MDie) (s : State) : Host.Outcome State Fault Refusal :=
  let d := s.fdie m
  if d.mounted && (s.past d.ckAt (10 * oneSec) || decide (4194304 ≤ d.ckRecords)) then
    let s := s.journal m [{ seq := 0, kind := 5, ext := 0, page := 0, loc := (d.slot.map Prod.fst).getD 0, version := 0, publisher := 0 }] false
    .next (s.onFdie m fun d =>
      { d with ckAt := s.now, ckRecords := 0
               mapsNew := (((s.ptns.flatMap fun e => e.2.channels).filter fun c => dieOf c == m.val).foldl (fun t c => Tab.put t c (s.reg .mcChCfgMap c)) []) })
  else .next s

/-! ### Operations of the flash channels -/

/-- What an operation costs in units of R372. -/
def FlReq.cost (r : FlReq) : Nat :=
  match r.op with
  | .promote _ => 2 | .expert _ _ => 2 | .scrub _ => 2 | .destage .. => 5 | .erase _ => 5 | .journal => 0
/-- The first operation of a requester: promotions first, but for destages of priority 1 or 2 (R372). -/
def firstOp (q : List FlReq) (r : Nat) : Option FlReq :=
  let l := q.filter fun x => x.ptn == r && !x.started
  let urgent (x : FlReq) : Bool := match x.op with | .destage .. => x.prio == 1 || x.prio == 2 | _ => false
  let prom (x : FlReq) : Bool := match x.op with | .promote _ => true | .expert _ _ => true | _ => false
  (l.find? urgent).orElse fun _ => (l.find? prom).orElse fun _ => l.head?
/-- Deficit round robin from the last requester served: the requester chosen and the deficits (R372). -/
def drrPick (quantum : Nat → Nat) (cost : Nat → Nat) (elig : List Nat) : Nat → Nat → Tab Int → Option (Nat × Tab Int)
  | 0, _, _ => none
  | f + 1, r, d =>
    if elig.contains r && decide ((cost r : Int) ≤ Tab.getD d r 0) then some (r, Tab.put d r (Tab.getD d r 0 - cost r))
    else
      let r' := (r + 1) % 65
      let d := if elig.contains r then d else Tab.del d r
      drrPick quantum cost elig f r' (if elig.contains r' then Tab.put d r' (Tab.getD d r' 0 + quantum r') else d)

/-- The quantum of a requester (R367, R372): garbage collection below the urgent level takes the heaviest weight. -/
def State.flQuantum (s : State) (f r : Nat) (elig : List Nat) : Nat :=
  if r < 64 then s.reg .flPtnWeight r
  else
    let m := f / 8
    let d := s.fdie m
    if 100 * d.freeGroups < s.reg .flDieGcUrgent m * d.goodGroups then
      max (s.reg .flDieGcWeight m) ((elig.filter (· < 64)).foldl (fun b q => max b (s.reg .flPtnWeight q)) 0)
    else s.reg .flDieGcWeight m

/-- FLASH_OP_START: a channel chooses and starts its next operation: journal first, then a trump holder, then deficit
round robin (R372, R397). -/
def execFlashOpStart (f : FCh) (s : State) : Host.Outcome State Fault Refusal :=
  let x := s.fch f
  let start (s : State) (r : FlReq) : State := s.onFch f fun x =>
    { x with queue := x.queue.map fun y => if y == r && !y.started then { y with started := true } else y }
  if x.parked then .next (s.wakeRes (62 + f)) else
  match x.queue.find? fun r => !r.started && (match r.op with | .journal => true | _ => false) with
  | some r => .next (start s r)
  | none =>
    let elig := (List.range 65).filter fun r => (firstOp x.queue r).isSome
    let cost (r : Nat) : Nat := (firstOp x.queue r).elim 0 FlReq.cost
    let key := arbKey 1 f
    let a := s.arb key
    if a.frozen || a.fwHold then .next s else
    let lim := s.reg .arbTrumpLimit 0
    let w := Tab.keep a.waits fun r _ => elig.contains r
    let trumps := arbTrumps lim 65 w a.trumps
    let pick := match trumps.find? elig.contains with
      | some r => some (true, r, x.deficit)
      | none => (drrPick (fun r => s.flQuantum f r elig) cost elig 400 x.last x.deficit).map fun (p : Nat × Tab Int) => (false, p.1, p.2)
    match pick with
    | none => .next s
    | some (tr, r, d) =>
      let w' := arbRaise lim r elig w
      let s := s.onArb key fun a =>
        { a with waits := w', trumps := arbTrumps lim 65 w' (trumps.filter (· ≠ r)), lastWinner := r
                 grants := wrapAdd 32 a.grants 1, trumpCount := wrapAdd 32 a.trumpCount (b2n tr)
                 pointer := if tr then a.pointer else (r + 1) % 65
                 maxWait := max a.maxWait ((w'.map Prod.snd).foldl max 0) }
      let s := (s.onFch f fun x => { x with deficit := d, last := r }).lead (62 + f)
      .next ((firstOp x.queue r).elim s (start s))

/-- Add a block group to a list that holds each once. -/
def addOnce (l : List Nat) (g : Nat) : List Nat := if l.contains g then l else l ++ [g]

/-- A block of a channel is retired: its valid pages are to be moved, and its group takes a kitty block of the same LUN for it,
or is retired whole when that LUN's kitty is empty (R370, R371). -/
def State.retireBlock (s : State) (f loc : Nat) : State :=
  let m := f / 8
  let g := locGroup loc
  let k := Tab.getD (s.fdie m).kitties (g % 256) 0
  ((s.bump .flChRetired f).onFdie m fun d =>
    { d with annex := d.annex ++ [(f, g)]
             kitties := if k = 0 then d.kitties else Tab.put d.kitties (g % 256) (k - 1)
             gcQueue := addOnce d.gcQueue g
             dead := if k = 0 then addOnce d.dead g else d.dead
             filling := if k = 0 then d.filling.filter fun x => x.1 != g else d.filling }).noteKitty m

/-- FLASH_PROGRAM_FAIL: a program is repeated in another block group, or an erase fails; the block is retired (R370). -/
def execFlashProgramFail (f : FCh) (erase : Bool) (s : State) : Host.Outcome State Fault Refusal :=
  let isIt (r : FlReq) : Bool := match r.op with | .destage .. => !erase | .erase _ => erase | _ => false
  match s.takeOp f isIt with
  | none => .next s
  | some (r, s) =>
    let s := s.retireBlock f r.loc
    if erase then .next s else
    match s.flashSlot (f / 8) with
    | none =>
      let s := match r.op with
        | .destage k _ _ _ => s.onPage k fun p => { p with destaging := false, rewritten := false }
        | _ => s
      .next (s.onFdie (f / 8) fun d => { d with noSpace := true })
    | some (loc, s) => .next (s.flashOp (locChan (f / 8) loc) { r with loc := loc, started := false })

/-- FLASH_READ_RETRY: a codeword is read again, up to 7 times with shifted thresholds and then 3 times for soft decoding; one
still uncorrectable marks its lines and retires its block (R369, R370). -/
def execFlashReadRetry (f : FCh) (cw : Fin 16) (tries : Fin 11) (ok : Bool) (s : State) : Host.Outcome State Fault Refusal :=
  let isRd (r : FlReq) : Bool := r.started && (match r.op with | .promote _ => true | .expert _ _ => true | .scrub _ => true | _ => false)
  match (s.fch f).queue.find? isRd with
  | none => .next s
  | some r =>
    let s := s.bumpN .flChRetryReads f (if ok then tries.val else 10)
    if ok then
      if 4 ≤ tries.val then
        .next (s.onFdie (f / 8) fun d => { d with gcQueue := addOnce d.gcQueue (locGroup r.loc) })
      else .next s
    else
      let s := (s.bump .flChUncorr f).retireBlock f r.loc
      .next (s.onFch f fun x => { x with queue := x.queue.map fun y => if y == r then { y with bad := cw.val :: y.bad } else y })

/-- The valid pages of a block group of a die. -/
def FlashDie.inGroup (d : FlashDie) (g : Nat) : Tab FlashPage := d.pages.filter fun e => locGroup e.1 == g
/-- Whether a block group takes part in a destage whose record is not yet committed: no other record may name its pages
(R366). -/
def State.groupFills (s : State) (m g : Nat) : Bool :=
  let d := s.fdie m
  d.filling.any (·.1 == g) || (d.pend.any fun r => r.kind == 1 && locGroup r.loc == g)
    || (s.fch (locChan m g)).queue.any fun r => locGroup r.loc == g && (match r.op with | .destage .. => true | _ => false)
/-- Whether something needs a block group: a committed copy, a destage, or an operation other than its erase (R366). -/
def State.groupHeld (s : State) (m g : Nat) : Bool :=
  s.groupFills m g || (s.mem.pages.any fun e => dieOf e.2.home == m && (e.2.loc.elim false fun l => locGroup l == g))
    || (s.fch (locChan m g)).queue.any fun r => r.op != .journal && r.op != .erase g && locGroup r.loc == g
/-- The block groups of a die that garbage collection may take: they are filled, in service, and wait for no erase. -/
def State.gcGroups (s : State) (m : Nat) : List Nat :=
  let d := s.fdie m
  d.used.filter fun g =>
    !(s.groupFills m g) && !(d.dead.contains g) && !((s.fch (locChan m g)).queue.any fun r => r.op == .erase g)
/-- Move one valid page of a group by read and program; its MAP record names the new place (R367). -/
def State.gcMove (s : State) (m : Nat) (e : Nat × FlashPage) : State :=
  let k := pageKey e.2.ext e.2.page
  if !((s.page k).elim false fun p => p.loc == some e.1) then s else
  match s.flashSlot m with
  | none => s
  | some (loc, s) =>
    let s := s.onFdie m fun d => { d with pages := Tab.put d.pages loc e.2 }
    let s := (s.bump .flChReads (locChan m e.1)).bump .flChPrograms (locChan m loc)
    s.journal m [{ s.pageRec 1 k loc with act := .moved }] false
/-- GARBAGE_COLLECTION: a group queued for it, or below FL_DIE_GC_START the group with the fewest valid pages, is moved, and
erased once the records of the moves commit; a group far less worn than another is moved too (R367, R369, R370). -/
def execGarbageCollection (m : MDie) (s : State) : Host.Outcome State Fault Refusal :=
  let d := s.fdie m
  let low := decide (100 * d.freeGroups < s.reg .flDieGcStart m * d.goodGroups)
  let groups := s.gcGroups m
  let worn (g : Nat) : Nat := Tab.getD d.erased g 0
  let uneven := groups.any fun g => (d.erased.any fun e => decide (worn g + 500 < e.2))
  let best (better : Nat → Nat → Bool) : Option Nat :=
    groups.foldl (fun (b : Option Nat) g => match b with | none => some g | some x => if better g x then some g else b) none
  let victim := (d.gcQueue.find? fun g => !(s.groupFills m g)).orElse fun _ =>
    if low then best fun g x => (d.inGroup g).length < (d.inGroup x).length else if uneven then best fun g x => worn g < worn x else none
  match victim with
  | none => .next (s.onFdie m fun d => { d with gcActive := low })
  | some g =>
    let s := s.onFdie m fun d => { d with gcActive := true, gcQueue := d.gcQueue.erase g }
    let s := s.each (d.inGroup g) fun s e => s.gcMove m e
    .next (if d.dead.contains g then s else s.flashOp (locChan m g) { op := .erase g, ptn := 64, prio := 0, since := s.now, loc := g })

/-- FLASH_ERASE_DONE: a block-group erase ends and the group is free again, or its blocks are the kitty's; no committed MAP
record points into it (R366, R367, R371). -/
def execFlashEraseDone (f : FCh) (s : State) : Host.Outcome State Fault Refusal :=
  let m := f / 8
  let isIt (r : FlReq) : Bool := match r.op with | .erase g => !(s.groupHeld m g) | _ => false
  match s.takeOp f isIt with
  | none => .next s
  | some (r, s) =>
    let s := s.bump .flChErases f
    .next (s.onFdie m fun d => { d with used := d.used.erase r.loc, noSpace := false
                                        kitties := if d.own r.loc then d.kitties
                                          else Tab.put d.kitties (r.loc % 256) (Tab.getD d.kitties (r.loc % 256) 0 + 4)
                                        pages := d.pages.filter fun e => locGroup e.1 != r.loc
                                        erased := Tab.put d.erased r.loc (Tab.getD d.erased r.loc 0 + 1) })

end Sys2Proof.Machine
end

