-- ==== Sys2Proof/Machine/Net.lean ====
section
/-! DEFINITION. Routing of packets and sending of the device's own (spec/09_routing_and_transit.md R287 to R299;
spec/03_transfers.md R87, R101, R102, R111; spec/10_scheduling_and_policing.md R315, R316). -/
namespace Sys2Proof.Machine

/-- The copy of the tables in force, and the shadow (R287). -/
def Routing.active (r : Routing) : RtCopy := if r.activeCopy then r.copy1 else r.copy0
def Routing.shadow (r : Routing) : RtCopy := if r.activeCopy then r.copy0 else r.copy1
/-- Whether a table's lookups are frozen (R299). -/
def State.tableFrozen (s : State) (t : Nat) : Bool :=
  bit (s.reg .rtFreeze 0) t || (s.rt.swap.elim false fun w => w.stage == 2 && w.affected.contains t)

/-- Flits queued to a port on a VC (R294). -/
def Egress.queued (e : Egress) (vc : Nat) : Nat :=
  (e.queues.map fun x => ((x.2.filter fun o => o.vc == vc).map OutPkt.flits).sum).sum
/-- Free credit of a port for a VC less what is queued to it (R294). -/
def State.portCredit (s : State) (n vc : Nat) : Int :=
  (s.reg .glBufVc (5 * n + vc) : Int)
    - (((s.reg .glConsumedVc (5 * n + vc) + 2 ^ 32 - s.reg .glPeerFreedVc (5 * n + vc)) % 2 ^ 32 : Nat) : Int)
    - ((s.eg n).queued vc : Int)

/-- Whether a port carries packets now (R293). -/
def State.portUp (s : State) (n : Nat) : Bool := (s.link n).st == .active || (s.link n).st == .swap
/-- The available candidates of an entry: ports that are up, else sleeping ones (R293). -/
def State.available (s : State) (cand : Nat) : List Nat :=
  let c := (List.range 18).filter (bit cand)
  let up := c.filter s.portUp
  if up.isEmpty then c.filter fun n => (s.link n).st == .lpIdle else up
/-- The candidate with the largest free credit; among equals the first after the previous choice of the table (R294). -/
def State.choosePort (s : State) (table vc cand : Nat) : Option Nat :=
  let av := s.available cand
  let prev := Tab.getD s.rt.lastPick table 17
  let ordered := ((List.range 18).map fun i => (prev + 1 + i) % 18).filter av.contains
  ordered.foldl (fun (b : Option Nat) n =>
    match b with
    | none => some n
    | some m => if s.portCredit m vc < s.portCredit n vc then some n else b) none

/-- The egress queue of a packet: VC2 and VC4 have their own, transit and mirror packets their subscriber, the others
that of their partition and destination group (R278, R296, R315, R316). -/
def State.egressKey (s : State) (n vc : Nat) (transit : Bool) (p : Packet) : Nat :=
  if vc = 2 || vc = 4 then 2048 + vc
  else if transit then 4 * s.reg .rtTransitSub 0 + p.svc
  else if vc = 3 then 4 * s.reg .schMirrorSub n + p.svc
  else 4 * s.reg .schSubmap (n * 512 + 8 * p.q + Tab.getD s.groupMap p.dst.toNat 0) + p.svc

/-- Packets a table has routed that have not left (R299). -/
def State.outAdd (s : State) (t : Nat) : State := s.setReg .rtOutstanding t (s.reg .rtOutstanding t + 1)
def State.outSub (s : State) (t : Nat) : State := s.setReg .rtOutstanding t (s.reg .rtOutstanding t - 1)

/-- Give back the receive-buffer flits of a port's VC (R276). -/
def State.freeCredit (s : State) (n vc flits : Nat) : State :=
  (s.onLink n fun l => { l with rxUsed := Tab.set 0 l.rxUsed vc (Tab.getD l.rxUsed vc 0 - flits) }).setReg .glFreedVc (5 * n + vc) (wrapAdd 32 (s.reg .glFreedVc (5 * n + vc)) flits)

/-- Queue a packet to a port; choosing a sleeping port wakes it (R26, R293). -/
def State.enqueue (s : State) (n table vc : Nat) (ingress : Option Nat) (transit : Bool) (p : Packet) : State :=
  let o : OutPkt := { pkt := p, vc := vc, flits := p.flits, table := table, ingress := ingress, since := s.now,
                      ptn := if transit then none else some p.q }
  let k := s.egressKey n vc transit p
  let s := s.onEg n fun e => { e with queues := Tab.put e.queues k (Tab.getD e.queues k [] ++ [o]) }
  let s := s.onRt fun r => { r with lastPick := Tab.put r.lastPick table n }
  let s := (s.outAdd table).lead (44 + n)
  let s := if vc = 1 && !transit then s.count (6 + n / 9) p.q 4 p.payloadLen.toNat else s
  if (s.link n).st = .lpIdle then s.wakeRes (44 + n) else s

/-- The X die that took a request answers it (spec/01_architecture.md on R26); ports above 17 stand for none. -/
def Via.of (port : Nat) : Via := if port < 18 then .die (port / 9) else .any
/-- The candidates of a table entry that a packet may take. -/
def Via.among (v : Via) (cand : Nat) : Nat :=
  match v with
  | .any => cand
  | .die x =>
    let here := cand &&& ((2 ^ 9 - 1) * 2 ^ (9 * x))
    if here = 0 then cand else here
  | .port n => if cand = 0 then 0 else 2 ^ n

/-- Route a packet through a table: discard it without a route, hold it while nothing can take it (R291 to R295,
R299). -/
def State.route (s : State) (table vc : Nat) (transit : Bool) (via : Via) (p : Packet) : State :=
  let ingress := if transit then some table else none
  let cand := via.among (Tab.getD s.rt.active.cand (table * 65536 + p.dst.toNat) 0)
  let x := if table < 18 then table / 9 else 0
  let hold (s : State) : State :=
    s.onRt fun r => { r with held := r.held ++ [{ table := table, vc := vc, x := x, via := via, pkt := p, transit := transit, since := s.now }] }
  if (transit && s.reg .rtCtrlRouteEn 0 == 0) || s.tableFrozen table then hold s
  else if cand = 0 then
    let s := s.bump .rtDropNoroute 0
    match ingress with
    | some n => s.freeCredit n vc p.flits
    | none => s
  else
    match s.choosePort table vc cand with
    | none => hold s
    | some n => s.enqueue n table vc ingress transit p

/-- Give a packet of the device's own the next sequence number of its (SRC, DST) pair and its check value (R89, R102). -/
def State.stamp (s : State) (p : Packet) : Packet × State :=
  let key := p.dst.toNat + 65536 * (if p.src.toNat = s.ownId then 0 else 1)
  let sq := Tab.getD s.fab.seqs key 0#32
  let p := { p with seq := sq }
  ({ p with e2eCrc := p.crcOf }, s.onFab fun f => { f with seqs := Tab.put f.seqs key (sq + 1#32) })
/-- Send a packet of the device's own by the origin table (R111, R287); `port` took the request it answers. -/
def State.emit (s : State) (port : Nat) (p : Packet) : State :=
  let r := s.stamp p
  r.2.route 18 (vcOf p.opcode.toNat p.rsp) false (Via.of port) r.1

/-- Send a one-packet response. -/
def State.respond (s : State) (port : Nat) (p : Packet) (status : Nat) : State := s.emit port (p.resp status)
/-- Send a response with a retry hint in microseconds (R88). -/
def State.retryAfter (s : State) (port : Nat) (p : Packet) (hint : Nat) : State :=
  s.emit port { p.resp 1 with hintUs := BitVec.ofNat 32 (clamp 1 1000000 hint) }

/-- Whether a response must wait for the partner's acknowledgement (R486): the member is ACTIVE, hears its partner, and
the last frame sent is not acknowledged. -/
def State.mirrorOpen (s : State) : Bool :=
  s.prt.st == .active && !s.prt.silent && (s.prt.peerSt == 3 || s.prt.peerSt == 4) && decide (s.prt.acked < s.prt.mseq)
/-- Send a response, or hold it until the frames its request caused are acknowledged (R486). -/
def State.emitHeld (s : State) (mirrored : Bool) (port : Nat) (p : Packet) : State :=
  if mirrored && s.mirrorOpen then s.onPrt fun x => { x with held := x.held ++ [{ mseq := x.mseq, port := port, pkt := p }] }
  else s.emit port p

/-- Route again every held packet that can go on, oldest first (R292, R295, R299). -/
def State.rerouteAll (s : State) (f : Held → Bool) : State :=
  let hs := s.rt.held.filter f
  let s := s.onRt fun r => { r with held := r.held.filter fun h => !f h }
  s.each hs fun s h => s.route h.table h.vc h.transit h.via h.pkt

/-- TRANSIT_FORWARD and WAITING_PACKET_ROUTE: a packet held by a table's VC is routed once a candidate is available
(R295). -/
def execWaitingPacketRoute (tb : Fin 19) (vc : Fin 5) (s : State) : Host.Outcome State Fault Refusal :=
  .next (s.rerouteAll fun h => h.table == tb.val && h.vc == vc.val)

/-! ### Mirror frames -/

/-- Feed a whole frame through a check-value unit, as its user does for each frame (R429 to R431). -/
def State.chkFrame (s : State) (i : Nat) (l : List Byte) : State :=
  s.onChk i fun c => { c with value := BitVec.ofNat 32 (crcRun 0xFFFFFFFF l), bytes := wrapAdd 32 c.bytes l.length }

/-- A mirror frame (R487). -/
def mirrorFrame (type mseq ext arg : Nat) (body : List Byte) : List Byte :=
  let h := le 1 type ++ zeros 1 ++ le 2 mseq ++ le 4 mseq ++ le 4 ext ++ le 4 body.length ++ le 8 arg
  h ++ le 4 (crc32c (h ++ body)).toNat ++ zeros 4 ++ body

/-- The packet of a mirror frame: a request under a tag of its own, or the response to one, an ACK (R101, R487). -/
def framePacket (g : Pairing) (own : Nat) (req : Option Packet) (frame : List Byte) : Packet :=
  let p : Packet := { opcode := 0x50#8, flags := 2#8, sclass := 2#8, dst := BitVec.ofNat 16 g.peer, src := BitVec.ofNat 16 own
                      tag := BitVec.ofNat 32 (field frame 4 4 % 2 ^ 20) }
  { req.elim p fun q => q.resp 0 with
      payloadLen := BitVec.ofNat 16 frame.length
      payload := padTo (roundUp frame.length 64) frame }
/-- Send a mirror frame to the partner on the port R488 gives, by the origin table (R287, R291, R299). A sequenced frame is
an open request until its ACK comes (R101); a frame whose port is down is not sent. -/
def State.sendFrame (s : State) (g : Pairing) (port : Nat) (req : Option Packet) (frame : List Byte) : State :=
  let s := s.chkFrame 2 (frame.take 24 ++ frame.drop 32)
  if !(s.portUp port) && (s.link port).st != .lpIdle then s else
  let r := s.stamp (framePacket g s.ownId req frame)
  let m := field frame 4 4
  let s := if m = 0 then r.2 else r.2.onPrt fun x => { x with openTags := Tab.put x.openTags (m % 2 ^ 20) r.1.seq.toNat }
  s.route 18 3 false (.port port) r.1
def State.framePort (s : State) (g : Pairing) : Nat := if (s.link g.portA).st = .active then g.portA else g.portB

/-- Send a sequenced frame and keep it until it is acknowledged (R487, R488). -/
def State.sendSeq (s : State) (type ext arg : Nat) (body : List Byte) : State :=
  match s.sec.pset.pairing with
  | none => s
  | some g =>
    let n := s.prt.mseq + 1
    let f := mirrorFrame type n ext arg body
    (s.onPrt fun p => { p with mseq := n, sent := p.sent ++ [{ mseq := n, frame := f, sentAt := s.now }] }).sendFrame g (s.framePort g) none f
/-- Whether the active member mirrors now (R486, R491). -/
def State.mirroring (s : State) : Bool := s.prt.st == .active && !s.prt.silent && (s.prt.peerSt == 3 || s.prt.peerSt == 4)
/-- Send a mirror frame, while the active member mirrors (R486). -/
def State.mirror (s : State) (type ext arg : Nat) (body : List Byte) : State :=
  if s.mirroring then s.sendSeq type ext arg body else s

/-- The alias this device serves now, if any (R484). -/
def State.aliasServed (s : State) : Option Nat :=
  match s.sec.pset.pairing, s.prt.st with
  | some g, .active => some g.sharedId
  | _, _ => none
/-- Alias requests are answered with a retry hint of 60 µs in these states (R484). -/
def State.aliasRetry (s : State) : Bool :=
  s.prt.st == .waiting || s.prt.st == .takingOver || s.prt.yielding || (s.prt.st == .yielded && s.prt.peerSt != 2)

end Sys2Proof.Machine
end

