-- ==== Sys2Proof/Machine/Dir.lean ====
section
/-! DEFINITION. The home directory of tracked lines: entries, transactions, recalls, line queues, the home timeout and
dead hosts (spec/07_tracked_regions.md R243 to R264). A line is BLOCKED while a transaction stands on it. -/
namespace Sys2Proof.Machine

/-! ### Answers -/

/-- An accepted transfer or invocation of an extent ends (R71, R72). -/
def State.ended (s : State) (h : Nat) (cut : Bool) : State :=
  s.onExt h fun e => { e with inflight := e.inflight - 1
                              completed := e.completed + b2n (e.st == .revoking && !cut)
                              cut := e.cut + b2n (e.st == .revoking && cut) }
/-- An accepted transfer or invocation ends without completing normally, or a counted recall ends: only the count of
R71 falls (R72). -/
def State.gone (s : State) (h : Nat) : State := s.onExt h fun e => { e with inflight := e.inflight - 1 }
/-- A transfer or invocation ends with a status: one cut off by the drain limit, or one that another event ends. -/
def State.endedBy (s : State) (h status : Nat) : State := if status = 3 then s.ended h true else s.gone h
/-- A transfer or invocation is accepted (R71). -/
def State.accepted (s : State) (h : Nat) : State := s.onExt h fun e => { e with inflight := e.inflight + 1 }
/-- Answer an accepted request and end it; an answer whose request sent mirror frames waits for them (R486). A store of
an invocation into a tracked window has no answer of its own (R185). -/
def State.answer (s : State) (r : WaitReq) (framed : Bool) (p : Packet) : State :=
  if !r.reply then s else
  (s.emitHeld (framed && (s.ext r.pkt.ext).elim false (·.mirrored)) r.port p).ended r.pkt.ext false

/-- Send a WRITE frame for each performed write packet to a mirrored extent (R486). -/
def State.mirrorWrite (s : State) (h off : Nat) (data : List Byte) : State :=
  if (s.ext h).elim false (·.mirrored) then
    s.each (chunks 3968 data).zipIdx fun s c => s.mirror 3 h (off + 3968 * c.2) c.1
  else s

/-- Open a write of a host to an extent: `lines` lines that have not been performed (R57). -/
def State.newWrite (s : State) (host h : Nat) (ok : Bool) (lines : Nat) : Nat × State :=
  let k := s.fab.nextWrite
  (k, s.onFab fun f => { f with writes := Tab.put f.writes k { host := host, ext := h, okSent := ok, lines := lines }, nextWrite := k + 1 })

/-- The requester tag of a port's or a cluster's accesses (R331): clusters stand at 64 and above. -/
def portTag (n : Nat) : Nat := if n < 64 then 32 + n else n - 64
/-- Write a home line for the open write `w` (R331). `false`: its page must be promoted first. -/
def State.homeWrite (s : State) (w h line port mark : Nat) (data : List Byte) : State × Bool :=
  if mark = 1 && (s.pageOr h (line / 512)).st == .unwritten then (s.performed (some w), true) else
  match s.pageForWrite h (line / 512) with
  | .wait s => (s, false)
  | .ready s =>
    let s := s.writeExt h line (portTag port) mark data (some w)
    (if mark = 0 then s.mirrorWrite h (128 * line) data else s, true)
/-- Whether a write of a home line waits for its page: later requests on the line are served after it (R255, R258). -/
def State.homeWaits (s : State) (h line : Nat) : Bool :=
  s.fab.waits.any fun r => r.pkt.ext == h && r.pkt.off / 128 == line && (match r.kind with | .homeLine _ => true | _ => false)
/-- Write a home line for a request, for its open write or one of its own. `false`: its page must be promoted first. -/
def State.homeStore (s : State) (r : WaitReq) (h line : Nat) (data : List Byte) : State × Bool :=
  match r.ids with
  | w :: _ => s.homeWrite w h line r.port 0 data
  | [] =>
    let w := s.newWrite r.pkt.src.toNat h true 1
    match w.2.homeWrite w.1 h line r.port 0 data with
    | (s, true) => (s, true)
    | (s, false) => (s.performed (some w.1), false)
/-- Write a home line for the open write `w` now, or leave it waiting for its page; `p` is answered with ST_OK when
`reply`. -/
def State.homePutFor (s : State) (w port mark : Nat) (p : Packet) (reply : Bool) : State :=
  let r : WaitReq := { kind := .homeLine mark, pkt := p, port := port, since := s.now, ids := [w], reply := reply }
  if s.homeWaits p.ext (p.off / 128) then s.onFab fun f => { f with waits := f.waits ++ [r] } else
  match s.homeWrite w p.ext (p.off / 128) port mark p.payload with
  | (s, true) => if reply then s.answer r true (p.resp 0) else s
  | (s, false) => s.onFab fun f => { f with waits := f.waits ++ [r] }
/-- Write a home line for a host, as a write of its own. -/
def State.homePut (s : State) (port mark : Nat) (p : Packet) (reply : Bool) : State :=
  let w := s.newWrite p.src.toNat p.ext true 1
  w.2.homePutFor w.1 port mark p reply
/-- The open write a waiting request belongs to: that of a PUT's packet, of a ZERO, of a line (R57, R59). -/
def WaitReq.write (r : WaitReq) : Option Nat :=
  match r.kind with
  | .serve => if r.pkt.opcode = 0x04#8 then some r.status else if [0x02#8, 0x03#8, 0x23#8].contains r.pkt.opcode then r.ids.head? else none
  | .homeLine _ => r.ids.head?
  | _ => none
/-- Open writes end: what waits to be performed for them is discarded, and no FLUSH waits for them (R42, R72, R109, R114). -/
def State.cutWrites (s : State) (f : OpenWrite → Bool) : State :=
  let gone (r : WaitReq) : Bool := (r.write.bind fun w => Tab.get? s.fab.writes w).elim false f
  let s := s.onDir fun d =>
    { d with queue := d.queue.filter fun w => !(gone w.req)
             txns := d.txns.map fun t => if t.req.elim false gone then { t with req := none } else t }
  s.onFab fun x => { x with waits := x.waits.filter fun r => !(gone r), writes := x.writes.filter fun e => !(f e.2) }
/-- Write the poison code into a home line (R258). -/
def State.poisonHome (s : State) (h line : Nat) : State :=
  s.homePut 20 1 { extent := BitVec.ofNat 32 h, offset := BitVec.ofNat 64 (128 * line), length := 128#64, payload := zeros 128 } false

/-! ### Entries -/

/-- The set of a line among the 524,288 sets: set block × 8,192 + set within block (R243). -/
def State.dirSet (s : State) (h line : Nat) : Option Nat :=
  match s.ext h with
  | none => none
  | some e =>
    let die := dieOf (s.pageOr h (line / 512)).home
    let bl := (s.ptn e.ptn).blocks.filter fun b => b / 16 == die
    (bl[(line / 8192 + h) % max 1 bl.length]?).map fun b =>
      b * 8192 + ((line % 8192) ^^^ (line / 8192 % 8192) ^^^ (h % 8192))
/-- The entry of a line and its place. -/
def State.dirEnt (s : State) (h line : Nat) : Option (Nat × DirEnt) := s.dir.ents.find? fun e => e.2.ext == h && e.2.line == line
/-- The transaction on a line. -/
def State.txn (s : State) (h line : Nat) : Option Txn := s.dir.txns.find? fun t => t.ext == h && t.line == line
/-- BLOCKED (R247). -/
def State.blocked (s : State) (h line : Nat) : Bool := (s.txn h line).isSome
def State.onTxn (s : State) (h line : Nat) (f : Txn → Txn) : State :=
  s.onDir fun d => { d with txns := d.txns.map fun t => if t.ext == h && t.line == line then f t else t }

/-- AWAIT of a line (R244): 0 none, 1 recall answers, 2 RETURN from the owner. -/
def State.awaiting (s : State) (h line : Nat) : Nat :=
  if (s.txn h line).elim false (·.await2) then 2
  else if s.dir.recalls.any fun r => r.ext == h && r.line == line && !r.answered then 1 else 0

/-- A DIR frame for a line of a mirrored extent (R486). -/
def State.dirFrame (s : State) (h line : Nat) : State :=
  if (s.ext h).elim false (·.mirrored) then
    let b := b2n (s.blocked h line)
    let body := match s.dirEnt h line with
      | some (_, e) => le 8 line ++ le 1 (1 + 2 * b2n (e.st == .m) + 4 * b + 8 * s.awaiting h line) ++ le 1 e.owner ++ zeros 6
          ++ le 8 ((e.sharers.map (2 ^ ·)).sum) ++ zeros 8
      | none => le 8 line ++ le 1 (4 * b) ++ zeros 23
    s.mirror 6 h (128 * line) body
  else s

/-- Store an entry, as the youngest of its set. -/
def State.putEnt (s : State) (k : Nat) (e : DirEnt) : State :=
  (s.onDir fun d => { d with ents := Tab.put d.ents k { e with lru := d.clock }, clock := d.clock + 1 }).dirFrame e.ext e.line
/-- Free an entry. -/
def State.freeEnt (s : State) (h line : Nat) : State :=
  match s.dirEnt h line with
  | some (k, _) => (s.onDir fun d => { d with ents := Tab.del d.ents k }).dirFrame h line
  | none => s
/-- An entry without a holder it recorded; an exclusive line then has no holder. -/
def DirEnt.drop (e : DirEnt) (i : Nat) : DirEnt :=
  if e.st = .m then (if e.owner = i then { e with st := .s, sharers := [] } else e)
  else { e with sharers := e.sharers.filter (· ≠ i) }
/-- Insert an index in rising order. -/
def insertIdx (i : Nat) (l : List Nat) : List Nat := l.filter (· < i) ++ i :: l.filter (i < ·)
/-- The access-list index of an endpoint, in force or still held by the home (R244). -/
def ExtRec.indexOf (e : ExtRec) (ep : Nat) : Option Nat :=
  ((e.acl ++ e.oldAcl).find? fun a => a.ep == ep && a.idx.isSome).bind (·.idx)
/-- The endpoint of an index. -/
def ExtRec.epOf (e : ExtRec) (i : Nat) : Option Nat := ((e.acl ++ e.oldAcl).find? fun a => a.idx == some i).map (·.ep)

/-! ### Recalls -/

/-- Set blocks of a partition on a slice (R242). -/
def State.blocksOn (s : State) (q sl : Nat) : Nat := ((s.ptn q).blocks.filter fun b => b / 4 == sl).length
/-- The slice of a line. -/
def State.sliceOf (s : State) (h line : Nat) : Nat := (s.dirSet h line).getD 0 / 32768
/-- Recall records of a partition in use on a slice (R249). -/
def State.recallsOn (s : State) (q sl : Nat) : Nat :=
  (s.dir.recalls.filter fun r => s.sliceOf r.ext r.line == sl && (s.ext r.ext).elim false fun e => e.ptn == q).length
/-- Wait entries of a partition in use on a slice (R248). -/
def State.waitsOn (s : State) (q sl : Nat) : Nat :=
  (s.dir.queue.filter fun w => s.sliceOf w.ext w.line == sl && (s.ext w.ext).elim false fun e => e.ptn == q).length

/-- A tag no open recall of an endpoint uses (R101). -/
def State.freshTag (s : State) (ep : Nat) : Nat :=
  let used (t : Nat) : Bool := s.dir.recalls.any fun r => r.ep == ep && r.tag == t
  ((List.range (s.dir.recalls.length + 1)).map fun i => (s.fab.nextTag + i) % 2 ^ 20).find? (fun t => !used t) |>.getD 0

/-- Send one RECALL (R246, R249). -/
def State.sendRecall (s : State) (t : Txn) (q i ep : Nat) : State :=
  let tag := s.freshTag ep
  let p : Packet := { opcode := 0x25#8, flags := 2#8, ptn := BitVec.ofNat 8 q, dst := BitVec.ofNat 16 ep, src := BitVec.ofNat 16 s.ownId,
                      tag := BitVec.ofNat 32 tag, extent := BitVec.ofNat 32 t.ext, offset := BitVec.ofNat 64 (128 * t.line),
                      length := 128#64, subop := BitVec.ofNat 8 t.kind }
  let r := s.stamp p
  let s := r.2.onDir fun d => { d with recalls := d.recalls ++ [{ ext := t.ext, line := t.line, idx := i, ep := ep, kind := t.kind
                                                                  tag := tag, seq := r.1.seq.toNat, sentAt := s.now
                                                                  forRevoke := t.act == .revoke }] }
  let s := s.onFab fun f => { f with nextTag := (tag + 1) % 2 ^ 20 }
  let s := if t.act = .revoke then s.accepted t.ext else s
  (s.bump .dirPtnRecalls q).route 18 2 false .any r.1

/-- A line is poisoned and its entry, records and transaction end: the request that opened it is served first, against
the poisoned line (R258, R260). -/
def State.poisonEnds (s : State) (h line : Nat) : State :=
  let s := (s.poisonHome h line).freeEnt h line
  let rev := (s.dir.recalls.filter fun r => r.ext == h && r.line == line && r.forRevoke && !r.answered).length
  let s := s.each (List.range rev) fun s _ => s.gone h
  let s := s.onDir fun d => { d with recalls := d.recalls.filter fun r => !(r.ext == h && r.line == line) }
  match s.txn h line with
  | none => s
  | some t =>
    s.onDir fun d =>
      let txns := d.txns.filter fun x => !(x.ext == h && x.line == line)
      let txns := match t.act with
        | .victim h' l' => txns.map fun x => if x.ext == h' && x.line == l' then { x with victim := false } else x
        | _ => txns
      { d with txns := txns, queue := (t.req.toList.map fun r => { ext := h, line := line, req := r }) ++ d.queue }

/-- Send the recalls a transaction still needs while records are free; a dead host counts as having answered (R249,
R260). -/
def State.sendNeeded (s : State) (h line : Nat) : State :=
  match s.txn h line, s.ext h with
  | some t, some e =>
    s.each t.need fun s i =>
      match s.txn h line, s.dirEnt h line, e.epOf i with
      | some t, some (k, d), some ep =>
        if s.dir.dead.contains ep then
          if d.st = .m then (s.bump .dirPtnDeadPoison e.ptn).poisonEnds h line
          else (s.putEnt k (d.drop i)).onTxn h line fun t => { t with need := t.need.filter (· ≠ i) }
        else
          let sl := s.sliceOf h line
          if s.recallsOn e.ptn sl < 2048 * s.blocksOn e.ptn sl then
            (s.onTxn h line fun t => { t with need := t.need.filter (· ≠ i) }).sendRecall t e.ptn i ep
          else s
      | _, _, _ => s
  | _, _ => s

/-- Open a transaction and send its recalls (R247). -/
def State.openTxn (s : State) (t : Txn) : State :=
  ((s.onDir fun d => { d with txns := d.txns ++ [t] }).dirFrame t.ext t.line).sendNeeded t.ext t.line

/-! ### Serving a request on a line -/

/-- A free way of a set, else its victim: the oldest way whose line is not BLOCKED (R257). -/
def State.freeWay (s : State) (set : Nat) : Option Nat :=
  ((List.range 16).map (set * 16 + ·)).find? fun k => !(Tab.has s.dir.ents k)
def State.victimWay (s : State) (set : Nat) : Option (Nat × DirEnt) :=
  (s.dir.ents.filter fun e => e.1 / 16 == set && !(s.blocked e.2.ext e.2.line)).foldl (fun (b : Option (Nat × DirEnt)) e =>
    match b with
    | none => some e
    | some x => if e.2.lru < x.2.lru then some e else b) none

/-- The holders an entry records, as indices. -/
def DirEnt.holders (e : DirEnt) : List Nat := if e.st = .m then [e.owner] else e.sharers

/-- Start to serve a CHECKOUT, WRITE_INV or ATOMIC on a line that is not BLOCKED (R255, R257). -/
def State.startLine (s : State) (r : WaitReq) : State :=
  let h := r.pkt.ext
  let line := r.pkt.off / 128
  let op := r.pkt.opcode.toNat
  match s.ext h with
  | none => s
  | some e =>
    let i := (e.indexOf r.pkt.src.toNat).getD 0
    let act : TxnAct := if op = 0x20 then .grantS else if op = 0x21 then .grantX else if op = 0x23 then .write else .atomic
    let t : Txn := { ext := h, line := line, act := act, req := some r, since := s.now }
    match s.dirEnt h line with
    | some (k, d) =>
      let s := s.putEnt k d
      if d.st = .m && d.owner = i && (op = 0x20 || op = 0x21) then s.openTxn { t with await2 := true }
      else if op = 0x20 then s.openTxn { t with kind := 2, need := if d.st = .m then [d.owner] else [] }
      else if op = 0x21 then s.openTxn { t with need := d.holders.filter (· ≠ i) }
      else s.openTxn { t with need := d.holders }
    | none =>
      if op = 0x23 || op = 0x24 then s.openTxn t else
      match s.dirSet h line with
      | none => s.answer r false { r.pkt.resp 1 with hintUs := BitVec.ofNat 32 (s.reg .dirPtnRetryHint e.ptn) }
      | some set =>
        match s.freeWay set, s.victimWay set with
        | some k, _ => (s.putEnt k { ext := h, line := line }).openTxn t
        | none, some (_, v) =>
          (s.openTxn { t with victim := true }).openTxn
            { ext := v.ext, line := v.line, act := .victim h line, req := none, need := v.holders, since := s.now }
        | none, none =>
          (s.bump .dirPtnSetFull e.ptn).answer r false
            { r.pkt.resp 1 with hintUs := BitVec.ofNat 32 (s.reg .dirPtnRetryHint e.ptn) }

/-- The result of an ATOMIC on a line: the old value and the line after it (R96). -/
def atomicOp (p : Packet) (d : List Byte) : Nat × List Byte :=
  let n := p.len
  let off := p.off % 128
  let old := field d off n
  let a := p.arg0.toNat % 2 ^ (8 * n)
  let b := p.arg1.toNat % 2 ^ (8 * n)
  let new := match p.subop.toNat with
    | 1 => (old + a) % 2 ^ (8 * n)
    | 2 => a
    | _ => if old = b then a else old
  (old, patch d off (le n new))

/-- Close a transaction. -/
def State.closeTxn (s : State) (h line : Nat) : State :=
  (s.onDir fun d => { d with txns := d.txns.filter fun x => !(x.ext == h && x.line == line) }).dirFrame h line

/-- Serve the request of a transaction whose acknowledgements have all arrived (R247, R250, R255). `false`: its page
must be promoted first, or data of the line waits for its page, and the line stays BLOCKED. -/
def State.finishTxn (s : State) (t : Txn) : State × Bool :=
  let h := t.ext
  let drop (s : State) : State := match s.dirEnt h t.line with
    | some (_, d) => if d.holders.isEmpty then s.freeEnt h t.line else s
    | none => s
  match t.act, t.req with
  | .victim h' l', _ =>
    match s.dirEnt h t.line with
    | some (k, _) =>
      let s := (s.freeEnt h t.line).bump .dirPtnVictims ((s.ext h).elim 0 (·.ptn))
      let s := s.putEnt k { ext := h', line := l' }
      ((s.onTxn h' l' fun x => { x with victim := false }).closeTxn h t.line, true)
    | none => ((s.onTxn h' l' fun x => { x with victim := false }).closeTxn h t.line, true)
  | .write, some r =>
    if s.homeWaits h t.line then (s, false) else
    match s.homeStore r h t.line r.pkt.payload with
    | (s, false) => (s, false)
    | (s, true) => (((drop s).closeTxn h t.line).answer r true (r.pkt.resp 0), true)
  | act, some r =>
    if s.homeWaits h t.line then (s, false) else
    match s.pageForRead h (t.line / 512) with
    | .wait s => (s, false)
    | .ready s =>
      let x := s.readExt h t.line (portTag r.port)
      let s := x.2
      if x.1.1 ≠ 0 then (((drop s).closeTxn h t.line).answer r true (r.pkt.resp (if x.1.1 = 1 then 7 else 6)), true) else
      match act with
      | .atomic =>
        let v := atomicOp r.pkt x.1.2
        match s.homeStore r h t.line v.2 with
        | (s, false) => (s, false)
        | (s, true) => (((drop s).closeTxn h t.line).answer r true { r.pkt.resp 0 with arg0 := BitVec.ofNat 64 v.1 }, true)
      | _ =>
        let i := ((s.ext h).bind fun e => e.indexOf r.pkt.src.toNat).getD 0
        let ent : Option (Nat × DirEnt) := match s.dirEnt h t.line with
          | some e => some e
          | none => ((s.dirSet h t.line).bind s.freeWay).map fun k => (k, { ext := h, line := t.line })
        match ent with
        | none => (s, false)
        | some (k, d) =>
          let d' : DirEnt := if act = .grantS then { d with st := .s, sharers := insertIdx i d.sharers }
            else { d with st := .m, owner := i, sharers := [] }
          (((s.putEnt k d').closeTxn h t.line).answer r true
            { r.pkt.resp 0 with payload := x.1.2, payloadLen := 128#16 }, true)
  | _, none => ((drop s).closeTxn h t.line, true)

/-- Whether every acknowledgement of a transaction has arrived. -/
def State.txnReady (s : State) (t : Txn) : Bool :=
  t.need.isEmpty && !t.await2 && !t.victim && !(s.dir.recalls.any fun r => r.ext == t.ext && r.line == t.line && !r.answered)

/-- One round: finish what can be finished, then start the oldest queued request of each line that is not BLOCKED. -/
def State.dirRound (s : State) : State :=
  let s := s.each (s.dir.txns.map fun t => (t.ext, t.line)) fun s x =>
    let s := s.sendNeeded x.1 x.2
    match s.txn x.1 x.2 with
    | some t => if s.txnReady t then (s.finishTxn t).1 else s
    | none => s
  s.each s.dir.queue fun s w =>
    if s.blocked w.ext w.line || !(s.dir.queue.contains w) then s
    else (s.onDir fun d => { d with queue := d.queue.erase w }).startLine w.req
/-- Rounds until nothing more can go on. -/
def State.dirRun (s : State) : State :=
  s.each (List.range (2 * s.dir.queue.length + 3)) fun s _ => s.dirRound

/-- A CHECKOUT, WRITE_INV or ATOMIC at its slice: it waits in its line's queue while the line is BLOCKED (R248). -/
def State.lineRequest (s : State) (r : WaitReq) : State :=
  let h := r.pkt.ext
  let line := r.pkt.off / 128
  let q := (s.ext h).elim 0 (·.ptn)
  let sl := s.sliceOf h line
  if s.blocked h line then
    if !r.reply || decide (s.waitsOn q sl < 4096 * s.blocksOn q sl) then
      s.onDir fun d => { d with queue := d.queue ++ [{ ext := h, line := line, req := r }] }
    else s.answer r false { r.pkt.resp 1 with hintUs := BitVec.ofNat 32 (s.reg .dirPtnRetryHint q) }
  else (s.startLine r).dirRun

/-! ### Answers of hosts -/

/-- RETURN at its slice, on arrival (R252, R254, R255). -/
def State.hostReturn (s : State) (r : WaitReq) : State :=
  let p := r.pkt
  let h := p.ext
  let line := p.off / 128
  let q := (s.ext h).elim 0 (·.ptn)
  let i := ((s.ext h).bind fun e => e.indexOf p.src.toNat).getD 64
  match s.dirEnt h line with
  | some (k, d) =>
    if !(d.holds i) then (s.bump .dirPtnStaleReturn q).answer r true (p.resp 0) else
    let own := decide (d.st = .m)
    let rec? := s.dir.recalls.find? fun x => x.ext == h && x.line == line && x.idx == i && !x.answered
    let s := s.onDir fun x => { x with recalls := x.recalls.map fun y => if some y = rec? then { y with answered := true } else y }
    let s := if (rec?.elim false (·.forRevoke)) then s.gone h else s
    let s := s.onTxn h line fun t => { t with need := t.need.filter (· ≠ i), await2 := if own then false else t.await2 }
    let s := if p.dirty && !own then s.bump .dirPtnBadDirty q else s
    let d' := d.drop i
    let s := if d'.holders.isEmpty && !(s.blocked h line) then s.freeEnt h line else s.putEnt k d'
    let drops := (s.txn h line).elim false fun t => t.act == .write
    if p.dirty && own && !drops then (s.homePut r.port 0 p true).dirRun
    else (s.answer r true (p.resp 0)).dirRun
  | none => (s.bump .dirPtnStaleReturn q).answer r true (p.resp 0)

/-- RECALL_ACK at its slice, on arrival (R252, R253, R255). Its OFFSET, LENGTH, payload size and PKT_COUNT are taken as they
come (DESIGN CHOICE, log 140: R93 gives them and no answer to others). -/
def State.hostAck (s : State) (port : Nat) (p : Packet) : State :=
  match s.dir.recalls.find? fun r => r.ep == p.src.toNat && r.tag == p.tg && r.seq == p.reqSeq0.toNat with
  | none =>
    match s.ext p.ext with
    | some e => s.bump .dirPtnLateAck e.ptn
    | none => s.bump .rtMalformed 0
  | some r =>
    let s := s.onDir fun d => { d with recalls := d.recalls.erase r }
    if r.answered then s.dirRun else
    let h := r.ext
    let q := (s.ext h).elim 0 (·.ptn)
    let s := if r.forRevoke then s.gone h else s
    match s.dirEnt h r.line with
    | none => s.dirRun
    | some (k, d) =>
      if d.st = .m && d.owner = r.idx then
        if p.notHeld then (s.onTxn h r.line fun t => { t with await2 := true, since := r.sentAt }).dirRun else
        let drops := (s.txn h r.line).elim false fun t => t.act == .write
        let s := if r.kind = 2 then s.putEnt k { d with st := .s, sharers := [r.idx] } else s.putEnt k (d.drop r.idx)
        let p' := { p with extent := BitVec.ofNat 32 h, offset := BitVec.ofNat 64 (128 * r.line), length := 128#64 }
        (if p.dirty && !drops then s.homePut port 0 p' false else s).dirRun
      else
        let s := if p.dirty then s.bump .dirPtnBadDirty q else s
        (s.putEnt k (if r.kind = 1 then d.drop r.idx else d)).dirRun

/-! ### Timeouts and dead hosts -/

/-- What a slice's scan does for a dead host: lines it holds in M are poisoned, its bit is cleared elsewhere (R260). -/
def State.deadScan (s : State) (sl ep : Nat) : State :=
  s.each (s.dir.ents.filter fun e => e.1 / 524288 == sl) fun s x =>
    match s.dirEnt x.2.ext x.2.line, (s.ext x.2.ext).bind fun e => (e.indexOf ep).map fun i => (e, i) with
    | some (k, d), some (e, i) =>
      if !(d.holds i) then s
      else if d.st = .m then (s.bump .dirPtnDeadPoison e.ptn).poisonEnds d.ext d.line
      else
        let d' := d.drop i
        if d'.holders.isEmpty && !(s.blocked d.ext d.line) then s.freeEnt d.ext d.line else s.putEnt k d'
    | _, _ => s

/-- A host is declared dead: its open recalls count as answered at once, its queued requests are removed without a
response, its tricks end without one, and every slice starts a scan (R109, R260). -/
def State.hostDies (s : State) (ep : Nat) : State :=
  if s.dir.dead.contains ep then s else
  let s := s.onDir fun d => { d with dead := d.dead ++ [ep], scans := d.scans ++ (List.range 16).map fun i => (i, ep) }
  let mine (w : LineWait) : Bool := w.req.pkt.src.toNat == ep && w.req.reply
  let s := s.each (s.dir.queue.filter mine) fun s w => s.gone w.ext
  let s := s.onDir fun d => { d with queue := d.queue.filter fun w => !(mine w) }
  let s := s.each (s.dir.recalls.filter fun r => r.ep == ep && !r.answered) fun s r =>
    match s.dirEnt r.ext r.line with
    | some (k, d) =>
      if d.st = .m && d.owner = r.idx then
        (s.bump .dirPtnDeadPoison ((s.ext r.ext).elim 0 (·.ptn))).poisonEnds r.ext r.line
      else
        let s := if r.forRevoke then s.gone r.ext else s
        (s.onDir fun x => { x with recalls := x.recalls.map fun y => if y = r then { y with answered := true } else y }).putEnt k (d.drop r.idx)
    | none => s
  let tricks := s.fab.table.filter fun e => e.2.src == ep && !e.2.refused
  let s := s.cutWrites fun w => w.host == ep && !w.okSent && w.inv.isNone
  let s := s.each tricks fun s e => if e.2.opcode = 0x31 then s else s.gone e.2.ext
  let s := s.onFab fun f => { f with table := f.table.map fun e => (e.1, if e.2.src = ep then { e.2 with refused := true } else e.2) }
  s.dirRun

/-- The directory side of a partition reset: entries, records and transactions end without a recall, lines in M are
poisoned, and waiting requests complete with ST_PARTITION_RESET (R261). -/
def State.dirReset (s : State) (q : Nat) : State :=
  let mine (h : Nat) : Bool := (s.ext h).elim false fun e => e.ptn == q
  let reqs := (s.dir.txns.filter fun t => mine t.ext).filterMap (·.req) ++ (s.dir.queue.filter fun w => mine w.ext).map (·.req)
  let ms := s.dir.ents.filter fun e => mine e.2.ext && e.2.st == .m
  let revs := s.dir.recalls.filter fun r => mine r.ext && r.forRevoke && !r.answered
  let s := s.onDir fun d => { d with ents := d.ents.filter fun e => !(mine e.2.ext), recalls := d.recalls.filter fun r => !(mine r.ext)
                                     txns := d.txns.filter fun t => !(mine t.ext), queue := d.queue.filter fun w => !(mine w.ext) }
  let s := s.cutWrites fun w => mine w.ext && !w.okSent
  let s := s.each revs fun s r => s.gone r.ext
  let s := s.each ms fun s e => (s.bump .dirPtnDeadPoison q).poisonHome e.2.ext e.2.line
  s.each (reqs.filter (·.reply)) fun s r => (s.emit r.port (r.pkt.resp 0x0B)).gone r.pkt.ext

/-- Recall every line of an extent that satisfies `f` from the holders `pick` names (R72, R244). -/
def State.recallLines (s : State) (h : Nat) (act : TxnAct) (pick : DirEnt → List Nat) : State :=
  s.each (s.dir.ents.filter fun e => e.2.ext == h && !(pick e.2).isEmpty) fun s e =>
    if s.blocked h e.2.line then s
    else s.openTxn { ext := h, line := e.2.line, act := act, req := none, need := pick e.2, since := s.now }

end Sys2Proof.Machine
end

