-- ==== Sys2Proof/Machine/Serve.lean ====
section
/-! DEFINITION. Requests that name an extent: the checks of R23 case 6, the service of reads, writes and publications,
and the waits of accepted requests (spec/02_pool_model.md R55 to R83, spec/03_transfers.md R93 to R114,
spec/12_flash_tier.md R357, R358, R366). -/
namespace Sys2Proof.Machine

/-! ### Checks -/

/-- Whether an opcode is allowed on a region kind, and the rights (R, W) it needs (R56). -/
def opcodeOn (op : Nat) (tracked : Bool) : Bool :=
  if [0x10, 0x11, 0x13].contains op then true
  else if [0x20, 0x21, 0x22, 0x23, 0x24].contains op then tracked
  else !tracked
def rightsOf (op : Nat) (r w : Bool) : Bool :=
  if op = 0x01 || op = 0x11 || op = 0x20 then r
  else if op = 0x12 then r || w
  else if op = 0x21 || op = 0x24 then r && w
  else w

/-- The remaining replay time a die's requests are told, in µs (R368). -/
def State.replayHint (s : State) : Nat × State :=
  if s.sec.debugOn then (1000000, s) else let d := s.draw; (clamp 1 1000000 d.1, d.2)

/-- Whether a debug unlock keeps an extent closed (R446). -/
def State.closed (s : State) (e : ExtRec) : Bool := s.sec.debugOn && e.policy != 0
/-- Why a request fails R23 case 6, as a status (R23, R48, R70, R92, R95, R98, R368). -/
def State.check6 (s : State) (p : Packet) : Option Nat :=
  let h := p.ext
  let op := p.opcode.toNat
  if !(s.fdie 0).mounted then some 1 else
  match s.ext h with
  | none => some 5
  | some e =>
    if e.ptn ≠ p.q || !e.committed then some 5
    else if s.closed e then some 1
    else if e.st = .revoked || (e.st = .revoking && op ≠ 0x22) then some 3
    else if (s.ptn e.ptn).st = .resetting || (s.ptn e.ptn).st = .faulted then some 0x0B
    else if !(opcodeOn op e.tracked) then some 4
    else if op ≠ 0x22 && !(e.acl.any fun a => a.ep == p.src.toNat && rightsOf op a.r a.w) then some 4
    else if op ≠ 0x22 && e.tracked && s.dir.dead.contains p.src.toNat then some 4
    else if !p.rangeOk || e.length < p.off + p.len then some 5
    else if e.policy ≠ 0 && [0x10, 0x11, 0x12, 0x13].contains op && !s.mounted then some 1
    else if e.policy ≠ 0 && p.len ≠ 0 && ((List.range ((p.off + p.len - 1) / 65536 - p.off / 65536 + 1)).any fun i =>
        !(s.fdie (dieOf (s.pageOr h (p.off / 65536 + i)).home)).mounted) then some 1
    else none

/-- Refuse a request: ST_RETRY_AFTER carries the hint given, or the replay's (R88, R368). -/
def State.refuse (s : State) (port : Nat) (p : Packet) (status : Nat) (hint : Option Nat) : State :=
  if status = 1 then
    match hint with
    | some h => s.retryAfter port p h
    | none => let d := s.replayHint; d.2.retryAfter port p d.1
  else s.respond port p status

/-! ### Pages of a range -/

/-- Make pages ready, in order: `false` when one must wait. -/
def State.pagesReady (s : State) (h : Nat) (write : Bool) (pages : List Nat) : State × Bool :=
  pages.foldl (fun (acc : State × Bool) p =>
    match (if write then acc.1.pageForWrite h p else acc.1.pageForRead h p) with
    | .ready s => (s, acc.2)
    | .wait s => (s, false)) (s, true)

/-- Tier pages of a partition that await promotion (R82). -/
def State.promoQueue (s : State) (q : Nat) : Nat :=
  (s.mem.pages.filter fun e => (e.2.st == .promoting || (e.2.st == .flash && s.fab.waits.any fun w => w.touches e.1))
    && (s.ext (keyExt e.1)).elim false fun x => x.ptn == q).length
/-- Whether a yellow request is turned away with ST_RETRY_AFTER (R82, R83): it would add a page to more than 4,096 that await
promotion, or needs a frame that no page can give up while more than 4,096 await destage. `pages` are the pages whose lines it
needs. -/
def State.yellowAway (s : State) (h : Nat) (pages : List Nat) (write : Bool) : Bool :=
  match s.ext h with
  | none => false
  | some e =>
    let adds (g : Nat) : Bool := (s.pageOr h g).st == .flash && !(s.fab.waits.any fun w => w.touches (pageKey h g))
    let starved (g : Nat) : Bool :=
      let p := s.pageOr h g
      p.frame.isNone && s.mustEvict e.ptn p.home false && (s.evictee e.ptn p.home false).isNone
    e.policy != 0
      && ((pages.any adds && decide (4096 < s.promoQueue e.ptn))
        || (write && pages.any starved && decide (4096 < (s.dirtyPages e.ptn).length)))

/-! ### Reads and writes -/

/-- Read consecutive lines: (marking, data) of each. -/
def State.readLines (s : State) (h line0 n tag : Nat) : List (Nat × List Byte) × State :=
  (List.range n).foldl (fun (acc : List (Nat × List Byte) × State) i =>
    let r := acc.2.readExt h (line0 + i) tag
    (acc.1 ++ [r.1], r.2)) ([], s)
/-- Packet `i` of a GET response (R94, R111, R113). -/
def getPacket (p : Packet) (s0 : BitVec 32) (i : Nat) (ls : List (Nat × List Byte)) : Packet :=
  let n := ceilDiv p.len 4096
  let map : Nat := (ls.zipIdx.map fun (x : (Nat × List Byte) × Nat) => if x.1.1 = 0 then 0 else 2 ^ x.2).sum
  let st := if ls.any fun x => x.1 == 2 then 6 else if map ≠ 0 then 7 else 0
  { p.resp st with
    flags := if i + 1 = n then 3#8 else 1#8
    seq := s0 + BitVec.ofNat 32 i
    pktIndex := BitVec.ofNat 16 i
    pktCount := BitVec.ofNat 16 n
    payload := ls.flatMap fun x => if x.1 = 0 then x.2 else zeros 128
    payloadLen := BitVec.ofNat 16 (128 * ls.length)
    arg1 := BitVec.ofNat 64 map }
/-- Send the packets of a GET whose pages are ready; what is left waits (R82, R111). -/
def State.tryGet (s : State) (r : WaitReq) : State × Option WaitReq :=
  let p := r.pkt
  let s0 := BitVec.ofNat 32 r.status
  let go := r.ids.foldl (fun (acc : State × List Nat) i =>
    let off := p.off + 4096 * i
    let len := rangeOf p.len i
    match acc.1.pagesReady p.ext false (pagesIn off len) with
    | (s, false) => (s, acc.2 ++ [i])
    | (s, true) =>
      let x := s.readLines p.ext (off / 128) (len / 128) (32 + r.port)
      let q := getPacket p s0 i x.1
      (x.2.route 18 1 false (Via.of r.port) { q with e2eCrc := q.crcOf }, acc.2)) (s, [])
  if go.2.isEmpty then (go.1.ended p.ext false, none) else (go.1, some { r with ids := go.2 })

/-- The lines a write packet stores: (line, data) (R94, R99). -/
def writeLines (p : Packet) : List (Nat × List Byte) :=
  let i := p.pktIndex.toNat
  let n := rangeOf p.len i / 128
  let line0 := (p.off + 4096 * i) / 128
  if p.opcode = 0x03#8 then
    let m := p.arg1.toNat
    (List.range n).map fun j =>
      (line0 + j, if bit m j then slice p.payload (128 * popcount j m) 128 else zeros 128)
  else (List.range n).map fun j => (line0 + j, slice p.payload (128 * j) 128)
/-- Perform a packet of a PUT or PUT_SPARSE once its pages are ready (R57, R83). -/
def State.tryPut (s : State) (r : WaitReq) : State × Option WaitReq :=
  let p := r.pkt
  let i := p.pktIndex.toNat
  let off := p.off + 4096 * i
  let len := rangeOf p.len i
  match s.pagesReady p.ext true (pagesIn off len) with
  | (s, false) => (s, some r)
  | (s, true) =>
    let ls := writeLines p
    let s := s.each ls fun s x => s.writeExt p.ext x.1 (32 + r.port) 0 x.2 r.ids.head?
    (s.mirrorWrite p.ext off (ls.flatMap Prod.snd), none)

/-- A page becomes ZERO as a whole (R79, R358, R530), by a ZERO where `asked` (R78): `none` while it is PROMOTING or lacks a
frame. -/
def State.zeroPage (s : State) (h page : Nat) (asked : Bool) : Option State :=
  let k := pageKey h page
  match s.ext h with
  | none => some s
  | some e =>
    let p := s.pageOr h page
    let s := s.setPage k p
    if e.pinned then
      match s.pageForWrite h page with
      | .wait _ => none
      | .ready s =>
        let p := s.pageOr h page
        let f := p.frame.getD 0
        some (((s.drainFrame p.home f).zeroFrame p.home f).onPage k fun p => { p with st := .dirty, zeroed := p.zeroed || asked })
    else if p.st = .promoting then none
    else
      let s := match p.frame with
        | some f => (s.drainFrame p.home f).freeFrame k
        | none => s
      some (s.onPage k fun p =>
        { p with st := .zero, zeroed := p.zeroed || asked, rewritten := p.destaging
                 dirtyAt := if p.zeroPending then p.dirtyAt else s.now
                 zeroPending := !(p.committedZero && !p.destaging) })
/-- Every page of an extent has been written whole by ZERO: its INIT flag is set (R78, R504). -/
def State.initByZero (s : State) (h : Nat) : State :=
  match s.ext h with
  | none => s
  | some e =>
    if !e.init && (s.mem.pages.filter fun x => keyExt x.1 == h && x.2.zeroed).length == pagesOf e.length then
      if e.policy = 0 then s.onExt h fun e => { e with init := true }
      else if s.isDeferred 0x0307 h then s else s.extRecord h .init
    else s
/-- The parts of a ZERO: (page, first line, lines) of each page of its range. -/
def zeroParts (off len : Nat) : List (Nat × Nat × Nat) :=
  (pagesIn off len).map fun g =>
    let a := max off (g * 65536)
    let b := min (off + len) ((g + 1) * 65536)
    (g, a / 128, (b - a) / 128)
/-- Perform the parts of a ZERO whose pages are ready (R79, R100). -/
def State.tryZero (s : State) (r : WaitReq) : State × Option WaitReq :=
  let p := r.pkt
  let go := (zeroParts p.off p.len).foldl (fun (acc : State × List Nat) x =>
    if !(r.ids.contains x.1) then acc else
    let s := acc.1
    if x.2.2 = 512 then
      match s.zeroPage p.ext x.1 true with
      | none => ((s.pagesReady p.ext true [x.1]).1, acc.2 ++ [x.1])
      | some s => (((s.performed (some r.status)).mirrorWrite p.ext (x.1 * 65536) (zeros 65536)).initByZero p.ext, acc.2)
    else
      match s.pagesReady p.ext true [x.1] with
      | (s, false) => (s, acc.2 ++ [x.1])
      | (s, true) =>
        let s := s.each (List.range x.2.2) fun s i => s.writeExt p.ext (x.2.1 + i) (32 + r.port) 0 (zeros 128) (some r.status)
        (s.mirrorWrite p.ext (128 * x.2.1) (zeros (128 * x.2.2)), acc.2)) (s, [])
  if go.2.isEmpty then (go.1, none) else (go.1, some { r with ids := go.2 })

/-! ### FLUSH, PUBLISH and PERSIST -/

/-- The writes a FLUSH of a host to an extent covers (R58); all hosts' for a tracked PERSIST (R60). -/
def State.coveredBy (s : State) (h : Nat) (host : Option Nat) : List Nat :=
  (s.fab.writes.filter fun e => e.2.ext == h && e.2.okSent && host.elim true fun x => e.2.host == x).map Prod.fst
/-- Whether a host has a write to a tracked extent in progress at the home (R65). -/
def State.writing (s : State) (h host : Nat) : Bool :=
  let mine (r : WaitReq) : Bool := r.pkt.ext == h && r.pkt.src.toNat == host && [0x22, 0x23, 0x24, 0x26].contains r.pkt.opcode.toNat
  (s.dir.txns.any fun t => t.req.elim false mine) || (s.dir.queue.any fun w => mine w.req) || (s.fab.waits.any mine)
/-- Whether every write a request waits for has been performed. -/
def State.coverDone (s : State) (r : WaitReq) : Bool := r.ids.all fun k => !(Tab.has s.fab.writes k)

/-- The comparison of a PUBLISH, in one step, and its answer (R65). -/
def State.compare (s : State) (r : WaitReq) : State :=
  let h := r.pkt.ext
  let v := r.pkt.arg0.toNat
  let p := r.pkt.src.toNat
  match s.ext h with
  | none => s
  | some e =>
    let win := pairHigher v p e.version e.publisher
    let s := if win then (s.onExt h fun e => { e with version := v, publisher := p }) else s
    let s := if win && e.mirrored then s.mirror 4 h 0 (le 8 v ++ le 2 p ++ zeros 6) else s
    let st := if win || (v == e.version && p == e.publisher) then 0 else 8
    let e' := (s.ext h).getD e
    s.answer r true { r.pkt.resp st with arg0 := BitVec.ofNat 64 e'.version, arg1 := BitVec.ofNat 64 e'.publisher }

/-- PERSIST: the pages it takes, with the number of destages each waits for, go to priority 1; the extent's record is
written on M0, and a COMMIT on every die that holds a page (R366). -/
def State.persistStart (s : State) (r : WaitReq) : State × WaitReq :=
  let h := r.pkt.ext
  match s.ext h with
  | none => (s, r)
  | some e =>
    let mine := s.mem.pages.filter fun x => keyExt x.1 == h
    let due := mine.filter fun x => x.2.st == .dirty || x.2.zeroPending
    let pages := due.map fun x => (x.1, x.2.commits + (if x.2.destaging && x.2.rewritten then 2 else 1))
    let s := s.each due fun s x => s.onPage x.1 fun p => { p with prio := 1 }
    let s := if e.mirrored then s.mirror 5 h 3 [] else s
    let s := s.journal 0 (extRecs h e e.st.code .none false) true
    let dies := (List.range 4).filter fun m => m == 0 || mine.any fun x => dieOf x.2.home == m
    let seqs := dies.filterMap fun m => ((s.fdie m).pend.getLast?).map fun x => (m, x.seq)
    let s := s.each dies fun s m => if (s.fdie m).pend.isEmpty then s else s.journal m [] true
    (s, { r with kind := .persist 1, pages := pages, seqs := seqs })
/-- Whether a die's records up to a SEQ are committed. -/
def State.committedTo (s : State) (m q : Nat) : Bool := !((s.fdie m).pend.any fun x => decide (x.seq ≤ q))
/-- A step of a waiting PERSIST (R61, R366). -/
def State.tryPersist (s : State) (r : WaitReq) : State × Option WaitReq :=
  let r := match s.ext r.pkt.ext with | some _ => r | none => { r with ids := [] }
  let go : State × WaitReq :=
    if r.kind = .persist 0 then (if s.coverDone r then s.persistStart r else (s, r)) else (s, r)
  let s := go.1
  let r := go.2
  if r.kind = .persist 0 then (s, some r) else
  let stuck (x : Nat × Nat) : Bool := (s.page x.1).elim false fun p =>
    !p.destaging && p.st == .dirty && (s.fdie (dieOf p.home)).noSpace && s.flashFull (dieOf p.home)
  let open' (x : Nat × Nat) : Bool := (s.page x.1).elim false fun p => decide (p.commits < x.2)
  let st := if r.pages.any fun x => open' x && stuck x then 0x0A else r.status
  let r := { r with status := st, pages := r.pages.filter fun x => open' x && !(stuck x) }
  if r.pages.isEmpty && r.seqs.all fun x => s.committedTo x.1 x.2 then
    (s.answer r true (r.pkt.resp r.status), none)
  else (s, some r)

/-! ### Service and waits -/

/-- Serve a waiting request as far as it can go now. -/
def State.tryReq (s : State) (r : WaitReq) : State × Option WaitReq :=
  match r.kind with
  | .serve =>
    if (s.ext r.pkt.ext).isNone then (s, none)
    else if r.pkt.opcode = 0x01#8 then s.tryGet r
    else if r.pkt.opcode = 0x04#8 then s.tryZero r
    else s.tryPut r
  | .homeLine mark =>
    match s.homeWrite (r.ids.head?.getD s.fab.nextWrite) r.pkt.ext (r.pkt.off / 128) r.port mark r.pkt.payload with
    | (s, false) => (s, some r)
    | (s, true) => (if r.reply then s.answer r true (r.pkt.resp 0) else s, none)
  | .cover =>
    if r.pkt.opcode ≠ 0x10#8 && s.coverDone r then (s.answer r true (r.pkt.resp 0), none) else (s, some r)
  | .persist _ => s.tryPersist r
  | .invoke => (s, some r)
/-- Let a waiting request go on: while it is served it still keeps the pages it needs from eviction (R359). -/
def State.goOn (s : State) (r : WaitReq) : State :=
  match s.tryReq r with
  | (s, none) => s.onFab fun f => { f with waits := f.waits.erase r }
  | (s, some r') => s.onFab fun f => { f with waits := f.waits.replace r r' }
/-- Let every waiting request go on, oldest first, then the directory (R82, R83). -/
def State.settle (s : State) : State :=
  (s.each s.fab.waits State.goOn).dirRun
/-- Serve a request now, or leave it waiting. -/
def State.serveOr (s : State) (r : WaitReq) : State := (s.onFab fun f => { f with waits := f.waits ++ [r] }).goOn r

/-- GET (R82, R94, R111, R113). -/
def State.serveGet (s : State) (r : WaitReq) : State :=
  let p := r.pkt
  if r.yellow && s.yellowAway p.ext (pagesIn p.off p.len) false then
    let d := s.draw
    d.2.answer r false { p.resp 1 with hintUs := BitVec.ofNat 32 (clamp 1 1000000 d.1) }
  else
    let n := ceilDiv p.len 4096
    let key := p.src.toNat + 65536 * (if p.dst.toNat = s.ownId then 0 else 1)
    let s0 := Tab.getD s.fab.seqs key 0#32
    let s := s.onFab fun f => { f with seqs := Tab.put f.seqs key (s0 + BitVec.ofNat 32 n) }
    s.serveOr { r with ids := List.range n, status := s0.toNat }
/-- ZERO: its ST_OK follows at once, and its pages go on as a write that has been answered (R57, R100). -/
def State.serveZero (s : State) (r : WaitReq) : State :=
  let p := r.pkt
  let parts := zeroParts p.off p.len
  if r.yellow && s.yellowAway p.ext ((parts.filter fun x => x.2.2 != 512).map (·.1)) true then
    let d := s.draw
    d.2.answer r false { p.resp 1 with hintUs := BitVec.ofNat 32 (clamp 1 1000000 d.1) }
  else
    let w := s.newWrite p.src.toNat p.ext true ((parts.map fun x => if x.2.2 = 512 then 1 else x.2.2).sum)
    let s := w.2.serveOr { r with ids := parts.map (·.1), status := w.1, reply := false }
    s.answer r true (p.resp 0)
/-- READ_VERSION (R67). -/
def State.serveReadVersion (s : State) (r : WaitReq) : State :=
  let e := s.ext r.pkt.ext
  s.answer r false { r.pkt.resp 0 with arg0 := BitVec.ofNat 64 (e.elim 0 (·.version)), arg1 := BitVec.ofNat 64 (e.elim 0 (·.publisher)) }
/-- FLUSH (R58). -/
def State.serveFlush (s : State) (r : WaitReq) : State :=
  s.serveOr { r with kind := .cover, ids := s.coveredBy r.pkt.ext (some r.pkt.src.toNat) }
/-- PUBLISH: its flush begins; the comparison is PUBLISH_COMPARE's (R65). -/
def State.servePublish (s : State) (r : WaitReq) : State :=
  let r := { r with kind := .cover, ids := s.coveredBy r.pkt.ext (some r.pkt.src.toNat) }
  s.onFab fun f => { f with waits := f.waits ++ [r] }
/-- PERSIST (R60, R61, R366). -/
def State.servePersist (s : State) (r : WaitReq) : State :=
  match s.ext r.pkt.ext with
  | none => s
  | some e =>
    if e.policy = 0 then s.answer r false (r.pkt.resp 0x0A)
    else s.serveOr { r with kind := .persist 0
                            ids := s.coveredBy r.pkt.ext (if e.tracked then none else some r.pkt.src.toNat) }
/-- A request on a line of a tracked extent (R82, R248, R255). -/
def State.serveLine (s : State) (r : WaitReq) : State :=
  let op := r.pkt.opcode.toNat
  if r.yellow && s.yellowAway r.pkt.ext (pagesIn r.pkt.off r.pkt.len) (op = 0x23 || op = 0x24) then
    let d := s.draw
    d.2.answer r false { r.pkt.resp 1 with hintUs := BitVec.ofNat 32 (clamp 1 1000000 d.1) }
  else s.lineRequest r

/-- PUBLISH_COMPARE: the flush of a PUBLISH is done, and the control die compares its pair (R65). -/
def execPublishCompare (src : BitVec 16) (tag : BitVec 32) (s : State) : Host.Outcome State Fault Refusal :=
  let ok (r : WaitReq) : Bool := r.kind == .cover && r.pkt.opcode == 0x10#8 && r.pkt.src == src && r.pkt.tg == tag.toNat % 2 ^ 20
    && s.coverDone r && !(s.writing r.pkt.ext src.toNat && (s.ext r.pkt.ext).elim false (·.tracked))
  match s.fab.waits.find? ok with
  | some r => .next ((s.onFab fun f => { f with waits := f.waits.erase r }).compare r)
  | none => .next s

end Sys2Proof.Machine
end

