-- ==== Sys2Proof/Machine/Scrub.lean ====
section
/-! DEFINITION. Scrubbing: walk passes and on-demand passes (spec/13_data_integrity.md R388 to R391). -/
namespace Sys2Proof.Machine

/-- The page in a frame, when its extent's INIT flag is set (R80, R388). -/
def State.qualifies (s : State) (c f : Nat) : Bool :=
  (Tab.get? (s.chan c).frames f).elim false fun k => (s.ext (keyExt k)).elim false (·.init)
/-- Count a scrub read by its outcome (R391). -/
def ScrubPass.count (p : ScrubPass) (mark : Nat) (corrected : Bool) (moved off : Nat) : ScrubPass :=
  { p with
    read := p.read + 1
    clean := p.clean + b2n (mark == 0 && !corrected)
    corrected := p.corrected + b2n (mark == 0 && corrected)
    poisoned := p.poisoned + b2n (mark == 1)
    uncorr := p.uncorr + b2n (mark == 2)
    firstUe := if mark = 2 && p.demand && p.firstUe.length < 6 then p.firstUe ++ [off] else p.firstUe
    remapped := p.remapped + 15 * moved }
/-- Read one line with the scrubber's tag; it wakes a channel, never a stack (R331, R389). -/
def State.scrubRead (s : State) (p : ScrubPass) (c li off : Nat) : ScrubPass × State :=
  let s := if (s.chan c).pwr = 1 then (s.onChan c fun x => { x with pwr := 0 }).bump .pwrWakesDemand 0 else s
  let m := mapLine (s.reg .mcChCfgMap c) li
  let was := (s.reg .eccChCorrected c, (s.chan c).copies.length)
  let r := s.readLine c m.1 m.2.1 m.2.2 51
  let s := r.2
  (p.count r.1.1 (s.reg .eccChCorrected c != was.1) ((s.chan c).copies.length - was.2) off, s)

/-- The summary of a pass (R391). -/
def ScrubPass.summary (p : ScrubPass) : List Byte :=
  le 4 p.ext ++ le 1 (b2n p.demand) ++ le 1 (b2n p.early + 2 * b2n p.late) ++ le 1 p.ptn ++ le 1 p.firstUe.length
    ++ le 8 p.off ++ le 8 p.len ++ le 8 p.read ++ le 8 p.clean ++ le 8 p.corrected ++ le 8 p.uncorr ++ le 8 p.poisoned
    ++ le 8 p.remapped ++ le 4 p.skipped ++ le 4 p.flashPages ++ le 4 p.flashUncorr ++ zeros 4
    ++ padTo 48 (p.firstUe.flatMap (le 8))

/-- The open walk of a partition. -/
def State.walkOf (s : State) (q : Nat) : Option ScrubPass := s.mem.scrubs.find? fun p => p.ptn == q && !p.demand
def State.setPass (s : State) (old new : ScrubPass) : State :=
  s.onMem fun m => { m with scrubs := m.scrubs.map fun p => if p = old then new else p }
def State.dropPass (s : State) (old : ScrubPass) : State := s.onMem fun m => { m with scrubs := m.scrubs.erase old }

/-- SCRUB_PASS_START: a walk starts one period after the previous start; a previous walk still open makes it late
(R388, R389). -/
def execScrubPassStart (q : Ptn) (s : State) : Host.Outcome State Fault Refusal :=
  let period := s.reg .scbPtnPeriod q * 3600 * oneSec
  match s.walkOf q with
  | some p => .next (if s.past p.startAt period then (s.setPass p { p with late := true }).setReg .scbPtnStatusLate q 1 else s)
  | none =>
    let due := match Tab.get? s.mem.lastPass q with
      | some p => s.past p.startAt period
      | none => true
    if due && s.reg .scbPtnCfgMode q == 0 && (s.ptn q).st != .unused then
      let lines (c : Nat) : Nat := 512 * ((Tab.keys (s.chan c).frames).filter (s.qualifies c)).length
      let gap := (s.ptn q).channels.map fun c => (c, max usec (period / max 1 (lines c)))
      .next ((s.onMem fun m => { m with scrubs := m.scrubs ++ [{ ptn := q, demand := false, startAt := s.now, gap := gap }] }).setReg .scbPtnLines q 0)
    else .next s

/-- Whether an on-demand pass still has lines to read on a channel (R390). -/
def State.demandsOn (s : State) (x : ScrubPass) (c : Nat) : Bool :=
  let first := (x.off + x.cur) / 65536
  (List.range (ceilDiv (x.off + x.len) 65536 - first)).any fun i =>
    let r := s.pageOr x.ext (first + i)
    r.frame.isSome && r.home == c

/-- SCRUB_WALK_READ: the walk reads its next qualifying line of a channel, unless an on-demand pass has lines there; the pass
ends when every channel is done (R389, R390). -/
def execScrubWalkRead (q : Ptn) (c : Chan) (s : State) : Host.Outcome State Fault Refusal :=
  match s.walkOf q with
  | none => .next s
  | some p =>
    let paused := s.mem.scrubs.any fun x => x.demand && x.ptn == q.val && s.demandsOn x c
    if !((s.ptn q).channels.contains c.val) || paused || !s.chanAwake c then .next s else
    let due := (Tab.get? p.readAt c.val).elim true fun t => s.past t (Tab.getD p.gap c usec)
    if !due then .next s else
    let pos := Tab.getD p.pos c 0
    let next := ((Tab.keys (s.chan c).frames).filter fun f => pos / 512 ≤ f && s.qualifies c f).head?
    match next with
    | some f =>
      let li := max pos (f * 512)
      let r := s.scrubRead p c li 0
      .next ((r.2.setPass p { r.1 with pos := Tab.put p.pos c (li + 1), readAt := Tab.put p.readAt c s.now }).bump .scbPtnLines q)
    | none =>
      let p' := { p with pos := Tab.put p.pos c (46080 * 512) }
      if (s.ptn q).channels.all fun c => Tab.getD p'.pos c 0 == 46080 * 512 then
        .next (((s.dropPass p).onMem fun m => { m with lastPass := Tab.put m.lastPass q p' }).bump .scbPtnPasses q)
      else .next (s.setPass p p')

/-- End an on-demand pass: its deferred INT_SCRUB completes with the summary (R390). -/
def State.endScrub (s : State) (p : ScrubPass) (status : Nat) : State :=
  (s.dropPass p).complete 0x0702 p.ext status p.summary
/-- The open on-demand pass of an extent ends early when the extent enters REVOKING (R390). -/
def State.scrubRevoked (s : State) (h : Nat) : State :=
  match s.mem.scrubs.find? fun p => p.demand && p.ext == h with
  | some p => s.endScrub { p with early := true } 6 |>.dropPass p
  | none => s

/-- SCRUB_DEMAND_READ: an on-demand pass reads its next line, checks its next FLASH page in flash, or skips a page
without contents (R390). -/
def execScrubDemandRead (ext : BitVec 20) (s : State) : Host.Outcome State Fault Refusal :=
  let h := ext.toNat
  match s.mem.scrubs.find? fun p => p.demand && p.ext == h with
  | none => .next s
  | some p =>
    if p.len ≤ p.cur then .next (s.endScrub p 0) else
    let a := p.off + p.cur
    let page := a / 65536
    let pageEnd := min p.len ((page + 1) * 65536 - p.off)
    let r := s.pageOr h page
    match r.st, r.frame with
    | .promoting, _ => .next s
    | .flash, _ =>
      let k := pageKey h page
      let f := locChan (dieOf r.home) (r.loc.getD 0)
      let isIt (x : FlReq) : Bool := x.op == .scrub k
      match s.takeOp f isIt with
      | some (x, s) =>
        let s := s.bump .flChReads f
        let p' := { p with cur := pageEnd, flashPages := p.flashPages + 1, flashUncorr := p.flashUncorr + x.bad.length }
        let s := s.setPass p p'
        if x.bad.isEmpty then .next s else
        match s.promote p.ptn h page with
        | some s => .next (s.onFch f fun y => { y with queue := y.queue.map fun z => if z.op == .promote k then { z with bad := x.bad } else z })
        | none => .next s
      | none =>
        if (s.fch f).queue.any isIt then .next s
        else .next (s.flashOp f { op := .scrub k, ptn := p.ptn, prio := 4, since := s.now, loc := r.loc.getD 0 })
    | _, some f =>
      let gap := 100000000 / max 1 (s.reg .scbPtnDemandRate p.ptn)
      if !s.chanAwake r.home then .next (s.wakeRes (32 + r.home / 32)) else
      if !((Tab.get? p.readAt r.home).elim true fun t => s.past t gap) then .next s else
      let x := s.scrubRead p r.home (f * 512 + a / 128 % 512) a
      .next (x.2.setPass p { x.1 with cur := p.cur + 128, readAt := Tab.put p.readAt r.home s.now })
    | _, none => .next (s.setPass p { p with cur := pageEnd, skipped := p.skipped + 1 })

end Sys2Proof.Machine
end

