-- ==== Sys2Proof/Machine/Deal.lean ====
section
/-! DEFINITION. The dealer: invocations from admission to their FINAL, staging, windows of tiles and kernels
(spec/06_kernels_and_dealer.md R201 to R214; spec/05_tile_programming.md R182 to R192; spec/01_architecture.md R26). -/
namespace Sys2Proof.Machine

/-! ### Invocations, their staging pool and their windows -/

/-- Open invocations of a partition (R205). -/
def State.invsOf (s : State) (q : Nat) : Tab Inv := s.deal.invs.filter fun e => e.2.ptn == q
/-- Staging units an invocation reserves (R206). -/
def Inv.units (v : Inv) : Nat := ceilDiv v.inputBytes 65536 + ceilDiv v.outputBytes 65536
def State.poolUsed (s : State) (q : Nat) : Nat := ((s.invsOf q).map fun e => e.2.units).sum
/-- The size of a partition's staging pool (R206). -/
def State.poolOf (s : State) (q : Nat) : Nat := Tab.getD s.deal.stage q 1024

/-- Bindings that name an extent, with their window index (R202). -/
def Inv.bound (v : Inv) : List (Binding × Nat) := v.wins.zipIdx.filter fun b => b.2 != v.inputWin && b.2 != v.outputWin
/-- The extents an invocation names, each once (R71). -/
def Inv.exts (v : Inv) : List Nat := (v.bound.map fun b => b.1.ext).eraseDups
/-- Window `i` as (R, W, LENGTH) (R182, R204). -/
def Inv.win (v : Inv) (i : Nat) : Bool × Bool × Nat :=
  match v.wins[i]? with
  | none => (false, false, 0)
  | some b => (bit b.rights 0, bit b.rights 1,
      if i = v.inputWin then v.inputBytes else if i = v.outputWin then v.outputBytes else b.length)
/-- Loaded images and models of a partition. -/
def State.image (s : State) (q h : Nat) : Option Image := Tab.get? s.deal.images (q * 65536 + h)
def State.model (s : State) (q h : Nat) : Option Model := Tab.get? s.deal.models (q * 65536 + h)
def State.onModel (s : State) (q h : Nat) (f : Model → Model) : State :=
  s.onDeal fun d => { d with models := Tab.modify d.models (q * 65536 + h) f }
/-- The model an MOE_FFN invocation names (R226). -/
def Inv.model (v : Inv) : Nat := field v.args 0 2
/-- Clusters of a partition that work can be dealt to, by rank (R209, R492). -/
def State.owned (s : State) (q : Nat) : List Nat := (s.ptn q).clusters.filter fun g => !(s.clu g).lost

/-! ### Windows -/

/-- The last data of a line at its home that still waits for its page, of hosts and of kernels, or a kernel's that waits for
recalls: (marking, data) (R185, R256). -/
def State.waitingStore (s : State) (h line : Nat) : Option (Nat × List Byte) :=
  let mine (r : WaitReq) : Bool := r.pkt.ext == h && r.pkt.off == 128 * line
    && (match r.kind with | .homeLine _ => true | .serve => !r.reply && r.pkt.opcode == 0x23#8 | _ => false)
  let l := (s.fab.waits.filter mine) ++ (s.dir.txns.filterMap (·.req)).filter mine ++ (s.dir.queue.map (·.req)).filter mine
  l.getLast?.map fun r => (match r.kind with | .homeLine m => m | _ => 0, r.pkt.payload)
/-- A line as a kernel or a stream finds it (R185): (marking, data). -/
def State.lineVal (s : State) (h line : Nat) : Nat × List Byte :=
  match s.waitingStore h line with
  | some d => d
  | none => s.peekLine h line

/-- Read the lines of an extent range; `off0` is the extent byte of window offset 0 (R185). -/
def readLinesAt (s : State) (h off0 win : Nat) : List Nat → TRes (List Byte)
  | [] => .ok []
  | l :: ls =>
    let x := s.lineVal h l
    if x.1 = 1 then .error { code := fPoison, addr := 128 * l - off0, win := win }
    else if x.1 = 2 then .error { code := fData, addr := 128 * l - off0, win := win }
    else match readLinesAt s h off0 win ls with
      | .error f => .error f
      | .ok r => .ok (x.2 ++ r)
/-- Read `n` bytes of window `i` from an offset, with the checks of R183 in their order but for alignment. -/
def State.readWin (s : State) (v : Inv) (i off n : Nat) : TRes (List Byte) :=
  let w := v.win i
  if n = 0 then .ok []
  else if w.2.2 < off + n then .error { code := fBounds, addr := off, win := i }
  else if !w.1 then .error { code := fAccess, addr := off, win := i }
  else if i = v.inputWin then .ok (Mem.reads zeroByte v.input off n)
  else if i = v.outputWin then .ok (Mem.reads zeroByte v.output off n)
  else match v.wins[i]? with
    | none => .error { code := fBounds, addr := off, win := i }
    | some b =>
      let a := b.offset + off
      match readLinesAt s b.ext b.offset i ((List.range ((a + n - 1) / 128 - a / 128 + 1)).map (a / 128 + ·)) with
      | .error f => .error f
      | .ok l => .ok ((l.drop (a % 128)).take n)

/-- What reading a line leaves behind: a FLASH page starts its promotion, and a line in HBM is decoded with its effects
(R357, R378). -/
def State.readFx (s : State) (tag h line : Nat) : State :=
  match s.pageForRead h (line / 512) with
  | .ready s => (s.readExt h line tag).2
  | .wait s => s
/-- What cluster `g`'s read of `n` bytes of window `i` leaves behind (R185, R331, R378). -/
def State.readWinFx (s : State) (v : Inv) (g i off n : Nat) : State :=
  if n = 0 || i == v.inputWin || i == v.outputWin then s else
  match v.wins[i]? with
  | none => s
  | some b =>
    let a := b.offset + off
    s.each (List.range ((a + n - 1) / 128 - a / 128 + 1)) fun s j =>
      if (s.waitingStore b.ext (a / 128 + j)).isSome then s else s.readFx g b.ext (a / 128 + j)
/-- What the read that raised POISON or DATA leaves behind. -/
def State.faultFx (s : State) (v : Inv) (g : Nat) (f : TileFault) : State :=
  if f.code = fPoison || f.code = fData then s.readWinFx v g f.win f.addr 1 else s

/-- Invocation `k` stores a whole line of an extent from cluster `g` (R59, R185, R331): in a tracked extent as a
WRITE_INV. -/
def State.storeLine' (s : State) (v : Inv) (k g h line : Nat) (data : List Byte) : State :=
  match s.ext h with
  | none => s
  | some e =>
    let p : Packet := { opcode := 0x23#8, ptn := v.req.ptn, src := v.req.src, dst := v.req.dst, extent := BitVec.ofNat 32 h
                        offset := BitVec.ofNat 64 (128 * line), length := 128#64, payloadLen := 128#16, payload := data }
    let w := s.fab.nextWrite
    let s := s.onFab fun f =>
      { f with writes := Tab.put f.writes w { host := v.req.src.toNat, ext := h, okSent := false, lines := 1, inv := some k }, nextWrite := w + 1 }
    if e.tracked then s.lineRequest { kind := .serve, pkt := p, port := 64 + g, since := s.now, ids := [w], reply := false }
    else s.homePutFor w (64 + g) 0 p false
/-- Store whole lines of window `i` from an offset. -/
def State.storeWin (s : State) (k g i off : Nat) (data : List Byte) : State :=
  match s.inv k with
  | none => s
  | some v =>
    if i = v.outputWin then s.onInv k fun v => { v with output := Mem.writes zeroByte v.output off data }
    else match v.wins[i]? with
      | none => s
      | some b => s.each (chunks 128 data).zipIdx fun s c => s.storeLine' v k g b.ext ((b.offset + off) / 128 + c.2) c.1

/-- The bytes a kernel stored into one window, as a memory, and the lines they touch. -/
def gathered (i : Nat) (ws : List (Nat × Nat × List Byte)) : List (Nat × Byte) :=
  (ws.filter fun w => w.1 == i).flatMap fun w => w.2.2.zipIdx.map fun b => (w.2.1 + b.2, b.1)
/-- Apply a kernel's stores: bytes of a line it does not write keep their value, or take a free one where the line had
none (R154, R156; log 44). -/
def State.storeAll (s : State) (k g : Nat) (ws : List (Nat × Nat × List Byte)) : State :=
  s.each ((ws.map (·.1)).eraseDups) fun s i =>
    match s.inv k with
    | none => s
    | some v =>
      let bs := gathered i ws
      if i = v.outputWin then
        s.onInv k fun v => { v with output := bs.foldl (fun m b => Mem.write zeroByte m b.1 b.2) v.output }
      else match v.wins[i]? with
        | none => s
        | some b =>
          s.each ((bs.map fun x => x.1 / 128).eraseDups) fun s l =>
            let old := s.lineVal b.ext (b.offset / 128 + l)
            let base := if old.1 = 0 then old.2 else tabulate 128 fun j =>
              BitVec.ofNat 8 (Config.lineFill (le 2 v.kernel ++ v.settings ++ v.args) i (128 * l + j))
            let data := (bs.filter fun x => x.1 / 128 == l).foldl (fun t x => setAt t (x.1 % 128) x.2) base
            s.storeLine' v k g b.ext (b.offset / 128 + l) data

/-- Lines of tracked windows a host holds modified, as (extent, line, owner): they are recalled before a read (R185). -/
def State.modified (s : State) (v : Inv) (f : Nat → Nat → Nat → Bool) : List (Nat × Nat × Nat) :=
  v.bound.flatMap fun b => (s.dir.ents.filter fun e => e.2.ext == b.1.ext && e.2.st == .m
    && decide (b.1.offset ≤ 128 * e.2.line) && decide (128 * e.2.line < b.1.offset + b.1.length)
    && f b.2 (128 * e.2.line - b.1.offset) 128).map fun e => (e.2.ext, e.2.line, e.2.owner)
/-- Recall modified lines with DOWNGRADE; `true` when there are none. -/
def State.homeCopies (s : State) (ls : List (Nat × Nat × Nat)) : State × Bool :=
  if ls.isEmpty then (s, true) else
  (s.each ls fun s x =>
    if s.blocked x.1 x.2.1 then s
    else s.openTxn { ext := x.1, line := x.2.1, act := .tileRead, req := none, kind := 2, need := [x.2.2], since := s.now }, false)

/-! ### RESULT transfers (R211, R212) -/

/-- A 64 B fault report (R192). -/
def reportBytes (f : TileFault) (multi : Bool) (tile rank pc kernel instr count cycles : Nat) : List Byte :=
  le 1 f.code ++ le 1 (b2n multi) ++ le 1 tile ++ le 1 rank ++ le 2 pc ++ le 2 kernel ++ le 8 instr ++ le 8 f.addr ++ le 1 f.win
    ++ le 1 f.fmt ++ le 2 f.ucode ++ le 4 count ++ le 8 cycles ++ le 8 f.arg0 ++ le 8 f.arg1 ++ zeros 8
/-- A report raised without a tile (R192). -/
def dealerReport (f : TileFault) (kernel : Nat) : List Byte := reportBytes f false 0xFF 0xFF 0 kernel 0 0 0
/-- The report of a stock kernel's fault on clusters `gs`, each with its rank: its own checks raise it without a tile, its
hardware's faults name a tile the device chooses, which then reads FAULTED (R190, R192; log 45). -/
def State.kernelReport (s : State) (f : TileFault) (kernel : Nat) (gs : List (Nat × Nat)) : List Byte × State :=
  if f.code = fParam || f.code = fBounds || f.code = fLimit || (f.code = fFormat && 2 ^ 63 ≤ f.addr) then (dealerReport f kernel, s) else
  let d := s.draw
  let t := d.1 / 2 % 16
  let g := (gs[d.1 / 32 % max 1 gs.length]?).getD (0, 0)
  let pc := d.1 / 2 ^ 10 % 2 ^ 14
  let instr := d.1 / 2 ^ 24 % 2 ^ 64
  (reportBytes f (bit d.1 0) t g.2 pc kernel instr (max 1 (d.1 / 2 ^ 88 % 512)) (d.1 / 2 ^ 100 % 2 ^ 64),
    d.2.onTile (17 * g.1 + (s.clu g.1).phys t) fun x => { x with pc := pc }.faulted instr f)

/-- One packet of a RESULT transfer. -/
def Inv.result (v : Inv) (sub status i n len arg0 arg1 : Nat) (data : List Byte) : Packet :=
  { v.req.resp status with
    opcode := 0x32#8
    flags := if i + 1 = n then 3#8 else 1#8
    subop := BitVec.ofNat 8 sub
    offset := 0#64
    length := BitVec.ofNat 64 len
    pktIndex := BitVec.ofNat 16 i
    pktCount := BitVec.ofNat 16 n
    arg0 := BitVec.ofNat 64 arg0
    arg1 := BitVec.ofNat 64 arg1
    payloadLen := BitVec.ofNat 16 data.length
    payload := padTo (roundUp data.length 64) data }
/-- Whether an invocation's answers wait for mirror frames (R486). -/
def State.mirrorsInv (s : State) (v : Inv) : Bool := v.exts.any fun h => (s.ext h).elim false (·.mirrored)
/-- Send a DATA or TOKEN transfer and count it. -/
def State.sendResult (s : State) (k sub arg0 arg1 : Nat) (data : List Byte) : State :=
  match s.inv k with
  | none => s
  | some v =>
    let n := ceilDiv data.length 4096
    let s := s.each (chunks 4096 data).zipIdx fun s c =>
      s.emitHeld (s.mirrorsInv v) v.port (v.result sub 0 c.2 n data.length arg0 arg1 c.1)
    s.onInv k fun v => { v with sent := v.sent + 1, bytesOut := v.bytesOut + data.length }

/-- The summary of a FINAL (R212). -/
def Inv.summary (v : Inv) (report : Bool) (elapsed : Nat) : List Byte :=
  le 2 v.kernel ++ le 1 (setBits v.flags 4 1 (b2n report)) ++ zeros 1 ++ le 4 v.flagged ++ le 4 v.cut ++ le 2 v.passes ++ zeros 2
    ++ le 8 v.ops ++ le 8 v.bytesIn ++ le 8 v.bytesOut ++ le 8 elapsed ++ zeros 16
/-- Refuse an INVOKE: one FINAL with the status (R214). -/
def State.refuseInvoke (s : State) (port : Nat) (p : Packet) (status hint : Nat) : State :=
  s.emit port { p.resp status with
           opcode := 0x32#8
           subop := 3#8
           offset := 0#64
           length := 0#64
           hintUs := BitVec.ofNat 32 (if status = 1 then clamp 1 1000000 hint else 0)
           payloadLen := 64#16
           payload := padTo 64 (p.payload.take (min 2 p.payloadLen.toNat)) }

/-! ### The end of an invocation -/

/-- The tiles an invocation runs on, as tile keys in order of rank and logical index. -/
def State.tilesOf (s : State) (v : Inv) : List (Nat × Nat × Nat) :=
  v.reserved.zipIdx.flatMap fun g => (List.range v.tiles).map fun t => (17 * g.1 + (s.clu g.1).phys t, g.2, t)
/-- Add what the tiles of a loaded image's invocation counted (R212). -/
def State.gather (s : State) (k : Nat) : State :=
  match s.inv k with
  | none => s
  | some v =>
    let ts := ((s.tilesOf v).map fun x => s.tile x.1).filter fun t => t.invKey == some k
    s.onInv k fun v =>
      { v with flags := ts.foldl (fun m t => m ||| t.invFlags) v.flags
               flagged := v.flagged + (ts.map (·.invFlagged)).sum
               ops := v.ops + (ts.map (·.ops)).sum
               bytesIn := v.bytesIn + (ts.map (·.bytesIn)).sum
               bytesOut := v.bytesOut + (ts.map (·.bytesOut)).sum }
/-- Stop every tile that still runs an invocation (R190, R214): its streams stop with it. A running one reads IDLE from then
on (DESIGN CHOICE, log 143: R159 does not say whether IDLE or STOPPED). -/
def State.stopTiles (s : State) (k : Nat) : State :=
  { s with comp := { s.comp with tiles := s.comp.tiles.map fun e =>
      (e.1, if e.2.invKey == some k then
              { e.2 with st := if e.2.st = .running then .idle else e.2.st, streams := [], wait := .none
                         invKey := none, report := none }
            else e.2) } }
/-- Whether a cluster is held by a work item or a collective (R209, R234). -/
def State.reservedClu (s : State) (g : Nat) : Bool :=
  (s.deal.invs.any fun e => e.2.reserved.contains g) || s.deal.colls.any fun e => e.2.clusters.contains g
/-- Write zeros into a cluster's memories: its clearing begins (R118). -/
def State.clearCluster (s : State) (g : Nat) : State :=
  let s := s.onClu g fun c => { c with store := [], cards := [], clearing := true, clearStart := s.now }
  s.each (List.range 17) fun s t => s.onTile (17 * g + t) fun x => { x with scratch := [], win := [] }
/-- A cluster reset, or the clearing of a cluster that changes its owner, starts once the cluster's work has ended: its
memories are cleared, and a reset sets its counters to 0 (R118, R158, R401, R405, R499). -/
def State.clusterResets (s : State) : State :=
  s.each ((List.range 32).filter fun g => (s.isDeferred 0x0106 g || (s.clu g).pendingOwner.isSome) && !(s.clu g).clearing && !(s.reservedClu g)) fun s g =>
    let s := s.clearCluster g
    if !(s.isDeferred 0x0106 g) then s else
    let s := s.onClu g fun c => { c with csConflict := 0, scConflict := 0 }
    let s := s.each (List.range 17) fun s t => s.onTile (17 * g + t) fun x =>
      { x with flagged := 0, mmaBusy := 0, scrConflict := 0, zskip := 0, issueStall := 0 }
    let mine (k : Nat) : Bool :=
      (k / 65536 == 5 && k % 65536 / 544 == g) || ((k / 65536 == 6 || k / 65536 == 7) && k % 65536 / 64 == g)
    { s with arbs := s.arbs.map fun e => (e.1, if mine e.1 then { e.2 with grants := 0, trumpCount := 0, maxWait := 0 } else e.2) }

/-- Unloads that waited for an invocation or a basket complete with the last of them (R198, R221). -/
def State.unloads (s : State) (q : Nat) : State :=
  let usedI (h : Nat) : Bool := s.deal.invs.any fun e => e.2.ptn == q && e.2.kernel == h
  let usedM (h : Nat) : Bool := (s.deal.invs.any fun e => e.2.ptn == q && e.2.kernel == 1 && e.2.model == h)
    || s.deal.baskets.any fun e => e.2.ptn == q && e.2.model == h
  let is := (s.deal.images.filter fun e => e.2.ptn == q && e.2.unloading && !(usedI e.2.handle)).map fun e => e.2.handle
  let ms := (s.deal.models.filter fun e => e.2.ptn == q && e.2.unloading && !(usedM e.2.handle)).map fun e => e.2.handle
  let s := s.each is fun s h => (s.onDeal fun d => { d with images := Tab.del d.images (q * 65536 + h) }).complete 0x0402 (q * 65536 + h) 0 []
  s.each ms fun s h => (s.onDeal fun d => { d with models := Tab.del d.models (q * 65536 + h) }).complete 0x0404 (q * 65536 + h) 0 []

/-- End an invocation: its FINAL goes out, with which its stores are accepted, open INVOKE_DATA transfers complete with its
status, its clusters, its reservation and its places in baskets are given back; with a status other than ST_OK its stores not
yet performed are discarded (R59, R114, R207, R211 to R214, R220). -/
def State.endInv (s : State) (k status : Nat) (report : Option (List Byte)) : State :=
  match (s.gather k).inv k with
  | none => s
  | some v =>
    let s := s.stopTiles k
    let s := if status = 0 then s else s.cutWrites fun w => w.inv == some k
    let s := s.onFab fun f => { f with writes := f.writes.map fun e => (e.1, if e.2.inv = some k then { e.2 with okSent := true } else e.2) }
    let fed := s.fab.table.filter fun e => e.2.inv == k + 1 && !e.2.refused
    let s := s.each fed fun s e => if status = 1 then s.retryAfter e.2.port e.2.req 60 else s.respond e.2.port e.2.req status
    let s := s.onFab fun f => { f with table := f.table.map fun e => (e.1, if e.2.inv = k + 1 then { e.2 with refused := true } else e.2) }
    let body := v.summary report.isSome ((s.now - v.acceptedAt) / 100) ++ report.getD []
    let s := s.emitHeld (s.mirrorsInv v) v.port { v.result 3 status 0 1 0 0 v.sent body with hintUs := if status = 1 then 60#32 else 0#32 }
    let s := s.each v.exts fun s h => if status = 0x0B || status = 1 then s.gone h else s.ended h (status == 3)
    let s := s.onDeal fun d =>
      { d with invs := Tab.del d.invs k
               baskets := (d.baskets.map fun b => (b.1, { b.2 with
                   entries := b.2.entries.filter fun x => x.1 != k
                   weights := ((b.2.entries.zip b.2.weights).filter fun x => x.1.1 != k).map Prod.snd })).filter
                 fun b => !b.2.entries.isEmpty
               colls := d.colls.filter fun c => !(c.2.ranks.isEmpty && c.2.opener == k) }
    (s.unloads v.ptn).clusterResets
/-- End an invocation with a fault report (R190, R204). -/
def State.faultInv (s : State) (k : Nat) (report : List Byte) : State := s.endInv k 9 (some report)
/-- End with ST_OK: DATA when there is an output window, then the FINAL (R211). -/
def State.finishInv (s : State) (k : Nat) : State :=
  match s.inv k with
  | none => s
  | some v =>
    let s := if v.outputBytes = 0 then s else s.sendResult k 1 0 0 (Mem.reads zeroByte v.output 0 v.outputBytes)
    s.endInv k 0 none

/-- Count operations of a cluster for the meter, by the class of their operand pair (R137, R453). -/
def State.countOps (s : State) (g q a w n : Nat) : State :=
  let qty := match pairOf a w with
    | some (.c4, _) => 5
    | some (.c8, _) => 6
    | some (.c16, _) => 7
    | none => 5
  s.count (g / 16) q qty n

/-! ### Baskets (R215, R216) -/

/-- Closed baskets of a partition that have not started (R218). -/
def State.queuedBaskets (s : State) (q : Nat) : Nat := (s.deal.baskets.filter fun b => b.2.ptn == q && b.2.closed).length
/-- A basket closes (R216, R217). -/
def State.closeBasket (s : State) (k : Nat) : State :=
  s.onDeal fun d => { d with baskets := Tab.modify d.baskets k fun b => { b with closed := true, due := false, order := d.nextClose }
                             nextClose := d.nextClose + 1 }
/-- The baskets of unloaded models close while the partition has room for one more closed basket (R216, R218). -/
def State.closeDue (s : State) (q : Nat) : State :=
  s.each (s.deal.baskets.filter fun b => b.2.ptn == q && b.2.due) fun s b =>
    if 1024 ≤ s.queuedBaskets q then s else s.closeBasket b.1

/-- A token of an invocation enters the open basket of an expert. -/
def State.enterBasket (s : State) (k tok q model expert weight : Nat) : State :=
  let open? := s.deal.baskets.find? fun b => b.2.ptn == q && b.2.model == model && b.2.expert == expert && !b.2.closed && !b.2.due
  let x : Nat × Basket := match open? with
    | some b => b
    | none => (s.deal.nextBasket, { ptn := q, model := model, expert := expert, entries := [], weights := [], openedAt := s.now
                                    deadline := s.now + s.reg .dealDeadline q * (usec / 10), target := s.reg .dealCfgTarget q })
  let b : Basket := { x.2 with entries := x.2.entries ++ [(k, tok)], weights := x.2.weights ++ [weight] }
  let full := decide (b.target ≤ b.entries.length)
  let s := s.onDeal fun d => { d with baskets := Tab.put d.baskets x.1 b, nextBasket := max d.nextBasket (x.1 + 1) }
  let s := s.bump .dealTokens q
  if full then (s.closeBasket x.1).bump .dealCloseFull q else s
/-- The entries of an invocation enter baskets in order, while the partition has room for one more closed basket (R215,
R218). -/
def State.enterEntries (s : State) (k q model : Nat) : List (Nat × Nat × Nat) → State
  | [] => s.onInv k fun v => { v with st := .tokens, todo := [] }
  | x :: xs =>
    if 1024 ≤ s.queuedBaskets q then s.onInv k fun v => { v with todo := x :: xs }
    else State.enterEntries (s.enterBasket k x.1 q model x.2.1 x.2.2) k q model xs

/-- What a stock kernel sees of an invocation. -/
def State.kenv (s : State) (v : Inv) : KEnv :=
  { args := v.args, st := Settings.ofBytes v.settings, inWin := v.inputWin, outWin := v.outputWin, inBytes := v.inputBytes
    wins := (List.range v.wins.length).map v.win, bases := v.wins.map (·.offset), rd := s.readWin v }

/-- An MOE_FFN invocation is ready: its arguments are checked and its token entries wait to enter baskets (R204, R215, R226,
R227). -/
def State.moeReady (s : State) (k : Nat) : State :=
  match s.inv k with
  | none => s
  | some v =>
    let m := (s.model v.ptn v.model).filter fun m => !m.unloading || decide (k < m.lastInv)
    match moeCheck (s.kenv v) (m.map (·.hdr)) with
    | .error f =>
      let r := s.kernelReport f v.kernel []
      r.2.faultInv k r.1
    | .ok ts =>
      let p := Config.kPasses 1 ((m.map fun m => max m.hdr.dModel m.hdr.dFf).getD 0)
      let s := s.onInv k fun v => { v with todo := ts.zipIdx.flatMap fun t => t.1.experts.map fun e => (t.2, e.1, e.2.toNat)
                                           left := (ts.map fun t => t.experts.length).sum
                                           tokLeft := ts.zipIdx.map fun t => (t.2, t.1.experts.length)
                                           passes := p + 1, flags := setBits v.flags 5 1 (b2n (p != 0))
                                           bytesIn := v.bytesIn + v.inputBytes }
      if p = 0 then s else s.bump .dealKsplit v.ptn

/-- An invocation is ready (R207, R209). -/
def State.ready (s : State) (k : Nat) : State :=
  let s := s.onInv k fun v => { v with st := .ready, readyAt := s.now }
  if (s.inv k).elim false fun v => v.kernel == 1 then s.moeReady k else s

/-! ### Admission (R203 to R208, R218) -/

/-- An INVOKE's descriptor (R202). -/
def invOf (p : Packet) (port now : Nat) : Inv :=
  let l := p.payload.take p.payloadLen.toNat
  let wc := field l 2 1
  let b (i : Nat) : Binding :=
    let o := 32 + 24 * i
    { ext := field l o 4 % 2 ^ 20, rights := field l (o + 4) 1 % 4, offset := field l (o + 8) 8 % 2 ^ 44, length := field l (o + 16) 8 }
  let args := (l.drop (32 + 24 * wc)).take (field l 6 2)
  let k := field l 0 2
  { ptn := p.q, req := p, port := port, x := port / 9, kernel := k, inputWin := field l 3 1, outputWin := field l 4 1
    clusters := field l 5 1, inputBytes := field l 8 4, outputBytes := field l 12 4, settings := slice l 16 16
    wins := (List.range wc).map b, args := args, acceptedAt := now, cut := if k = 1 then field args 4 4 else 0 }
/-- Whether a descriptor is well formed (R203 step 1). -/
def descOk (p : Packet) (v : Inv) : Bool :=
  let l := p.payload.take p.payloadLen.toNat
  p.pktCount == 1#16 && decide (32 ≤ l.length ∧ v.wins.length ≤ 16 ∧ field l 6 2 ≤ 3552 ∧ p.payloadLen.toNat = 32 + 24 * v.wins.length + field l 6 2
    ∧ v.clusters ≤ 32 ∧ v.inputBytes % 128 = 0 ∧ v.inputBytes ≤ 268435456 ∧ v.outputBytes % 128 = 0 ∧ v.outputBytes ≤ 268431360
    ∧ (v.inputWin = 0xFF ∨ v.inputWin < v.wins.length) ∧ (v.outputWin = 0xFF ∨ v.outputWin < v.wins.length)
    ∧ (v.inputWin = 0xFF ∨ v.inputWin ≠ v.outputWin) ∧ (v.inputWin ≠ 0xFF ↔ 0 < v.inputBytes)
    ∧ (v.outputWin ≠ 0xFF ↔ 0 < v.outputBytes))
  && v.wins.zipIdx.all fun b =>
    if b.2 = v.inputWin || b.2 = v.outputWin then
      decide (b.1.ext = 0 ∧ b.1.offset = 0 ∧ b.1.length = 0 ∧ b.1.rights = if b.2 = v.inputWin then 1 else 2)
    else decide (b.1.rights ≠ 0 ∧ b.1.offset % 128 = 0 ∧ b.1.length % 128 = 0 ∧ 128 ≤ b.1.length)

/-- The checks a, b, d and e of R23 case 6 on one extent binding (R97, R203 step 2). -/
def State.checkBinding (s : State) (p : Packet) (b : Binding) : Option Nat :=
  if !(s.fdie 0).mounted then some 1 else
  match s.ext b.ext with
  | none => some 5
  | some e =>
    if e.ptn ≠ p.q || !e.committed then some 5
    else if s.closed e then some 1
    else if e.st ≠ .active then some 3
    else if !(e.acl.any fun a => a.ep == p.src.toNat && (!(bit b.rights 0) || a.r) && (!(bit b.rights 1) || a.w)) then some 4
    else if e.tracked && s.dir.dead.contains p.src.toNat then some 4
    else if e.length < b.offset + b.length then some 5
    else if e.policy ≠ 0 && b.length ≠ 0 && ((List.range ((b.offset + b.length - 1) / 65536 - b.offset / 65536 + 1)).any fun i =>
        !(s.fdie (dieOf (s.pageOr b.ext (b.offset / 65536 + i)).home)).mounted) then some 1
    else none
/-- Whether a kernel handle can be invoked (R201, R198). -/
def State.kernelOk (s : State) (q k : Nat) : Bool :=
  decide (1 ≤ k ∧ k ≤ 8) || (s.image q k).elim false fun i => !i.unloading

/-- The status an INVOKE is refused with by R203, R23 cases 6 and 7, if any; 1 is the replay's retry. -/
def State.checkInvoke (s : State) (p : Packet) (v : Inv) : Option Nat :=
  if (s.ptn p.q).st = .resetting || (s.ptn p.q).st = .faulted then some 0x0B
  else if !(descOk p v) then some 5
  else match v.bound.findSome? fun b => s.checkBinding p b.1 with
    | some st => some st
    | none =>
      if !(s.kernelOk p.q v.kernel) then some 5
      else if (s.owned p.q).isEmpty then some 0x0A else none

/-- Admission after R203 (R205 to R207). `counted`: its extents already count it. -/
def State.admitInvoke (s : State) (p : Packet) (v : Inv) (counted : Bool) : State :=
  let q := p.q
  let drop (s : State) : State := if counted then s.each v.exts fun s h => s.ended h false else s
  if s.poolOf q < v.units then (drop s).refuseInvoke v.port p 0x0A 0
  else if 1024 ≤ (s.invsOf q).length then (drop s).refuseInvoke v.port p 1 20
  else if s.poolOf q - s.poolUsed q < v.units then
    let d := s.draw
    (drop d.2).refuseInvoke v.port p 1 d.1
  else
    let k := s.deal.nextInv
    let tiles := if v.kernel < 0x8000 then 16 else
      Config.imageTiles ((s.image q v.kernel).elim [] (·.code)) (p.payload.take p.payloadLen.toNat) % 16 + 1
    let s := s.onDeal fun d => { d with invs := Tab.put d.invs k { v with acceptedAt := s.now, tiles := tiles }, nextInv := k + 1 }
    let s := if counted then s else s.each v.exts fun s h => s.accepted h
    if v.inputBytes = 0 then s.ready k
    else s.emit v.port (v.result 0 0 0 1 0 0 0 [])

/-- Retry hints of the dealer are its own estimates (R206, R218; log 14). -/
def State.dealerHint (s : State) (port : Nat) (p : Packet) : State := let d := s.draw; d.2.refuseInvoke port p 1 d.1
/-- INVOKE at the dealer (R203, R218). `true`: it waits and keeps its credit. -/
def State.serveInvoke (s : State) (r : WaitReq) : State × Bool :=
  let p := r.pkt
  let v := invOf p r.port s.now
  match s.checkInvoke p v with
  | some 1 => let d := s.replayHint; (d.2.refuseInvoke r.port p 1 d.1, false)
  | some st => (s.refuseInvoke r.port p st 0, false)
  | none =>
    if v.kernel = 1 && 1024 ≤ s.queuedBaskets p.q then
      if r.yellow then (s.dealerHint r.port p, false)
      else
        let s := s.each v.exts fun s h => s.accepted h
        (s.onFab fun f => { f with waits := f.waits ++ [{ r with kind := .invoke, since := s.now }] }, true)
    else (s.admitInvoke p v false, false)
/-- INVOKEs that wait for closed baskets to start go on, oldest first (R218). -/
def State.retryInvokes (s : State) (q : Nat) : State :=
  s.each (s.fab.waits.filter fun r => r.kind == .invoke && r.pkt.q == q) fun s r =>
    if 1024 ≤ s.queuedBaskets q then s
    else
      let s := s.onFab fun f => { f with waits := f.waits.erase r }
      (s.freeCredit r.port 0 r.pkt.flits).admitInvoke r.pkt (invOf r.pkt r.port s.now) true

/-- The open invocation an INVOKE_DATA feeds (R97). -/
def State.fedBy (s : State) (p : Packet) : Option (Nat × Inv) :=
  s.deal.invs.find? fun e => e.2.ptn == p.q && e.2.req.src == p.src && e.2.req.tg == p.arg0.toNat % 2 ^ 20
/-- Why an INVOKE_DATA is refused, as a status (R97, R207). -/
def State.checkData (s : State) (p : Packet) : Option Nat :=
  if (s.ptn p.q).st = .resetting || (s.ptn p.q).st = .faulted then some 0x0B else
  match s.fedBy p with
  | none => some 5
  | some (_, v) =>
    if !p.rangeOk || v.st != .input || v.inputBytes < p.off + p.len then some 5 else none
/-- One packet of an accepted INVOKE_DATA writes its range and marks its lines; after readiness it is only counted
(R207). -/
def State.invokeData (s : State) (k : Nat) (p : Packet) : State :=
  match s.inv k with
  | none => s
  | some v =>
    if v.st != .input then s else
    let i := p.pktIndex.toNat
    let off := p.off + 4096 * i
    let n := rangeOf p.len i
    let m := v.marks ||| ((2 ^ (n / 128) - 1) <<< (off / 128))
    let s := s.onInv k fun v => { v with input := Mem.writes zeroByte v.input off (slice p.payload 0 n), marks := m }
    if m = 2 ^ (v.inputBytes / 128) - 1 then s.ready k else s

end Sys2Proof.Machine
end

