-- ==== Sys2Proof/Machine/DealRun.lean ====
section
/-! DEFINITION. Placement and running of invocations: work items, stock kernels, baskets, collectives, tile programs
(spec/06_kernels_and_dealer.md R209 to R240; spec/05_tile_programming.md R162, R178 to R194, R199). -/
namespace Sys2Proof.Machine

/-! ### Clusters -/

/-- Whether a cluster of a partition is idle (R118, R199, R209). -/
def State.idleClu (s : State) (g : Nat) : Bool :=
  !(s.reservedClu g) && !(s.clu g).clearing && !(s.clu g).lost && (s.clu g).pendingOwner.isNone && !(s.isDeferred 0x0106 g)
/-- Wake the sleeping ones of some clusters (R26). -/
def State.wakeClus (s : State) (gs : List Nat) : State :=
  s.each gs fun s g => if (s.clu g).clockRun then s else s.wakeRes g

/-! ### Stock kernels that are work items -/

/-- Spread the bits of `m` over units: each takes a free part of them, the last what no other took (log 144). -/
def spreadBits (f : State → Nat → Nat → State) (m : Nat) : List Nat → Nat → State → State
  | [], _, s => s
  | k :: ks, got, s =>
    let d := s.draw
    let own := (m &&& d.1) ||| (if ks.isEmpty then m - (m &&& got) else 0)
    spreadBits f m ks (got ||| own) (f d.2 k own)
/-- Spread a count of flagged outputs over tiles in the same way; a tile that counts any sets WINDOW_EXCEEDED (R141). -/
def spreadCount : List Nat → Nat → State → State
  | [], _, s => s
  | k :: ks, n, s =>
    let d := s.draw
    let own := if ks.isEmpty then n else d.1 % (n + 1)
    spreadCount ks (n - own) (d.2.onTile k fun x => (x.flag (b2n (own != 0))).countFlagged own)
/-- What a stock kernel leaves in the registers of the 16 tiles it ran on in each cluster: each reads IDLE, and together they
show the flags and the count of its outputs; which tile shows which, and what a matrix kernel adds to TILE_MMA_BUSY and
TILE_ZSKIP, is the device's choice (R141, R150, R153, R159, R210; log 144). -/
def State.tilesRan (s : State) (gs : List Nat) (flags flagged : Nat) (mma : Bool) : State :=
  let ks := gs.flatMap fun g => (List.range 16).map fun t => 17 * g + (s.clu g).phys t
  let s := s.each ks fun s k => s.onTile k fun x => { x with st := .idle }
  let s := if flagged = 0 then s else spreadCount ks flagged s
  let s := if flags &&& 14 = 0 then s else spreadBits (fun s k m => s.onTile k fun x => x.flag m) (flags &&& 14) ks 0 s
  if !mma then s else s.each ks fun s k =>
    let d := s.draw
    d.2.onTile k fun x => { x with mmaBusy := wrapAdd 32 x.mmaBusy (d.1 % 2 ^ 32), zskip := wrapAdd 32 x.zskip (d.1 / 2 ^ 32 % 2 ^ 32) }
/-- The scorecards of a stock kernel set TILE_CLU_SC_FLAGS of the clusters they stood in (R160). -/
def State.cardsRan (s : State) (gs : List Nat) (range count : Bool) : State :=
  let m := b2n range + 2 * b2n count
  if m = 0 then s else spreadBits (fun s g m => s.onClu g fun c => { c with scFlags := c.scFlags ||| m }) m gs 0 s

/-- Run a stock kernel's function on what it sees (R201). -/
def kernelFn (k : Nat) (v : KEnv) : TRes KRes :=
  match k with
  | 2 => kTopkGate v
  | 3 => kGather v
  | 4 => kAttn v
  | 6 => kBsgemm v
  | 7 => kSparseAccum v
  | _ => kConvert v
/-- The K a stock kernel's matrix has, for the passes over it (R225). -/
def kernelK (v : Inv) : Nat := if v.kernel = 6 then field v.args 8 4 else if v.kernel = 4 then field v.args 4 2 else 0
/-- Record the pages a ZERO_SCAN found zero; a page that cannot be recorded keeps its state and its bit is 0 (R79, R240). -/
def State.recordZeros (s : State) (v : Inv) (ps : List Nat) : State × List Nat :=
  ps.foldl (fun x p =>
    match v.wins[field v.args 12 1]? with
    | some b => match x.1.zeroPage b.ext (b.offset / 65536 + p) false with
      | some s => (s, x.2)
      | none => (x.1, p :: x.2)
    | none => x) (s, [])
/-- A bitmap without some of its bits. -/
def clearBits (l : List Byte) (ps : List Nat) : List Byte :=
  ps.foldl (fun l p => setAt l (p / 8) (BitVec.ofNat 8 (setBits (field l (p / 8) 1) (p % 8) 1 0))) l
/-- The windows of an invocation as a reader that stops, with code 0, at the first range that holds a line a host has
modified (R185). -/
def State.kenvFresh (s : State) (v : Inv) : KEnv :=
  { s.kenv v with
    rd := fun i o n =>
      if (s.modified v fun j l m => j == i && decide (l < o + n) && decide (o < l + m)).isEmpty then s.readWin v i o n
      else .error { code := 0, addr := o, win := i, arg0 := n } }
/-- The lines a stock kernel's reads meet that hosts have modified: they are recalled before it runs (R185). -/
def State.kernelStale (s : State) (v : Inv) : List (Nat × Nat × Nat) :=
  let near (ys : List (Nat × Nat × Nat)) : List (Nat × Nat × Nat) :=
    s.modified v fun i o n => ys.any fun y => y.1 == i && decide (y.2.1 < o + n) && decide (o < y.2.1 + y.2.2)
  match kernelFn v.kernel (s.kenv v) with
  | .ok x => near x.reads
  | .error _ =>
    match kernelFn v.kernel (s.kenvFresh v) with
    | .error f => if f.code = 0 then near [(f.win, f.addr, f.arg0)] else []
    | .ok _ => []
/-- A work item of a stock kernel starts and ends: its zero pages are recorded, its stores land, and its results or its
fault go out (R204, R210 to R213, R240; log 46). -/
def State.runStock (s : State) (k : Nat) : State :=
  match s.inv k with
  | none => s
  | some v =>
    let g := (v.reserved.head?).getD 0
    let st := Settings.ofBytes v.settings
    let d := s.draw
    let s := d.2.count (g / 16) v.ptn 8 (d.1 % 2 ^ 32)
    match kernelFn v.kernel (s.kenv v) with
    | .error f =>
      let r := ((s.faultFx v g f).tilesRan v.reserved 0 0 false).kernelReport f v.kernel v.reserved.zipIdx
      r.2.faultInv k r.1
    | .ok x =>
      let s := s.each x.reads fun s y => s.readWinFx v g y.1 y.2.1 y.2.2
      -- a store past its window's LENGTH (R183)
      match x.writes.find? fun w => decide ((v.win w.1).2.2 < w.2.1 + w.2.2.length) with
      | some w =>
        let r := s.kernelReport { code := fBounds, addr := w.2.1, win := w.1 } v.kernel []
        r.2.faultInv k r.1
      | none =>
      let z := s.recordZeros v x.zeroPages
      let s := z.1.storeAll k g (if z.2.isEmpty then x.writes else x.writes.map fun w => (w.1, w.2.1, clearBits w.2.2 z.2))
      let s := (s.tilesRan v.reserved x.flags x.flagged (x.ops != 0)).cardsRan v.reserved (bit x.flags 1) x.scCount
      let s := s.countOps g v.ptn st.aFmt (if v.kernel = 4 then st.aFmt else st.wFmt) x.ops
      let p := if x.ops = 0 then 0 else Config.kPasses v.kernel (kernelK v)
      let s := if p = 0 then s else s.bump .dealKsplit v.ptn
      let out := (x.writes.map fun w => w.2.2.length).sum + x.rewrites
      let s := s.onInv k fun v => { v with flags := setBits (v.flags ||| x.flags) 5 1 (b2n (p != 0)), flagged := v.flagged + x.flagged
                                           ops := v.ops + x.ops, bytesIn := v.bytesIn + x.bytesIn, bytesOut := v.bytesOut + out
                                           passes := p + 1 }
      match x.fault with
      | some f =>
        let r := s.kernelReport f v.kernel v.reserved.zipIdx
        r.2.faultInv k r.1
      | none => s.finishInv k

/-! ### Loaded images -/

/-- The invocation block (R182, R204). -/
def Inv.block (v : Inv) : List Byte :=
  let w (i : Nat) : List Byte :=
    match v.wins[i]? with
    | none => zeros 32
    | some b => le 8 (v.win i).2.2 ++ le 4 b.ext ++ le 1 b.rights ++ zeros 3 ++ le 8 b.offset ++ zeros 8
  v.settings ++ le 4 v.args.length ++ zeros 12 ++ (List.range 16).flatMap w ++ padTo 3552 v.args

/-- Prepare one tile for an image and start its program (R162, R199). -/
def prepTile (im : Image) (v : Inv) (k rank t now : Nat) (x : Tile) : Tile :=
  let scr := if bit im.flags 1 then x.scratch else Mem.clear x.scratch 0 im.scratchBytes
  { x with
    st := .running
    v := []
    s := Tab.set 0#64 (Tab.set 0#64 (Tab.set 0#64 (Tab.set 0#64 [] 0 (BitVec.ofNat 64 t)) 1 (BitVec.ofNat 64 rank)) 2
      (BitVec.ofNat 64 v.reserved.length)) 3 (BitVec.ofNat 64 v.tiles)
    a := [(0, 0x001FF000#32)]
    p := 0#8
    lc := []
    loops := []
    pc := im.entry
    aset := Settings.ofBytes v.settings
    win := []
    current := none
    standby := none
    scratch := Mem.writes zeroByte scr im.constAddr im.consts
    inv := v.block
    streams := []
    wait := .none
    invKey := some k
    rank := rank
    ranks := v.reserved
    scratchBytes := im.scratchBytes
    csBytes := im.csBytes
    cards := im.cards
    code := im.code
    imem := im.handle
    imemPtn := im.ptn
    invFlags := 0
    invFlagged := 0
    bytesIn := 0
    bytesOut := 0
    ops := 0
    startNow := now
    report := none }
/-- A cluster's preparation ends and its tiles start (R162, R199). -/
def State.prepared (s : State) (g : Nat) : State :=
  match s.deal.invs.find? fun e => e.2.prep.contains g with
  | none => s
  | some (k, v) =>
    match s.image v.ptn v.kernel with
    | none => s
    | some im =>
      if !(s.clu g).clockRun || (s.clu g).clearing then s else
      let rank := v.reserved.idxOf g
      let s := s.onClu g fun c =>
        { c with store := if bit im.flags 2 then c.store else Mem.clear c.store 0 im.csBytes
                 cards := if bit im.flags 3 then c.cards else c.cards.filter fun e => decide (im.cards ≤ e.1) }
      let s := s.each (List.range v.tiles) fun s t =>
        s.onTile (17 * g + (s.clu g).phys t) (prepTile im v k rank t s.now)
      (s.onInv k fun v => { v with prep := v.prep.erase g
                                   startedAt := if v.startedAt = 0 then s.now else v.startedAt }).lead g

/-- TILE_PREPARATION_DONE (R199). -/
def execTilePreparationDone (g : Clu) (s : State) : Host.Outcome State Fault Refusal := .next (s.prepared g)

/-- An invocation of a loaded image ends once every tile that runs it has halted; a tile that faulted has not (R189,
R190). -/
def State.haltedInv (s : State) (k : Nat) : State :=
  match s.inv k with
  | none => s
  | some v =>
    if v.st == .running && v.prep.isEmpty && (s.tilesOf v).all fun x => (s.tile x.1).st == .idle then s.finishInv k else s

/-! ### Collectives (R234, R235) -/

/-- Where the arguments of an EXACT_REDUCE first break their limits (R204, R234). -/
def reduceArgs (e : KEnv) (owned : Nat) : TRes Unit :=
  let parties := e.arg 4 2
  let rank := e.arg 6 2
  let n := e.arg 8 4
  let fmt := e.arg 12 1
  let mode := e.arg 13 1
  let ow := e.arg 14 1
  let m := if mode = 1 then n / max 1 parties else n
  let need := roundUp (elemBytes e.st.outFmt m) 64 + scaleBytes e.st.outFmt m
  match checks
    [argOk (decide (2 ≤ parties ∧ parties ≤ 4096)) 4, argOk (decide (rank < parties)) 6,
     argOk (decide (1 ≤ n ∧ n ≤ 16384 * owned ∧ (mode ≠ 1 ∨ n % parties = 0)) && e.winOk e.inWin true false (elemBytes fmt n)) 8,
     argOk (decide (fmt = 0x12 ∨ fmt = 0x10 ∨ fmt = 0x11 ∨ fmt = 0x13)) 12, argOk (decide (mode ≤ 1)) 13,
     argOk ((decide (ow = 0xFF) || (e.winOk ow false true need && ow != e.outWin))
       && (decide (ow ≠ 0xFF ∧ e.outWin = 0xFF) || e.winOk e.outWin false true need)) 14] with
  | .error f => .error f
  | .ok () => outOk e.st m
/-- The first field in which a contribution differs from its collective's first (R235). -/
def reduceDiffers (e : KEnv) (c : Coll) : Option TileFault :=
  let f := Settings.ofBytes c.settings
  let at' (o : Nat) : TileFault := { code := fParam, addr := o }
  let set (o : Nat) : TileFault := at' (2 ^ 63 + o)
  if e.arg 4 2 ≠ c.parties then some (at' 4) else if e.arg 8 4 ≠ c.elems then some (at' 8)
  else if e.arg 12 1 ≠ c.inFmt then some (at' 12) else if e.arg 13 1 ≠ c.mode then some (at' 13)
  else if e.st.outFmt ≠ f.outFmt then some (set 2)
  else if e.st.round ≠ f.round || e.st.sat != f.sat then some (set 3)
  else if f.round = 1 && field (e.st.bytes) 4 2 ≠ field c.settings 4 2 then some (set 4)
  else if f.round = 1 && field (e.st.bytes) 8 8 ≠ field c.settings 8 8 then some (set 8)
  else if Tab.has c.ranks (e.arg 6 2) then some (at' 6)
  else none

/-- The result bytes of a rounded row: elements, then MX scales at the next 64 B. -/
def OutRow.dense (r : OutRow) : List Byte :=
  if r.scales.isEmpty then r.bytes else padTo (roundUp r.bytes.length 64) r.bytes ++ r.scales
/-- A collective with every rank in delivers its sum and ends: each party its own elements, with their flags (R212, R235). -/
def State.closeColl (s : State) (ck : Nat) : State :=
  match Tab.get? s.deal.colls ck with
  | none => s
  | some c =>
    if c.ranks.length < c.parties then s else
    let st := Settings.ofBytes c.settings
    let cards := tabulate c.elems fun j => (s.clu ((c.clusters[j / 16384]?).getD 0)).card (j % 16384)
    let s := s.tilesRan c.clusters (cardRow st 0 cards).flags 0 false
    let s := s.each c.clusters fun s g => s.onClu g fun x => { x with cards := [] }
    let s := s.onDeal fun d => { d with colls := Tab.del d.colls ck }
    s.each c.ranks fun s x =>
      match s.inv x.2 with
      | none => s
      | some v =>
        let n := if c.mode = 1 then c.elems / c.parties else c.elems
        let a := if c.mode = 1 then x.1 * n else 0
        let own := (cards.drop a).take n
        let row := cardRow st a own
        let data := row.dense
        let ow := field v.args 14 1
        let s := if ow = 0xFF then s else s.storeAll x.2 ((c.clusters.head?).getD 0) [(ow, 0, data)]
        let s := s.onInv x.2 fun v => { v with flags := v.flags ||| row.flags ||| cardFlags own
                                               bytesOut := v.bytesOut + (if ow = 0xFF then 0 else data.length)
                                                 + (if v.outputBytes = 0 then 0 else data.length)
                                               output := if v.outputBytes = 0 then v.output else Mem.writes zeroByte v.output 0 data }
        s.finishInv x.2
/-- A ready EXACT_REDUCE contribution: it opens its collective, joins it, or waits (R234, R235). -/
def State.contribute (s : State) (k : Nat) : State :=
  match s.inv k with
  | none => s
  | some v =>
    let e := s.kenv v
    let own := s.owned v.ptn
    let fail (s : State) (f : TileFault) : State :=
      let r := s.kernelReport f v.kernel []
      r.2.faultInv k r.1
    match reduceArgs e own.length with
    | .error f => fail s f
    | .ok () =>
      match s.deal.colls.find? fun c => c.2.ptn == v.ptn && c.2.id == e.arg 0 4 with
      | none =>
        let open' := s.deal.colls.filter fun c => c.2.ptn == v.ptn
        let need := ceilDiv (e.arg 8 4) 16384
        if 16 ≤ open'.length || own.length < need + (open'.map fun c => ceilDiv c.2.elems 16384).sum then s
        else s.onDeal fun d =>
          { d with nextColl := d.nextColl + 1
                   colls := Tab.put d.colls d.nextColl
                     { ptn := v.ptn, id := e.arg 0 4, parties := e.arg 4 2, elems := e.arg 8 4, inFmt := e.arg 12 1, mode := e.arg 13 1
                       settings := v.settings, clusters := [], opener := k, openedAt := s.now } }
      | some (ck, c) =>
        match reduceDiffers e c with
        | some f => fail s f
        | none =>
          if c.clusters.length < ceilDiv c.elems 16384 || c.clusters.any fun g => !(s.clu g).clockRun || (s.clu g).clearing then s
          else match e.rd v.inputWin 0 (elemBytes c.inFmt c.elems) with
            | .error f => fail s f
            | .ok l =>
              let s := s.each (unpackCodes (fmtBits c.inFmt) c.elems l).zipIdx fun s x =>
                s.onClu ((c.clusters[x.2 / 16384]?).getD 0) fun y => y.contrib (x.2 % 16384) fun z => addCode c.inFmt z x.1
              let s := (s.tilesRan c.clusters 0 0 false).onInv k fun v => { v with st := .joined, bytesIn := v.bytesIn + l.length }
              (s.onDeal fun d => { d with colls := Tab.modify d.colls ck fun c => { c with ranks := Tab.put c.ranks (e.arg 6 2) k } }).closeColl ck

/-- COLLECTIVE_TIME_LIMIT: every party, joined or waiting to join, ends with a LIMIT report and the scorecards are cleared
(R235). -/
def execCollectiveTimeLimit (k : BitVec 32) (s : State) : Host.Outcome State Fault Refusal :=
  match Tab.get? s.deal.colls k.toNat with
  | none => .next s
  | some c =>
    if !(s.past c.openedAt (s.reg .dealTlimit c.ptn * usec)) then .next s else
    let s := s.each c.clusters fun s g => s.onClu g fun x => { x with cards := [] }
    let s := s.onDeal fun d => { d with colls := Tab.del d.colls k.toNat }
    let waits := (s.invsOf c.ptn).filter fun e => e.2.kernel == 5 && e.2.st == .ready && field e.2.args 0 4 == c.id
    .next (s.each (c.ranks.map Prod.snd ++ waits.map Prod.fst) fun s k => s.faultInv k (dealerReport { code := fLimit } 5))

/-! ### Dealing work items (R209, R238) -/

/-- The dealing order: ready time in NCLK cycles, then SRC, then TAG (R209). -/
def Inv.before (a b : Inv) : Bool :=
  let x := (a.readyAt / 40, a.req.src.toNat, a.req.tg)
  let y := (b.readyAt / 40, b.req.src.toNat, b.req.tg)
  decide (x.1 < y.1 ∨ (x.1 = y.1 ∧ (x.2.1 < y.2.1 ∨ (x.2.1 = y.2.1 ∧ x.2.2 < y.2.2))))
def insertInv (x : Nat × Inv) : List (Nat × Inv) → List (Nat × Inv)
  | [] => [x]
  | y :: ys => if x.2.before y.2 then x :: y :: ys else y :: insertInv x ys
/-- Ready invocations of a partition in dealing order. -/
def State.readyInvs (s : State) (q : Nat) : List (Nat × Inv) :=
  ((s.invsOf q).filter fun e => e.2.st == .ready).foldl (fun l e => insertInv e l) []
/-- Clusters a work item needs (R209). -/
def State.wants (s : State) (v : Inv) : Nat :=
  let n := (s.owned v.ptn).length
  if v.clusters = 0 then n else min v.clusters n
/-- The accumulator range of a SPARSE_ACCUM (R237). -/
def Inv.accRange (v : Inv) : Option Binding := if v.kernel = 7 then v.wins[field v.args 12 1]? else none
/-- Whether an earlier-ready invocation's accumulators overlap (R238). -/
def State.accBlocked (s : State) (v : Inv) : Bool :=
  match v.accRange with
  | none => false
  | some b => (s.invsOf v.ptn).any fun e => e.2.st == .ready && e.2.before v &&
      e.2.accRange.elim false fun c => c.ext == b.ext && decide (c.offset < b.offset + b.length) && decide (b.offset < c.offset + c.length)

/-- Reserve idle clusters for the waiting items in dealing order (R209, R234). -/
def State.reserveAll (s : State) (q : Nat) : State :=
  s.each (s.readyInvs q) fun s x =>
    let free := (s.owned q).filter s.idleClu
    if x.2.kernel = 1 then s
    else if x.2.kernel = 5 then
      let s := s.contribute x.1
      let id := field x.2.args 0 4
      s.each (s.deal.colls.filter fun c => c.2.ptn == q && c.2.id == id) fun s c =>
        let got := ((s.owned q).filter s.idleClu).take (ceilDiv c.2.elems 16384 - c.2.clusters.length)
        if got.isEmpty then s else
        let s := s.each got fun s g => s.onClu g fun x => { x with cards := [] }
        let all := (s.owned q).filter fun g => got.contains g || c.2.clusters.contains g
        ((s.onDeal fun d => { d with colls := Tab.modify d.colls c.1 fun y => { y with clusters := all } }).wakeClus got).contribute x.1
    else if s.accBlocked x.2 then s
    else
      let got := free.take (s.wants x.2 - x.2.reserved.length)
      let all := (s.owned q).filter fun g => got.contains g || x.2.reserved.contains g
      (s.onInv x.1 fun v => { v with reserved := all }).wakeClus got
/-- Whether an item holds its clusters, awake, and can start. -/
def State.startable (s : State) (v : Inv) : Bool :=
  v.kernel != 1 && v.kernel != 5 && v.st == .ready && decide (0 < v.reserved.length) && decide (s.wants v ≤ v.reserved.length)
    && v.reserved.all (fun g => (s.clu g).clockRun && !(s.clu g).clearing) && !(s.accBlocked v)
/-- WORK_ITEM_DEAL: idle clusters go to the waiting items in order, and the first that holds all it needs starts on them
(R209, R234, R238). -/
def execWorkItemDeal (q : Ptn) (s : State) : Host.Outcome State Fault Refusal :=
  let s := s.reserveAll q
  match (s.readyInvs q).find? fun x => s.startable x.2 with
  | none => .next s
  | some (k, v) =>
    let s := s.each v.reserved fun s g => s.lead g
    if v.kernel < 0x8000 then
      match s.homeCopies (s.kernelStale v) with
      | (s, false) => .next s.dirRun
      | (s, true) => .next (s.runStock k)
    else .next (s.onInv k fun v => { v with st := .running, prep := v.reserved })

/-! ### Baskets (R216 to R220, R224, R228) -/

/-- The token entries of the ready MOE_FFN invocations of a partition enter baskets, invocations in the order of R209, after
the baskets of unloaded models have closed (R215, R216, R218). -/
def State.enterTokens (s : State) (q : Nat) : State :=
  let s := s.closeDue q
  s.each ((s.readyInvs q).filter fun e => e.2.kernel == 1) fun s e => s.enterEntries e.1 q e.2.model e.2.todo
/-- The dealer's standing work for a partition: INVOKEs that waited go on and token entries enter baskets (R215, R218). -/
def State.dealStep (s : State) (q : Nat) : State := (s.retryInvokes q).enterTokens q

/-- BASKET_DEADLINE: an open basket past its deadline closes, once its partition holds fewer than 1,024 closed ones (R216,
R218). -/
def execBasketDeadline (k : BitVec 32) (s : State) : Host.Outcome State Fault Refusal :=
  match Tab.get? s.deal.baskets k.toNat with
  | some b =>
    let s := s.dealStep b.ptn
    let b := (Tab.get? s.deal.baskets k.toNat).getD b
    if b.closed || s.now < b.deadline || 1024 ≤ s.queuedBaskets b.ptn then .next s
    else .next ((s.closeBasket k.toNat).bump .dealCloseDeadline b.ptn)
  | none => .next s

/-- The first in closing order among some baskets. -/
def firstClosed (l : Tab Basket) : Option (Nat × Basket) :=
  l.foldl (fun (b : Option (Nat × Basket)) e =>
    match b with
    | none => some e
    | some x => if e.2.order < x.2.order then some e else b) none
/-- Tokens queued on a cluster (R217). -/
def State.queuedTokens (s : State) (g : Nat) : Nat :=
  ((s.deal.baskets.filter fun b => b.2.cluster == some g).map fun b => b.2.entries.length).sum
/-- Whether an expert's weights are in DRAM (R223, R224). -/
def Model.hasExpert (m : Model) (e : Nat) : Bool := m.resident.contains e || m.cache.contains e
/-- Start an expert's promotion into the cache (R224). -/
def State.promoteExpert (s : State) (q model e : Nat) : State :=
  match s.model q model with
  | none => s
  | some m =>
    if m.promoting.contains e then s else
    let die := ((s.ptn q).channels.head?).elim 0 dieOf
    let s := s.onModel q model fun m => { m with promoting := m.promoting ++ [e] }
    s.flashOp (die * 8 + e % 8) { op := .expert model e, ptn := q, prio := 3, since := s.now }
/-- A basket whose expert is not in DRAM waits for its promotion: FLAGS[6] of every invocation with a token in it (R224). -/
def State.basketWaits (s : State) (b : Basket) : State :=
  (s.each (b.entries.map Prod.fst).eraseDups fun s k => s.onInv k fun v => { v with flags := v.flags ||| 64 }).promoteExpert b.ptn b.model b.expert
/-- BASKET_DEAL: the oldest closed basket not yet dealt goes to the slot cluster with the fewest tokens queued (R217,
R224). -/
def execBasketDeal (q : Ptn) (s : State) : Host.Outcome State Fault Refusal :=
  let s := s.dealStep q
  let slotsOf (b : Basket) : List Nat := ((s.model b.ptn b.model).elim [] fun m => Tab.getD m.slots b.expert []).filter fun g => !(s.clu g).lost && !(s.isDeferred 0x0106 g)
  match firstClosed (s.deal.baskets.filter fun b => b.2.ptn == q.val && b.2.closed && b.2.cluster.isNone && !(slotsOf b.2).isEmpty) with
  | none => .next s
  | some (k, b) =>
    let g := ((s.owned q).filter (slotsOf b).contains).foldl (fun (a : Option Nat) g =>
      match a with
      | none => some g
      | some x => if s.queuedTokens g < s.queuedTokens x then some g else a) none
    match g, s.model b.ptn b.model with
    | some g, some m =>
      let n := s.deal.nextDeal
      let s := s.onDeal fun d => { d with baskets := Tab.put d.baskets k { b with cluster := some g }, nextDeal := n + 1 }
      let s := (s.onModel b.ptn b.model fun m => { m with dealt := Tab.put m.dealt b.expert n }).wakeClus [g]
      .next (if m.hasExpert b.expert then s else s.basketWaits b)
    | _, _ => .next s

/-- A promoted expert takes its place in the cache of two, that of the least recently dealt one when it is full (R223,
R224). No basket runs between commands. -/
def Model.promoted (m : Model) (e : Nat) : Model :=
  let least := m.cache.foldl (fun (a : Option Nat) x =>
    match a with
    | none => some x
    | some y => if Tab.getD m.dealt x 0 < Tab.getD m.dealt y 0 then some x else a) none
  { m with cache := (if 2 ≤ m.cache.length then m.cache.erase (least.getD 0) else m.cache) ++ [e], promoting := m.promoting.erase e }
/-- EXPERT_PROMOTION_DONE: an expert is in the cache, in place of the least recently dealt one (R224). -/
def execExpertPromotionDone (q : Ptn) (model expert : BitVec 16) (s : State) : Host.Outcome State Fault Refusal :=
  let isIt (r : FlReq) : Bool := match r.op with | .expert m e => m == model.toNat && e == expert.toNat && r.ptn == q.val | _ => false
  match (List.range 32).findSome? fun c => (s.takeOp c isIt).map fun x => (c, x.2) with
  | none => .next s
  | some (f, s) =>
    let s := s.onModel q model.toNat fun m => m.promoted expert.toNat
    .next (s.bump .flChReads f)

/-- The channels of a partition that have failed or met an uncorrectable line. -/
def State.hurtChans (s : State) (q : Nat) : List Nat :=
  (s.ptn q).channels.filter fun c => (s.chan c).failed || s.reg .eccChUncorr c != 0
/-- The code a read of an expert's weights faults with, 0 for none: weights on a channel that lost lines may be lost, which
ones is the device's layout (R220; log 22). -/
def State.weightFault (s : State) (m : Model) (e : Nat) : Nat :=
  let hurt := s.hurtChans m.ptn
  if hurt.isEmpty then 0 else
  match Config.weightsLost (m.ptn * 65536 + m.handle) e hurt % 3 with
  | 1 => fData
  | 2 => fPoison
  | _ => 0
/-- A reader of one expert's bytes in the model area (R221). -/
def State.expertReader (s : State) (m : Model) (e : Nat) : Reader := fun o n =>
  let f := s.weightFault m e
  if f = 0 then .ok (Mem.reads zeroByte m.experts (e * m.hdr.expertBytes + o) n) else .error { code := f }
/-- One token of a basket through its expert: its transfer, or its share of the token's scorecards (R226, R228). -/
def State.runToken (s : State) (m : Model) (g e k tok w : Nat) : State × Option TileFault :=
  match s.inv k with
  | none => (s, none)
  | some v =>
    let st := Settings.ofBytes v.settings
    let env := s.kenv v
    match moeToken env m.hdr (env.arg 2 1) (env.arg 3 1) (env.arg 9 1) tok with
    | .error f => (s, some f)
    | .ok x =>
      match expertToken m.hdr st (s.expertReader m e) tok x.codes x.scales with
      | .error f => (s, some f)
      | .ok (ws, fl, mid) =>
        let ops := 2 * m.hdr.dModel * m.hdr.dFf * (if m.hdr.gated then 3 else 2)
        let d := s.draw
        let s := (d.2.countOps g v.ptn st.aFmt st.wFmt ops).count (g / 16) v.ptn 8 (d.1 % 2 ^ 32)
        let exc := (ws.filter Window.exceeded).length
        let left := Tab.getD v.tokLeft tok 0
        let comb := env.arg 8 1 = 1
        let v := { v with left := v.left - 1, tokLeft := Tab.put v.tokLeft tok (left - 1), ops := v.ops + ops
                          bytesIn := v.bytesIn + m.hdr.expertBytes, flagged := v.flagged + exc + fl
                          flags := v.flags ||| b2n (exc + fl != 0) ||| mid }
        let s := s.tilesRan [g] mid (exc + fl) true
        if comb then
          let old := Tab.getD v.tokAcc tok (List.replicate m.hdr.dModel {})
          let cs := List.zipWith (fun (c : Card) (y : Window) => c.addF (f32 (fmul (BitVec.ofNat 32 w) (fl32 y.xval)))) old ws
          if left = 1 then
            let row := cardRow st (tok * m.hdr.dModel) cs
            let s := (s.tilesRan [g] (row.flags ||| cardFlags cs) 0 false).onInv k fun _ =>
              { v with tokAcc := Tab.del v.tokAcc tok, cut := v.cut - 1, flags := v.flags ||| row.flags ||| cardFlags cs }
            let w := Config.combinedWeight (x.experts.map fun e => e.2.toNat)
            (s.sendResult k 2 (x.tag + 0xFFFF * 2 ^ 32) (w % 2 ^ 32) (row.bytes ++ row.scales), none)
          else (s.onInv k fun _ => { v with tokAcc := Tab.put v.tokAcc tok cs }, none)
        else
          let row := roundRow st st.outFmt (tok * m.hdr.dModel) (ws.map Window.xval)
          let s := (s.tilesRan [g] row.flags 0 false).onInv k fun _ => { v with cut := if left = env.arg 3 1 then v.cut - 1 else v.cut, flags := v.flags ||| row.flags }
          (s.sendResult k 2 (x.tag + e * 2 ^ 32) w (row.bytes ++ row.scales), none)
/-- The time limit of an invocation in µs (R194, R195, R208, R241). -/
def State.limitUs (s : State) (v : Inv) : Nat :=
  if v.kernel < 0x8000 then s.reg .dealTlimit v.ptn else (s.image v.ptn v.kernel).elim 0 (·.timeLimit)
/-- Run a basket's tokens in order: a WINDOW fault ends its owner, any other every invocation in the basket (R220). -/
def State.runEntries (s : State) (m : Model) (g : Nat) (b : Basket) : List ((Nat × Nat) × Nat) → State
  | [] => s
  | x :: xs =>
    match s.runToken m g b.expert x.1.1 x.1.2 x.2 with
    | (s, none) =>
      let s := if (s.inv x.1.1).elim false fun v => v.left == 0 then s.finishInv x.1.1 else s
      State.runEntries s m g b xs
    | (s, some f) =>
      let r := s.kernelReport f 1 [(g, (s.owned b.ptn).idxOf g)]
      if f.code = fWindow then State.runEntries (r.2.faultInv x.1.1 r.1) m g b xs
      else r.2.each ((b.entries.map Prod.fst).eraseDups) fun s k => s.faultInv k r.1
/-- A basket starts on a cluster: when one of its invocations has run for longer than the time limit since its first basket
started, LIMIT ends every invocation in it, else its tokens run (R194, R220; log 145). -/
def State.runBasket (s : State) (m : Model) (g : Nat) (b : Basket) : State :=
  let ks := (b.entries.map Prod.fst).eraseDups
  let late := ks.any fun k => (s.inv k).elim false fun v => v.startedAt != 0 && s.past v.startedAt (s.limitUs v * usec)
  if late then s.each ks fun s k => s.faultInv k (dealerReport { code := fLimit } 1)
  else
    let s := s.each ks fun s k => s.onInv k fun v => { v with startedAt := if v.startedAt = 0 then s.now else v.startedAt }
    s.runEntries m g b (b.entries.zip b.weights)
/-- BASKET_START: a cluster runs the first of its queued baskets, once it is free and the expert is in DRAM; an expert that has
left the cache since the basket was dealt is promoted again (R217, R219, R224, R228; log 46). -/
def execBasketStart (g : Clu) (s : State) : Host.Outcome State Fault Refusal :=
  match firstClosed (s.deal.baskets.filter fun b => b.2.cluster == some g.val) with
  | none => .next s
  | some (k, b) =>
    match s.model b.ptn b.model with
    | none => .next s
    | some m =>
      if !(m.hasExpert b.expert) then .next (s.basketWaits b)
      else if !(s.idleClu g) || !(s.clu g).clockRun then .next s else
      let s := (s.onDeal fun d => { d with baskets := Tab.del d.baskets k }).lead g
      .next (((s.runBasket m g b).unloads b.ptn).dealStep b.ptn)

/-! ### Time limits and faults of tiles (R190 to R194, R208) -/

/-- The report of a tile's fault, and how many tiles of the invocation have faulted (R192). -/
def State.tileReport (s : State) (v : Inv) (x : Nat × Nat × Nat) (f : TileFault) : List Byte :=
  let t := s.tile x.1
  let n := ((s.tilesOf v).filter fun y => (s.tile y.1).report.isSome).length
  reportBytes f (decide (1 < n)) x.2.2 x.2.1 t.faultPc v.kernel t.faultInstr n ((t.faultAt - t.startNow) / 80)
/-- INVOCATION_FAULT_STOP: the dealer receives a tile's fault, stops the other tiles and ends the invocation. Of the faults of
one NCLK cycle the report takes that of the lowest rank, then of the lowest tile (R190, R192, R193). -/
def execInvocationFaultStop (g : Clu) (t : Til) (s : State) : Host.Outcome State Fault Refusal :=
  let x := s.tile (17 * g.val + (s.clu g).phys t)
  match x.report, x.invKey with
  | some f, some k =>
    match s.inv k with
    | some v =>
      let y := ((s.tilesOf v).find? fun y => (s.tile y.1).report.isSome && (s.tile y.1).invKey == some k
        && decide ((s.tile y.1).faultAt / 40 = x.faultAt / 40)).getD (17 * g.val + (s.clu g).phys t, v.reserved.idxOf g.val, t.val)
      .next (s.faultInv k (s.tileReport v y (((s.tile y.1).report).getD f)))
    | none => .next s
  | _, _ => .next s
/-- A fault of a tile, kept for the dealer. -/
def Tile.limitFault (now : Nat) (x : Tile) (pc : Nat) (f : TileFault) : Tile :=
  { ({ x with pc := pc }.faulted ((x.code[pc]?).getD 0) f) with report := some f, faultAt := now }
/-- INVOCATION_TIME_LIMIT: an invocation whose input is late ends with a LIMIT report of the dealer; one whose tiles run
too long raises LIMIT on each of them and reports the lowest ranked (R194, R208). -/
def execInvocationTimeLimit (k : BitVec 32) (s : State) : Host.Outcome State Fault Refusal :=
  match s.inv k.toNat with
  | none => .next s
  | some v =>
    let lim := s.limitUs v * usec
    if v.st = .input && s.past v.acceptedAt lim then .next (s.faultInv k.toNat (dealerReport { code := fLimit } v.kernel))
    else if v.st = .running && v.startedAt ≠ 0 && s.past v.startedAt lim then
      let run := (s.tilesOf v).filter fun x => (s.tile x.1).st == .running && (s.tile x.1).invKey == some k.toNat
      match run with
      | [] => .next s
      | x :: _ =>
        let s := s.each run fun s x => s.onTile x.1 fun t => t.limitFault s.now t.pc { code := fLimit }
        .next (s.faultInv k.toNat (s.tileReport v x { code := fLimit }))
    else .next s

/-! ### Streams and barriers (R178, R183 to R187) -/

/-- Whether a tile side of a stream is 64 B-aligned. -/
def al64 (a n : Nat) : Bool := decide (a % 64 = 0) && decide (n % 64 = 0)
/-- The fault of one side of a row in a stage of R183: 0 its bounds, 1 its rights, 2 its alignment. -/
def Tile.sideFault (t : Tile) (v : Inv) (space win a n : Nat) (write : Bool) (stage : Nat) : Option TileFault :=
  let f (code : Nat) : Option TileFault := some { code := code, addr := a, win := if space = 2 then win else 0xFF }
  let w := v.win win
  match stage with
  | 0 =>
    if space = 2 then (if w.2.2 < a + n then f fBounds else none) else
    match t.locate a n with
    | none => f fBounds
    | some sp => if (sp == .store) != (space == 1) then f fBounds else none
  | 1 =>
    if space = 2 then (if !(if write then w.2.1 else w.1) then f fAccess else none)
    else if write && t.locate a n == some .block then f fAccess else none
  | _ => if (if space = 2 && write then a % 128 ≠ 0 || n % 128 ≠ 0 else !(al64 a n)) then f fMisalign else none
/-- The row factor of row `r` of plane `p`: `none` writes a zero row. ZERO_SRC reads no index; the index list stands in
scratch (R184). -/
def Stream.factor (d : Stream) (t : Tile) (c : Cluster) (p r : Nat) : TRes (Option Nat) :=
  if d.zeroSrc then .ok none
  else if !d.gather then .ok (some r) else
  let a := d.index + 4 * (p * d.rows + r)
  if t.locate a 4 != some .scratch then tfault fBounds a else
  match tread t c a 4 with
  | .error f => .error f
  | .ok l => .ok (if ofLe l = 0xFFFFFFFF then none else some (ofLe l))
/-- Row `i` of a stream, checked: the address it reads, if any, and the address it writes (R183, R184). -/
def Stream.row (d : Stream) (v : Inv) (t : Tile) (c : Cluster) (i : Nat) : TRes (Option Nat × Nat) :=
  let p := i / d.rows
  let r := i % d.rows
  match d.factor t c p r with
  | .error f => .error f
  | .ok x =>
    let src := x.map fun x => (d.src + p * d.srcPlane + x * d.srcRow) % 2 ^ 64
    let dst := (d.dst + p * d.dstPlane + r * d.dstRow) % 2 ^ 64
    let bad (k : Nat) : Option TileFault :=
      (src.bind fun a => t.sideFault v d.srcSpace d.srcWin a d.rowBytes false k).orElse fun _ =>
        t.sideFault v d.dstSpace d.dstWin dst d.rowBytes true k
    match [0, 1, 2].findSome? bad with
    | some f => .error f
    | none => .ok (src, dst)
/-- Source bytes of a checked row (R185). -/
def State.streamSrc (s : State) (v : Inv) (t : Tile) (c : Cluster) (d : Stream) (a : Nat) : TRes (List Byte) :=
  if d.srcSpace = 2 then s.readWin v d.srcWin a d.rowBytes else tread t c a d.rowBytes
/-- Write a checked row's bytes (R183, R185). -/
def State.streamDst (s : State) (k g key : Nat) (d : Stream) (a : Nat) (l : List Byte) : TRes State :=
  if d.dstSpace = 2 then .ok ((s.storeWin k g d.dstWin a l).onTile key fun t => { t with bytesOut := t.bytesOut + l.length })
  else match twrite (s.tile key) (s.clu g) a l with
    | .error f => .error f
    | .ok (t, c) => .ok ((s.onTile key fun _ => t).onClu g fun _ => c)
/-- Copy the rows from number `i` on; a fault leaves the rows before it performed (R184, R190). -/
def streamRows (v : Inv) (k g key : Nat) (d : Stream) : Nat → Nat → State → State × Option TileFault
  | 0, _, s => (s, none)
  | n + 1, i, s =>
    let step : TRes State :=
      match d.row v (s.tile key) (s.clu g) i with
      | .error f => .error f
      | .ok (none, dst) => s.streamDst k g key d dst (zeros d.rowBytes)
      | .ok (some a, dst) =>
        match s.streamSrc v (s.tile key) (s.clu g) d a with
        | .error f => .error f
        | .ok l =>
          let s := if d.srcSpace = 2 then (s.readWinFx v g d.srcWin a d.rowBytes).onTile key
            fun t => { t with bytesIn := t.bytesIn + l.length } else s
          s.streamDst k g key d dst l
    match step with
    | .error f => (s.faultFx v g f, some f)
    | .ok s => streamRows v k g key d n (i + 1) s
/-- The addresses a stream's rows read from its source window, up to the first row that faults (R185). -/
def Stream.reads (d : Stream) (v : Inv) (t : Tile) (c : Cluster) : Nat → Nat → List Nat
  | 0, _ => []
  | n + 1, i =>
    match d.row v t c i with
    | .error _ => []
    | .ok (a, _) => a.toList ++ Stream.reads d v t c n (i + 1)
/-- Whether a stream with these row addresses reads byte range `[o, o + n)` of window `i`. -/
def Stream.touches (d : Stream) (rows : List Nat) (i o n : Nat) : Bool :=
  d.srcSpace == 2 && d.srcWin == i && rows.any fun a => decide (a < o + n) && decide (o < a + d.rowBytes)
/-- STREAM_COMPLETE: an engine's first descriptor runs to its end or its fault, and a tile that waits for engines now
empty goes on (R178, R183 to R185, R190). -/
def execStreamComplete (g : Clu) (t : Til) (e : Fin 4) (s : State) : Host.Outcome State Fault Refusal :=
  let key := 17 * g.val + (s.clu g).phys t
  let x := s.tile key
  match x.st, Tab.getD x.streams e.val [], x.invKey.bind fun k => (s.inv k).map fun v => (k, v) with
  | .running, (pc, l) :: rest, some (k, v) =>
    let d := Stream.ofBytes l
    let fail (s : State) (f : TileFault) : State := s.onTile key fun x => x.limitFault s.now pc f
    if !d.ok then .next (fail s { code := fParam }) else
    match s.homeCopies (s.modified v (d.touches (if d.srcSpace = 2 then d.reads v x (s.clu g) (d.rows * d.planes) 0 else []))) with
    | (s, false) => .next s.dirRun
    | (s, true) =>
      match streamRows v k g key d (d.rows * d.planes) 0 s with
      | (s, some f) => .next (fail s f).dirRun
      | (s, none) =>
        .next ((s.onTile key fun x =>
          let x := { x with streams := Tab.set [] x.streams e.val rest }
          match x.wait with
          | .streams m => if x.drained m then { x with wait := .none } else x
          | _ => x).lead g).dirRun
  | _, _, _ => .next s

/-- The other tiles in the scope of a tile's barrier, as tile keys (R187). -/
def State.scopeOf (s : State) (v : Inv) (g scope : Nat) : List Nat :=
  ((s.tilesOf v).filter fun x => scope == 1 || (v.reserved[x.2.1]?) == some g).map (·.1)
/-- BARRIER_RELEASE: when every tile in scope has arrived at a BAR, the tiles of that barrier go on (R187). -/
def execBarrierRelease (g : Clu) (all : Bool) (s : State) : Host.Outcome State Fault Refusal :=
  match s.deal.invs.find? fun e => e.2.st == .running && e.2.reserved.contains g.val with
  | none => .next s
  | some (_, v) =>
    let sc := b2n all
    let ks := s.scopeOf v g sc
    let at' (x : Tile) : Bool := match x.wait with | .bar .. => true | _ => false
    let mine (x : Tile) : Bool := match x.wait with | .bar c _ => c == sc | _ => false
    if v.prep.isEmpty && ks.all fun k => (s.tile k).st == .running && at' (s.tile k) then
      .next (s.each ks fun s k => if mine (s.tile k) then s.onTile k fun x => { x with wait := .none }.next else s)
    else .next s

end Sys2Proof.Machine
end

