-- ==== Sys2Proof/Machine/Isa.lean ====
section
/-! DEFINITION. The tile instructions: each row issues one word on a running tile at its program counter
(spec/05_tile_programming.md R164 to R191; spec/17_yeltas_meter.md R453). -/
namespace Sys2Proof.Machine

/-- Vector binary32 operations a VEC word performs, an FMA counted as 2 (R452). -/
def flopsOf (cls func : Nat) (w : TileWord) : Nat :=
  if cls = 2 && func ≤ 5 then 64 * 2 ^ wfld w 24 2 * (if func = 0 then 2 else 1) else 0
/-- Take the result of an issue: a fault is kept for the dealer (R190), and what the word performed is metered (R453). -/
def State.issued (s : State) (g t cls func : Nat) (w : TileWord) (r : Comp × Option TileFault) : State :=
  let key := s.comp.key g t
  let x := s.tile key
  let run := decide (x.st = .running ∧ x.wait = .none)
  let s := { s with comp := r.1 }
  match r.2 with
  | some f => s.onTile key fun x => { x with report := some f, faultAt := s.now }
  | none =>
    let q := x.imemPtn
    let s := s.countOps g q x.aset.aFmt x.aset.wFmt ((s.tile key).ops - x.ops)
    let s := if run && legalWord cls func w && x.guard w then s.count (g / 16) q 8 (flopsOf cls func w) else s
    if run then s.lead g else s
/-- Issue a word that steps to the next one. -/
def State.issue (s : State) (g t cls func : Nat) (w : TileWord) (k : TileFn) : State :=
  s.issued g t cls func w (s.comp.issue g t cls func w k)
/-- Issue a word that sets the program counter itself. -/
def State.issueRaw (s : State) (g t cls func : Nat) (w : TileWord) (k : TileFn) : State :=
  s.issued g t cls func w (s.comp.issueRaw g t cls func w k)
/-- Issue a word that contributes to scorecards. -/
def State.issueScore (s : State) (g t func : Nat) (w : TileWord) (k : Tile → TRes (Tile × Nat × List (Card → Card))) : State :=
  s.issued g t 5 func w (s.comp.score g t func w k)

/-- FMA (R169, R170). -/
def execFma (g : Clu) (t : Til) (w : TileWord) (s : State) : Host.Outcome State Fault Refusal :=
  .next (s.issue g t 2 0x00 w (tFma w))

/-- FADD (R169, R170). -/
def execFadd (g : Clu) (t : Til) (w : TileWord) (s : State) : Host.Outcome State Fault Refusal :=
  .next (s.issue g t 2 0x01 w (tFadd w))

/-- FMUL (R169, R170). -/
def execFmul (g : Clu) (t : Til) (w : TileWord) (s : State) : Host.Outcome State Fault Refusal :=
  .next (s.issue g t 2 0x02 w (tFmul w))

/-- FMAX (R169, R170). -/
def execFmax (g : Clu) (t : Til) (w : TileWord) (s : State) : Host.Outcome State Fault Refusal :=
  .next (s.issue g t 2 0x03 w (tFmax w))

/-- FMIN (R169, R170). -/
def execFmin (g : Clu) (t : Til) (w : TileWord) (s : State) : Host.Outcome State Fault Refusal :=
  .next (s.issue g t 2 0x04 w (tFmin w))

/-- FCMP (R169, R170). -/
def execFcmp (g : Clu) (t : Til) (w : TileWord) (s : State) : Host.Outcome State Fault Refusal :=
  .next (s.issue g t 2 0x05 w (tFcmp w))

/-- CVTW (R169, R170). -/
def execCvtw (g : Clu) (t : Til) (w : TileWord) (s : State) : Host.Outcome State Fault Refusal :=
  .next (s.issue g t 2 0x06 w (tCvtw w))

/-- CVTN (R169, R170). -/
def execCvtn (g : Clu) (t : Til) (w : TileWord) (s : State) : Host.Outcome State Fault Refusal :=
  .next (s.issue g t 2 0x07 w (tCvtn w))

/-- FTOI (R169, R170). -/
def execFtoi (g : Clu) (t : Til) (w : TileWord) (s : State) : Host.Outcome State Fault Refusal :=
  .next (s.issue g t 2 0x08 w (tFtoi w))

/-- ITOF (R169, R170). -/
def execItof (g : Clu) (t : Til) (w : TileWord) (s : State) : Host.Outcome State Fault Refusal :=
  .next (s.issue g t 2 0x09 w (tItof w))

/-- IADD (R169, R170). -/
def execIadd (g : Clu) (t : Til) (w : TileWord) (s : State) : Host.Outcome State Fault Refusal :=
  .next (s.issue g t 2 0x10 w (tIadd w))

/-- ISUB (R169, R170). -/
def execIsub (g : Clu) (t : Til) (w : TileWord) (s : State) : Host.Outcome State Fault Refusal :=
  .next (s.issue g t 2 0x11 w (tIsub w))

/-- IMUL (R169, R170). -/
def execImul (g : Clu) (t : Til) (w : TileWord) (s : State) : Host.Outcome State Fault Refusal :=
  .next (s.issue g t 2 0x12 w (tImul w))

/-- AND (R169, R170). -/
def execAnd (g : Clu) (t : Til) (w : TileWord) (s : State) : Host.Outcome State Fault Refusal :=
  .next (s.issue g t 2 0x13 w (tAnd w))

/-- OR (R169, R170). -/
def execOr (g : Clu) (t : Til) (w : TileWord) (s : State) : Host.Outcome State Fault Refusal :=
  .next (s.issue g t 2 0x14 w (tOr w))

/-- XOR (R169, R170). -/
def execXor (g : Clu) (t : Til) (w : TileWord) (s : State) : Host.Outcome State Fault Refusal :=
  .next (s.issue g t 2 0x15 w (tXor w))

/-- SHL (R169, R170). -/
def execShl (g : Clu) (t : Til) (w : TileWord) (s : State) : Host.Outcome State Fault Refusal :=
  .next (s.issue g t 2 0x16 w (tShl w))

/-- SHR (R169, R170). -/
def execShr (g : Clu) (t : Til) (w : TileWord) (s : State) : Host.Outcome State Fault Refusal :=
  .next (s.issue g t 2 0x17 w (tShr w))

/-- SAR (R169, R170). -/
def execSar (g : Clu) (t : Til) (w : TileWord) (s : State) : Host.Outcome State Fault Refusal :=
  .next (s.issue g t 2 0x18 w (tSar w))

/-- IMAX (R169, R170). -/
def execImax (g : Clu) (t : Til) (w : TileWord) (s : State) : Host.Outcome State Fault Refusal :=
  .next (s.issue g t 2 0x19 w (tImax w))

/-- IMIN (R169, R170). -/
def execImin (g : Clu) (t : Til) (w : TileWord) (s : State) : Host.Outcome State Fault Refusal :=
  .next (s.issue g t 2 0x1A w (tImin w))

/-- ICMP (R169, R170). -/
def execIcmp (g : Clu) (t : Til) (w : TileWord) (s : State) : Host.Outcome State Fault Refusal :=
  .next (s.issue g t 2 0x1B w (tIcmp w))

/-- SEL (R169, R170). -/
def execSel (g : Clu) (t : Til) (w : TileWord) (s : State) : Host.Outcome State Fault Refusal :=
  .next (s.issue g t 2 0x1C w (tSel w))

/-- MOV (R169, R170). -/
def execMov (g : Clu) (t : Til) (w : TileWord) (s : State) : Host.Outcome State Fault Refusal :=
  .next (s.issue g t 2 0x1D w (tMov w))

/-- VLD (R169, R170). -/
def execVld (g : Clu) (t : Til) (w : TileWord) (s : State) : Host.Outcome State Fault Refusal :=
  .next (s.issue g t 2 0x20 w (tVld w))

/-- VST (R169, R170). -/
def execVst (g : Clu) (t : Til) (w : TileWord) (s : State) : Host.Outcome State Fault Refusal :=
  .next (s.issue g t 2 0x21 w (tVst w))

/-- SLD (R169, R170). -/
def execSld (g : Clu) (t : Til) (w : TileWord) (s : State) : Host.Outcome State Fault Refusal :=
  .next (s.issue g t 2 0x22 w (tSld w))

/-- SST (R169, R170). -/
def execSst (g : Clu) (t : Til) (w : TileWord) (s : State) : Host.Outcome State Fault Refusal :=
  .next (s.issue g t 2 0x23 w (tSst w))

/-- EXP (R125, R171). -/
def execExp (g : Clu) (t : Til) (w : TileWord) (s : State) : Host.Outcome State Fault Refusal :=
  .next (s.issue g t 3 0 w (tSfu .exp w))

/-- LOG (R125, R171). -/
def execLog (g : Clu) (t : Til) (w : TileWord) (s : State) : Host.Outcome State Fault Refusal :=
  .next (s.issue g t 3 1 w (tSfu .log w))

/-- RCP (R125, R171). -/
def execRcp (g : Clu) (t : Til) (w : TileWord) (s : State) : Host.Outcome State Fault Refusal :=
  .next (s.issue g t 3 2 w (tSfu .rcp w))

/-- RSQRT (R125, R171). -/
def execRsqrt (g : Clu) (t : Til) (w : TileWord) (s : State) : Host.Outcome State Fault Refusal :=
  .next (s.issue g t 3 3 w (tSfu .rsqrt w))

/-- TANH (R125, R171). -/
def execTanh (g : Clu) (t : Til) (w : TileWord) (s : State) : Host.Outcome State Fault Refusal :=
  .next (s.issue g t 3 4 w (tSfu .tanh w))

/-- GELU (R125, R171). -/
def execGelu (g : Clu) (t : Til) (w : TileWord) (s : State) : Host.Outcome State Fault Refusal :=
  .next (s.issue g t 3 5 w (tSfu .gelu w))

/-- PSUMI (R172). -/
def execPsumi (g : Clu) (t : Til) (w : TileWord) (s : State) : Host.Outcome State Fault Refusal :=
  .next (s.issue g t 6 0 w (tPsumi w))

/-- PSUMX (R172). -/
def execPsumx (g : Clu) (t : Til) (w : TileWord) (s : State) : Host.Outcome State Fault Refusal :=
  .next (s.issue g t 6 1 w (tPsumx w))

/-- COMPACT (R172). -/
def execCompact (g : Clu) (t : Til) (w : TileWord) (s : State) : Host.Outcome State Fault Refusal :=
  .next (s.issue g t 6 2 w (tCompact w))

/-- RSUMI (R172). -/
def execRsumi (g : Clu) (t : Til) (w : TileWord) (s : State) : Host.Outcome State Fault Refusal :=
  .next (s.issue g t 6 3 w (tRsumi w))

/-- RMAXF (R172). -/
def execRmaxf (g : Clu) (t : Til) (w : TileWord) (s : State) : Host.Outcome State Fault Refusal :=
  .next (s.issue g t 6 4 w (tRmaxf w))

/-- RMINF (R172). -/
def execRminf (g : Clu) (t : Til) (w : TileWord) (s : State) : Host.Outcome State Fault Refusal :=
  .next (s.issue g t 6 5 w (tRminf w))

/-- RCNT (R172). -/
def execRcnt (g : Clu) (t : Til) (w : TileWord) (s : State) : Host.Outcome State Fault Refusal :=
  .next (s.issue g t 6 6 w (tRcnt w))

/-- RANY (R172). -/
def execRany (g : Clu) (t : Til) (w : TileWord) (s : State) : Host.Outcome State Fault Refusal :=
  .next (s.issue g t 6 7 w (tRany w))

/-- RALL (R172). -/
def execRall (g : Clu) (t : Til) (w : TileWord) (s : State) : Host.Outcome State Fault Refusal :=
  .next (s.issue g t 6 8 w (tRall w))

/-- TOPK_F32 (R126, R173). -/
def execTopkF32 (g : Clu) (t : Til) (w : TileWord) (s : State) : Host.Outcome State Fault Refusal :=
  .next (s.issue g t 4 0 w (tTopk fp32 w))

/-- TOPK_BF16 (R126, R173). -/
def execTopkBf16 (g : Clu) (t : Til) (w : TileWord) (s : State) : Host.Outcome State Fault Refusal :=
  .next (s.issue g t 4 1 w (tTopk ((fmtOf 0x10).getD fp32) w))

/-- WLD (R174, R175). -/
def execWld (g : Clu) (t : Til) (w : TileWord) (s : State) : Host.Outcome State Fault Refusal :=
  .next (s.issue g t 1 0 w (tWld w))

/-- RUN (R174, R175). -/
def execRun (g : Clu) (t : Til) (w : TileWord) (s : State) : Host.Outcome State Fault Refusal :=
  .next (s.issue g t 1 1 w (tRun w))

/-- WCLR (R174). -/
def execWclr (g : Clu) (t : Til) (w : TileWord) (s : State) : Host.Outcome State Fault Refusal :=
  .next (s.issue g t 1 2 w (tWclr w))

/-- WRND (R149, R174). -/
def execWrnd (g : Clu) (t : Til) (w : TileWord) (s : State) : Host.Outcome State Fault Refusal :=
  .next (s.issue g t 1 3 w (tWrnd w))

/-- WSPILL (R143). -/
def execWspill (g : Clu) (t : Til) (w : TileWord) (s : State) : Host.Outcome State Fault Refusal :=
  .next (s.issue g t 1 4 w (tWspill w))

/-- WREST (R143). -/
def execWrest (g : Clu) (t : Til) (w : TileWord) (s : State) : Host.Outcome State Fault Refusal :=
  .next (s.issue g t 1 5 w (tWrest w))

/-- SETFMT (R148, R174). -/
def execSetfmt (g : Clu) (t : Til) (w : TileWord) (s : State) : Host.Outcome State Fault Refusal :=
  .next (s.issue g t 1 6 w (tSetfmt w))

/-- ADDW (R146, R177). -/
def execAddw (g : Clu) (t : Til) (w : TileWord) (s : State) : Host.Outcome State Fault Refusal :=
  .next (s.issueScore g t 0 w (kAddw w))

/-- ADDVF (R146, R177). -/
def execAddvf (g : Clu) (t : Til) (w : TileWord) (s : State) : Host.Outcome State Fault Refusal :=
  .next (s.issueScore g t 1 w (kAddvf w))

/-- ADDVI (R146, R177). -/
def execAddvi (g : Clu) (t : Til) (w : TileWord) (s : State) : Host.Outcome State Fault Refusal :=
  .next (s.issueScore g t 2 w (kAddvi w))

/-- RDRAW (R177). -/
def execRdraw (g : Clu) (t : Til) (w : TileWord) (s : State) : Host.Outcome State Fault Refusal :=
  .next (s.issue g t 5 3 w (tRdraw w))

/-- RDRND (R177). -/
def execRdrnd (g : Clu) (t : Til) (w : TileWord) (s : State) : Host.Outcome State Fault Refusal :=
  .next (s.issue g t 5 4 w (tRdrnd w))

/-- SCORE_CLR (R177). -/
def execScoreClr (g : Clu) (t : Til) (w : TileWord) (s : State) : Host.Outcome State Fault Refusal :=
  .next (s.issue g t 5 5 w (tCardClr w))

/-- SCORE_LD (R177). -/
def execScoreLd (g : Clu) (t : Til) (w : TileWord) (s : State) : Host.Outcome State Fault Refusal :=
  .next (s.issue g t 5 6 w (tCardLd w))

/-- STREAM_START (R178, R184). -/
def execStreamStart (g : Clu) (t : Til) (w : TileWord) (s : State) : Host.Outcome State Fault Refusal :=
  .next (s.issue g t 0 0 w (tStart w))

/-- STREAM_WAIT (R178). -/
def execStreamWait (g : Clu) (t : Til) (w : TileWord) (s : State) : Host.Outcome State Fault Refusal :=
  .next (s.issue g t 0 1 w (tStreamWait w))

/-- BR (R179, R180). -/
def execBr (g : Clu) (t : Til) (w : TileWord) (s : State) : Host.Outcome State Fault Refusal :=
  .next (s.issueRaw g t 7 0 w (tBr w))

/-- LOOP (R179, R180). -/
def execLoop (g : Clu) (t : Til) (w : TileWord) (s : State) : Host.Outcome State Fault Refusal :=
  .next (s.issueRaw g t 7 1 w (tLoop w))

/-- A tile that waits at a BAR whose scope takes in a halted tile raises SYNC (R187). -/
def State.syncFaults (s : State) (v : Inv) : State :=
  s.each (s.tilesOf v) fun s x =>
    let t := s.tile x.1
    match t.wait with
    | .bar sc _ =>
      if t.st == .running && (s.scopeOf v ((v.reserved[x.2.1]?).getD 0) sc).any fun k => (s.tile k).st == .idle && (s.tile k).invKey == t.invKey then
        s.onTile x.1 fun t => t.limitFault s.now t.pc { code := fSync }
      else s
    | _ => s
/-- HALT: the tile becomes IDLE, tiles that wait for it at a barrier raise SYNC, and the invocation ends when every tile
has halted (R187, R189). -/
def execHalt (g : Clu) (t : Til) (w : TileWord) (s : State) : Host.Outcome State Fault Refusal :=
  let key := s.comp.key g t
  let s' := s.issueRaw g t 7 2 w (tHalt w)
  if (s.tile key).st == .running && (s'.tile key).st == .idle then
    match (s'.tile key).invKey.bind fun k => (s'.inv k).map fun v => (k, v) with
    | some (k, v) => .next ((s'.syncFaults v).haltedInv k)
    | none => .next s'
  else .next s'

/-- BAR: the tile arrives once its streams have completed. It raises SYNC when another tile of its scope waits at another
BARID or has halted (R187). -/
def execBar (g : Clu) (t : Til) (w : TileWord) (s : State) : Host.Outcome State Fault Refusal :=
  let key := s.comp.key g t
  let s' := s.issueRaw g t 8 0 w (tBar w)
  let x := s'.tile key
  match x.wait, x.invKey.bind s'.inv with
  | .bar sc id, some v =>
    if (s.tile key).wait != .none then .next s' else
    let others := (s'.scopeOf v g sc).filter (· ≠ key)
    let clash (k : Nat) : Bool := match (s'.tile k).wait with | .bar _ i => i != id | _ => false
    let gone (k : Nat) : Bool := (s'.tile k).st == .idle && (s'.tile k).invKey == x.invKey
    if others.any fun k => clash k || gone k then
      .next (s'.onTile key fun x => { x with wait := .none }.limitFault s'.now x.pc { code := fSync })
    else .next s'
  | _, _ => .next s'

/-- RAISE (R179, R190). -/
def execRaise (g : Clu) (t : Til) (w : TileWord) (s : State) : Host.Outcome State Fault Refusal :=
  .next (s.issue g t 9 0 w (tRaise w))

end Sys2Proof.Machine
end

