-- ==== Sys2Proof/Machine/Mail.lean ====
section
/-! DEFINITION. Mailboxes: hand-over, take, response, deferral and delivery, and the check of a frame's form
(spec/15_control_and_mailboxes.md R409 to R419; spec/21_board_attachment.md R518). The command table is in Box. -/
namespace Sys2Proof.Machine

/-- What a command answers: a final status with its body, a deferral on an object (R418), or nothing yet, while it
waits for the vault of a meter die in reset (R500). -/
inductive Reply
  | now (status : Nat) (body : List Byte)
  | defer (obj : Nat)
  | vaultWait
deriving DecidableEq, Repr

/-- A command: the mailbox, the body, the state. -/
abbrev Cmd := Nat → List Byte → State → State × Reply

def rOk : Reply := .now 0 []
def rDenied : Reply := .now 4 []
def rRange : Reply := .now 5 []
def rState : Reply := .now 6 []
/-- MB_ST_NO_SPACE with QUOTA and SHORTFALL in bytes (R51, R422). -/
def rNoSpace (quota short : Nat) : Reply := .now 7 (le 1 quota ++ le 8 short)
def rPending : Reply := .now 8 []

/-- The partition a mailbox is assigned to (R407). -/
def State.boxPtn (s : State) (m : Nat) : Option Nat := (s.ptns.find? fun e => e.2.mailboxes.contains m).map Prod.fst
/-- Whether a mailbox may act on a partition (R421). -/
def State.mayPtn (s : State) (m q : Nat) : Bool := decide (m < 2) || s.boxPtn m == some q
/-- The committed extent a mailbox may name; another partition's handle is unknown to it (R421). -/
def State.extFor (s : State) (m h : Nat) : Option ExtRec := (s.ext h).filter fun e => e.committed && s.mayPtn m e.ptn

/-! ### MSI-X (R518) -/

/-- Whether a vector can be sent now. -/
def Pcie.open' (p : Pcie) (m : Nat) : Bool := p.busMaster && p.msixEn && !bit p.masked m && !p.d3
/-- Raise vector `m`: sent, or held pending. -/
def State.raiseVec (s : State) (m : Nat) : State :=
  s.onPcie fun p =>
    if p.open' m then { p with sent := Tab.put p.sent m (Tab.getD p.sent m 0 + 1) } else { p with pend := setBits p.pend m 1 1 }
/-- PCIE_CONFIG_WRITE: pending vectors go out once nothing holds them (R518). -/
def execPcieConfigWrite (busMaster msix d3 : Bool) (mask : BitVec 64) (s : State) : Host.Outcome State Fault Refusal :=
  if s.board.clocksLost.contains 3 then .next s else
  let s := s.onPcie fun p => { p with busMaster := busMaster, msixEn := msix, d3 := d3, masked := mask.toNat }
  .next (s.each ((List.range 64).filter fun m => bit s.pcie.pend m && s.pcie.open' m) fun s m =>
    (s.onPcie fun p => { p with pend := setBits p.pend m 1 0 }).raiseVec m)

/-! ### The handshake (R410, R412, R414, R415, R419) -/

/-- Whether the host's memory accesses to BAR0 are claimed, and firmware polls. -/
def State.service (s : State) : Bool := s.cores.polling && (s.board.phase == .ready || s.board.phase == .recovery)

/-- A response frame (R413). -/
def frameOf (op alive reqId status : Nat) (body : List Byte) : List Byte :=
  let h := le 2 op ++ le 2 body.length ++ le 2 alive ++ le 2 status ++ le 4 reqId ++ zeros 4 ++ body
  h ++ le 4 (crc32c h).toNat
/-- Firmware writes a response, adds 1 to SEQ and gives the mailbox back (R414 steps 5 and 6). -/
def State.putResp (s : State) (m : Nat) (unread : Bool) (op alive reqId status : Nat) (body : List Byte) : State :=
  let f := frameOf op alive reqId status body
  let s := s.chkFrame 0 (f.take (f.length - 4))
  let s := s.onBox m fun b => { b with resp := Mem.writes zeroByte b.resp 0 f, seq := wrapAdd 16 b.seq 1, owner := false, unread := b.unread || unread }
  if (s.box m).irqEn then s.raiseVec m else s

/-- The host writes a frame into the request area (R410). -/
def State.writeReq (s : State) (m : Nat) (frame : List Byte) : State :=
  if (s.box m).owner || !(s.box m).ready || s.pcie.d3 then s
  else s.onBox m fun b => { b with req := Mem.writes zeroByte b.req 0 (frame.take 4096) }
/-- The host writes MBX_OWN (R412, R415). -/
def State.writeOwn (s : State) (m word : Nat) : State :=
  if s.pcie.d3 || !(s.box m).ready then s else
  s.onBox m fun b =>
    let bad := bit word 0 && (b.owner || b.unread)
    { b with hostDone := if bad then b.hostDone else bit word 0
             unread := b.unread && !bit word 2
             collide := (b.collide && !bit word 3) || bad }
/-- The host writes MBX_CTL, a whole word (R410, R412). -/
def State.writeCtl (s : State) (m word : Nat) : State :=
  if s.pcie.d3 || !(s.box m).ready then s else s.onBox m fun b => { b with irqEn := bit word 0 }
/-- The host writes the upload window from its start; no write is taken while an update is open (R409, R410). -/
def State.writeBar2 (s : State) (upload : List Byte) : State :=
  if s.pcie.d3 || s.board.upd.isSome then s else s.onPcie fun p => { p with bar2 := Mem.writes zeroByte p.bar2 0 upload }
/-- MBX_HAND_OVER: the host writes a request frame, MBX_CTL where it has a word for it, and then MBX_OWN (R412, R414 step 2,
R415). -/
def execMbxHandOver (m : Mbx) (frame : HandOver) (word : BitVec 32) (s : State) :
    Host.Outcome State Fault Refusal :=
  let s := s.writeReq m frame.frame
  .next ((frame.ctl.elim s fun w => s.writeCtl m w.toNat).writeOwn m word.toNat)
/-- UNREAD_ACK: the host acknowledges a deferred completion (R419). -/
def execUnreadAck (m : Mbx) (s : State) : Host.Outcome State Fault Refusal := .next (s.writeOwn m 4)

/-- Deliver the first waiting completion of a mailbox, if it can be taken (R415, R419). -/
def State.deliver (s : State) (m : Nat) : State :=
  let b := s.box m
  match b.waiting with
  | c :: rest =>
    if b.hostDone || b.owner || b.unread || !b.ready then s
    else (s.onBox m fun b => { b with waiting := rest }).putResp m true c.opcode c.alive c.reqId c.status c.body
  | [] => s
/-- DEFERRED_OPEN: deferred commands not yet delivered (R412, R418). -/
def Mailbox.openCount (b : Mailbox) : Nat := b.deferred.length + b.waiting.length

/-- Compare an ALIVE count with a mailbox's expectation through CHK instance 0 (R416, R432): `true` when it is accepted. -/
def State.checkAlive (s : State) (m alive : Nat) : State × Bool :=
  match (s.box m).alive with
  | none =>
    let s := s.onChk 0 fun c => { c with expValue := BitVec.ofNat 16 (alive + 1), expValid := true }
    (s.onBox m fun b => { b with alive := some (wrapAdd 16 alive 1) }, true)
  | some e =>
    let s := s.onChk 0 fun c => { c with expValue := BitVec.ofNat 16 e, expValid := true }
    if alive = e then
      (s.onChk 0 fun c => { c with expValue := BitVec.ofNat 16 (e + 1) }).onBox m (fun b => { b with alive := some (wrapAdd 16 e 1) }) |> fun s => (s, true)
    else
      let rep := decide (wrapAdd 16 alive 1 = e)
      (s.onChk 0 fun c => { c with rep := c.rep || rep, skip := c.skip || !rep, aliveErrs := wrapAdd 32 c.aliveErrs 1 }, false)

end Sys2Proof.Machine
end

