-- ==== Sys2Proof/Machine/Extent.lean ====
section
/-! DEFINITION. Extents from creation to a free handle: the 0x03xx commands and the rows of revocation and sanitation
(spec/02_pool_model.md R46 to R56, R70 to R81, R531; spec/07_tracked_regions.md R244, R262; spec/12_flash_tier.md R373,
R530; spec/19_partner_and_spares.md R485; spec/20_reset_and_bringup.md R504). -/
namespace Sys2Proof.Machine

/-! ### Access lists (R54, R244) -/

/-- COUNT entries of a command body from an offset (R422). -/
def aclOf (l : List Byte) (off count : Nat) : List AclEntry :=
  (List.range count).map fun i =>
    { ep := field l (off + 4 * i) 2, r := bit (field l (off + 4 * i + 2) 1) 0, w := bit (field l (off + 4 * i + 2) 1) 1, idx := none }
def AclEntry.bytes (a : AclEntry) : List Byte := le 2 a.ep ++ le 1 (b2n a.r + 2 * b2n a.w) ++ le 1 (a.idx.getD 0)
/-- The status the first refused entry decides (R54). -/
def State.aclFault (s : State) (q : Nat) : List Nat → List AclEntry → Option Nat
  | _, [] => none
  | seen, a :: rest =>
    if !a.r && !a.w then some 5
    else if !((s.ptn q).admission.contains a.ep) then some 0x0A
    else if seen.contains a.ep then some 5
    else State.aclFault s q (a.ep :: seen) rest
/-- Give the entries of a new list their indices (R244). -/
def State.assignIdx (s : State) (h : Nat) (old : List AclEntry) (l : List AclEntry) : List AclEntry :=
  let kept := l.map fun (a : AclEntry) => { a with idx := ((old.find? fun (b : AclEntry) => b.ep == a.ep).bind (·.idx)) }
  kept.foldl (fun (acc : List AclEntry) a =>
    match a.idx with
    | some _ => acc ++ [a]
    | none =>
      let used (i : Nat) : Bool := (kept ++ acc).any fun b => b.idx == some i
      acc ++ [{ a with idx := (List.range 64).find? fun i => !(used i) && !(s.holdsIdx h i) }]) []
/-- The lines whose holders a new list removes or takes W from: (line, index) (R244). -/
def State.aclRecalls (s : State) (h : Nat) (old new : List AclEntry) : List (Nat × Nat) :=
  let down := old.filter fun a => match new.find? fun b => b.ep == a.ep with
    | none => true
    | some b => a.w && !b.w
  (s.dir.ents.filter fun e => e.2.ext == h).flatMap fun e =>
    (e.2.holders.filter fun i => down.any fun a => a.idx == some i).map fun i => (e.2.line, i)
/-- A step of a deferred EXT_SET_ACL: lines are recalled; when every recall has been answered or has ended, the entries
that waited take their indices, and the list is in force, or its record is written first (R55, R244, R504). -/
def State.aclStep (s : State) (h : Nat) : State :=
  match s.ext h with
  | none => s
  | some e =>
    if e.aclStage ≠ 2 then s else
    let s := s.onExt h fun e => { e with aclLines := [] }
    let s := s.each e.aclLines fun s x =>
      match s.dirEnt h x.1 with
      | none => s
      | some (_, d) =>
        if !(d.holds x.2) then s
        else if s.blocked h x.1 then s.onExt h fun e => { e with aclLines := e.aclLines ++ [x] }
        else s.openTxn { ext := h, line := x.1, act := .acl, req := none, need := [x.2], since := s.now }
    let busy := (s.ext h).elim false (fun e => !e.aclLines.isEmpty) || s.dir.txns.any fun t => t.ext == h && t.act == .acl
    if busy then s
    else
      let fresh (a : AclEntry) : AclEntry :=
        if !(e.acl.any fun b => b.ep == a.ep) && a.idx.any (s.holdsIdx h) then { a with idx := none } else a
      let l := s.assignIdx h (e.nextAcl.map fresh) e.nextAcl
      if e.policy ≠ 0 then (s.onExt h fun e => { e with aclStage := 1 }).extRecord h (.acl l)
      else (s.putAcl h l).complete 0x0304 h 0 []

/-! ### Mirroring of extents (R485) -/

/-- An access-list entry of an EXTENT frame, whose last byte is its index, 255 none (log 47). -/
def AclEntry.wire (a : AclEntry) : List Byte := le 2 a.ep ++ le 1 (b2n a.r + 2 * b2n a.w) ++ le 1 (a.idx.getD 255)
/-- An EXTENT frame: attributes and access list of a mirrored extent; ARG 0 create or change, 1 revoke (log 47). -/
def State.extFrame (s : State) (h arg : Nat) (e : ExtRec) : State :=
  if !e.mirrored then s else
  s.mirror 5 h arg (le 1 e.ptn ++ le 1 (b2n e.tracked) ++ le 1 e.policy ++ le 1 (b2n e.init) ++ le 4 e.drainMs ++ le 8 e.length
    ++ le 8 e.version ++ le 2 e.publisher ++ le 1 e.acl.length ++ zeros 5 ++ e.acl.flatMap AclEntry.wire)
/-- Commands that change a mirrored extent are taken only by the ACTIVE member (R485). -/
def State.mirrorRole (s : State) (e : ExtRec) : Bool := !e.mirrored || s.prt.st == .active

/-! ### Quotas and handles (R46, R51, R52) -/

/-- The quota a new or changed charge finds short first, with its shortfall in bytes (R51, R52, R531). -/
def State.quotaFault (s : State) (q pinnedAfter flashAfter trackedAfter : Nat) (tiered : Bool) : Option (Nat × Nat) :=
  let dram := s.dramQuota q
  let flash := (s.ptn q).flashGib * 2 ^ 30
  let tracked := (s.ptn q).trackedUnits * 2097152
  if dram < pinnedAfter then some (0, (pinnedAfter - dram) * 65536)
  else if flash < flashAfter then some (1, flashAfter - flash)
  else if tracked < trackedAfter then some (2, trackedAfter - tracked)
  else if tiered && dram < pinnedAfter + 1024 then some (0, (pinnedAfter + 1024 - dram) * 65536)
  else none
/-- The lowest free handle (R46). -/
def State.freeHandle (s : State) : Option Nat :=
  Tab.firstFree (s.exts.map (fun e => (e.1, ())) ++ s.freed.map fun e => (e.1, ())) 1048575 1

/-- The control die of a new extent (R68). -/
def State.controlDieOf (s : State) (q : Nat) : Nat := ((s.ptn q).channels.head?).elim 0 dieOf

/-! ### Commands -/

/-- EXT_CREATE (R531). -/
def cmdExtCreate : Cmd := fun _ l s =>
  let q := field l 0 1
  let kind := field l 1 1
  let pol := field l 2 1
  let mir := field l 3 1
  let len := field l 4 8
  let n := field l 12 1
  let es := aclOf l 16 n
  if !(decide (q ≤ 63 ∧ kind ≤ 1 ∧ pol ≤ 2 ∧ mir ≤ 1 ∧ len % 2097152 = 0 ∧ 2097152 ≤ len ∧ len ≤ 2 ^ 44 ∧ n ≤ 64 ∧ ¬(kind = 1 ∧ pol = 2)))
    then (s, rRange)
  else if (s.ptn q).st = .unused || (s.sec.debugOn && pol != 0) then (s, rState)
  else match s.aclFault q [] es with
    | some st => (s, .now st [])
    | none =>
      if mir = 1 && !(s.prt.st == .active) then (s, rState) else
      match s.quotaFault q (s.pinned q + if pol = 0 then pagesOf len else 0) (s.flashUsed q + if pol = 0 then 0 else len)
          (s.trackedUsed q + if kind = 1 then len else 0) (pol != 0 || s.hasTiered q) with
      | some (c, x) => (s, rNoSpace c x)
      | none =>
        match s.freeHandle with
        | none => (s, rNoSpace 3 0)
        | some h =>
          let e : ExtRec :=
            { ptn := q, length := len, tracked := kind == 1, policy := pol, mirrored := mir == 1, committed := false
              acl := es.zipIdx.map fun a => { a.1 with idx := some a.2 }, controlDie := s.controlDieOf q
              chans := if pol = 0 then (s.ptn q).channels else [] }
          let before := s.prt.mseq
          let s := ({ s with exts := Tab.put s.exts h e }).extFrame h 0 e
          if s.prt.mseq = before then (s.extRecord h .create, .defer h)
          else (s.onExt h fun e => { e with waitSeq := s.prt.mseq }, .defer h)

/-- EXT_INFO (R423). -/
def cmdExtInfo : Cmd := fun m l s =>
  match s.extFor m (field l 0 4) with
  | none => (s, rRange)
  | some e =>
    (s, .now 0 (le 1 e.ptn ++ le 1 (b2n e.tracked) ++ le 1 e.policy ++ le 1 e.st.code ++ le 1 (b2n e.mirrored + 2 * b2n e.init) ++ zeros 3
      ++ le 8 e.length ++ le 8 e.version ++ le 2 e.publisher ++ zeros 2 ++ le 4 e.drainMs ++ le 4 e.inflight ++ le 1 e.acl.length
      ++ zeros 3 ++ e.acl.flatMap AclEntry.bytes))

/-- A page of an extent that becomes DRAM_PINNED takes a frame and its contents from flash, where a frame can be had, and its
flash copies are dropped (R373). -/
def State.pinPage (s : State) (h k : Nat) (p : PageRec) : State :=
  let home := (s.ext h).elim p.home fun e => s.pinHome e p.home fun c => dieOf c == dieOf p.home
  let got : Option State := match p.frame with
    | some _ => some s
    | none => (s.takeFrame ((s.ext h).elim 0 (·.ptn)) k home true).map fun x => x.2.onPage k fun p => { p with frame := some x.1, home := home }
  match got with
  | none => s
  | some s =>
    let mine (r : FlReq) : Bool := match r.op with | .promote k' => k' == k | .destage k' _ _ _ => k' == k | _ => false
    let s := s.onMem fun m => { m with fch := m.fch.map fun e => (e.1, { e.2 with queue := e.2.queue.filter fun r => !mine r }) }
    let m := dieOf p.home
    let copy := p.loc.bind fun l => Tab.get? (s.fdie m).pages l
    let s := match p.st with
      | .zero => s.zeroFrame home (((s.page k).bind (·.frame)).getD 0)
      | .flash => copy.elim s fun fp => s.fillFromFlash k fp []
      | .promoting => copy.elim s fun fp => s.fillFromFlash k fp []
      | _ => s
    let s := s.onPage k fun p => { p with st := .dirty, zeroPending := false, destaging := false }
    if p.loc.isSome || p.committedZero || (s.fdie m).pend.any (fun r => r.kind ≤ 2 && r.ext == h && r.page == keyPage k) then
      s.journal m [s.pageRec 3 k 0] false
    else s
/-- A step of a change to DRAM_PINNED: the pages that still lack a frame take one, or a destage is asked for to free one; once
every page has its frame the record is written (R81, R360, R373). -/
def State.pinStep (s : State) (h : Nat) : State :=
  match s.ext h with
  | none => s
  | some e =>
    if !e.pinning || e.st ≠ .active || (s.fdie 0).pend.any (fun r => r.ext == h && r.act == .policy 0) then s else
    let left (s : State) : Tab PageRec := s.mem.pages.filter fun x => keyExt x.1 == h && !(x.2.st == .dirty && x.2.frame.isSome)
    let s := s.each (left s) fun s x => s.pinPage h x.1 x.2
    if (left s).isEmpty then s.extRecord h (.policy 0) else s.askFrame e.ptn
/-- The policy of an extent changes: its pages move, and the command waits for them and for its record (R373, log 48). -/
def State.movePolicy (s : State) (h : Nat) (e : ExtRec) (pol : Nat) : State × Reply :=
  let s := (s.onExt h fun e => { e with policyPending := true }).extFrame h 0 { e with policy := pol }
  if pol = 0 then
    let s := s.onExt h fun x => { x with chans := (s.ptn e.ptn).channels, pinning := true }
    let s := s.each (s.mem.pages.filter fun x => keyExt x.1 == h && x.2.st == .dirty && x.2.frame.isSome) fun s x => s.pinPage h x.1 x.2
    (s.pinStep h, .defer h)
  else
    let s := if e.policy = 0 then
        s.each (s.mem.pages.filter fun x => keyExt x.1 == h) fun s x => s.onPage x.1 fun p => { p with dirtyAt := s.now }
      else s
    (s.extRecord h (.policy pol), .defer h)
/-- EXT_SET_POLICY (R49, R53, R73, R373). -/
def cmdExtSetPolicy : Cmd := fun m l s =>
  let h := field l 0 4
  let pol := field l 4 1
  match s.extFor m h with
  | none => (s, rRange)
  | some e =>
    if 2 < pol || (e.tracked && pol == 2) then (s, rRange)
    else if e.st ≠ .active || !(s.mirrorRole e) || s.closed e || (s.sec.debugOn && pol != 0) then (s, rState)
    else if e.policyPending then (s, rPending)
    else if pol = e.policy then (s, rOk) else
    let q := e.ptn
    let n := pagesOf e.length
    let others := s.exts.any fun x => x.1 != h && x.2.ptn == q && x.2.policy != 0 && !x.2.sanitised
    match (if e.policy = 0 then s.quotaFault q (s.pinned q - n) (s.flashUsed q + e.length) (s.trackedUsed q) true
           else if pol = 0 then s.quotaFault q (s.pinned q + n) (s.flashUsed q) (s.trackedUsed q) others else none) with
    | some (c, x) => (s, rNoSpace c x)
    | none =>
      s.movePolicy h e pol

/-- A new access list: lines of the holders it removes or takes W from are recalled (R54, R55, R244). -/
def State.newAcl (s : State) (h : Nat) (e : ExtRec) (new : List AclEntry) : State × Reply :=
  let rec' := s.aclRecalls h e.acl new
  let s := s.extFrame h 0 { e with acl := new }
  if e.policy = 0 && rec'.isEmpty && new.all (fun a => a.idx.isSome) then (s.putAcl h new, rOk)
  else (s.onExt h fun e => { e with nextAcl := new, aclStage := 2, aclLines := rec' }, .defer h)
/-- The access list of an extent loses the endpoints its partition no longer admits, and their copies are recalled (R44;
log 60). -/
def State.admitOnly (s : State) (h : Nat) : State :=
  match s.ext h with
  | none => s
  | some e =>
    let ok (a : AclEntry) : Bool := (s.ptn e.ptn).admission.contains a.ep
    let s := s.onExt h fun e => { e with nextAcl := e.nextAcl.filter ok }
    if e.acl.all ok then s else
    let lost := (e.acl.filter fun a => !(ok a)).filterMap (·.idx)
    let e' := { e with acl := e.acl.filter ok }
    let s := (s.aclInForce h e.acl).recallLines h .acl fun d => d.holders.filter lost.contains
    let s := if s.mirrorRole e then s.extFrame h 0 e' else s
    if e.policy = 0 then s else s.journal 0 (extRecs h e' e.st.code .none true) true
/-- EXT_SET_ACL (R54, R55, R73, R244). -/
def cmdExtSetAcl : Cmd := fun m l s =>
  let h := field l 0 4
  let n := field l 4 1
  match s.extFor m h with
  | none => (s, rRange)
  | some e =>
    if 64 < n then (s, rRange)
    else if e.st ≠ .active || !(s.mirrorRole e) then (s, rState)
    else if e.aclStage ≠ 0 then (s, rPending)
    else match s.aclFault e.ptn [] (aclOf l 8 n) with
      | some st => (s, .now st [])
      | none =>
        s.newAcl h e (s.assignIdx h e.acl (aclOf l 8 n))

/-- EXT_SET_DRAIN (R73, R423). -/
def cmdExtSetDrain : Cmd := fun m l s =>
  let h := field l 0 4
  let ms := field l 4 4
  match s.extFor m h with
  | none => (s, rRange)
  | some e =>
    if ms < 1 || 60000 < ms then (s, rRange)
    else if e.st ≠ .active || !(s.mirrorRole e) then (s, rState)
    else
      let s := s.extFrame h 0 { e with drainMs := ms }
      if e.policy ≠ 0 then (s.extRecord h (.drain ms), .defer h)
      else (s.onExt h fun e => { e with drainMs := ms }, rOk)

/-- The internal ZERO requests of an EXT_ZERO carry this source; no endpoint has it. -/
def zeroSrc : BitVec 16 := 0xFFFF#16
/-- A revocation begins: new requests are refused, lines are recalled, an open EXT_ZERO or scrub pass stops (R72, R73,
R390). -/
def State.revoke (s : State) (h : Nat) : State :=
  match s.ext h with
  | none => s
  | some e =>
    let s := s.onExt h fun e => { e with st := .revoking, revokeAt := s.now, completed := 0, cut := 0, unanswered := 0, zeroing := false }
    let s := s.cutWrites fun w => w.ext == h && w.host == zeroSrc.toNat
    let s := if e.zeroing then s.complete 0x0307 h 6 [] else s
    let s := if e.pinning && !((s.fdie 0).pend.any fun r => r.ext == h && r.act == .policy 0) then
        (s.onExt h fun e => { e with pinning := false, policyPending := false }).complete 0x0303 h 6 []
      else s
    let s := s.scrubRevoked h
    let s := if e.policy ≠ 0 then s.extRecord h .none else s
    (s.recallLines h .revoke DirEnt.holders).dirRun
/-- EXT_REVOKE (R72, R73). -/
def cmdExtRevoke : Cmd := fun m l s =>
  let h := field l 0 4
  match s.extFor m h with
  | none => (s, rRange)
  | some e =>
    match e.st with
    | .revoking => (s, rPending)
    | .revoked => (s, rState)
    | .active => if !(s.mirrorRole e) then (s, rState) else ((s.extFrame h 1 e).revoke h, .defer h)

/-- An EXT_ZERO whose pages have all been zeroed, and committed where they must be, completes (R78, R530). -/
def State.zeroDone (s : State) (h : Nat) : State :=
  match s.ext h with
  | none => s
  | some e =>
    let left := (s.fab.waits.any fun r => r.pkt.ext == h && r.pkt.src == zeroSrc)
      || s.mem.pages.any fun x => keyExt x.1 == h && x.2.zeroPending
    if !e.zeroing || left then s else
    let s := s.onExt h fun e => { e with zeroing := false }
    if e.init then s.complete 0x0307 h 0 []
    else
      let s := s.extFrame h 0 { e with init := true }
      if e.policy = 0 then (s.onExt h fun e => { e with init := true }).complete 0x0307 h 0 []
      else s.extRecord h .init
/-- Entry into DORMANT: every DIRTY page is destaged and every journal committed; once that is so and no transfer is
open, the routing tables are frozen (R475 steps 1 to 3). -/
def State.dormantRun (s : State) : State :=
  if s.lk.state ≠ 2 || s.lk.dormantAt.isSome then s else
  let dirty := s.mem.pages.filter fun e => (e.2.st == .dirty || e.2.zeroPending) && (s.ext (keyExt e.1)).elim false fun x => !x.pinned
  let s := s.each dirty fun s e => s.onPage e.1 fun p => { p with prio := if p.prio = 1 then 1 else 2 }
  let s := s.each (List.range 4) fun s m => if (s.fdie m).pend.isEmpty then s else s.journal m [] true
  if dirty.isEmpty && (List.range 4).all (fun m => (s.fdie m).pend.isEmpty && (s.fdie m).commitOpen.isNone) && s.fab.waits.isEmpty
      && s.fab.table.all (fun e => e.2.refused) && s.deal.invs.isEmpty then
    (s.onLk fun k => { k with dormantAt := some s.now, froze := s.reg .rtFreeze 0 }).setReg .rtFreeze 0 (2 ^ 19 - 1)
  else s
/-- What waits on the memory side goes on: requests, EXT_ZERO, EXT_SET_POLICY and EXT_SET_ACL commands, entry into DORMANT. -/
def State.settleAll (s : State) : State :=
  let s := s.settle.dormantRun
  let s := s.each (s.exts.filter fun e => e.2.zeroing) fun s e => s.zeroDone e.1
  let s := s.each (s.exts.filter fun e => e.2.pinning) fun s e => s.pinStep e.1
  s.each (s.exts.filter fun e => e.2.aclStage == 2) fun s e => s.aclStep e.1
/-- EXT_ZERO (R78, R79, R530). -/
def cmdExtZero : Cmd := fun m l s =>
  let h := field l 0 4
  match s.extFor m h with
  | none => (s, rRange)
  | some e =>
    if e.st ≠ .active then (s, rState)
    else if e.zeroing then (s, rPending) else
    let n := pagesOf e.length
    let w := s.newWrite 0xFFFF h true n
    let p : Packet := { opcode := 0x04#8, src := zeroSrc, extent := BitVec.ofNat 32 h, length := BitVec.ofNat 64 e.length }
    let s := w.2.onExt h fun e => { e with zeroing := true }
    (s.serveOr { kind := .serve, pkt := p, port := 20, since := s.now, ids := List.range n, status := w.1, reply := false }, .defer h)
/-- EXT_INIT_DONE (R78, R504). -/
def cmdExtInitDone : Cmd := fun m l s =>
  let h := field l 0 4
  match s.extFor m h with
  | none => (s, rRange)
  | some e =>
    if e.st ≠ .active then (s, rState)
    else if e.init then (s, rOk)
    else
      let s := s.extFrame h 0 { e with init := true }
      if e.policy = 0 then (s.onExt h fun e => { e with init := true }, rOk) else (s.extRecord h .init, .defer h)
/-- The age of an entry among its set's ways: 0 the youngest (R244). -/
def State.lruAge (s : State) (k : Nat) (d : DirEnt) : Nat :=
  (s.dir.ents.filter fun e => e.1 / 16 == k / 16 && decide (d.lru < e.2.lru)).length
/-- EXT_DIR_READ (R244, R423). -/
def cmdExtDirRead : Cmd := fun m l s =>
  let h := field l 0 4
  let off := field l 4 8
  match s.extFor m h with
  | none => (s, rRange)
  | some e =>
    if off % 128 ≠ 0 || e.length ≤ off then (s, rRange)
    else if !e.tracked then (s, rState)
    else
      let line := off / 128
      match s.dirEnt h line with
      | none => (s, .now 0 (zeros 16))
      | some (k, d) =>
        (s, .now 0 (le 1 1 ++ le 1 (b2n (d.st == .m)) ++ le 1 (if d.st = .m then d.owner else 0) ++ le 1 (b2n (s.blocked h line))
          ++ le 1 (s.awaiting h line) ++ le 1 (s.lruAge k d) ++ zeros 2 ++ le 8 ((if d.st = .s then d.sharers else []).map (2 ^ ·)).sum))

/-! ### The end of a revocation (R70, R72, R74) -/

/-- An extent becomes REVOKED, and the deferred reply is sent (R72 steps 4 to 6). -/
def State.revoked (s : State) (h : Nat) : State :=
  match s.ext h with
  | none => s
  | some e =>
    let s := s.onExt h fun e => { e with st := .revoked, revokedAt := s.now }
    let s := s.onFab fun f => { f with waits := f.waits.filter fun r => !(r.pkt.ext == h && r.kind != .invoke)
                                       writes := f.writes.filter fun e => e.2.ext != h }
    s.complete 0x0306 h 0 (le 4 e.completed ++ le 4 e.cut ++ le 4 e.unanswered)
/-- REVOKE_COMPLETE: the in-flight count is zero and no line has an entry (R72, R262); lines still held are recalled. -/
def execRevokeComplete (ext : BitVec 20) (s : State) : Host.Outcome State Fault Refusal :=
  let h := ext.toNat
  match s.ext h with
  | none => .next s
  | some e =>
    if e.st ≠ .revoking then .next s else
    let s := (s.recallLines h .revoke DirEnt.holders).dirRun
    let still := (s.dir.ents.any fun x => x.2.ext == h) || s.dir.txns.any fun t => t.ext == h
    if (s.ext h).elim true (fun e => e.inflight != 0) || still then .next s else .next (s.revoked h)

/-- Whether an invocation descriptor that waits names an extent. -/
def WaitReq.names (r : WaitReq) (now h : Nat) : Bool := r.kind == .invoke && (invOf r.pkt r.port now).exts.contains h
/-- Every open transfer, waiting request and invocation of an extent ends with a status, and the packets that wait to be
performed for them are discarded; writes that have been answered, and an EXT_ZERO, go on over a partition reset (R42, R57,
R72, R404). -/
def State.endRequests (s : State) (h status : Nat) : State :=
  let cut := status == 3
  let s := s.each (s.fab.table.filter fun e => e.2.ext == h && !e.2.refused && e.2.opcode != 0x30 && e.2.opcode != 0x31) fun s e =>
    let s := (s.respond e.2.port e.2.req status).endedBy h status
    s.onFab fun f => { f with table := Tab.modify f.table e.1 fun x => { x with refused := true } }
  let s := s.cutWrites fun w => w.ext == h && (cut || (!w.okSent && w.inv.isNone))
  let open' (r : WaitReq) : Bool := r.pkt.ext == h && r.reply && r.kind != .invoke
  let s := s.each (s.fab.waits.filter open') fun s r => (s.respond r.port r.pkt status).endedBy h status
  let s := s.onFab fun f => { f with waits := f.waits.filter fun r => !(r.pkt.ext == h && r.kind != .invoke) || (!cut && !r.reply) }
  let s := s.each (s.fab.waits.filter fun r => r.names s.now h) fun s r =>
    let s := s.each (invOf r.pkt r.port s.now).exts fun s x => s.endedBy x status
    ((s.onFab fun f => { f with waits := f.waits.erase r }).freeCredit r.port 0 r.pkt.flits).refuseInvoke r.port r.pkt status 0
  let reqs := ((s.dir.txns.filter fun t => t.ext == h).filterMap (·.req) ++ (s.dir.queue.filter fun w => w.ext == h).map (·.req)).filter (·.reply)
  let s := s.each reqs fun s r => (s.respond r.port r.pkt status).endedBy h status
  let s := s.onDir fun d => { d with txns := d.txns.filter fun t => t.ext != h, queue := d.queue.filter fun w => w.ext != h }
  s.each (s.deal.invs.filter fun e => e.2.exts.contains h) fun s e => s.endInv e.1 status none
/-- At the drain limit, what is still counted on an extent completes with ST_REVOKED and unanswered recalls end (R72). -/
def State.cutExtent (s : State) (h : Nat) : State :=
  let s := s.endRequests h 3
  let un := s.dir.recalls.filter fun r => r.ext == h && !r.answered
  let s := s.each (un.filter (·.forRevoke)) fun s _ => s.onExt h fun e => { e with inflight := e.inflight - 1 }
  let s := s.onExt h fun e => { e with unanswered := un.length }
  s.onDir fun d => { d with recalls := d.recalls.filter fun r => r.ext != h, ents := d.ents.filter fun e => e.2.ext != h }
/-- DRAIN_LIMIT_EXPIRY: what is still counted completes with ST_REVOKED, and the extent becomes REVOKED (R72 step 5). -/
def execDrainLimitExpiry (ext : BitVec 20) (s : State) : Host.Outcome State Fault Refusal :=
  let h := ext.toNat
  match s.ext h with
  | none => .next s
  | some e =>
    if e.st ≠ .revoking || !(s.past e.revokeAt (e.drainMs * msec)) then .next s
    else .next ((s.cutExtent h).revoked h).dirRun

/-- SANITATION_DONE: the extent's lines are poison, its flash copies are discarded, its space is back in the quotas
(R74, R364, R504). -/
def execSanitationDone (ext : BitVec 20) (s : State) : Host.Outcome State Fault Refusal :=
  let h := ext.toNat
  match s.ext h with
  | none => .next s
  | some e =>
    if e.st ≠ .revoked || e.sanitised then .next s else
    let s := s.each (s.mem.pages.filter fun x => keyExt x.1 == h) fun s x =>
      let s := match x.2.frame with
        | some f => ((s.drainFrame x.2.home f).poisonFrame x.2.home f).freeFrame x.1
        | none => s
      match x.2.loc with
      | some l => (s.onFdie (dieOf x.2.home) fun d => { d with pages := Tab.del d.pages l }).journal (dieOf x.2.home) [s.pageRec 3 x.1 0] false
      | none => s
    let mine (r : FlReq) : Bool := match r.op with
      | .promote k => keyExt k == h
      | .destage k _ _ _ => keyExt k == h
      | _ => false
    let s := s.onMem fun m => { m with pages := m.pages.filter fun x => keyExt x.1 != h
                                       fch := m.fch.map fun c => (c.1, { c.2 with queue := c.2.queue.filter fun r => !mine r }) }
    let s := s.journal 0 (extRecs h e 3 .none false) false
    .next (s.onExt h fun e => { e with sanitised := true })
/-- HANDLE_HOLD_EXPIRY: 60 s after REVOKED, or after MBX_READY for a handle held over a reset, the handle is FREE (R70,
R74, R497). -/
def execHandleHoldExpiry (ext : BitVec 20) (s : State) : Host.Outcome State Fault Refusal :=
  let h := ext.toNat
  match s.ext h, Tab.get? s.freed h with
  | some e, _ =>
    if e.st = .revoked && e.sanitised && s.past e.revokedAt (60 * oneSec) then .next { s with exts := Tab.del s.exts h } else .next s
  | none, some f => if s.past f.since (60 * oneSec) then .next { s with freed := Tab.del s.freed h } else .next s
  | none, none => .next s

/-! ### Events of the tiers that let requests go on -/

/-- CHANNEL_ADMIT: a channel's input arbiter admits at most one request (R332). -/
def execChannelAdmit (c : Chan) (s : State) : Host.Outcome State Fault Refusal := .next (s.admitOne c).settleAll

/-- PROMOTION_DONE: a page's fill ends; it becomes CLEAN and its requests go on (R358, R369). -/
def execPromotionDone (ext : BitVec 20) (page : BitVec 28) (s : State) : Host.Outcome State Fault Refusal :=
  let k := pageKey ext.toNat page.toNat
  match s.page k with
  | none => .next s
  | some p =>
    let m := dieOf p.home
    let isIt (r : FlReq) : Bool := match r.op with | .promote k' => k' == k | _ => false
    match (List.range 8).findSome? fun c => (s.takeOp (m * 8 + c) isIt).map fun x => (m * 8 + c, x) with
    | none => .next s
    | some (f, r, s) =>
      let s := match Tab.get? (s.fdie m).pages r.loc with
        | some fp => s.fillFromFlash k fp r.bad
        | none => s
      let s := (s.onPage k fun p => { p with st := .clean, usedAt := s.now }).bump .flChReads f
      .next (s.bump .flPtnPromotions ((s.ext ext.toNat).elim 0 (·.ptn))).settleAll

/-- JOURNAL_COMMIT_DONE: a COMMIT's journal page has been programmed on both channels (R365, R366, R504). -/
def execJournalCommitDone (m : MDie) (s : State) : Host.Outcome State Fault Refusal := .next (s.committed m).settleAll

/-- JOURNAL_REPLAY_DONE: a die's replay ends and the die is mounted (R368). After M0's, records of extents that were
REVOKING show them REVOKED; after the fourth, version registers stand at the highest committed pair (R69, R497). -/
def execJournalReplayDone (m : MDie) (s : State) : Host.Outcome State Fault Refusal :=
  if (s.fdie m).mounted || s.sec.debugOn || !(s.board.phase == .main || s.board.phase == .ready) then .next s else
  let q := (s.fdie m).seq - 1
  let s := s.onFdie m fun d => { d with mounted := true, ckAt := s.now }
  let s := (s.setReg .flDieJrnlSeqLo m (q % 2 ^ 32)).setReg .flDieJrnlSeqHi m (q / 2 ^ 32)
  .next (if s.mounted then { s with exts := s.exts.map fun e => (e.1, { e.2 with version := e.2.durVersion, publisher := e.2.durPublisher }) } else s)

/-- HOME_TIMEOUT: a recall answer, or the owner's RETURN, is still missing when the partition's home timeout expires
(R252, R258). -/
def execHomeTimeout (ext : BitVec 20) (line : BitVec 40) (s : State) : Host.Outcome State Fault Refusal :=
  let h := ext.toNat
  let l := line.toNat
  let q := (s.ext h).elim 0 (·.ptn)
  let late (t : Nat) : Bool := s.past t (s.reg .dirPtnTimeout q * usec)
  let mine (r : Recall) : Bool := r.ext == h && r.line == l && !r.forRevoke && late r.sentAt
  let missing := (s.dir.recalls.any fun r => mine r && !r.answered)
    || (s.txn h l).elim false fun t => t.await2 && t.act != .revoke && late t.since
  if missing then .next ((s.bump .dirPtnTimeoutPoison q).poisonEnds h l).dirRun.settleAll
  else .next (s.onDir fun d => { d with recalls := d.recalls.filter fun r => !(mine r && r.answered) }).dirRun.settleAll

/-- DEAD_HOST_SCAN_DONE: a slice ends its scan for a dead host (R260). -/
def execDeadHostScanDone (sl : Slice) (ep : BitVec 16) (s : State) : Host.Outcome State Fault Refusal :=
  if s.dir.scans.contains (sl.val, ep.toNat) then
    .next ((s.deadScan sl ep.toNat).onDir fun d => { d with scans := d.scans.erase (sl.val, ep.toNat) }).dirRun.settleAll
  else .next s

end Sys2Proof.Machine
end

