-- ==== Sys2Proof/Machine/KrnCmd.lean ====
section
/-! DEFINITION. The 0x04xx commands: kernel images, models, the staging pool (spec/05_tile_programming.md R195 to R198;
spec/06_kernels_and_dealer.md R206, R221 to R223; spec/15_control_and_mailboxes.md R424). -/
namespace Sys2Proof.Machine

/-- The bytes of an extent range as firmware reads them, or the byte offset of the first that a poisoned or
uncorrectable line covers (R196). -/
def State.readRange (s : State) (h off n : Nat) : Except Nat (List Byte) :=
  let first := off / 128
  let lines := if n = 0 then [] else (List.range ((off + n - 1) / 128 - first + 1)).map fun i => (first + i, s.lineVal h (first + i))
  match lines.find? fun x => x.2.1 != 0 with
  | some x => .error (128 * x.1 - off)
  | none => .ok (((lines.flatMap fun x => x.2.2).drop (off % 128)).take n)

/-- What firmware's read of an extent range leaves behind: its lines are read with the control cores' tag (R331, R378). -/
def State.rangeFx (s : State) (h off n : Nat) : State :=
  if n = 0 then s else
  s.each (List.range ((off + n - 1) / 128 - off / 128 + 1)) fun s i =>
    if (s.waitingStore h (off / 128 + i)).isSome then s else s.readFx 52 h (off / 128 + i)

/-- The first failing check of a list, as the offset it names. -/
def firstBad : List (Bool × Nat) → Option Nat
  | [] => none
  | (ok, o) :: l => if ok then firstBad l else some o

/-- The size R195 gives an image with this header. -/
def imageSize (l : List Byte) : Nat := 128 + 8 * field l 8 4 + field l 28 4 + if bit (field l 6 2) 0 then 2820 else 0
/-- The header checks of R196 step 2, in the order of their offsets. -/
def imageHdrBad (l : List Byte) : Option Nat :=
  firstBad [(field l 0 4 == 0x314B5A46, 0), (field l 4 2 == 1, 4), (field l 8 4 != 0, 8), (decide (field l 12 4 < field l 8 4), 12),
    (field l 16 4 % 64 == 0, 16), (field l 20 4 % 64 == 0, 20), (field l 28 4 % 64 == 0, 28),
    (field l 32 4 % 64 == 0 && decide (field l 32 4 + field l 28 4 ≤ field l 16 4), 32), (decide (field l 36 4 ≤ 10000000), 36)]
/-- Whether a code word is legal (R165), and its BR target or loop body lies within the code section (R196 step 5). -/
def codeWordOk (n pc x : Nat) : Bool :=
  let w : TileWord := { pred := BitVec.ofNat 3 (bits x 57 3), pneg := bit x 56, body := BitVec.ofNat 50 x }
  let cls := bits x 60 4
  let func := bits x 50 6
  let dest : Int := (pc : Int) + sext 24 (wfld w 26 24)
  legalWord cls func w &&
  if cls = 7 && func = 0 then decide (0 ≤ dest) && decide (dest < (n : Int))
  else if cls = 7 && func = 1 then decide (pc + wfld w 14 14 < n)
  else true
/-- Whether an image passes the signature check of R196 step 4 under a partition's key record (R197). -/
def PtnRec.signOk (p : PtnRec) (signed : Bool) (sign digest : List Byte) : Bool :=
  if signed then Config.verify p.keyPub digest sign else !p.keyRequired
/-- The first handle of a range of `n` that a partition does not use. -/
def freeOf (n base : Nat) (used : Nat → Bool) : Option Nat := ((List.range n).map (base + ·)).find? fun h => !used h

/-- MB_ST_BAD_IMAGE with WHERE (R424). -/
def rBadImage (at' : Nat) : Reply := .now 0x0B (le 4 at')

/-- R196 steps 3 to 6 on an image whose form and digest are right. The reserve of R52 takes no part in step 6 (DESIGN CHOICE,
log 139: R52 does not list KRN_LOAD). -/
def State.takeImage (s : State) (q : Nat) (l : List Byte) : State × Reply :=
  let words := field l 8 4
  let consts := field l 28 4
  let signed := bit (field l 6 2) 0
  let sign := if signed then l.drop (128 + 8 * words + consts) else []
  let code := (List.range words).map fun i => field l (128 + 8 * i) 8
  let digest := slice l 64 32
  let pages := ceilDiv l.length 65536
  let free := s.dramQuota q - s.pinned q
  let noSpace (limit short : Nat) : State × Reply := (s, .now 7 (le 1 limit ++ le 8 short))
  if 16384 < words then noSpace 0 (words - 16384)
  else if 2093056 < field l 16 4 then noSpace 1 (field l 16 4 - 2093056)
  else if 4194304 < field l 20 4 then noSpace 2 (field l 20 4 - 4194304)
  else if 16384 < field l 24 4 then noSpace 3 (field l 24 4 - 16384)
  else if !((s.ptn q).signOk signed sign digest) then (s, .now 0x0C [])
  else match (code.zipIdx.find? fun x => !(codeWordOk words x.2 x.1)) with
    | some x => (s, rBadImage x.2)
    | none =>
      match freeOf 64 0x8000 fun h => (s.image q h).isSome with
      | none => noSpace 4 0
      | some h =>
        if free < pages then noSpace 5 (65536 * (pages - free)) else
        let i : Image :=
          { ptn := q, handle := h, flags := field l 6 2 % 16, entry := field l 12 4, scratchBytes := field l 16 4
            csBytes := field l 20 4, cards := field l 24 4, constAddr := field l 32 4
            timeLimit := if field l 36 4 = 0 then 100000 else field l 36 4
            code := code, consts := slice l (128 + 8 * words) consts, digest := digest, sign := sign, pages := pages }
        (s.onDeal fun d => { d with images := Tab.put d.images (q * 65536 + h) i }, .now 0 (le 2 h))

/-- An extent of a partition, ACTIVE, with a range inside it (R196 step 1). -/
def State.sourceOk (s : State) (q h off n : Nat) : Bool :=
  (s.ext h).elim false fun e => e.committed && e.ptn == q && decide (e.st = .active) && decide (off + n ≤ e.length)

/-- KRN_LOAD (R196). WHERE of a wrong length is where image and length part (log 49). -/
def cmdKrnLoad : Cmd := fun _ l s =>
  let q := field l 0 1
  let h := field l 4 4
  let off := field l 8 8
  let n := field l 16 4
  if !(s.sourceOk q h off n) then (s, rRange) else
  if (s.ext h).elim false s.closed then (s, rState) else
  let r := s.readRange h off n
  let s := s.rangeFx h off n
  match r with
  | .error w => (s, rBadImage w)
  | .ok b =>
    if b.length < 128 then (s, rBadImage b.length) else
    match imageHdrBad b with
    | some w => (s, rBadImage w)
    | none =>
      if imageSize b ≠ n then (s, rBadImage (min n (imageSize b)))
      else if slice (Config.shake256 (b.take 64 ++ slice b 128 (8 * field b 8 4 + field b 28 4))) 0 32 ≠ slice b 64 32 then (s, rBadImage 64)
      else s.takeImage q b

/-- KRN_UNLOAD (R198). -/
def State.krnUnload (s : State) (q h : Nat) : State × Reply :=
  match s.image q h with
  | none => (s, rRange)
  | some i =>
    if i.unloading then (s, rRange) else
    let open' := s.deal.invs.any fun e => e.2.ptn == q && e.2.kernel == h
    let s := s.onDeal fun d => { d with images := Tab.put d.images (q * 65536 + h) { i with unloading := true } }
    if open' then (s, .defer (q * 65536 + h)) else (s.unloads q, rOk)
def cmdKrnUnload : Cmd := fun _ l s => s.krnUnload (field l 0 1) (field l 2 2)
/-- A changed key record: loaded images are verified again (R197). -/
def State.reverify (s : State) (q : Nat) : State :=
  s.each (s.deal.images.filter fun e => e.2.ptn == q && !((s.ptn q).signOk (bit e.2.flags 0) e.2.sign e.2.digest)) fun s e =>
    (s.krnUnload q e.2.handle).1

/-! ### Models -/

/-- The size a model record has (R221). -/
def modelSize (m : ModelHdr) : Nat := 64 + roundUp (2 * m.hotCount) 64 + m.experts * m.expertBytes
/-- The header checks of a model record (R221). -/
def modelHdrBad (l : List Byte) : Option Nat :=
  let m := ModelHdr.ofBytes l
  firstBad [(field l 0 4 == 0x4C444D46, 0), (field l 4 2 == 1, 4), (decide (1 ≤ m.experts ∧ m.experts ≤ 4096), 6),
    (decide (128 ≤ m.dModel ∧ m.dModel ≤ 65536 ∧ m.dModel % 128 = 0), 8), (decide (128 ≤ m.dFf ∧ m.dFf ≤ 65536 ∧ m.dFf % 128 = 0), 12),
    (decide (field l 16 1 ≤ 1), 16), (decide (m.act ≤ 2), 17), (fmtM m.wFmt, 18), (decide (m.sparsity ≤ 2), 19),
    (fmtO m.inter, 20), (decide (m.hotCount ≤ m.experts), 22), (m.expertBytes == m.bytesNeeded, 24)]

/-- The slots a partition's models have at load: expert e on the cluster of rank e mod C (R222). -/
def State.loadSlots (s : State) (q experts : Nat) : Tab (List Nat) :=
  let cs := s.owned q
  (List.range experts).map fun e => (e, if cs.isEmpty then [] else (cs[e % cs.length]?).toList)
/-- A changed cluster set re-places every model of the partition (R222). -/
def State.replaceModels (s : State) (q : Nat) : State :=
  s.onDeal fun d => { d with models := d.models.map fun e =>
    (e.1, if e.2.ptn = q then { e.2 with slots := s.loadSlots q e.2.hdr.experts } else e.2) }

/-- Placement of a model whose record is right (R221 to R223). -/
def State.takeModel (s : State) (q : Nat) (l : List Byte) : State × Reply :=
  let m := ModelHdr.ofBytes l
  let eb := m.expertBytes
  match freeOf 16 0x0100 fun h => (s.model q h).isSome with
  | none => (s, rNoSpace 3 0)
  | some h =>
    let have' := (s.dramQuota q - s.pinned q) * 65536
    let room := have' - 1024 * 65536
    -- the shortfall of DRAM for `n` bytes beside the reserve of R52
    let short (n : Nat) : Nat := n + 1024 * 65536 - have'
    let fit := min m.experts ((room - 2 * eb) / eb)
    let hot := ((List.range m.hotCount).map fun i => field l (64 + 2 * i) 2).filter fun e => decide (e < m.experts)
    let order := (hot ++ List.range m.experts).eraseDups
    let ovfl := (m.experts - fit) * eb
    let flash := (s.ptn q).flashGib * 2 ^ 30 - s.flashUsed q
    if ovfl ≠ 0 && s.sec.debugOn then (s, rState)
    else if ovfl ≠ 0 && s.reg .dealCfgSpill q = 0 then (s, rNoSpace 0 (short ((m.experts + 2) * eb)))
    else if room < 2 * eb then (s, rNoSpace 0 (short (2 * eb)))
    else if flash < ovfl then (s, rNoSpace 1 (ovfl - flash))
    else
      let ppm := (m.experts - fit) * 1000000 / m.experts
      let x : Model :=
        { ptn := q, handle := h, hdr := m, resident := order.take fit, spillPpm := ppm, slots := s.loadSlots q m.experts
          experts := Mem.writes zeroByte [] 0 (l.drop (64 + roundUp (2 * m.hotCount) 64)) }
      (s.onDeal fun d => { d with models := Tab.put d.models (q * 65536 + h) x }, .now 0 (le 2 h ++ zeros 2 ++ le 4 ppm))
/-- MDL_LOAD (R221, R223). -/
def cmdMdlLoad : Cmd := fun _ l s =>
  let q := field l 0 1
  let h := field l 4 4
  let off := field l 8 8
  let n := field l 16 8
  if !(s.sourceOk q h off n) then (s, rRange) else
  if (s.ext h).elim false s.closed then (s, rState) else
  let r := s.readRange h off n
  let s := s.rangeFx h off n
  match r with
  | .error w => (s, rBadImage w)
  | .ok b =>
    if b.length < 64 then (s, rBadImage b.length) else
    match modelHdrBad b with
    | some w => (s, rBadImage w)
    | none =>
      let size := modelSize (ModelHdr.ofBytes b)
      if size ≠ n then (s, rBadImage (min n size))
      else if slice (Config.shake256 (b.take 32 ++ b.drop 64)) 0 32 ≠ slice b 32 32 then (s, rBadImage 32)
      else s.takeModel q b
/-- The open baskets of a model close, as far as the partition has room for closed ones (R216, R218). -/
def State.closeBaskets (s : State) (q h : Nat) : State :=
  (s.onDeal fun d => { d with baskets := d.baskets.map fun b =>
    (b.1, if b.2.ptn = q && b.2.model = h && !b.2.closed then { b.2 with due := true } else b.2) }).closeDue q
/-- MDL_UNLOAD: invocations accepted before it still use the model, whose open baskets close (R216, R221). -/
def cmdMdlUnload : Cmd := fun _ l s =>
  let q := field l 0 1
  let h := field l 2 2
  match s.model q h with
  | none => (s, rRange)
  | some m =>
    if m.unloading then (s, rRange) else
    let open' := (s.deal.invs.any fun e => e.2.ptn == q && e.2.kernel == 1 && e.2.model == h)
      || s.deal.baskets.any fun e => e.2.ptn == q && e.2.model == h
    let s := s.onModel q h fun m => { m with unloading := true, lastInv := s.deal.nextInv }
    if open' then (s.closeBaskets q h, .defer (q * 65536 + h)) else (s.unloads q, rOk)
/-- MDL_PLACE (R222). -/
def cmdMdlPlace : Cmd := fun _ l s =>
  let q := field l 0 1
  let act := field l 1 1
  let h := field l 2 2
  let e := field l 4 2
  let g := field l 6 1
  match s.model q h with
  | none => (s, rRange)
  | some m =>
    let sl := Tab.getD m.slots e []
    if 1 < act || m.hdr.experts ≤ e || !((s.ptn q).clusters.contains g) || m.unloading then (s, rRange)
    else if act = 0 then
      if sl.contains g then (s, rState)
      else if 4 ≤ sl.length then (s, .now 7 [])
      else (s.onModel q h fun m => { m with slots := Tab.put m.slots e (sl ++ [g]) }, rOk)
    else if !(sl.contains g) || sl.length ≤ 1 then (s, rState)
    else (s.onModel q h fun m => { m with slots := Tab.put m.slots e (sl.erase g) }, rOk)

/-- DEAL_CONFIG (R206). -/
def cmdDealConfig : Cmd := fun _ l s =>
  let q := field l 0 1
  let u := field l 4 4
  let old := s.poolOf q
  let free := s.dramQuota q - s.pinned q
  let need := u - old + if s.hasTiered q then 1024 else 0
  if 63 < q || 65536 < u then (s, rRange)
  else if old < u && free < need then (s, .now 7 (le 8 (65536 * (need - free))))
  else if u < s.poolUsed q then (s, rState)
  else (s.onDeal fun d => { d with stage := Tab.set 1024 d.stage q u }, rOk)

end Sys2Proof.Machine
end

