-- ==== Sys2Proof/Machine/Ptn.lean ====
section
/-! DEFINITION. Partition faults and resets, cluster resets and clearing, tile spares, and the 0x02xx commands
(spec/14_arbitration_and_isolation.md R402 to R407; spec/04_compute_tiles.md R117, R118; spec/19_partner_and_spares.md
R492; spec/20_reset_and_bringup.md R499; spec/15_control_and_mailboxes.md R423). -/
namespace Sys2Proof.Machine

/-! ### Tile spares (R492, R493) -/

/-- The tile retirements of a cluster, recorded or decided. -/
def State.retired (s : State) (g : Nat) : List Nat :=
  (s.wear.ents ++ s.wear.pend.map (·.ent)).filterMap fun e => if e.kind = 1 ∧ e.unit = g then some e.a else none
/-- The partition that owns a cluster, or is to own it once it is cleared. -/
def State.cluPtn (s : State) (g : Nat) : Option Nat := (s.ptns.find? fun e => e.2.clusters.contains g).map Prod.fst
/-- A tile has failed its self-test: its reserve takes its place at the next clearing, or the cluster is out of service
(R492). -/
def State.tileFails (s : State) (g t : Nat) : State :=
  if (s.clu g).lost || (s.retired g).contains t then s
  else if (s.retired g).isEmpty then s.wearOut { kind := 1, unit := g, a := t, b := 0 } none
  else
    let s := ((s.onClu g fun c => { c with lost := true }).wearOut { kind := 5, unit := g, a := 0, b := 0 } none).finding 4 g t
    match s.cluPtn g with
    | some q =>
      let s := s.onDeal fun d => { d with baskets := d.baskets.map fun b => (b.1, if b.2.cluster = some g then { b.2 with cluster := none } else b.2) }
      s.replaceModels q
    | none => s
/-- A cluster's clock stops; a self-test that is due begins: after a hang, at PRT_SPARE_TEST, or 24 h after the last (R492,
R494). -/
def State.stopClock (s : State) (g : Nat) : State :=
  let due := (s.clu g).hung || s.isDeferred 0x0804 g || s.past (s.clu g).testedAt (86400 * oneSec)
  s.onClu g fun c => { c with clockRun := false, test := if due then some s.now else c.test }
/-- Whether a cluster's self-test ends now: 200 µs after the clock-stop that began it, or at boot (R492). -/
def State.testEnds (s : State) (g : Nat) : Bool :=
  !(s.clu g).clockRun && match (s.clu g).test with
    | some t => s.past t (200 * usec)
    | none => s.board.phase != .ready && s.board.phase != .recovery
/-- TILE_SELF_TEST: a cluster's test ends; a tile that fails is replaced, and an open PRT_SPARE_TEST completes (R492,
R494). -/
def execTileSelfTest (g : Clu) (bad : Option (Fin 17)) (s : State) : Host.Outcome State Fault Refusal :=
  if !(s.testEnds g) then .next s else
  let s := s.onClu g fun c => { c with hung := false, test := none, testedAt := s.now }
  let s := match bad with
    | some t => s.tileFails g t
    | none => s
  .next (s.complete 0x0804 g 0 (le 4 (bad.elim 0 fun t => 2 ^ t.val)))
/-- Substitutions of a cluster take effect with its clearing (R492). -/
def Cluster.substitute (c : Cluster) (retired : List Nat) : Cluster :=
  match retired.head? with
  | some t => { c with retired := t, reserve := 31 }
  | none => c

/-! ### Faults and resets of a partition -/

/-- A partition's open transactions and invocations end with ST_PARTITION_RESET; its clusters stop (R42, R403, R404). -/
def State.endPtn (s : State) (q : Nat) : State :=
  let s := s.each (s.exts.filter fun e => e.2.ptn == q) fun s e => s.endRequests e.1 0x0B
  let s := s.each (s.fab.waits.filter fun r => r.kind == .invoke && r.pkt.q == q) fun s r =>
    ((s.onFab fun f => { f with waits := f.waits.erase r }).freeCredit r.port 0 r.pkt.flits).refuseInvoke r.port r.pkt 0x0B 0
  let s := s.each (s.invsOf q) fun s e => s.endInv e.1 0x0B none
  let s := s.onDeal fun d => { d with baskets := d.baskets.filter fun b => b.2.ptn != q, colls := d.colls.filter fun c => c.2.ptn != q }
  s.unloads q
/-- The subscribers of a partition on a port (R316). -/
def State.subsOf (s : State) (n q : Nat) : List Nat := ((List.range 8).map fun g => s.reg .schSubmap (n * 512 + 8 * q + g)).eraseDups
/-- The egress side of a partition reset: packets of its subscribers that stood in the queues of `old` are discarded, a queue
that empties loses its deficit, its buckets are filled, its histograms and maxima zeroed (R317, R319, R324). -/
def State.egressReset (s : State) (q : Nat) (old : State) : State :=
  s.each (List.range 18) fun s n =>
    let subs := s.subsOf n q
    let mine (k : Nat) : Bool := decide (k < 2048) && subs.contains (k / 4)
    let was (k : Nat) : Nat := (Tab.getD (old.eg n).queues k []).length
    let s := s.each (((s.eg n).queues.filter fun e => mine e.1).flatMap fun e => e.2.take (was e.1)) fun s o => s.outSub o.table
    s.onEg n fun e =>
      let left := (e.queues.map fun x => (x.1, if mine x.1 then x.2.drop (was x.1) else x.2)).filter fun x => !x.2.isEmpty
      { e with
               queues := left
               sqDef := e.sqDef.filter fun x => !(mine x.1) || Tab.has left x.1
               subDef := e.subDef.filter fun x => !(subs.contains x.1) || left.any fun y => y.1 / 4 == x.1
               subBkt := e.subBkt.filter fun x => !(subs.contains x.1)
               sqBkt := e.sqBkt.filter fun x => !(subs.contains (x.1 / 4))
               hist := (subs.flatMap (fun x => (List.range 4).map (4 * x + ·)) ++ (List.range 4).map (2048 + 4 * q + ·)).foldl
                 (fun h k => Tab.put (h.filter fun x => x.1 / 64 != k) (k * 64 + 34) e.samples) e.hist }
/-- A partition's policers start full again, with their counters at 0 (R314). -/
def State.policerReset (s : State) (q : Nat) : State :=
  let s := { s with pols := s.pols.filter fun e => e.1 / 4 != q }
  s.each (List.range 4) fun s c =>
    s.each [Reg.polGreen, .polYellow, .polRed, .polYretry] fun s r => s.setReg r (4 * q + c) 0

/-- Steps 1 to 6 of a partition reset, each after the one before it (R18, R404). The responses of steps 3 and 4 have been
sent when step 5 discards what stood in the egress queues (log 50). -/
def State.startReset (s : State) (q : Nat) : State :=
  let s := s.onPtn q fun p => { p with st := .resetting, resetStart := s.now, clearing := p.clusters }
  let s := ((((s.endPtn q).dirReset q).egressReset q s).policerReset q)
  (s.each (s.ptn q).clusters fun s g => s.clearCluster g).dirRun

/-- A cause of R402 is found (R403). -/
def State.ptnFault (s : State) (q cause : Nat) : State :=
  if (s.ptn q).st = .unused then s else
  let s := s.bump .ptnFaults q
  if (s.ptn q).st ≠ .active then s else
  let s := (s.onPtn q fun p => { p with st := .faulted, cause := cause }).endPtn q
  if s.reg .ptnCfgAutoReset q = 1 then s.startReset q else s

/-- Give the deferred commands of an opcode on one object another object. -/
def State.rekey (s : State) (opcode a b : Nat) : State :=
  { s with mbx := s.mbx.map fun e =>
      (e.1, { e.2 with deferred := e.2.deferred.map fun d => if d.opcode = opcode ∧ d.obj = a then { d with obj := b } else d }) }
/-- The counters a partition reset zeroes (R404 step 7). -/
def ptnCounters : List Reg :=
  [.dealCloseFull, .dealCloseDeadline, .dealTokens, .dealKsplit, .dirPtnTimeoutPoison, .dirPtnDeadPoison, .dirPtnSetFull,
   .dirPtnLateAck, .dirPtnStaleReturn, .dirPtnBadDirty, .dirPtnVictims, .dirPtnRecalls, .flPtnPromotions, .flPtnDestages, .flPtnZeroElided]
/-- PTN_RESET_DONE: steps 7 and 8 of R404, once its clusters are cleared; a reset asked for meanwhile starts (R405). -/
def execPtnResetDone (q : Ptn) (s : State) : Host.Outcome State Fault Refusal :=
  let q := q.val
  if (s.ptn q).st ≠ .resetting || !(s.ptn q).clearing.isEmpty then .next s else
  let s := s.each ptnCounters fun s r => s.setReg r q 0
  let s := (s.onPtn q fun p => { p with st := .active, cause := 0 }).bump .ptnResets q
  let s := s.complete 0x0202 q 0 []
  .next (if s.isDeferred 0x0202 (q + 64) then (s.rekey 0x0202 (q + 64) q).startReset q else s)

/-- PARITY_ERROR: QUEUE_PARITY or STATE_PARITY (R402). -/
def execParityError (q : Ptn) (cause : BitVec 4) (s : State) : Host.Outcome State Fault Refusal :=
  .next (if cause = 1#4 || cause = 2#4 then s.ptnFault q cause.toNat else s)
/-- CLUSTER_HANG: the owner faults (R402); the test that follows is TILE_SELF_TEST's. -/
def execClusterHang (g : Clu) (s : State) : Host.Outcome State Fault Refusal :=
  match s.cluPtn g with
  | none => .next s
  | some q => .next ((s.onClu g fun c => { c with hung := true }).ptnFault q 3)

/-- A cluster joins a partition, whose models are placed anew (R222, R405). -/
def State.joinCluster (s : State) (q g : Nat) : State :=
  (s.onPtn q fun p => { p with clusters := (List.range 32).filter fun x => x == g || p.clusters.contains x }).replaceModels q
/-- A cluster's clearing ends: its spare takes over, and what waited for it goes on (R118, R405, R492). -/
def State.cleared (s : State) (g : Nat) : State :=
  let retired := s.retired g
  let join := (s.clu g).pendingOwner
  let s := s.onClu g fun c => { c.substitute retired with clearing := false, pendingOwner := none }
  let s := if join = some none && (s.clu g).clockRun then s.stopClock g else s
  let s := { s with ptns := s.ptns.map fun (e : Nat × PtnRec) => (e.1, { e.2 with clearing := e.2.clearing.erase g }) }
  let s := s.complete 0x0106 g 0 []
  match join with
  | some (some q) => s.joinCluster q g
  | _ => s
/-- CLEARING_END: 1,024 ACLK cycles after it began, a clearing ends; further clearings that waited begin (R118, R405). -/
def execClearingEnd (g : Clu) (s : State) : Host.Outcome State Fault Refusal :=
  if (s.clu g).clearing && s.past (s.clu g).clearStart 81920 then .next (s.cleared g).clusterResets else .next s

/-! ### Commands -/

/-- PTN_INFO (R423). -/
def cmdPtnInfo : Cmd := fun _ l s =>
  let q := field l 0 1
  if 63 < q then (s, rRange) else
  let p := s.ptn q
  let st := match p.st with | .unused => 0 | .active => 1 | .resetting => 2 | .faulted => 3
  let mask (l : List Nat) : Nat := (l.eraseDups.map fun g => 2 ^ g).sum
  (s, .now 0 (le 1 st ++ le 1 p.cause ++ zeros 2 ++ le 8 (s.dramQuota q * 65536)
    ++ le 8 (s.pinned q * 65536) ++ le 8 (p.flashGib * 2 ^ 30) ++ le 8 (s.flashUsed q)
    ++ le 8 (p.trackedUnits * 2097152) ++ le 8 (s.trackedUsed q) ++ le 4 (mask p.clusters) ++ le 48 (mask p.channels) ++ le 8 (mask p.mailboxes)))
/-- PTN_RESET (R404, R405). -/
def cmdPtnReset : Cmd := fun _ l s =>
  let q := field l 0 1
  if 63 < q then (s, rRange)
  else match (s.ptn q).st with
    | .unused => (s, rState)
    | .resetting => if s.isDeferred 0x0202 (q + 64) then (s, rPending) else (s, .defer (q + 64))
    | _ => (s.startReset q, .defer q)
/-- PTN_FAULT (R402). -/
def cmdPtnFault : Cmd := fun _ l s =>
  let q := field l 0 1
  if 63 < q then (s, rRange) else if (s.ptn q).st = .active then (s.ptnFault q 4, rOk) else (s, rState)
/-- DEV_CLUSTER_RESET (R498, R499). -/
def cmdDevClusterReset : Cmd := fun _ l s =>
  let g := field l 0 1
  if 31 < g then (s, rRange) else if s.isDeferred 0x0106 g then (s, rPending) else (s, .defer g)
/-- PRT_SPARE_TEST (R494). -/
def cmdPrtSpareTest : Cmd := fun _ l s =>
  let g := field l 0 1
  if 31 < g then (s, rRange) else if s.isDeferred 0x0804 g then (s, rPending) else (s, .defer g)

end Sys2Proof.Machine
end

