-- ==== Sys2Proof/Machine/Link.lean ====
section
/-! DEFINITION. The link layer of a port: flit groups, replay, credit, link states, parameters, swaps, low power, enable
and shut-down (spec/08_gleodlink.md R265 to R286, R532; spec/14_arbitration_and_isolation.md R405, R406;
spec/20_reset_and_bringup.md R499). -/
namespace Sys2Proof.Machine

/-! ### Answers to commands that came by mailbox or by MGMT (R303, R418) -/

/-- The response to an MGMT request (R303). -/
def mgmtResp (p : Packet) (status : Nat) (body : List Byte) : Packet :=
  let b := slice p.payload 0 4 ++ le 2 status ++ le 2 body.length ++ body
  { p.resp 0 with payloadLen := BitVec.ofNat 16 b.length, payload := padTo (roundUp b.length 64) b }
/-- Complete a deferred command, whichever way it came. -/
def State.completeAny (s : State) (opcode obj status : Nat) (body : List Byte) : State :=
  let hit (x : Nat × Nat × Nat × Packet) : Bool := x.1 == opcode && x.2.1 == obj
  let ws := s.rt.mgmtWait.filter hit
  let s := (s.complete opcode obj status body).onRt fun r => { r with mgmtWait := r.mgmtWait.filter fun x => !(hit x) }
  s.each ws fun s x => s.emit x.2.2.1 (mgmtResp x.2.2.2 status body)
/-- Whether a command is deferred on an object, whichever way it came. -/
def State.anyDeferred (s : State) (opcode obj : Nat) : Bool :=
  s.isDeferred opcode obj || s.rt.mgmtWait.any fun x => x.1 == opcode && x.2.1 == obj

/-! ### Packets and flits -/

/-- A packet as flits; its last flit carries what its departure frees. -/
def OutPkt.toFlits (o : OutPkt) : List Flit :=
  let cs := chunks 64 o.pkt.bytes
  cs.zipIdx.map fun x =>
    let last := decide (x.2 + 1 = cs.length)
    { bytes := x.1, first := x.2 == 0, last := last
      owner := if last then some { table := o.table, ingress := o.ingress, vc := o.vc, flits := o.flits } else none }
/-- What a packet held is given back (R276, R299). -/
def State.release (s : State) (o : FlitOwner) : State :=
  let s := s.outSub o.table
  match o.ingress with
  | some n => s.freeCredit n o.vc o.flits
  | none => s
def State.releaseAll (s : State) (l : List Flit) : State := s.each (l.filterMap (·.owner)) State.release
/-- Split flits at headers. -/
def packetsOf : List Flit → List (List Flit)
  | [] => []
  | f :: fs =>
    match packetsOf fs with
    | p :: ps => if (p.head?).elim false (·.first) then [f] :: p :: ps else (f :: p) :: ps
    | [] => [[f]]
/-- The flits a header announces (R86), and its VC (R275). -/
def hdrFlits (b : List Byte) : Nat := 2 + ceilDiv (field b 40 2) 64
def hdrVc (b : List Byte) : Nat := vcOf (field b 0 1) (bit (field b 1 1) 0)
/-- The receive buffer of a VC in flits (R276). -/
def vcBuf (v : Nat) : Nat := ([3072, 3072, 512, 1024, 512][v]?).getD 0

/-- Whether a packet may start on a port: the port is ACTIVE, and there are credit and hamper room (R272, R276). -/
def State.canStart (s : State) (n vc flits : Nat) : Bool :=
  let l := s.link n
  let out := (s.reg .glConsumedVc (5 * n + vc) + 2 ^ 32 - s.reg .glPeerFreedVc (5 * n + vc)) % 2 ^ 32
  decide (l.st = .active) && decide (out + flits ≤ s.reg .glBufVc (5 * n + vc)) && decide (l.hamper.length + l.sending.length + flits ≤ 4096)
/-- Start a packet: its flits wait for the next groups, and its credit is consumed (R276). -/
def State.startFlits (s : State) (n vc : Nat) (fs : List Flit) : State :=
  (s.onLink n fun l => { l with sending := l.sending ++ fs }).bumpN .glConsumedVc (5 * n + vc) fs.length

/-! ### States -/

/-- A port comes to rest in a state. -/
def State.linkTo (s : State) (n : Nat) (st : LinkSt) : State := s.onLink n fun l => { l with st := st, stSince := s.now }
/-- Training begins, unless the endpoint ID latched is no fabric ID (R279, R523). -/
def State.linkTrain (s : State) (n : Nat) : State := if s.ownId = 0xFFFF then s else s.linkTo n .training
/-- A report to the control core that runs fabric management (R279, R283). -/
def State.report (s : State) (kind n lane : Nat) : State := s.onRt fun r => { r with reports := r.reports ++ [(kind, n, lane)] }
/-- A port enters DOWN and from there TRAINING: the entry is counted and reported; the replay timer runs on with the hamper, and
a SWAP_REQ held back stays (R273, R279, R282, R284). -/
def State.goDown (s : State) (n : Nat) : State :=
  (((s.onLink n fun l => { l with replayFrom := none, replaysSince := 0, lpiSent := none, swapLane := [] }).bump .glDownEvents n).report 0 n 0).linkTo
    n .training
/-- Whether groups arrive in a port's state. -/
def Link.listening (l : Link) : Bool := l.st == .param || l.st == .active || l.st == .swap

/-- The PARAM item an end sends: its argument (R280). -/
def State.paramArg (s : State) (n cmd : Nat) : Nat :=
  if cmd = 0x10 then s.ownId
  else if cmd = 0x11 then s.reg .glEpoch n % 65536
  else if cmd = 0x12 then s.reg .glEpoch n / 65536
  else if cmd = 0x13 then (s.link n).expected.toNat
  else if cmd < 0x19 then vcBuf (cmd - 0x14) - Tab.getD (s.link n).rxUsed (cmd - 0x14) 0
  else 0
/-- Whether every item before PARAM_DONE has been received. -/
def Link.gotItems (l : Link) : Bool := (List.range 9).all fun i => Tab.has l.got (0x10 + i)
def Link.nextItem (l : Link) : Nat :=
  if l.itemNext = 0x18 then (if l.gotItems then 0x19 else 0x10) else if l.itemNext = 0x19 then 0x10 else l.itemNext + 1

/-- Bytes of a trailer from offset 4 on (R267). -/
def trailerTail (first ack ctl cred cmd arg : Nat) : List Byte := le 2 first ++ le 2 ack ++ le 1 ctl ++ le 4 cred ++ le 1 cmd ++ le 2 arg
/-- The link sends its next group: replayed flits first, then started packets, then idle flits (R267, R268, R272, R273,
R277, R280). -/
def State.sendGroup (s : State) (n : Nat) : State :=
  let l := s.link n
  let rep := match l.replayFrom with
    | some i => (l.hamper.drop i).take 64
    | none => []
  let new := l.sending.take (64 - rep.length)
  let flits := if l.st = .active then rep ++ new else []
  let new := if l.st = .active then new else []
  let first := match l.replayFrom with
    | some i => l.nextLseq - BitVec.ofNat 16 (l.hamper.length - i)
    | none => l.nextLseq
  let c : Nat × Nat := if l.st = .param then (l.itemNext, s.paramArg n l.itemNext) else (l.cmdQ.head?).getD (0, 0)
  let slots := (flits.flatMap (·.bytes)) ++ zeros (4096 - 64 * flits.length)
  let tail := trailerTail first.toNat l.expected.toNat (l.cvc + 8 * b2n (!flits.isEmpty)) (s.reg .glFreedVc (5 * n + l.cvc)) c.1 c.2
  let crc := (crc32c (slots ++ tail)).toNat
  let starts := l.timerAt.isNone && (!new.isEmpty || !l.hamper.isEmpty) && l.st == .active
  let per := s.reg .glReplayTimer n
  let s := s.onLink n fun l =>
    { l with
      hamper := l.hamper ++ new.map fun f => { f with owner := none }
      sending := l.sending.drop new.length
      nextLseq := l.nextLseq + BitVec.ofNat 16 new.length
      replayFrom := if l.st = .active then (match l.replayFrom with
        | some i => if i + 64 < l.hamper.length then some (i + 64) else none
        | none => none) else l.replayFrom
      timerAt := if starts then some s.now else l.timerAt
      timerPer := if starts then per else l.timerPer
      cvc := (l.cvc + 1) % 5
      itemNext := if l.st = .param then l.nextItem else l.itemNext
      sentDone := l.sentDone || (l.st == .param && l.itemNext == 0x19)
      cmdQ := if l.st = .param then l.cmdQ else l.cmdQ.drop 1
      lastGroup := slots ++ le 4 crc ++ tail }
  s.releaseAll new
/-- FLIT_GROUP_SEND (R267). -/
def execFlitGroupSend (n : Port) (s : State) : Host.Outcome State Fault Refusal :=
  .next (if (s.link n).st = .active || (s.link n).st = .param then s.sendGroup n else s)
/-- Send a link command in a group of its own. -/
def State.sendCmd (s : State) (n cmd arg : Nat) : State := (s.onLink n fun l => { l with cmdQ := (cmd, arg) :: l.cmdQ }).sendGroup n

/-! ### Lane swaps (R283, R284) -/

/-- The transmitter takes a SWAP_REQ: it sends SWAP_GO and enters SWAP, or answers after the return to ACTIVE. -/
def State.onSwapReq (s : State) (n lane : Nat) : State :=
  let l := s.link n
  if l.st = .swap || l.st = .lpIdle then s.onLink n fun l => { l with swapReq := some lane }
  else if l.st ≠ .active || l.txSpare = 7 || !(l.txLanes.contains lane) then s
  else ((s.sendCmd n 2 lane).onLink n fun l => { l with swapLane := [(true, lane)] }).linkTo n .swap
/-- SWAP_GO names the lane the peer's transmitter moves to the spare; it may find the port in SWAP for its own transmit lane. -/
def State.onSwapGo (s : State) (n lane : Nat) : State :=
  let l := s.link n
  if l.rxSpare = 7 || !(l.rxLanes.contains lane) then s
  else if l.st = .active then (s.onLink n fun l => { l with swapLane := [(false, lane)] }).linkTo n .swap
  else if l.st = .swap && l.swapLane.all (·.1) then s.onLink n fun l => { l with swapLane := l.swapLane ++ [(false, lane)] }
  else s
/-- A port returns to ACTIVE; a SWAP_REQ held back is answered (R284). -/
def State.toActive (s : State) (n : Nat) : State :=
  let held := (s.link n).swapReq
  let s := (s.onLink n fun l => { l with swapReq := none }).linkTo n .active
  match held with
  | some lane => s.onSwapReq n lane
  | none => s
/-- SWAP_REQ, SWAP_GO (R284). -/
def execSwapReq (n : Port) (arg : BitVec 16) (s : State) : Host.Outcome State Fault Refusal := .next (s.onSwapReq n arg.toNat)
def execSwapGo (n : Port) (arg : BitVec 16) (s : State) : Host.Outcome State Fault Refusal := .next (s.onSwapGo n arg.toNat)
/-- Lanes after a lane has moved to the spare. -/
def Link.swapped (l : Link) (tx : Bool) (lane : Nat) : Link :=
  let put (ls : List Nat) (spare : Nat) : List Nat := ls.map fun x => if x = lane then spare else x
  if tx then { l with txLanes := put l.txLanes l.txSpare, txSpare := 7 }
  else { l with rxLanes := put l.rxLanes l.rxSpare, rxSpare := 7 }
/-- A lane has moved to the spare; it goes to the wear record (R284, R493). -/
def State.laneMoved (s : State) (n : Nat) (x : Bool × Nat) : State :=
  ((s.onLink n fun l => l.swapped x.1 x.2).bump .glLaneSwaps n).wearOut { kind := 2, unit := n, a := b2n (!x.1) + 2 * x.2, b := 0 } none
/-- SWAP_COMPLETE: deskewed, the port returns to ACTIVE (R284). -/
def execSwapComplete (n : Port) (s : State) : Host.Outcome State Fault Refusal :=
  if (s.link n).st = .swap then
    .next (((s.each (s.link n).swapLane fun s x => s.laneMoved n x).onLink n fun l => { l with swapLane := [] }).toActive n)
  else .next s
/-- SWAP_TIMEOUT: 20 µs after SWAP_GO (R284). -/
def execSwapTimeout (n : Port) (s : State) : Host.Outcome State Fault Refusal :=
  .next (if (s.link n).st = .swap && s.past (s.link n).stSince (20 * usec) then s.goDown n else s)

/-! ### LP_IDLE (R285) -/

/-- Whether a port is quiet: hamper and queues empty, no outstanding count. -/
def State.quiet (s : State) (n : Nat) : Bool :=
  let l := s.link n
  l.hamper.isEmpty && l.sending.isEmpty && l.requeue.isEmpty && (s.eg n).queues.all (fun q => q.2.isEmpty)
    && (List.range 5).all fun v => s.reg .glConsumedVc (5 * n + v) == s.reg .glPeerFreedVc (5 * n + v)
/-- Lookout asks a port to sleep: LPI_REQ goes out where the port may (R285). -/
def State.askLpi (s : State) (n : Nat) : State :=
  if (s.link n).st = .active && s.reg .glCtrlLpiAllow n = 1 && s.quiet n && (s.link n).lpiSent.isNone then
    (s.onLink n fun l => { l with lpiSent := some s.now }).sendCmd n 3 0
  else s
/-- An LPI_REQ arrives: LPI_ACK under the same conditions; it ends the sleep of a port in LP_IDLE. -/
def State.onLpiReq (s : State) (n : Nat) : State :=
  if (s.link n).st = .lpIdle then s.wakeRes (44 + n)
  else if (s.link n).st = .active && s.reg .glCtrlLpiAllow n = 1 && s.quiet n then
    ((s.sendCmd n 4 0).onLink n fun l => { l with lpiSent := none }).linkTo n .lpIdle
  else s
/-- LPI_ACK: the port enters LP_IDLE; a packet that became ready meanwhile, queued or started, ends it at once. -/
def State.onLpiAck (s : State) (n : Nat) : State :=
  match (s.link n).lpiSent with
  | some t =>
    if s.past t (usec + 1) || !((s.link n).st == .active) then s
    else
      let s := (s.onLink n fun l => { l with lpiSent := none }).linkTo n .lpIdle
      let l := s.link n
      if l.hamper.isEmpty && l.sending.isEmpty && l.requeue.isEmpty && (s.eg n).queues.all (fun q => q.2.isEmpty) then s
      else s.wakeRes (44 + n)
  | none => s
def execLpiReq (n : Port) (s : State) : Host.Outcome State Fault Refusal := .next (s.onLpiReq n)
def execLpiAck (n : Port) (s : State) : Host.Outcome State Fault Refusal := .next (s.onLpiAck n)
/-- LPI_REQ_LAPSE: an unanswered request lapses after 1 µs. -/
def execLpiReqLapse (n : Port) (s : State) : Host.Outcome State Fault Refusal :=
  .next (match (s.link n).lpiSent with
    | some t => if s.past t usec then s.onLink n fun l => { l with lpiSent := none } else s
    | none => s)
/-- A port's exit from LP_IDLE ends. -/
def State.lpExit (s : State) (n : Nat) : State :=
  if (s.link n).st = .lpIdle && Tab.has s.lk.waking (44 + n) then
    (s.onLk fun k => { k with waking := Tab.del k.waking (44 + n) }).toActive n
  else s
def execLpIdleExitDone (n : Port) (s : State) : Host.Outcome State Fault Refusal := .next (s.lpExit n)

/-! ### Training and parameters (R279 to R281) -/

/-- RETRAIN_REQ, REPLAY_LIMIT_REACHED: the port enters DOWN. -/
def State.onRetrain (s : State) (n : Nat) : State := if (s.link n).listening then s.goDown n else s
def execRetrainReq (n : Port) (s : State) : Host.Outcome State Fault Refusal := .next (s.onRetrain n)
/-- ALIGNMENT_LOSS: with no spare left the training that follows cannot complete (R279, R283). -/
def execAlignmentLoss (n : Port) (s : State) : Host.Outcome State Fault Refusal :=
  .next (if (s.link n).listening then (s.onLink n fun l => { l with noLane := l.noLane || l.rxSpare == 7 }).goDown n else s)
def execReplayLimitReached (n : Port) (s : State) : Host.Outcome State Fault Refusal :=
  .next (if (s.link n).st = .active && s.reg .glReplayLimit n ≤ (s.link n).replaysSince then s.goDown n else s)
/-- A port's boot training has ended, well or not (R501). -/
def State.portDone (s : State) (n : Nat) : State :=
  (s.onBoard fun b => { b with portsDone := if b.portsDone.contains n then b.portsDone else b.portsDone ++ [n] }).advance
/-- TRAINING_COMPLETE: the port enters PARAM, unless a lane without a spare has lost its alignment (R279, R283). -/
def execTrainingComplete (n : Port) (s : State) : Host.Outcome State Fault Refusal :=
  .next (if (s.link n).st = .training && !(s.link n).noLane then
      ((s.onLink n fun l => { l with got := [], itemNext := 0x10, sentDone := false }).linkTo n .param).portDone n
    else s)
/-- TRAINING_TIMEOUT: not complete in 0.3 s. -/
def execTrainingTimeout (n : Port) (s : State) : Host.Outcome State Fault Refusal :=
  .next (if (s.link n).st = .training && s.past (s.link n).stSince (300 * msec) then (s.goDown n).portDone n else s)

/-- A new epoch starts in both directions (R281). -/
def State.newEpoch (s : State) (n : Nat) : State :=
  let l := s.link n
  let all := l.hamper ++ l.sending
  let lead := all.takeWhile fun f => !f.first
  let rest := all.drop lead.length
  let parts := l.rx.filter fun r => !r.whole
  let s := s.bumpN .glDropEpoch n (b2n (!lead.isEmpty))
  let s := s.releaseAll lead
  let s := s.onLink n fun l =>
    { l with hamper := [], sending := [], requeue := packetsOf rest ++ l.requeue, nextLseq := 0#16, expected := 0#16
             replayFrom := none, timerAt := none, replaysSince := 0, rx := l.rx.filter (·.whole), rxPart := [], rxDrop := 0 }
  let s := s.each (List.range 5) fun s v =>
    s.each [Reg.glConsumedVc, .glFreedVc, .glPeerFreedVc] (fun s r => s.setReg r (5 * n + v) 0)
      |>.setReg .glBufVc (5 * n + v) (Tab.getD l.got (0x14 + v) 0 % 8192)
  s.each parts fun s r => s.freeCredit n r.vc r.flits
/-- The replay a kept epoch begins: from the peer's NEXT_EXP (R281). -/
def State.sameEpoch (s : State) (n : Nat) : State :=
  let per := s.reg .glReplayTimer n
  s.onLink n fun l =>
    let k := (BitVec.ofNat 16 (Tab.getD l.got 0x13 0) - (l.nextLseq - BitVec.ofNat 16 l.hamper.length)).toNat
    let h := if k ≤ l.hamper.length then l.hamper.drop k else l.hamper
    let fewer := decide (h.length < l.hamper.length)
    { l with hamper := h, replayFrom := if h.isEmpty then none else some 0, replaysSince := 0
             timerAt := if h.isEmpty then none else if fewer then some s.now else l.timerAt
             timerPer := if fewer then per else l.timerPer }
/-- The peer's parameter set is complete: the port keeps or restarts its epoch and becomes ACTIVE (R279 to R281). -/
def State.paramEnd (s : State) (n : Nat) : State :=
  let l := s.link n
  if l.st ≠ .param || !l.gotItems || !(Tab.has l.got 0x19) then s else
  let id := Tab.getD l.got 0x10 0
  let ep := Tab.getD l.got 0x11 0 + 65536 * Tab.getD l.got 0x12 0
  let same := !l.firstParam && s.reg .glPeerId n == id && s.reg .glPeerEpoch n == ep
  let s := if same then s.sameEpoch n else s.newEpoch n
  let s := (s.setReg .glPeerId n id).setReg .glPeerEpoch n ep
  (s.onLink n fun l => { l with firstParam := false, cmdQ := if l.sentDone then [] else [(0x19, 0)] }).toActive n
/-- A PARAM item arrives. -/
def State.onItem (s : State) (n cmd arg : Nat) : State :=
  if (s.link n).st ≠ .param then s else
  let s := s.onLink n fun l => { l with got := Tab.put l.got cmd arg }
  s.paramEnd n
/-- PEER_ID, EPOCH_LO, EPOCH_HI, NEXT_EXP, BUF_VC, PARAM_DONE (R280, R281). -/
def execPeerId (n : Port) (arg : BitVec 16) (s : State) : Host.Outcome State Fault Refusal := .next (s.onItem n 0x10 arg.toNat)
def execEpochLo (n : Port) (arg : BitVec 16) (s : State) : Host.Outcome State Fault Refusal := .next (s.onItem n 0x11 arg.toNat)
def execEpochHi (n : Port) (arg : BitVec 16) (s : State) : Host.Outcome State Fault Refusal := .next (s.onItem n 0x12 arg.toNat)
def execNextExp (n : Port) (arg : BitVec 16) (s : State) : Host.Outcome State Fault Refusal := .next (s.onItem n 0x13 arg.toNat)
def execBufVc (n : Port) (vc : Fin 5) (arg : BitVec 16) (s : State) : Host.Outcome State Fault Refusal :=
  .next (s.onItem n (0x14 + vc.val) arg.toNat)
def execParamDone (n : Port) (s : State) : Host.Outcome State Fault Refusal := .next (s.onItem n 0x19 0)

/-! ### Receiving a group (R268 to R271, R275 to R277, R280) -/

/-- One packet slot at the receiver, in order. -/
def State.rxSlot (s : State) (n : Nat) (b : List Byte) : State :=
  let l := s.link n
  let next (s : State) : State := s.onLink n fun l => { l with expected := l.expected + 1#16 }
  if 0 < l.rxDrop then next (s.onLink n fun l => { l with rxDrop := l.rxDrop - 1 })
  else if l.rxPart.isEmpty then
    if field b 0 1 = 0 then s else
    let k := hdrFlits b
    let v := hdrVc b
    if vcBuf v < Tab.getD l.rxUsed v 0 + k then
      next ((s.onLink n fun l => { l with rxDrop := k - 1 }).bumpN .glCreditOverrun n k)
    else
      next (s.onLink n fun l =>
        { l with rxPart := [b], rxUsed := Tab.set 0 l.rxUsed v (Tab.getD l.rxUsed v 0 + k)
                 rx := l.rx ++ [{ vc := v, flits := k, pkt := {}, whole := false, since := s.now }] })
  else
    let k := hdrFlits ((l.rxPart.head?).getD [])
    let part := l.rxPart ++ [b]
    if part.length < k then next (s.onLink n fun l => { l with rxPart := part })
    else
      let p := (Packet.ofBytes part.flatten).getD {}
      next (s.onLink n fun l =>
        { l with rxPart := [], rx := l.rx.map fun r => if r.whole then r else { r with pkt := p, whole := true } })
/-- Whether a slot is all zero. -/
def idleSlot (b : List Byte) : Bool := b.all (· == 0#8)
/-- The packet flits of a gap group: every slot that is not all zero, and a free number of the others, for the receiver has
missed the header that tells an all-zero flit from an idle one (R268, R270; log 52). -/
def gapFlits (free : Nat) (slots : List (List Byte)) : Nat :=
  let z := (slots.filter idleSlot).length
  if z = 0 then slots.length else slots.length - z + free % (z + 1)
/-- An acknowledgement (R271, R273). -/
def State.rxAck (s : State) (n : Nat) (ack : BitVec 16) : State :=
  let l := s.link n
  let k := (ack - (l.nextLseq - BitVec.ofNat 16 l.hamper.length)).toNat
  let per := s.reg .glReplayTimer n
  if k = 0 || l.hamper.length < k then s
  else s.onLink n fun l =>
    { l with hamper := l.hamper.drop k, replaysSince := 0, timerPer := per
             timerAt := if l.hamper.length = k then none else some s.now
             replayFrom := match l.replayFrom with
               | some i => if l.hamper.length = k then none else some (i - k)
               | none => none }
/-- A freed counter (R277). -/
def State.rxCredit (s : State) (n v freed : Nat) : State :=
  if 4 < v then s
  else if s.reg .glBufVc (5 * n + v) < (s.reg .glConsumedVc (5 * n + v) + 2 ^ 32 - freed) % 2 ^ 32 then s.bump .glCreditBad n
  else s.setReg .glPeerFreedVc (5 * n + v) freed
/-- A link command (R280). -/
def State.rxCmd (s : State) (n cmd arg : Nat) : State :=
  if cmd = 0 then s
  else if cmd = 1 then s.onSwapReq n arg
  else if cmd = 2 then s.onSwapGo n arg
  else if cmd = 3 then s.onLpiReq n
  else if cmd = 4 then s.onLpiAck n
  else if cmd = 5 then s.onRetrain n
  else if 0x10 ≤ cmd ∧ cmd ≤ 0x19 then s.onItem n cmd arg
  else s.bump .glCmdBad n
/-- FLIT_GROUP_RECEIVE (R269 to R271, R276, R277, R280). -/
def execFlitGroupReceive (n : Port) (slots : List Byte) (tr : GroupTrailer) (fec : FecReport) (s : State) :
    Host.Outcome State Fault Refusal :=
  if !(s.link n).listening then .next s else
  let b := padTo 4096 (slots.take 4096)
  let s := (s.bumpN .glCwCorrected n fec.corrected).bumpN .glCwUncorr n fec.uncorr
  let s := s.onLink n fun l => { l with symerr := l.symerr.zipIdx.map fun x => x.1 + (fec.lanes[x.2]?).getD 0 }
  let tail := trailerTail tr.firstLseq.toNat tr.ackLseq.toNat tr.ctl.toNat tr.credFreed.toNat tr.cmd.toNat tr.arg.toNat
  if fec.uncorr ≠ 0 || crc32c (b ++ tail) ≠ tr.crc then .next (s.bump .glGrpDiscard n) else
  let cs := chunks 64 b
  let s :=
    if !(bit tr.ctl.toNat 3) then s else
    let d := ((s.link n).expected - tr.firstLseq).toInt
    if 0 ≤ d then
      let k := min d.toNat 64
      (s.bumpN .glDupFlits n k).each (cs.drop k) fun s b => s.rxSlot n b
    else let f := s.draw; f.2.bumpN .glGapFlits n (gapFlits f.1 cs)
  let s := s.rxAck n tr.ackLseq
  let s := s.rxCredit n (tr.ctl.toNat % 8) tr.credFreed.toNat
  .next (s.rxCmd n tr.cmd.toNat tr.arg.toNat)
/-- Whether a packet that comes by its own row finds its VC's buffer full (R276). -/
def State.overrun (s : State) (n vc : Nat) (p : Packet) : Bool :=
  !((s.link n).rx.any fun r => r.whole && r.vc == vc && r.pkt == p) && decide (vcBuf vc < Tab.getD (s.link n).rxUsed vc 0 + p.flits)
/-- A packet leaves the receive buffer for its consumer; one that came by its own row takes its flits there first. -/
def State.takeRx (s : State) (n vc : Nat) (p : Packet) : State :=
  match (s.link n).rx.find? fun r => r.whole && r.vc == vc && r.pkt == p with
  | some r => s.onLink n fun l => { l with rx := l.rx.erase r }
  | none => s.onLink n fun l => { l with rxUsed := Tab.set 0 l.rxUsed vc (Tab.getD l.rxUsed vc 0 + p.flits) }

/-! ### Replay timer and symbol windows -/

/-- REPLAY_TIMER_EXPIRY: the hamper is replayed from the next group (R273). -/
def execReplayTimerExpiry (n : Port) (s : State) : Host.Outcome State Fault Refusal :=
  let l := s.link n
  match l.timerAt with
  | some t =>
    if l.st = .active && !l.hamper.isEmpty && s.past t (l.timerPer * 10000) then
      let per := s.reg .glReplayTimer n
      .next ((s.onLink n fun l =>
        { l with replayFrom := some 0, replaysSince := l.replaysSince + 1, timerAt := some s.now, timerPer := per }).bump .glReplays n)
    else .next s
  | none => .next s
/-- LANE_SYMBOL_WINDOW_END: corrected symbols of the last millisecond are compared with GL_LANE_THRESH; a crossing that moves no
lane is counted and reported (R283, R481). -/
def execLaneSymbolWindowEnd (n : Port) (s : State) : Host.Outcome State Fault Refusal :=
  let l := s.link n
  if !(s.past l.symAt msec) then .next s else
  let s := s.each (List.range 5) fun s i => s.setReg .glLaneSymerr (5 * n + i) ((l.symerr[i]?).getD 0 % 2 ^ 32)
  let s := s.onLink n fun l => { l with symerr := [0, 0, 0, 0, 0], symAt := s.now }
  let ovfl := (List.range 5).filter fun i => l.rxLanes.contains i && decide (s.reg .glLaneThresh n < (l.symerr[i]?).getD 0)
  if ovfl.isEmpty || l.st ≠ .active then .next s
  else if l.rxSpare ≠ 7 && s.reg .glCtrlSpareAuto n = 1 then
    let worst := ovfl.foldl (fun a i => if (l.symerr[a]?).getD 0 < (l.symerr[i]?).getD 0 then i else a) (ovfl.head?.getD 0)
    .next (s.onLink n fun l => { l with cmdQ := l.cmdQ ++ [(1, worst)] })
  else .next (s.each ovfl fun s i => ((if l.rxSpare = 7 then s.finding 7 n i else s).report 1 n i).bump .glLaneAlarm n)

/-! ### Enable, shut-down and reset of a port (R281, R282, R405, R406, R499, R532) -/

/-- Everything held for a port is discarded and counted (R282). -/
def State.discardHeld (s : State) (n : Nat) : State :=
  let l := s.link n
  let fs := l.hamper ++ l.sending ++ l.requeue.flatten
  let qs := (s.eg n).queues.flatMap (·.2)
  let s := s.bumpN .glDropReset n ((packetsOf fs).length + qs.length)
  let s := s.releaseAll fs
  let s := s.each qs fun s o => s.release { table := o.table, ingress := o.ingress, vc := o.vc, flits := o.flits }
  let s := s.onEg n fun e => { e with queues := [], subDef := [], sqDef := [] }
  s.onLink n fun l => { l with hamper := [], sending := [], requeue := [], replayFrom := none, timerAt := none, replaysSince := 0
                               lpiSent := none, swapReq := none, swapLane := [], noLane := false, cmdQ := [] }
/-- A shut-down begins: the port is DISABLED and what it holds is discarded. -/
def State.shutPort (s : State) (n : Nat) : State :=
  ((s.discardHeld n).onLink n fun l => { l with firstParam := true, shutting := true }).linkTo n .disabled
/-- The port's epoch rises by 1 (R281). -/
def State.epochUp (s : State) (n : Nat) : State := s.bump .glEpoch n
/-- A deferred enable, by either command that writes GL_CTRL.ENABLE. -/
def State.endEnable (s : State) (n status : Nat) : State := (s.completeAny 0x0F02 n status []).completeAny 0x0502 n status []
/-- A shut-down command cancels an enable that waits (R406). -/
def State.cancelEnable (s : State) (n : Nat) : State :=
  if (s.link n).enableDeferred then (s.onLink n fun l => { l with enableDeferred := false }).endEnable n 6 else s
/-- A write of GL_CTRL.ENABLE (R405, R406, R523, R532). -/
def State.writeEnable (s : State) (n : Nat) (on : Bool) : State × Reply :=
  let l := s.link n
  if on then
    if s.ownId = 0xFFFF then (s, rState)
    else if s.reg .glCtrlEnable n = 1 then (s, rOk)
    else if l.shutting then
      if l.enableDeferred then (s, rPending) else (s.onLink n fun l => { l with enableDeferred := true }, .defer n)
    else (((s.setReg .glCtrlEnable n 1).epochUp n).linkTrain n, rOk)
  else
    let s := (s.cancelEnable n).setReg .glCtrlEnable n 0
    if l.shutting then (s, .defer (n + 32))
    else (if l.st = .disabled then s else s.shutPort n, rOk)
/-- PORT_SHUTDOWN_END: what waited for the shut-down goes on (R405, R406, R499). -/
def execPortShutdownEnd (n : Port) (s : State) : Host.Outcome State Fault Refusal :=
  let n := n.val
  let l := s.link n
  if !l.shutting then .next s else
  let s := s.onLink n fun l => { l with shutting := false, resetting := false, enableDeferred := false }
  let s := (s.completeAny 0x0F02 (n + 32) 0 []).completeAny 0x0502 (n + 32) 0 []
  let s := if l.resetting then (s.epochUp n).complete 0x0105 n 0 [] else s
  let s := if l.enableDeferred then ((s.setReg .glCtrlEnable n 1).epochUp n).endEnable n 0 else s
  .next (if s.reg .glCtrlEnable n = 1 && (l.resetting || l.enableDeferred) then s.linkTrain n else s)
/-- Counters of the GL block (R286). -/
def glCounters : List Reg :=
  [.glCwCorrected, .glCwUncorr, .glGrpDiscard, .glReplays, .glDupFlits, .glGapFlits, .glCreditOverrun, .glCreditBad, .glCmdBad,
   .glDownEvents, .glLaneSwaps, .glLaneAlarm, .glDropReset, .glDropEpoch]
/-- DEV_PORT_RESET (R498, R499). -/
def cmdDevPortReset : Cmd := fun _ l s =>
  let n := field l 0 1
  if 17 < n then (s, rRange)
  else if s.isDeferred 0x0105 n then (s, rPending)
  else
    let s := s.each glCounters fun s r => s.setReg r n 0
    let s := s.each (List.range 5) fun s i => s.setReg .glLaneSymerr (5 * n + i) 0
    let s := s.cancelEnable n
    let s := if (s.link n).shutting then s else s.shutPort n
    (s.onLink n fun l => { l with resetting := true }, .defer n)

end Sys2Proof.Machine
end

