-- ==== Sys2Proof/Machine/Route.lean ====
section
/-! DEFINITION. Destination tables, direction maps, swaps and fabric management by mailbox and MGMT
(spec/09_routing_and_transit.md R287 to R308; spec/15_control_and_mailboxes.md R424). -/
namespace Sys2Proof.Machine

/-! ### Tables (R287 to R289, R298) -/

/-- Whether an entry is legal in a copy (R289). -/
def entryOk (dir t cand : Nat) : Bool :=
  decide (popcount 18 cand ≤ 4) && (t == 18 || (!(bit cand t) && (!(bit dir t) || cand % 2 ^ 18 &&& dir == 0)))
/-- The copy a write to the shadow will find: during a resync the one in force (R301). -/
def State.shadowSeen (s : State) : RtCopy :=
  let c := if s.rt.swap.elim false (fun w => w.stage == 5) then s.rt.active else s.rt.shadow
  s.rt.delayed.foldl (fun (c : RtCopy) w => match w with
    | .entries t f vs => { c with cand := vs.zipIdx.foldl (fun c v => Tab.set 0 c (t * 65536 + f + v.2) v.1) c.cand }
    | .clear => { c with cand := [] }
    | .dir v => { c with dir := v }) c
def Routing.setCopy (r : Routing) (b : Bool) (c : RtCopy) : Routing := if b then { r with copy1 := c } else { r with copy0 := c }
def Routing.onShadow (r : Routing) (f : RtCopy → RtCopy) : Routing := r.setCopy (!r.activeCopy) (f r.shadow)
/-- Note tables whose shadow has been written since the last swap (R300). -/
def Routing.soil (r : Routing) (ts : List Nat) : Routing := { r with dirty := (r.dirty ++ ts).eraseDups }
/-- A write to the shadow, applied now or after the swap in progress (R301). -/
def State.shadowWrite (s : State) (w : ShadowWrite) : State :=
  if s.rt.swap.isSome then s.onRt fun r => { r with delayed := r.delayed ++ [w] }
  else s.onRt fun r => match w with
    | .entries t f vs =>
      (r.onShadow fun c => { c with cand := vs.zipIdx.foldl (fun c v => Tab.set 0 c (t * 65536 + f + v.2) v.1) c.cand }).soil [t]
    | .clear => (r.onShadow fun c => { c with cand := [] }).soil (List.range 19)
    | .dir v => r.onShadow fun c => { c with dir := v }
/-- Whether a table is live (R298). -/
def State.tableLive (s : State) (t : Nat) : Bool := if t = 18 then s.board.phase == .ready else (s.link t).st != .disabled
/-- Whether the active copy of a table may be written (R298). -/
def State.activeOpen (s : State) (t : Nat) : Bool :=
  !(s.tableLive t) || (bit (s.reg .rtFreeze 0) t && s.reg .rtOutstanding t == 0)

/-- RT_TBL_WRITE (R289, R298, R304). -/
def cmdRtTblWrite : Cmd := fun _ l s =>
  let t := field l 0 1
  let copy := field l 1 1
  let first := field l 2 2
  let n := field l 4 2
  let vals := (List.range n).map fun i => field l (8 + 4 * i) 4 % 2 ^ 18
  if 18 < t || 1 < copy || n < 1 || 1016 < n || l.length ≠ 8 + 4 * n || 0xC000 < first + n then (s, rRange)
  else if copy = 1 && !(s.activeOpen t) then (s, rState)
  else
    let dir := if copy = 1 then s.rt.active.dir else s.shadowSeen.dir
    let ok := vals.takeWhile (entryOk dir t)
    let s := if ok.isEmpty then s
      else if copy = 1 then s.onRt fun r => r.setCopy r.activeCopy
        { r.active with cand := ok.zipIdx.foldl (fun c v => Tab.set 0 c (t * 65536 + first + v.2) v.1) r.active.cand }
      else s.shadowWrite (.entries t first ok)
    (s, if ok.length = n then rOk else .now 5 (le 2 ok.length))
/-- RT_TBL_READ (R304). -/
def cmdRtTblRead : Cmd := fun _ l s =>
  let t := field l 0 1
  let copy := field l 1 1
  let first := field l 2 2
  let n := field l 4 2
  if 18 < t || 1 < copy || n < 1 || 1016 < n || 0xC000 < first + n then (s, rRange)
  else
    let c := if copy = 1 then s.rt.active else s.rt.shadow
    (s, .now 0 ((List.range n).flatMap fun i => le 4 (Tab.getD c.cand (t * 65536 + first + i) 0)))
/-- RT_TBL_CLEAR (R289). -/
def cmdRtTblClear : Cmd := fun _ _ s => (s.shadowWrite .clear, rOk)
/-- Whether a direction map leaves every entry of a copy legal (R289). -/
def RtCopy.dirOk (c : RtCopy) (v : Nat) : Bool := c.cand.all fun e => entryOk v (e.1 / 65536) e.2
/-- A write of the shadow direction map (R289). -/
def State.dirWrite (s : State) (v : Nat) : State × Reply :=
  if 2 ^ 18 ≤ v then (s, rRange)
  else if !(s.shadowSeen.dirOk v) then (s, rState)
  else (s.shadowWrite (.dir v), rOk)
/-- RT_DIR_WRITE (R289, R304). -/
def cmdRtDirWrite : Cmd := fun _ l s => s.dirWrite (field l 0 4)

/-! ### Freeze and swap (R299 to R301) -/

/-- Set RT_FREEZE and the holds of the lookup arbiters (R299, R400). -/
def State.putFreeze (s : State) (v : Nat) : State := s.setReg .rtFreeze 0 (v % 2 ^ 19)
/-- A write of RT_FREEZE: bits a swap has set are refused (R301). -/
def State.writeFreeze (s : State) (v : Nat) : State × Reply :=
  let held := s.rt.swap.elim 0 fun w => if w.stage = 2 then w.froze else 0
  let cur := s.reg .rtFreeze 0
  if (List.range 19).any fun t => bit held t && bit v t != bit cur t then (s, rState) else (s.putFreeze v, rOk)
/-- Outstanding counts of tables, 2 B each. -/
def State.outCounts (s : State) (ts : List Nat) : List Byte := ts.flatMap fun t => le 2 (s.reg .rtOutstanding t % 65536)
/-- The tables a swap affects (R300). -/
def State.swapSet (s : State) : List Nat :=
  if s.rt.shadow.dir ≠ s.rt.active.dir then List.range 19 else (List.range 19).filter s.rt.dirty.contains
/-- RT_SWAP (R300, R301). -/
def cmdRtSwap : Cmd := fun _ l s =>
  let ts := s.swapSet
  if s.rt.swap.isSome then (s, rPending)
  else if ts.isEmpty then (s, .now 0 (s.outCounts (List.range 19)))
  else
    let cur := s.reg .rtFreeze 0
    let add := ((ts.filter fun t => !(bit cur t)).map (2 ^ ·)).sum
    let s := s.each ts fun s t => s.fwHold (arbKey 4 t) true
    ((s.putFreeze (cur + add)).onRt fun r =>
      { r with swap := some { stage := 2, affected := ts, force := bit (field l 0 1) 0, startedAt := s.now, froze := add } }, .defer 0)
/-- A swap's freeze ends (R300 step 4). -/
def State.unfreeze (s : State) (w : Swap) : State :=
  let s := s.each w.affected fun s t => s.fwHold (arbKey 4 t) false
  s.putFreeze (s.reg .rtFreeze 0 - w.froze)
/-- Writes that waited for the swap are applied (R301). -/
def State.applyDelayed (s : State) : State :=
  let ws := s.rt.delayed
  (s.onRt fun r => { r with swap := none, delayed := [] }).each ws State.shadowWrite
/-- Steps 3 and 4 of a swap: the copies change places. -/
def State.toggle (s : State) (w : Swap) : State :=
  let forced := w.affected.any fun t => s.reg .rtOutstanding t != 0
  let s := s.bumpN .rtForced 0 (b2n forced)
  (s.onRt fun r => { r with activeCopy := !r.activeCopy, swap := some { w with stage := 5, startedAt := s.now } }).unfreeze w
/-- The open swap, where it can go on: during a transit-keep reset it stands still (R306; log 148). -/
def State.openSwap (s : State) : Option Swap := if s.rt.tkReset then none else s.rt.swap
/-- RT_DRAIN_COMPLETE: nothing is outstanding on the affected tables (R300). -/
def execRtDrainComplete (s : State) : Host.Outcome State Fault Refusal :=
  match s.openSwap with
  | some w => .next (if w.stage = 2 && w.affected.all (fun t => s.reg .rtOutstanding t == 0) then s.toggle w else s)
  | none => .next s
/-- RT_DRAIN_LIMIT_EXPIRY: with FORCE, or where the drain has completed, the swap goes on; else it ends with
MB_ST_DRAIN_TIMEOUT (R300). -/
def execRtDrainLimitExpiry (s : State) : Host.Outcome State Fault Refusal :=
  match s.openSwap with
  | some w =>
    if w.stage ≠ 2 || !(s.past w.startedAt (s.reg .rtDrainLimit 0 * usec)) then .next s
    else if w.force || w.affected.all (fun t => s.reg .rtOutstanding t == 0) then .next (s.toggle w)
    else
      let body := s.outCounts w.affected
      .next (((s.unfreeze w).applyDelayed.bump .rtSwapTimeout 0).completeAny 0x0507 0 0x0D body)
  | none => .next s
/-- RT_RESYNC_DONE: the shadow equals the copy in force, and the routing record is saved (R300 steps 5 and 6). -/
def execRtResyncDone (s : State) : Host.Outcome State Fault Refusal :=
  match s.openSwap with
  | some w =>
    if w.stage ≠ 5 || !(s.past w.startedAt 384000) then .next s
    else
      let s := s.onRt fun r => { r.onShadow (fun _ => r.active) with dirty := [] }
      let s := { s with nor := { s.nor with routing := some s.rt.active, routeOk := true, routeSlotB := !s.nor.routeSlotB } }
      .next ((s.applyDelayed.bump .rtSwaps 0).completeAny 0x0507 0 0 (s.outCounts (List.range 19)))
  | none => .next s

/-! ### Identity, ports and counters (R304, R308) -/

/-- GL_STATE as a word (R286). -/
def LinkSt.code : LinkSt → Nat
  | .disabled => 0 | .training => 1 | .param => 2 | .active => 3 | .swap => 4 | .lpIdle => 5 | .down => 6
def Link.stateWord (l : Link) : Nat := l.st.code + 8 * l.txSpare + 64 * l.rxSpare
/-- Whether the device is transit-only (R305). -/
def State.transitOnly (s : State) : Bool := (s.ptns.all fun e => e.2.st == .unused) && s.exts.isEmpty
/-- RT_STATUS (R308). -/
def State.rtStatus (s : State) : Nat :=
  b2n s.rt.activeCopy + 2 * b2n s.rt.swap.isSome + 4 * b2n (s.rt.swap.elim false fun w => w.stage == 5) + 8 * b2n s.transitOnly + 16 * b2n s.rt.tkReset
/-- RT_IDENT (R304). -/
def cmdRtIdent : Cmd := fun _ _ s =>
  (s, .now 0 (le 2 s.ownId ++ le 2 0x00A1 ++ le 4 s.rtStatus ++ le 4 s.rt.active.dir
    ++ (List.range 18).flatMap fun n => le 4 (s.link n).stateWord ++ le 4 (s.reg .glPeerId n)))
/-- RT_PORT writes GL_CTRL[2:0] (R304, R405, R532). -/
def State.writeGlCtrl (s : State) (n v : Nat) : State × Reply :=
  match s.writeEnable n (bit v 0) with
  | (s', .now 0 b) => ((s'.setReg .glCtrlSpareAuto n (bits v 1 1)).setReg .glCtrlLpiAllow n (bits v 2 1), .now 0 b)
  | (s', .defer o) => ((s'.setReg .glCtrlSpareAuto n (bits v 1 1)).setReg .glCtrlLpiAllow n (bits v 2 1), .defer o)
  | (_, r) => (s, r)
def cmdRtPort : Cmd := fun _ l s => if 17 < field l 0 1 || 7 < field l 1 1 then (s, rRange) else s.writeGlCtrl (field l 0 1) (field l 1 1)
/-- RT_COUNTERS (R304). -/
def cmdRtCounters : Cmd := fun _ l s =>
  let n := field l 0 1
  if 17 < n then (s, rRange) else
  let rt : List Reg := [.rtDropNoroute, .rtDropHops, .rtDup, .rtStale, .rtMalformed, .rtMgmtReject, .rtMgmtDrop, .rtDropLocal, .rtSwaps, .rtSwapTimeout, .rtForced]
  (s, .now 0 ((rt.flatMap fun r => le 4 (s.reg r 0)) ++ glCounters.flatMap fun r => le 4 (s.reg r n)))

/-! ### MGMT (R302 to R304) -/

/-- The command behind an MCMD, with the body lengths it takes. -/
def mgmtCmd (c n : Nat) : Option Cmd :=
  match c with
  | 1 => if n = 0 then some cmdRtIdent else none
  | 2 => if n = 2 then some cmdRtPort else none
  | 3 => if 8 ≤ n then some cmdRtTblWrite else none
  | 4 => if n = 6 then some cmdRtTblRead else none
  | 5 => if n = 0 then some cmdRtTblClear else none
  | 6 => if n = 4 then some cmdRtDirWrite else none
  | 7 => if n = 1 then some cmdRtSwap else none
  | 8 => if n = 1 then some cmdRtCounters else none
  | _ => none
/-- The command and body of an MGMT request. -/
def mgmtParse (p : Packet) : Nat × List Byte :=
  let l := p.payload.take p.payloadLen.toNat
  (field l 0 2, slice l 8 (field l 6 2))
/-- Whether the manager of an endpoint ID is accepted (R302). -/
def State.isManager (s : State) (ep : Nat) : Bool :=
  (List.range 4).any fun m => s.reg .rtMgrIdValid m == 1 && s.reg .rtMgrIdId m == ep
/-- An MGMT request at the fabric-management core: the queue takes every packet it has room for (R297, R302, R304). Each
packet is a command of its own, whatever its PKT_COUNT (DESIGN CHOICE, log 140). -/
def State.mgmtArrive (s : State) (port : Nat) (p : Packet) : State :=
  let x := mgmtParse p
  if 256 ≤ s.fab.mgmtQ.length then s.bump .rtMgmtDrop 0
  else if !(s.isManager p.src.toNat) then s.bump .rtMgmtReject 0
  else if (mgmtCmd x.1 x.2.length).isNone || p.payloadLen.toNat < 8 + field p.payload 6 2 then s.emit port (mgmtResp p 5 [])
  else s.onFab fun f => { f with mgmtQ := f.mgmtQ ++ [(port, p)] }
/-- Answer the request an MGMT command came by, now or when it completes (R303). -/
def State.mgmtAnswer (s : State) (c port : Nat) (p : Packet) (r : Reply) : State :=
  match r with
  | .now st b => s.emit port (mgmtResp p st b)
  | .vaultWait => s
  | .defer o => s.onRt fun r => { r with mgmtWait := r.mgmtWait ++ [(0x0500 + c, o, port, p)] }
/-- The core takes the request in front of its queue, when it is the command the row names; before the tiers are mounted it
answers MB_ST_NOT_READY and WAIT_US, as the mailbox does (R304, R417 step 5, R421). -/
def State.mgmtRun (s : State) (c : Nat) : State :=
  if !(s.cores.duty.contains 3) then s else
  match s.fab.mgmtQ with
  | (port, p) :: rest =>
    let x := mgmtParse p
    if x.1 ≠ c then s else
    match mgmtCmd c x.2.length with
    | none => s
    | some f =>
      let s := s.onFab fun f => { f with mgmtQ := rest }
      if !s.mounted then
        let d := s.draw
        d.2.mgmtAnswer c port p (.now 14 (le 4 d.1))
      else
        let r := f 0 x.2 s
        r.1.mgmtAnswer c port p r.2
  | [] => s
/-- M_IDENT to M_COUNTERS (R304). -/
def execMIdent (s : State) : Host.Outcome State Fault Refusal := .next (s.mgmtRun 1)
def execMPort (s : State) : Host.Outcome State Fault Refusal := .next (s.mgmtRun 2)
def execMTblWrite (s : State) : Host.Outcome State Fault Refusal := .next (s.mgmtRun 3)
def execMTblRead (s : State) : Host.Outcome State Fault Refusal := .next (s.mgmtRun 4)
def execMTblClear (s : State) : Host.Outcome State Fault Refusal := .next (s.mgmtRun 5)
def execMDirWrite (s : State) : Host.Outcome State Fault Refusal := .next (s.mgmtRun 6)
def execMSwap (s : State) : Host.Outcome State Fault Refusal := .next (s.mgmtRun 7)
def execMCounters (s : State) : Host.Outcome State Fault Refusal := .next (s.mgmtRun 8)

end Sys2Proof.Machine
end

