-- ==== Sys2Proof/Machine/Sched.lean ====
section
/-! DEFINITION. Ingress policers, the egress scheduler, slot tables and queue histograms
(spec/10_scheduling_and_policing.md R309 to R326). -/
namespace Sys2Proof.Machine

/-! ### Policers (R309 to R314) -/

/-- A policer's buckets as they stand now (R311): units of 1 / 20,000 of a byte, filled per KCLK cycle. -/
def State.polAt (s : State) (m : Nat) : Policer :=
  let full (r : Reg) : Nat := s.reg r m * 20000
  match Tab.get? s.pols m with
  | none => { tc := full .polCbs, tp := full .polPbs, at' := s.now }
  | some p =>
    let k := s.now / 50 - p.at' / 50
    { tc := min (full .polCbs) (p.tc + k * s.reg .polCir m * 10), tp := min (full .polPbs) (p.tp + k * s.reg .polPir m * 10), at' := s.now }
def State.setPol (s : State) (m : Nat) (p : Policer) : State := { s with pols := Tab.put s.pols m p }
/-- The bytes a transfer is charged (R310). -/
def chargeOf (p : Packet) : Nat :=
  let op := p.opcode.toNat
  if op = 0x01 || op = 0x02 || op = 0x03 || op = 0x31 then p.len
  else if op = 0x30 then p.payloadLen.toNat + 128
  else 128
/-- Colour a transfer (R311): 0 green, 1 yellow, 2 red. -/
def State.police (s : State) (m pre b : Nat) : Nat × State :=
  if s.reg .polCfgEn m = 0 then (0, s.bump .polGreen m) else
  let x := s.polAt m
  let c := b * 20000
  let aware := s.reg .polCfgAware m == 1
  if (aware && decide (2 ≤ pre)) || decide (x.tp < c) then (2, (s.setPol m x).bump .polRed m)
  else if (aware && pre == 1) || decide (x.tc < c) then (1, (s.setPol m { x with tp := x.tp - c }).bump .polYellow m)
  else (0, (s.setPol m { x with tp := x.tp - c, tc := x.tc - c }).bump .polGreen m)
/-- A write of a policer's fields (R314). -/
def State.writePolicer (s : State) (m en aware cir pir cbs pbs : Nat) : State × Reply :=
  if pir < cir then (s, rRange) else
  let x := s.polAt m
  let was := s.reg .polCfgEn m
  let s := s.each [(Reg.polCfgEn, en), (.polCfgAware, aware), (.polCir, cir), (.polPir, pir), (.polCbs, cbs), (.polPbs, pbs)]
    fun s y => s.setReg y.1 m y.2
  if was = 0 && en = 1 then ({ s with pols := Tab.del s.pols m }, rOk)
  else (s.setPol m { x with tc := min x.tc (cbs * 20000), tp := min x.tp (pbs * 20000) }, rOk)

/-- The VC0 packets of a port that have not left its X die, as (4 × partition + class, flits, since): INVOKEs that wait at the
dealer's ingress and whole packets in the receive buffer (R313, R323). -/
def State.ingress (s : State) (n : Nat) : List (Nat × Nat × Nat) :=
  ((s.fab.waits.filter fun r => r.kind == .invoke && r.port == n).map fun r => (4 * r.pkt.q + r.pkt.svc, r.pkt.flits, r.since))
    ++ ((s.link n).rx.filter fun r => r.whole && r.vc == 0).map fun r => (4 * r.pkt.q + r.pkt.svc, r.flits, r.since)
/-- Flits of a port's ingress queue (R313). -/
def State.ingressDepth (s : State) (n q c : Nat) : Nat :=
  (((s.ingress n).filter fun x => x.1 == 4 * q + c).map fun x => x.2.1).sum

/-! ### Shapers (R318, R319) -/

/-- A bucket as it stands now, in 1 / 100,000 of a byte. -/
def bucketAt (rate burst : Nat) (b : Option (Int × Nat)) (now : Nat) : Int :=
  let full : Int := (burst * 100000 : Nat)
  if rate = 0 then full else
  match b with
  | none => full
  | some x => min full (x.1 + ((rate * (now - x.2) : Nat) : Int))
/-- The registers of a shaper: level 0 port, 1 subscriber, 2 service queue, with their instance. -/
def shaperRegs (n level idx : Nat) : Reg × Reg × Nat :=
  match level with
  | 0 => (.schPortRate, .schPortBurst, n)
  | 1 => (.schSubRate, .schSubBurst, n * 512 + idx)
  | _ => (.schSqRate, .schSqBurst, n * 2048 + idx)
def Egress.bkt (e : Egress) (level idx : Nat) : Option (Int × Nat) :=
  match level with
  | 0 => e.portBkt
  | 1 => Tab.get? e.subBkt idx
  | _ => Tab.get? e.sqBkt idx
def Egress.setBkt (e : Egress) (level idx : Nat) (b : Int × Nat) : Egress :=
  match level with
  | 0 => { e with portBkt := some b }
  | 1 => { e with subBkt := Tab.put e.subBkt idx b }
  | _ => { e with sqBkt := Tab.put e.sqBkt idx b }
/-- A shaper's bucket now. -/
def State.bucket (s : State) (n level idx : Nat) : Int :=
  let r := shaperRegs n level idx
  bucketAt (s.reg r.1 r.2.2) (s.reg r.2.1 r.2.2) ((s.eg n).bkt level idx) s.now
/-- Charge a shaper; a disabled one stays at BURST. -/
def State.charge (s : State) (n level idx bytes : Nat) : State :=
  let r := shaperRegs n level idx
  if s.reg r.1 r.2.2 = 0 then s
  else s.onEg n fun e => e.setBkt level idx (s.bucket n level idx - ((bytes * 100000 : Nat) : Int), s.now)
/-- A write of RATE and BURST: the bucket keeps its value, capped at the new size (R319). -/
def State.writeShaper (s : State) (n level idx rate burst : Nat) : State :=
  let r := shaperRegs n level idx
  let b := min (s.bucket n level idx) ((burst * 100000 : Nat) : Int)
  ((s.onEg n fun e => e.setBkt level idx (b, s.now)).setReg r.1 r.2.2 rate).setReg r.2.1 r.2.2 burst
/-- SCH_BUCKET_CLEAR: a negative bucket becomes 0 (R319). -/
def State.clearBucket (s : State) (n level idx : Nat) : State :=
  if s.bucket n level idx < 0 then s.onEg n fun e => e.setBkt level idx (0, s.now) else s

/-! ### Slot tables (R320 to R322) -/

/-- The slot in force at a time. -/
def slotAt (t : Nat) : Nat := t / 25600 % 1024
def Egress.owner (e : Egress) (slot : Nat) : Nat := Tab.getD e.slots slot 0x40
/-- Slots after `i` that continue its window, at most `f`: the run, and whether it never ends. -/
def Egress.runFrom (e : Egress) (o : Nat) : Nat → Nat → Nat
  | 0, _ => 0
  | f + 1, i =>
    if e.owner i ≠ o then 0
    else if i = 1023 && e.swapPending then 1
    else 1 + Egress.runFrom e o f ((i + 1) % 1024)
/-- When the window open at `t` ends, if it does. -/
def Egress.windowEnd (e : Egress) (t : Nat) : Option Nat :=
  let i := slotAt t
  let k := e.runFrom (e.owner i) 1024 i
  if k = 1024 then none else some (t / 25600 * 25600 + k * 25600)
/-- Whether a subscriber may start in a window of an owner (R321). -/
def State.slotAllows (s : State) (n owner sub : Nat) : Bool := decide (63 < owner) || (s.subsOf n owner).contains sub
/-- Whether a packet of so many flits ends in time for a window's guard (R321). -/
def State.guardOk (s : State) (n flits : Nat) : Bool :=
  match (s.eg n).windowEnd s.now with
  | none => true
  | some e => decide (s.now + 64 * flits + 100 * s.reg .schWinGuard n ≤ e)

/-- Lengths of the maximal runs of an image, as (first slot, slots), cyclic (R320). -/
def runsOf (img : List Nat) : List (Nat × Nat) :=
  let n := img.length
  let starts := (List.range n).filter fun i => img[i]? != img[(i + n - 1) % n]?
  if starts.isEmpty then [] else
  starts.zipIdx.map fun x =>
    let nxt := (starts[(x.2 + 1) % starts.length]?).getD 0
    (x.1, if nxt ≤ x.1 then nxt + n - x.1 else nxt - x.1)
/-- The first slot of the first window of an image that is too short for a guard in nanoseconds, or reserved (R322). -/
def badWindow (img : List Nat) (guardNs : Nat) : Option Nat :=
  let res (i : Nat) : Bool := (img[i]?).elim false fun v => decide (0x40 < v)
  if (runsOf img).isEmpty then (if res 0 then some 0 else none)
  else ((runsOf img).find? fun r => decide (r.2 * 25600 < guardNs * 100 + 4224) || res r.1).map Prod.fst
def tabImage (t : Tab Nat) : List Nat := (List.range 1024).map fun i => Tab.getD t i 0x40
/-- SCH_SLOT_WRITE (R322, R424). -/
def cmdSchSlotWrite : Cmd := fun _ l s =>
  let n := field l 0 1
  let img := (List.range 1024).map fun i => field l (4 + i) 1 % 128
  if 17 < n then (s, .now 5 (le 2 0)) else
  match badWindow img (s.reg .schWinGuard n) with
  | some i => (s, .now 5 (le 2 i))
  | none =>
    if (s.eg n).swapPending then (s, rPending)
    else (s.onEg n fun e => { e with shadow := (img.zipIdx.map fun x => (x.2, x.1)).filter fun x => x.2 != 0x40
                                     swapPending := true, shadowAt := s.now }, rOk)
/-- SLOT_TABLE_WRAP: the pending image comes into force; the copy that was active is the shadow from then on (R322, R326). -/
def execSlotTableWrap (n : Port) (s : State) : Host.Outcome State Fault Refusal :=
  let e := s.eg n
  .next (if e.swapPending && decide (e.shadowAt / 26214400 < s.now / 26214400) then
      s.onEg n fun e => { e with slots := e.shadow, shadow := e.slots, swapPending := false, activeCopy := !e.activeCopy }
    else s)
/-- A write of SCH_WIN_GUARD (R322). -/
def State.writeGuard (s : State) (n v : Nat) : State × Reply :=
  let e := s.eg n
  if (badWindow (tabImage e.slots) v).isSome || (e.swapPending && (badWindow (tabImage e.shadow) v).isSome) then (s, rRange)
  else (s.setReg .schWinGuard n v, rOk)

/-! ### The choice of the next packet (R317) -/

/-- Deficit round robin in ascending index after the last one served. When no candidate's deficit covers its head, every
candidate gains its quantum (log 54). -/
def drrNext (count last : Nat) (quantum cost : Nat → Nat) (cands : List Nat) (def' : Nat → Int) : Option (Nat × Bool) :=
  let order := ((List.range count).map fun i => (last + 1 + i) % count).filter cands.contains
  match order.find? fun r => decide ((cost r : Int) ≤ def' r) with
  | some r => some (r, false)
  | none => (order.find? fun r => decide ((cost r : Int) ≤ def' r + quantum r)).map fun r => (r, true)
/-- The first packet of a list, by VC, that may start: a VC without credit holds no other VC back (R278). -/
def State.firstStart (s : State) (n : Nat) : List Nat → List OutPkt → Option OutPkt
  | _, [] => none
  | held, o :: os =>
    if held.contains o.vc then State.firstStart s n held os
    else if s.canStart n o.vc o.flits then some o
    else State.firstStart s n (o.vc :: held) os
/-- The head packet of an egress queue: the first that its VC lets start, else the first (R278, R317). -/
def State.headOf (s : State) (n k : Nat) : Option OutPkt :=
  let q := Tab.getD (s.eg n).queues k []
  (s.firstStart n [] q).orElse fun _ => q.head?
/-- Whether a service queue is eligible (R317). -/
def State.eligible (s : State) (n k : Nat) : Bool :=
  match s.headOf n k with
  | none => false
  | some o =>
    s.canStart n o.vc o.flits && decide (0 ≤ s.bucket n 2 k) && decide (0 ≤ s.bucket n 1 (k / 4)) && decide (0 ≤ s.bucket n 0 0)
      && s.slotAllows n ((s.eg n).owner (slotAt s.now)) (k / 4) && s.guardOk n o.flits
/-- Count the heads that their window no longer has room for, once a window (R321). -/
def State.countSkips (s : State) (n : Nat) : State :=
  match (s.eg n).windowEnd s.now with
  | none => s
  | some t =>
    let ks := ((s.eg n).queues.filter fun e => decide (e.1 < 2048)).map Prod.fst
    s.each ks fun s k =>
      match s.headOf n k with
      | none => s
      | some o =>
        if s.slotAllows n ((s.eg n).owner (slotAt s.now)) (k / 4) && !(s.guardOk n o.flits) && Tab.getD (s.eg n).skipAt k 0 != t then
          (s.onEg n fun e => { e with skipAt := Tab.put e.skipAt k t }).bump .schWinSkip n
        else s
/-- Take a packet from an egress queue and start it. -/
def State.startHead (s : State) (n k : Nat) (o : OutPkt) : State :=
  let rest := (Tab.getD (s.eg n).queues k []).erase o
  (s.onEg n fun e => { e with queues := if rest.isEmpty then Tab.del e.queues k else Tab.put e.queues k rest
                              sqDef := if rest.isEmpty then Tab.del e.sqDef k else e.sqDef }).startFlits n o.vc o.toFlits
/-- The scheduler's choice among subscribers: (queue, whether subscribers gained a quantum, whether queues did). -/
def State.choose (s : State) (n : Nat) : Option (Nat × Bool × Bool) :=
  let e := s.eg n
  let ks := (e.queues.map Prod.fst).filter fun k => decide (k < 2048) && s.eligible n k
  let subs := (ks.map (· / 4)).eraseDups
  let cost (k : Nat) : Nat := (s.headOf n k).elim 0 fun o => 64 * o.flits
  let inner (sub : Nat) : Option (Nat × Bool) :=
    if ks.contains (4 * sub) then some (0, false)
    else drrNext 4 (Tab.getD e.lastSq sub 3) (fun c => 4224 * s.reg .schSqCfgWeight (n * 2048 + 4 * sub + c)) (fun c => cost (4 * sub + c))
      ((List.range 4).filter fun c => ks.contains (4 * sub + c)) fun c => Tab.getD e.sqDef (4 * sub + c) 0
  let pick (sub : Nat) : Nat := (inner sub).elim 0 Prod.fst
  match drrNext 512 e.lastSub (fun x => 4224 * s.reg .schSubCfgWeight (n * 512 + x)) (fun x => cost (4 * x + pick x)) subs
      (fun x => Tab.getD e.subDef x 0) with
  | none => none
  | some (sub, q) => some (4 * sub + pick sub, q, (inner sub).elim false Prod.snd)
/-- Start the chosen packet: deficits, shapers and counters (R317, R318). -/
def State.serveQueue (s : State) (n k : Nat) (gain gainSq : Bool) : State :=
  match s.headOf n k with
  | none => s
  | some o =>
    let sub := k / 4
    let bytes := 64 * o.flits
    let elig := ((s.eg n).queues.map Prod.fst).filter fun k => decide (k < 2048) && s.eligible n k
    let subs := (elig.map (· / 4)).eraseDups
    let addSub (e : Egress) : Egress := if gain then
        { e with subDef := subs.foldl (fun t x => Tab.put t x (Tab.getD t x 0 + ((4224 * s.reg .schSubCfgWeight (n * 512 + x) : Nat) : Int))) e.subDef }
      else e
    let addSq (e : Egress) : Egress := if gainSq then
        let mine := elig.filter fun j => j / 4 == sub
        { e with sqDef := mine.foldl (fun t j => Tab.put t j (Tab.getD t j 0 + ((4224 * s.reg .schSqCfgWeight (n * 2048 + j) : Nat) : Int))) e.sqDef }
      else e
    let s := s.onEg n fun e =>
      let e := addSq (addSub e)
      { e with subDef := Tab.put e.subDef sub (Tab.getD e.subDef sub 0 - (bytes : Int))
               sqDef := if k % 4 = 0 then e.sqDef else Tab.put e.sqDef k (Tab.getD e.sqDef k 0 - (bytes : Int))
               lastSub := sub, lastSq := if k % 4 = 0 then e.lastSq else Tab.put e.lastSq sub (k % 4) }
    let s := ((s.charge n 2 k bytes).charge n 1 sub bytes).charge n 0 0 bytes
    let s := (s.bumpN .schSubBytes (n * 512 + sub) bytes).startHead n k o
    s.onEg n fun e => if (List.range 4).all fun c => (Tab.getD e.queues (4 * sub + c) []).isEmpty then { e with subDef := Tab.del e.subDef sub } else e
/-- EGRESS_PICK: the port chooses the packet to start next: packets of a new epoch, VC2, VC4, then the three levels
(R278, R281, R315, R317). -/
def execEgressPick (n : Port) (s : State) : Host.Outcome State Fault Refusal :=
  let n := n.val
  let vcOfFlits (fs : List Flit) : Nat := (fs.head?).elim 0 fun f => hdrVc f.bytes
  match (s.link n).requeue.find? fun fs => s.canStart n (vcOfFlits fs) fs.length with
  | some fs => .next ((s.onLink n fun l => { l with requeue := l.requeue.erase fs }).startFlits n (vcOfFlits fs) fs)
  | none =>
    let direct (k : Nat) : Option OutPkt := (s.headOf n k).filter fun o => s.canStart n o.vc o.flits
    match direct 2050, direct 2052 with
    | some o, _ => .next (s.startHead n 2050 o)
    | none, some o => .next (s.startHead n 2052 o)
    | none, none =>
      let s := s.countSkips n
      match s.choose n with
      | some (k, g, h) => .next (s.serveQueue n k g h)
      | none => .next s

/-! ### Groups and histograms (R316, R323, R324) -/

/-- SCH_GROUP_WRITE (R316, R424). -/
def cmdSchGroupWrite : Cmd := fun _ l s =>
  let first := field l 0 2
  let n := field l 2 2
  if n < 1 || 4072 < n || l.length ≠ 4 + n || 49152 < first + n then (s, rRange)
  else ({ s with groupMap := (List.range n).foldl (fun t i => Tab.set 0 t (first + i) (field l (4 + i) 1 % 8)) s.groupMap }, rOk)
/-- Whether an entry of the SUBMAP may name a subscriber (R316). -/
def State.submapOk (s : State) (n q v : Nat) : Bool :=
  v != s.reg .rtTransitSub 0 && v != s.reg .schMirrorSub n
    && (List.range 512).all fun i => i / 8 == q || s.reg .schSubmap (n * 512 + i) != v
/-- Whether RT_TRANSIT_SUB may name a subscriber (R316). -/
def State.transitSubOk (s : State) (v : Nat) : Bool :=
  (List.range 18).all fun n => s.reg .schMirrorSub n != v && (List.range 512).all fun i => s.reg .schSubmap (n * 512 + i) != v
/-- Whether SCH_MIRROR_SUB of a port may name a subscriber (R316). -/
def State.mirrorSubOk (s : State) (n v : Nat) : Bool :=
  s.reg .rtTransitSub 0 != v && (List.range 512).all fun i => s.reg .schSubmap (n * 512 + i) != v

/-- The bucket of a value (R323). -/
def histBucket (v : Nat) : Nat := if v = 0 then 0 else min 15 (Nat.log2 v + 1)
/-- Add a sample of a queue that is not empty. -/
def Egress.sample (e : Egress) (q depth delay : Nat) : Egress :=
  let bump (t : Tab Nat) (k : Nat) : Tab Nat := if k % 16 = 0 then t else Tab.put t (q * 64 + k) (Tab.getD t (q * 64 + k) 0 + 1)
  let t := bump (bump e.hist (histBucket depth)) (16 + histBucket delay)
  let top (t : Tab Nat) (k v : Nat) : Tab Nat := Tab.set 0 t (q * 64 + k) (max v (Tab.getD t (q * 64 + k) 0))
  { e with hist := top (top t 32 depth) 33 delay }
/-- QUEUE_SAMPLE: once a microsecond, every ingress queue and every service queue (R323). -/
def execQueueSample (s : State) : Host.Outcome State Fault Refusal :=
  .next (s.each (List.range 18) fun s n =>
    if !(s.past (s.eg n).sampleAt usec) then s else
    let qs := (s.eg n).queues.filter fun e => decide (e.1 < 2048) && !e.2.isEmpty
    let ing := s.ingress n
    let s := s.onEg n fun e => { e with samples := e.samples + 1, sampleAt := s.now }
    let s := s.each qs fun s q => s.onEg n fun e =>
      e.sample q.1 ((q.2.map (·.flits)).sum) (((q.2.head?).elim 0 fun o => s.now - o.since) / 6400)
    s.each ((ing.map Prod.fst).eraseDups) fun s i =>
      let w := ing.filter fun r => r.1 == i
      s.onEg n fun e => e.sample (2048 + i) ((w.map fun r => r.2.1).sum) ((s.now - (w.map fun r => r.2.2).foldl min s.now) / 6400))
/-- A queue's histograms and maxima as the snapshot takes them: counters saturate at 32 bits (R323). -/
def Egress.histOf (e : Egress) (q : Nat) : Tab Nat :=
  let g (k : Nat) : Nat := Tab.getD e.hist (q * 64 + k) 0
  let rest (o : Nat) : Nat := e.samples - g 34 - ((List.range 15).map fun i => g (o + 1 + i)).sum
  (List.range 34).map fun k => (k, min (2 ^ 32 - 1) (if k = 0 then rest 0 else if k = 16 then rest 16 else g k))
/-- A write of SCH_HIST_SEL (R324). -/
def State.writeHistSel (s : State) (n queue : Nat) (ingress clear : Bool) : State × Reply :=
  if ingress && decide (255 < queue) then (s, rRange) else
  let q := if ingress then 2048 + queue else queue
  let s := (s.setReg .schHistSelQueue n queue).setReg .schHistSelIngress n (b2n ingress)
  (s.onEg n fun e =>
    let e := { e with snap := e.histOf q }
    if clear then { e with hist := Tab.put (e.hist.filter fun x => x.1 / 64 != q) (q * 64 + 34) e.samples } else e, rOk)

end Sys2Proof.Machine
end

