-- ==== Sys2Proof/Machine/Xmss.lean ====
section
/-! DEFINITION. The device's own XMSS keys: leaves, blocks, successor trees and certificates (spec/16_security.md R434,
R438, R439). The hash and the signature scheme are opaque (log 33, log 34). Key 0 is the attestation key, key 1 the
meter's report key. -/
namespace Sys2Proof.Machine

/-- SHAKE256 with 256 bits of output. -/
def digest32 (l : List Byte) : List Byte := slice (Config.shake256 l) 0 32
/-- The public key of a tree of a device key. -/
def xmssPub (which tree : Nat) : List Byte := slice (Config.provisioned (1000 + 2 * tree + which) 68) 0 68
/-- A signature: the leaf index, then the rest (R440). -/
def xmssSig (which tree leaf : Nat) (d : List Byte) : List Byte :=
  le 4 leaf ++ slice (Config.sign (2 * tree + which) leaf d) 0 2816
/-- The signed part of a certificate (R439). -/
def certHead (which tree : Nat) : List Byte := le 4 0x54434C45 ++ le 4 tree ++ xmssPub which tree ++ zeros 4
/-- Tchimir's certificate of tree 0. -/
def rootCert (which : Nat) : List Byte := certHead which 0 ++ slice (Config.provisioned (10 + which) 2820) 0 2820
/-- The identity of the device: the digest of the first attestation public key (R434). -/
def deviceId : List Byte := digest32 (xmssPub 0 0)
/-- The identity of the meter (R464). -/
def meterId : List Byte := digest32 (xmssPub 1 0)

def State.key (s : State) (which : Nat) : XmssKey := if which = 0 then s.sec.att else s.mtr.key
def State.setKey (s : State) (which : Nat) (k : XmssKey) : State :=
  if which = 0 then s.onSec fun x => { x with att := k } else s.onMtr fun m => { m with key := k }
/-- The certificate chain of a key, from the certificate of tree 0. -/
def State.certs (s : State) (which : Nat) : List (List Byte) := rootCert which :: (s.key which).certs
/-- The next leaf of a key. -/
def XmssKey.next (k : XmssKey) : Nat := if k.leaf < k.blockEnd then k.leaf else 1024 * k.nextBlock
/-- A key after a reset of its holder: signing resumes at the block NEXT_BLOCK names (R438). -/
def XmssKey.restart (k : XmssKey) : XmssKey := { k with leaf := 0, blockEnd := 0, fault := false }
/-- Whether the vault answers and takes commits (R438, R500). -/
def State.vaultOk (s : State) : Bool := s.board.vault && s.mtr.st != 2

/-- METER_TIME in microseconds (R460, R461). -/
def State.meterTime (s : State) : Nat := s.mtr.live.time + (s.now - s.mtr.epoch) / usec
/-- Log an event at the meter: the newest 4,096 records are kept (R462). -/
def State.mtrLog (s : State) (kind link count detail : Nat) : State :=
  let t := s.meterTime
  s.onMtr fun m =>
    let x := m.live
    let full := 4096 ≤ x.events.length
    let r : MtrEvent := { seq := x.seq + 1, time := t, kind := kind, link := link, count := count, detail := detail }
    { m with live := { x with seq := x.seq + 1
                              events := (if full then x.events.drop 1 else x.events) ++ [r]
                              lost := x.lost + b2n full
                              gaps := if kind = 1 then x.gaps + count else x.gaps } }
/-- SEAL_COUNT rises by 1, with its record (R463). -/
def State.seal (s : State) (cause : Nat) : State :=
  let s := s.onMtr fun m => { m with live := { m.live with seals := wrapAdd 32 m.live.seals 1 } }
  s.mtrLog 7 0xFF 1 (s.mtr.live.seals + cause * 2 ^ 32)

/-- Leaf 1,048,575 certifies a successor tree, and the old tree signs nothing after that (R439, R465). -/
def State.successor (s : State) (which : Nat) : State :=
  let k := s.key which
  let head := certHead which (k.tree + 1)
  let s := s.setKey which { tree := k.tree + 1, certs := k.certs ++ [head ++ xmssSig which k.tree 1048575 (digest32 head)] }
  if which = 1 then s.seal 4 else s
/-- Take a fresh block once its NEXT_BLOCK has been committed, and use its first leaf. -/
def State.newBlock (s : State) (which : Nat) : Nat × Nat × State :=
  let k := s.key which
  (k.tree, 1024 * k.nextBlock,
   s.setKey which { k with nextBlock := k.nextBlock + 1, leaf := 1024 * k.nextBlock + 1, blockEnd := 1024 * (k.nextBlock + 1) })
/-- The tree and the leaf that sign next; none when the vault fails, which is a fault of the key (R438). -/
def State.takeLeaf (s : State) (which : Nat) : Option (Nat × Nat × State) :=
  let k := s.key which
  if k.fault then none
  else if k.leaf < k.blockEnd then some (k.tree, k.leaf, s.setKey which { k with leaf := k.leaf + 1 })
  else if !s.vaultOk then none
  else if k.nextBlock = 1023 then some ((s.successor which).newBlock which)
  else some (s.newBlock which)
/-- Sign bytes with a device key: the bytes followed by the signature, or the failure. -/
def State.signed (s : State) (which : Nat) (l : Nat → List Byte) : Except State (List Byte × State) :=
  match s.takeLeaf which with
  | some (tree, leaf, s') => .ok (l tree ++ xmssSig which tree leaf (digest32 (l tree)), s')
  | none =>
    if (s.key which).fault then .error s
    else .error ((s.setKey which { s.key which with fault := true }).finding 9 which 0)

end Sys2Proof.Machine
end

