-- ==== Sys2Proof/Machine/Partner.lean ====
section
/-! DEFINITION. The partner pairing: HELLO, mirroring at both members, switch-over, and the 0x08xx commands
(spec/19_partner_and_spares.md R483 to R491, R494; spec/07_tracked_regions.md R260). Bodies of frames whose layout the
manual does not give are those of log 47. -/
namespace Sys2Proof.Machine

def PrtSt.code : PrtSt → Nat
  | .unpaired => 0
  | .waiting => 1
  | .active => 2
  | .standbySync => 3
  | .standby => 4
  | .takingOver => 5
  | .yielded => 6

/-! ### HELLO and HEARTBEAT (R483, R488) -/

/-- HELLO: endpoint ID, alias ID, ports, recorded role, DEVICE_ID. -/
def State.helloBody (s : State) (g : Pairing) : List Byte :=
  le 2 s.ownId ++ le 2 g.sharedId ++ le 1 g.portA ++ le 1 g.portB ++ le 1 (b2n s.prt.roleActive) ++ zeros 1 ++ deviceId
/-- Send an unsequenced frame on both ports. -/
def State.bothPorts (s : State) (g : Pairing) (type arg : Nat) (body : List Byte) : State :=
  let f := mirrorFrame type 0 0 arg body
  (s.sendFrame g g.portA none f).sendFrame g g.portB none f
/-- HELLO and HEARTBEAT on both ports; HEARTBEAT carries the sender's state. -/
def State.sendHello (s : State) (g : Pairing) : State :=
  ((s.bothPorts g 1 0 (s.helloBody g)).bothPorts g 2 0 (le 1 s.prt.st.code)).onPrt fun p => { p with helloAt := s.now }
/-- PARTNER_HELLO_TIMER: each member of a pairing, every 1 ms (R483, R488). -/
def execPartnerHelloTimer (s : State) : Host.Outcome State Fault Refusal :=
  match s.sec.pset.pairing with
  | none => .next s
  | some g => if s.past s.prt.helloAt msec then .next (s.sendHello g) else .next s

/-- MIRROR_RESEND_TIMER: a frame not acknowledged within 20 µs is sent again (R488). -/
def execMirrorResendTimer (mseq : BitVec 32) (s : State) : Host.Outcome State Fault Refusal :=
  match s.sec.pset.pairing, s.prt.sent.find? fun f => f.mseq == mseq.toNat with
  | some g, some f =>
    if s.past f.sentAt (20 * usec) then
      .next ((s.onPrt fun p => { p with sent := p.sent.map fun x => if x.mseq = f.mseq then { x with sentAt := s.now } else x }).sendFrame g (s.framePort g) none f.frame)
    else .next s
  | _, _ => .next s

/-! ### Resync (R488) -/

/-- Runs of lines of a page that read good, at most 31 lines each: (first line in page, data). -/
def goodRuns : List (Nat × Nat × List Byte) → Option (Nat × List Byte) → List (Nat × List Byte)
  | [], none => []
  | [], some r => [r]
  | (l, mark, d) :: rest, cur =>
    match cur with
    | none => goodRuns rest (if mark = 0 then some (l, d) else none)
    | some r =>
      if mark ≠ 0 then r :: goodRuns rest none
      else if 3968 ≤ r.2.length then r :: goodRuns rest (some (l, d))
      else goodRuns rest (some (r.1, r.2 ++ d))
/-- The mirror buffer's fill in bytes; it holds 16 MiB (R488). -/
def Partner.buffered (p : Partner) : Nat := (p.sent.map fun f => f.frame.length).sum
/-- Copy one written page. -/
def State.resyncCopy (s : State) (k : Nat) : State :=
  let h := keyExt k
  let ls := (List.range 512).map fun i => (i, s.peekLine h (keyPage k * 512 + i))
  let s := s.each (List.range 512) fun s i => if (s.pageOr h (keyPage k)).frame.isSome then s.readFx 52 h (keyPage k * 512 + i) else s
  s.each (goodRuns ls none) fun s r => s.mirror 9 h (keyPage k * 65536 + 128 * r.1) r.2
/-- Copy pages while the mirror buffer has room, at most `n`; after the last, RESYNC_DONE. -/
def State.resyncRun : Nat → State → State
  | 0, s => s
  | n + 1, s =>
    if !s.mirroring || s.prt.peerSt != 3 || s.prt.resyncEnd != 0 then s else
    match s.prt.resyncTodo with
    | [] =>
      let s := s.mirror 10 0 0 []
      s.onPrt fun p => { p with resyncEnd := p.mseq, held := p.held.map fun x => { x with mseq := min x.mseq p.mseq } }
    | k :: rest =>
      if 2 ^ 24 < s.prt.buffered + 70000 then s
      else State.resyncRun n ((s.onPrt fun p => { p with resyncTodo := rest }).resyncCopy k)
/-- The active member starts to copy its mirrored extents: attributes, versions, directory entries, then pages. -/
def State.resyncStart (s : State) : State :=
  let s := s.onPrt fun p => { p with peerSt := 3, silent := false, resyncEnd := 0, resyncTodo := [] }
  let ms := s.exts.filter fun e => e.2.mirrored && e.2.st == .active
  let s := s.each ms fun s e => (s.extFrame e.1 0 e.2).mirror 4 e.1 0 (le 8 e.2.version ++ le 2 e.2.publisher ++ zeros 6)
  let s := s.each (s.dir.ents.filter fun e => ms.any fun x => x.1 == e.2.ext) fun s e => s.dirFrame e.2.ext e.2.line
  let todo := (s.mem.pages.filter fun x => x.2.st != .unwritten && ms.any fun e => e.1 == keyExt x.1).map (·.1)
  State.resyncRun (todo.length + 1) (s.onPrt fun p => { p with resyncTodo := todo })
/-- A new establishment: sequence numbers start again from 1; held responses wait for the end of the resync. -/
def State.sequenceStart (s : State) : State :=
  s.onPrt fun p => { p with mseq := 0, acked := 0, applied := 0, early := [], sent := [], openTags := [], peerSt := 0, silent := false, resyncEnd := 0
                            held := p.held.map fun x => { x with mseq := 2 ^ 32 } }

/-! ### Acknowledgements (R485, R486, R488) -/

/-- Send the held responses that wait for a frame up to `n`. -/
def State.releaseHeld (s : State) (n : Nat) : State :=
  let out := s.prt.held.filter fun x => decide (x.mseq ≤ n)
  (s.onPrt fun p => { p with held := p.held.filter fun x => !decide (x.mseq ≤ n) }).each out fun s x => s.emit x.port x.pkt
/-- The partner has answered the creation of a mirrored extent: its record is written, or the command ends with the
partner's status (R485). -/
def State.creationAnswered (s : State) (h status : Nat) (body : List Byte) : State :=
  if status = 0 then (s.onExt h fun e => { e with waitSeq := 0 }).extRecord h .create
  else ({ s with exts := Tab.del s.exts h }).complete 0x0301 h status body
/-- The active member stops mirroring: responses go out at once and creations go on alone (R491). -/
def State.mirrorStop (s : State) : State :=
  let s := s.onPrt fun p => { p with sent := [], openTags := [], resyncTodo := [], resyncEnd := 0 }
  let s := s.releaseHeld (2 ^ 33)
  s.each (s.exts.filter fun e => e.2.waitSeq != 0) fun s e => s.creationAnswered e.1 0 []
/-- An ACK: everything up to ARG is applied; its body answers the EXTENT frame ARG (log 47). -/
def State.onAck (s : State) (arg : Nat) (body : List Byte) : State :=
  let s := s.onPrt fun p => { p with acked := max p.acked (min arg p.mseq), sent := p.sent.filter fun f => !decide (f.mseq ≤ arg) }
  let s := s.releaseHeld arg
  let s := s.each (s.exts.filter fun e => e.2.waitSeq != 0 && decide (e.2.waitSeq ≤ arg)) fun s e =>
    if e.2.waitSeq = arg && !body.isEmpty && field body 0 2 != 0 then
      s.creationAnswered e.1 (field body 0 2) (if field body 0 2 = 7 then (body.drop 2).take 1 ++ (body.drop 4).take 8 else [])
    else s.creationAnswered e.1 0 []
  let s := if s.prt.resyncEnd != 0 && decide (s.prt.resyncEnd ≤ arg) then s.onPrt fun p => { p with peerSt := 4, resyncEnd := 0 } else s
  s.resyncRun (s.prt.resyncTodo.length + 1)

/-! ### Establishment (R483, R484, R491) -/

/-- A change of role, committed to the vault. -/
def State.toRole (s : State) (st : PrtSt) (act : Bool) : State := s.onPrt fun p => { p with st := st, roleActive := act }
/-- The member becomes the standby of an active partner. -/
def State.toStandby (s : State) : State :=
  ((s.sequenceStart).toRole .standbySync false).onPrt fun p => { p with peerSt := 2 }
/-- Whether a HELLO's fields match the pairing. -/
def helloMatches (g : Pairing) (b : List Byte) : Bool :=
  field b 0 2 == g.peer && field b 2 2 == g.sharedId && (b.drop 8).take 32 == g.peerDev
def State.onHello (s : State) (g : Pairing) (b : List Byte) : State :=
  if !helloMatches g b then s.finding 13 g.peer 0 else
  let peerActive := field b 6 1 == 1
  let lower := decide (s.ownId < g.peer)
  match s.prt.st with
  | .waiting =>
    if s.sec.debugOn then s else
    if (if s.prt.roleActive = peerActive then lower else s.prt.roleActive) then
      ((s.sequenceStart).toRole .active true).resyncStart
    else s.toStandby
  | .active =>
    if !peerActive then (if s.prt.silent then s.sequenceStart.resyncStart else s)
    else if s.prt.yielding then s
    else
      let s := s.finding 14 g.peer 0
      if lower then s.sequenceStart.resyncStart else s.mirrorStop.toStandby
  | .yielded => if peerActive then s.onPrt fun p => { p with peerSt := 2 } else s
  | .standbySync => s.onPrt fun p => { p with peerSt := if peerActive then 2 else p.peerSt }
  | .standby => s.onPrt fun p => { p with peerSt := if peerActive then 2 else p.peerSt }
  | .takingOver => s
  | .unpaired => s
/-- A HEARTBEAT's state code tells the active member of a partner that asks for a resync (log 47). -/
def State.onHeartbeat (s : State) (b : List Byte) : State :=
  if s.prt.st != .active || b.isEmpty then s else
  let c := field b 0 1
  if c = 3 && s.prt.peerSt == 4 then s.resyncStart
  else if c = 3 && s.prt.peerSt != 3 then s.sequenceStart.resyncStart
  else if c = 1 && (s.prt.peerSt == 4 || s.prt.peerSt == 6) then s.onPrt fun p => { p with peerSt := 1 }
  else s

/-! ### Applying frames at the standby (R485, R486, R488) -/

/-- An access list as an EXTENT frame carries it. -/
def aclWire (l : List Byte) (n : Nat) : List AclEntry :=
  (List.range n).map fun i =>
    { ep := field l (40 + 4 * i) 2, r := bit (field l (42 + 4 * i) 1) 0, w := bit (field l (42 + 4 * i) 1) 1
      idx := if field l (43 + 4 * i) 1 < 64 then some (field l (43 + 4 * i) 1) else none }
/-- The answer to an EXTENT frame that creates an extent: status, QUOTA, SHORTFALL. -/
def State.mirrorCreate (s : State) (h : Nat) (b : List Byte) : State × List Byte :=
  let q := field b 0 1 % 64
  let len := field b 8 8 % 2 ^ 45
  let pol := field b 2 1
  let tracked := field b 1 1 == 1
  let no (st c short : Nat) : List Byte := le 2 st ++ le 1 c ++ zeros 1 ++ le 8 short
  if (s.ptn q).st = .unused || Tab.has s.freed h then (s, no 6 0 0) else
  match s.quotaFault q (s.pinned q + if pol = 0 then pagesOf len else 0) (s.flashUsed q + if pol = 0 then 0 else len)
      (s.trackedUsed q + if tracked then len else 0) (pol != 0 || s.hasTiered q) with
  | some (c, x) => (s, no 7 c x)
  | none =>
    let e : ExtRec :=
      { ptn := q, length := len, tracked := tracked, policy := pol, mirrored := true, acl := aclWire b (field b 26 1 % 65)
        init := field b 3 1 == 1, version := field b 16 8, publisher := field b 24 2, drainMs := field b 4 4
        controlDie := s.controlDieOf q, chans := if pol = 0 then (s.ptn q).channels else [] }
    (({ s with exts := Tab.put s.exts h e }).extRecord h .create, no 0 0 0)
/-- Apply an EXTENT frame: ARG 0 create or change, 1 revoke, 2 a dead host, 3 PERSIST (log 47). -/
def State.applyExtent (s : State) (h arg : Nat) (b : List Byte) : State × List Byte :=
  if arg = 2 then
    (if field b 2 1 = 0 then s.hostDies (field b 0 2) else s.onDir fun d => { d with dead := d.dead.filter (· != field b 0 2) }, [])
  else match s.ext h with
  | none => if arg = 0 then s.mirrorCreate h b else (s, [])
  | some e =>
    if !e.mirrored then (s, if arg = 0 then le 2 6 ++ zeros 10 else [])
    else if arg = 1 then (if e.st = .active then s.revoke h else s, [])
    else if arg = 3 then
      let g := (s.sec.pset.pairing).elim 0 (·.peer)
      let p : Packet := { opcode := 0x13#8, src := BitVec.ofNat 16 g, extent := BitVec.ofNat 32 h }
      (if e.policy = 0 then s else s.serveOr { kind := .persist 0, pkt := p, port := 20, since := s.now, reply := false }, [])
    else
      let s := s.onExt h fun e => { e with init := e.init || field b 3 1 == 1, drainMs := field b 4 4 }
      let s := if field b 2 1 ≠ e.policy then (s.movePolicy h e (field b 2 1)).1 else s
      let acl := aclWire b (field b 26 1 % 65)
      (if acl ≠ e.acl then (s.newAcl h e acl).1 else s.extRecord h .none, [])
/-- Apply a WRITE or RESYNC_PAGE frame: its lines, in order. -/
def State.applyWrite (s : State) (h off : Nat) (b : List Byte) : State :=
  if !((s.ext h).elim false fun e => e.mirrored && decide (off % 128 = 0 ∧ off + b.length ≤ e.length)) then s else
  let g := (s.sec.pset.pairing).elim 0 (·.peer)
  s.each (chunks 128 b).zipIdx fun s c =>
    s.homePut 20 0 { src := BitVec.ofNat 16 g, extent := BitVec.ofNat 32 h, offset := BitVec.ofNat 64 (off + 128 * c.2)
                     length := 128#64, payload := padTo 128 c.1 } false
/-- Apply a DIR frame: the entry and its BLOCKED bit are kept for a takeover. -/
def State.applyDir (s : State) (h : Nat) (b : List Byte) : State :=
  let line := field b 0 8 % 2 ^ 40
  let fl := field b 8 1
  let key := h * 2 ^ 40 + line
  let sh := field b 16 8
  let e : DirEnt := { ext := h, line := line, st := if bit fl 1 then .m else .s, owner := field b 9 1 % 64
                      sharers := (List.range 64).filter (bit sh) }
  s.onPrt fun p => { p with dirm := if bit fl 0 then Tab.put p.dirm key e else Tab.del p.dirm key
                            lines := if bit fl 2 then insertIdx key (p.lines.filter (· != key)) else p.lines.filter (· != key) }
/-- Whether writes or a PERSIST of the partner's frames still wait at this member; later frames wait behind them. -/
def State.mirrorBusy (s : State) : Bool :=
  let g := (s.sec.pset.pairing).elim 0 (·.peer)
  s.fab.waits.any fun r => !r.reply && r.pkt.src.toNat == g
/-- Apply one frame; the answer is the body of its ACK. -/
def State.applyFrame (s : State) (f : List Byte) : State × List Byte :=
  let h := field f 8 4 % 2 ^ 20
  let arg := field f 16 8
  let b := (f.drop 32).take (field f 12 4)
  let type := field f 0 1
  if type = 3 || type = 9 then (s.applyWrite h arg b, [])
  else if type = 4 then
    (if (s.ext h).elim false (·.mirrored) then s.onExt h fun e => { e with version := field b 0 8, publisher := field b 8 2 } else s, [])
  else if type = 5 then s.applyExtent h arg b
  else if type = 6 then (s.applyDir h b, [])
  else if type = 10 then
    (if s.prt.st = .standbySync then s.onPrt fun p => { p with st := .standby } else s, [])
  else (s, [])
/-- Take a sequence number through CHK instance 3 (R432, R488). -/
def State.aliveIn (s : State) (i a : Nat) : State :=
  s.onChk i fun c =>
    if !c.expValid then { c with expValue := BitVec.ofNat 16 (a + 1), expValid := true }
    else if a % 65536 = c.expValue.toNat then { c with expValue := c.expValue + 1#16 }
    else
      let rep := decide ((a + 1) % 65536 = c.expValue.toNat)
      { c with rep := c.rep || rep, skip := c.skip || !rep, aliveErrs := wrapAdd 32 c.aliveErrs 1 }
/-- The frame a mirror packet carries (R487). -/
def frameBytes (p : Packet) : List Byte := p.payload.take p.payloadLen.toNat
/-- Answer a mirror frame: everything up to `m` is applied; `body` answers what the frame asked (R101, R487). -/
def State.ackFrame (s : State) (g : Pairing) (p : Packet) (m : Nat) (body : List Byte) : State :=
  s.sendFrame g (s.framePort g) (some p) (mirrorFrame 7 0 0 m body)
/-- Apply held frames in order while there are any, and acknowledge each. -/
def State.applyRun : Nat → State → State
  | 0, s => s
  | n + 1, s =>
    let m := s.prt.applied + 1
    match Tab.get? s.prt.early m, s.sec.pset.pairing with
    | some q, some g =>
      if s.mirrorBusy then s else
      let s := s.onPrt fun p => { p with early := Tab.del p.early m }
      let s := if m = 1 then s.onChk 3 fun c => { c with expValid := false } else s
      let r := (s.aliveIn 3 m).applyFrame (frameBytes q)
      if r.1.mirrorBusy then
        -- the frame is acknowledged once what it started has been carried out
        r.1.onPrt fun p => { p with applied := m }
      else
        let s := (r.1.onPrt fun p => { p with applied := m })
        State.applyRun n (s.ackFrame g q m r.2)
    | _, _ => s
/-- A sequenced frame arrives: a repeat is discarded and acknowledged again, up to 256 early frames are held, and a
wider gap sends a standby to STANDBY_SYNC (R488). -/
def State.onSequenced (s : State) (g : Pairing) (p : Packet) : State :=
  let m := field (frameBytes p) 4 4
  if s.prt.st != .standby && s.prt.st != .standbySync && s.prt.st != .active then s
  else if m ≤ s.prt.applied then
    let s := s.aliveIn 3 m
    if s.mirrorBusy then s else s.ackFrame g p s.prt.applied []
  else if 257 < m - s.prt.applied then
    if s.prt.st = .standby then s.onPrt fun p => { p with st := .standbySync } else s
  else
    State.applyRun 258 (s.onPrt fun x => { x with early := Tab.put x.early m p })

/-! ### Switch-over (R489 to R491) -/

/-- Take over: the alias starts with empty duplicate filters, and a standby's state is that of the frames it holds. -/
def State.takeOver (s : State) (upTo : Nat) : State :=
  let s := s.each (s.prt.early.filter fun e => decide (e.1 ≤ upTo)) fun s e => (s.applyFrame (frameBytes e.2)).1
  let s := s.onFab fun f => { f with filters := f.filters.filter fun e => decide (e.1 < 65536) }
  s.onPrt fun p => { p with st := .takingOver, yieldAt := s.now, early := [] }
/-- YIELD reaches the standby (R490). -/
def State.onYield (s : State) (arg : Nat) : State :=
  if s.prt.st = .standby then (s.takeOver arg).onPrt fun p => { p with peerSt := 6 } else s
/-- Put a mirrored entry into the directory; where its set has no free way the holders are recalled (R490). -/
def State.rebuildEnt (s : State) (e : DirEnt) : State :=
  match s.ext e.ext with
  | none => s
  | some x =>
    if !x.tracked then s else
    match (s.dirSet e.ext e.line).bind s.freeWay with
    | some k => s.putEnt k e
    | none => s
/-- TAKEOVER_COMPLETE: the directory of the mirrored windows is rebuilt, lines last shown BLOCKED are recalled with
INVALIDATE, and the member serves the alias (R490). -/
def execTakeoverComplete (s : State) : Host.Outcome State Fault Refusal :=
  match s.sec.pset.pairing with
  | none => .next s
  | some g =>
    if s.prt.st ≠ .takingOver then .next s else
    let s := s.each s.prt.dirm fun s e => s.rebuildEnt e.2
    let s := s.each s.prt.lines fun s k =>
      match s.dirEnt (k / 2 ^ 40) (k % 2 ^ 40) with
      | some (_, d) =>
        if s.blocked d.ext d.line || d.holders.isEmpty then s
        else s.openTxn { ext := d.ext, line := d.line, act := .acl, req := none, kind := 1, need := d.holders, since := s.now }
      | none => s
    let s := (s.toRole .active true).onPrt fun p => { p with switchovers := wrapAdd 32 p.switchovers 1, dirm := [], lines := [] }
    .next (s.dirRun.sendHello g)

/-- YIELD_START: a YIELD finding on the active member, whose partner is in STANDBY, stops the alias (R481, R489). -/
def execYieldStart (s : State) : Host.Outcome State Fault Refusal :=
  if s.prt.st = .active && s.prt.yieldDue && s.prt.peerSt == 4 && !s.prt.silent && !s.prt.yielding then
    .next (s.onPrt fun p => { p with yielding := true, yieldDue := false, yieldAt := s.now })
  else .next (s.onPrt fun p => { p with yieldDue := false })

/-- Every alias transaction still unanswered ends with ST_RETRY_AFTER and a hint of 60 µs (R489). -/
def State.endAlias (s : State) (a : Nat) : State :=
  let mine (p : Packet) : Bool := p.dst.toNat == a
  let s := s.each (s.prt.held.filter fun x => x.pkt.src.toNat == a) fun s x =>
    s.emit x.port { x.pkt with status := 1#8, hintUs := 60#32, payload := [], payloadLen := 0#16, arg0 := 0#64, arg1 := 0#64 }
  let s := s.onPrt fun p => { p with held := p.held.filter fun x => x.pkt.src.toNat != a }
  let s := s.each (s.fab.table.filter fun e => mine e.2.req && !e.2.refused && e.2.opcode != 0x30) fun s e =>
    let s := s.retryAfter e.2.port e.2.req 60
    let s := if e.2.opcode = 0x31 then s else s.gone e.2.ext
    s.onFab fun f => { f with table := Tab.modify f.table e.1 fun x => { x with refused := true } }
  let once (r : WaitReq) : Bool := mine r.pkt && r.reply && !(r.kind == .serve && r.pkt.opcode != 0x01#8)
  let s := s.each (s.fab.waits.filter fun r => once r && r.kind != .invoke) fun s r => (s.retryAfter r.port r.pkt 60).gone r.pkt.ext
  let s := s.each (s.fab.waits.filter fun r => once r && r.kind == .invoke) fun s r =>
    let s := s.each (invOf r.pkt r.port s.now).exts fun s x => s.gone x
    (s.freeCredit r.port 0 r.pkt.flits).refuseInvoke r.port r.pkt 1 60
  let s := s.onFab fun f => { f with waits := f.waits.filter fun r => !(once r) }
  let hit (r : WaitReq) : Bool := r.reply && mine r.pkt
  let reqs := (s.dir.txns.filterMap (·.req) ++ s.dir.queue.map (·.req)).filter hit
  let s := s.each reqs fun s r => (s.retryAfter r.port r.pkt 60).gone r.pkt.ext
  let s := s.onDir fun d => { d with txns := d.txns.map fun t => if (t.req.elim false hit) then { t with act := .acl, req := none } else t
                                     queue := d.queue.filter fun w => !(hit w.req) }
  s.each (s.deal.invs.filter fun e => mine e.2.req) fun s e => s.endInv e.1 1 none
/-- YIELD_ACK_WAIT_END: every frame is acknowledged, or 10 µs have passed; what is unanswered ends, YIELD goes out on
both ports, and the member is YIELDED (R489). -/
def execYieldAckWaitEnd (s : State) : Host.Outcome State Fault Refusal :=
  match s.sec.pset.pairing with
  | none => .next s
  | some g =>
    if !s.prt.yielding || !(s.past s.prt.yieldAt (10 * usec) || s.prt.acked == s.prt.mseq) then .next s else
    let s := s.endAlias g.sharedId
    let s := s.bothPorts g 8 s.prt.mseq []
    .next ((s.toRole .yielded false).onPrt fun p => { p with yielding := false, sent := [], peerSt := 5, resyncTodo := [] }).dirRun

/-- PARTNER_SILENCE: no valid frame for SILENCE_MS (R491). -/
def execPartnerSilence (s : State) : Host.Outcome State Fault Refusal :=
  match s.sec.pset.pairing with
  | none => .next s
  | some g =>
    if s.prt.silent || !(s.past s.prt.heard (g.silenceMs * msec)) then .next s else
    let s := (s.finding 12 g.peer 0).onPrt fun p => { p with silent := true }
    match s.prt.st with
    | .active => .next s.mirrorStop
    | .standby => if g.takeover then .next (s.takeOver s.prt.mseq) else .next s
    | _ => .next s

/-! ### Arrival of a frame (R487, R488) -/

/-- The payload of a partner mirror frame packet, if it is whole. -/
def frameIn (p : Packet) : Option (List Byte) :=
  let f := frameBytes p
  let type := field f 0 1
  let len := field f 12 4
  let lines := type == 3 || type == 9
  if f.length < 32 || f.length ≠ 32 + len || type < 1 || 10 < type || (lines && (len % 128 ≠ 0 || 3968 < len)) || 4064 < len then none
  else some f
/-- Whether a mirror response answers a frame this member has open: an ACK is matched on TAG and REQ_SEQ0 (R101). -/
def State.answersFrame (s : State) (p : Packet) : Bool := Tab.get? s.prt.openTags p.tg == some p.reqSeq0.toNat
/-- A mirror frame addressed to this member: ACK frames are responses, the other types requests (R101, log 47). -/
def State.mirrorArrive (s : State) (p : Packet) : State :=
  match s.sec.pset.pairing, frameIn p with
  | some g, some f =>
    let cov := f.take 24 ++ f.drop 32
    let s := s.chkFrame 3 cov
    if (crc32c cov).toNat ≠ field f 24 4 then
      (s.onChk 3 fun c => { c with crcErrs := wrapAdd 32 c.crcErrs 1 }).onPrt fun x => { x with fcrcBad := wrapAdd 32 x.fcrcBad 1 }
    else
      let again := s.prt.silent
      let s := s.onPrt fun x => { x with heard := s.now }
      let b := (f.drop 32).take (field f 12 4)
      -- a partner heard again (R484, R491)
      let s := if again && (s.prt.st == .standby || s.prt.st == .standbySync) then s.toStandby
               else if again && s.prt.st != .active then s.onPrt fun x => { x with silent := false } else s
      match field f 0 1 with
      | 1 => if p.rsp then s else s.onHello g b
      | 2 => if p.rsp then s else s.onHeartbeat b
      | 7 =>
        if !p.rsp then s else
        let s := s.onPrt fun x => { x with openTags := Tab.del x.openTags p.tg }
        if s.prt.st = .active || s.prt.st = .standby || s.prt.st = .standbySync then s.onAck (field f 16 8) b else s
      | 8 => if p.rsp then s else s.onYield (field f 16 8)
      | _ => if p.rsp then s else s.onSequenced g p
  | _, _ => s

/-! ### Commands (R260, R494) -/

/-- DEV_HOST_DEAD (R260, R486). -/
def cmdDevHostDead : Cmd := fun _ l s =>
  let ep := field l 0 2
  let withdraw := field l 2 1
  let tell (s : State) : State :=
    if s.mirroring || ((s.prt.st == .standby || s.prt.st == .standbySync) && !s.prt.silent) then
      s.sendSeq 5 0 2 (le 2 ep ++ le 1 withdraw ++ zeros 1) else s
  if 0xBFFF < ep || 1 < withdraw then (s, rRange)
  else if withdraw = 0 then
    if s.dir.dead.contains ep then (s, rOk)
    else if 256 ≤ s.dir.dead.length then (s, .now 7 [])
    else ((tell (s.hostDies ep)).settleAll, rOk)
  else if !s.dir.dead.contains ep then (s, rOk)
  else if s.dir.scans.any fun x => x.2 == ep then (s, rState)
  else (tell (s.onDir fun d => { d with dead := d.dead.filter (· != ep) }), rOk)

/-- PRT_INFO (R494). -/
def cmdPrtInfo : Cmd := fun _ _ s =>
  let g := s.sec.pset.pairing
  let p := s.prt
  (s, .now 0 (le 1 p.st.code ++ le 1 p.peerSt ++ le 1 (b2n (g.elim false (·.takeover)) + 2 * b2n p.silent) ++ zeros 1
    ++ le 2 (g.elim 0 (·.peer)) ++ le 2 (g.elim 0 (·.sharedId)) ++ le 4 (s.exts.filter fun e => e.2.mirrored).length
    ++ le 8 (65536 * p.resyncTodo.length) ++ le 4 p.mseq ++ le 4 p.acked ++ le 4 p.switchovers))
/-- PRT_DIAG_READ: the oldest records are returned and removed (R482, R494). -/
def cmdPrtDiagRead : Cmd := fun _ l s =>
  let n := field l 0 1
  if n < 1 || 64 < n then (s, rRange) else
  let rs := s.diag.recs.take n
  ({ s with diag := { s.diag with recs := s.diag.recs.drop n } },
   .now 0 (le 1 rs.length ++ zeros 3 ++ le 4 s.diag.lost
     ++ rs.flatMap fun r => le 8 r.time ++ le 1 r.code ++ zeros 1 ++ le 2 r.unit ++ le 4 r.detail))
/-- The 16 bytes of a wear-record entry (R493). -/
def WearEnt.bytes (e : WearEnt) : List Byte := le 1 e.kind ++ zeros 1 ++ le 2 e.unit ++ le 4 e.a ++ le 8 e.b
/-- PRT_WEAR_READ (R493, R494). -/
def cmdPrtWearRead : Cmd := fun _ l s =>
  let first := field l 0 4
  if s.wear.ents.length < first || (s.wear.ents.length = first && first ≠ 0) then (s, rRange) else
  let es := (s.wear.ents.drop first).take 250
  (s, .now 0 (le 2 es.length ++ zeros 2 ++ le 8 s.wear.seq ++ es.flatMap WearEnt.bytes))

end Sys2Proof.Machine
end

