-- ==== Sys2Proof/Machine/Fabric.lean ====
section
/-! DEFINITION. Arrival of a packet: routing by destination, form and match checks, the duplicate filter, the transfer
table, policing, and delivery (spec/01_architecture.md R23, R24; spec/03_transfers.md R90 to R110;
spec/10_scheduling_and_policing.md R312, R313; spec/09_routing_and_transit.md R306). -/
namespace Sys2Proof.Machine

/-! ### Case 1: transit (R23, R90) -/

/-- A packet for another endpoint is forwarded, or discarded at the hop limit. -/
def State.transit (s : State) (n vc : Nat) (p : Packet) : State :=
  if 32 ≤ p.hops.toNat then (s.bump .rtDropHops 0).freeCredit n vc p.flits
  else s.route n vc true .any { p with hops := p.hops + 1#8 }

/-! ### The duplicate filter (R103, R104) -/

inductive Seen
  | fresh | dup | stale
deriving DecidableEq, Repr

/-- Take a sequence number into an entry. -/
def FilterEnt.take (e : Option FilterEnt) (sq : BitVec 32) : Seen × FilterEnt :=
  match e with
  | none => (.fresh, { h := sq, marks := 1#1024 })
  | some e =>
    let d := (sq - e.h).toInt
    if 0 < d then (.fresh, { h := sq, marks := (if 1024 ≤ d then 0#1024 else e.marks <<< d.toNat) ||| 1#1024 })
    else if -1024 < d then
      let b := (-d).toNat
      if e.marks.getLsbD b then (.dup, e) else (.fresh, { e with marks := e.marks ||| (1#1024 <<< b) })
    else (.stale, e)
/-- Entries whose missing packets would all be stale end without a response (R109, last row). -/
def State.purge (s : State) (src dst : Nat) (h : BitVec 32) : State :=
  let old (e : Nat × TrickRec) : Bool :=
    e.2.src == src && e.2.dst == dst && decide (1024 ≤ (h - (e.2.s0 + BitVec.ofNat 32 (e.2.count - 1))).toInt)
  let s := s.each (s.fab.table.filter fun e => old e && !e.2.refused && e.2.opcode != 0x31) fun s e => s.gone e.2.ext
  let s := s.each (s.fab.table.filter fun e => old e && !e.2.refused && (e.2.opcode == 0x02 || e.2.opcode == 0x03)) fun s e => s.performed (some e.2.write)
  s.onFab fun f => { f with table := f.table.filter fun e => !(old e) }
/-- Pass a packet through the filter of its source. -/
def State.filter (s : State) (side : Nat) (p : Packet) : Seen × State :=
  let key := p.src.toNat + 65536 * side
  let r := FilterEnt.take (Tab.get? s.fab.filters key) p.seq
  match r.1 with
  | .fresh => (.fresh, (s.onFab fun f => { f with filters := Tab.put f.filters key r.2 }).purge p.src.toNat p.dst.toNat r.2.h)
  | .dup => (.dup, s.bump .rtDup 0)
  | .stale => (.stale, s.bump .rtStale 0)

/-! ### The transfer table (R106 to R110) -/

/-- The entry of a packet's transfer. -/
def State.trick (s : State) (p : Packet) : Option (Nat × TrickRec) :=
  s.fab.table.find? fun e => e.2.src == p.src.toNat && e.2.dst == p.dst.toNat && e.2.tag == p.tg && e.2.s0 == p.s0
/-- The fields of a packet that its entry fixes (R107). -/
def TrickRec.agrees (t : TrickRec) (p : Packet) : Bool :=
  t.opcode == p.opcode.toNat && t.count == p.pktCount.toNat && t.length == p.len && t.ext == p.ext && t.ptn == p.q
def State.onTrick (s : State) (k : Nat) (f : TrickRec → TrickRec) : State :=
  s.onFab fun x => { x with table := Tab.modify x.table k f }
def State.dropTrick (s : State) (k : Nat) : State := s.onFab fun f => { f with table := Tab.del f.table k }
/-- A free entry of the partition, the oldest refusal record freed if need be (R108); its age counts from the opening of its
entry (DESIGN CHOICE, log 140). -/
def State.tableEntry (s : State) (q : Nat) : Option (Nat × State) :=
  match (List.range 512).find? fun i => !(Tab.has s.fab.table (q * 512 + i)) with
  | some i => some (q * 512 + i, s)
  | none =>
    let refs := s.fab.table.filter fun e => e.2.ptn == q && e.2.refused
    let old := refs.foldl (fun (b : Option (Nat × TrickRec)) e =>
      match b with
      | none => some e
      | some x => if e.2.age < x.2.age then some e else b) none
    old.map fun e => (e.1, s.dropTrick e.1)
/-- Refuse a request with a status: an INVOKE is answered by its RESULT (R211). -/
def State.refuseAny (s : State) (port : Nat) (p : Packet) (status hint : Nat) : State :=
  if p.opcode = 0x30#8 then s.refuseInvoke port p status hint
  else if status = 1 then s.retryAfter port p hint else s.respond port p status

/-! ### Packets of an accepted transfer (R57, R95, R106, R207) -/

/-- The transfer's response goes out once it is counted and, for a mirrored extent, once its writes and their frames are
through at both members (R57, R486). -/
def State.writeCounted (s : State) (p : Packet) (port w status : Nat) : State :=
  let s := s.onFab fun f => { f with writes := Tab.modify f.writes w fun x => { x with okSent := true } }
  let s := s.performed (some w)
  if status = 0 && (s.ext p.ext).elim false (·.mirrored) && Tab.has s.fab.writes w then
    s.serveOr { kind := .cover, pkt := p, port := port, since := s.now, ids := [w] }
  else s.answer { kind := .serve, pkt := p, port := port } true (p.resp status)
/-- Perform one write packet, or leave it waiting for its pages. -/
def State.writePacket (s : State) (p : Packet) (port w : Nat) (yellow : Bool) : State :=
  let n := rangeOf p.len p.pktIndex.toNat / 128
  let s := s.onFab fun f => { f with writes := Tab.modify f.writes w fun x => { x with lines := x.lines + n } }
  s.serveOr { kind := .serve, pkt := p, port := port, yellow := yellow, since := s.now, ids := [w], reply := false }
/-- Count a packet of an open trick, after its effect: at the last, the transfer ends. -/
def State.counted (s : State) (k : Nat) : State :=
  let s := s.onTrick k fun t => { t with seen := t.seen + 1 }
  match Tab.get? s.fab.table k with
  | none => s
  | some t =>
    if t.seen < t.count then s
    else
      let s := s.dropTrick k
      if t.refused then s
      else if t.opcode = 0x31 then s.emitHeld false t.port (t.req.resp 0)
      else s.writeCounted t.req t.port t.write 0
/-- A later packet of a known transfer. It is performed at the OFFSET it carries, which is neither compared with the first
packet's nor held to the extent again (DESIGN CHOICE, log 140: R95 does not say). -/
def State.laterPacket (s : State) (k : Nat) (t : TrickRec) (port : Nat) (p : Packet) : State :=
  if t.refused then s.counted k
  else if !p.rangeOk then
    -- the transfer ends early with ST_NO_EXTENT, and its entry absorbs the rest (R95, R109)
    let s := s.respond t.port t.req 5
    let s := if t.opcode = 0x31 then s else (s.ended t.ext false).performed (some t.write)
    (s.onTrick k fun x => { x with refused := true }).counted k
  else
    let s := s.count (6 + port / 9) p.q 3 p.payloadLen.toNat
    let s := if t.opcode = 0x31 then s.invokeData (t.inv - 1) p else s.writePacket p port t.write t.yellow
    s.counted k

/-! ### Cases 5 to 8: a request on VC0 -/

/-- A request of the partition has passed R23 case 6: its clusters and stacks see a lead event (R468), and its bytes are
counted (R453). -/
def State.passed6 (s : State) (port : Nat) (p : Packet) : State :=
  let r := s.ptn p.q
  let s := s.each (r.clusters ++ (r.channels.map fun c => 32 + c / 32).eraseDups) State.lead
  s.count (6 + port / 9) p.q 3 p.payloadLen.toNat
/-- A packet that waits keeps the credit its arrival gave back (R276, R313). -/
def State.holdCredit (s : State) (n vc flits : Nat) : State :=
  (s.onLink n fun l => { l with rxUsed := Tab.set 0 l.rxUsed vc (Tab.getD l.rxUsed vc 0 + flits) }).setReg .glFreedVc (5 * n + vc)
    (wrapAdd 32 (s.reg .glFreedVc (5 * n + vc)) (2 ^ 32 - flits))
/-- An extent request that has passed R23 goes to its home or control die. -/
def State.serveExt (s : State) (r : WaitReq) : State :=
  let op := r.pkt.opcode.toNat
  if op = 0x01 then s.serveGet r
  else if op = 0x04 then s.serveZero r
  else if op = 0x10 then s.servePublish r
  else if op = 0x11 then s.serveReadVersion r
  else if op = 0x12 then s.serveFlush r
  else if op = 0x13 then s.servePersist r
  else s.serveLine r
/-- A trick refused at its first packet leaves its entry as a refusal record (R108). -/
def State.refusedAt (s : State) (k : Option Nat) : State :=
  match k with
  | some k => (s.onTrick k fun t => { t with refused := true }).counted k
  | none => s
/-- The first packet of a PUT or PUT_SPARSE, accepted. -/
def State.firstWrite (s : State) (k : Option Nat) (port : Nat) (p : Packet) (yellow : Bool) : State :=
  let s := s.accepted p.ext
  let w := s.newWrite p.src.toNat p.ext false 1
  let s := w.2.writePacket p port w.1 yellow
  match k with
  | some k => (s.onTrick k fun t => { t with write := w.1 }).counted k
  | none => s.writeCounted p port w.1 0
/-- Cases 5 to 8 for the first packet of a request; `k` is the entry of a trick. A refused trick keeps its entry as a
refusal record. -/
def State.firstPacket (s : State) (k : Option Nat) (port : Nat) (p : Packet) : State :=
  let op := p.opcode.toNat
  let refused (s : State) : State := s.refusedAt k
  -- case 5
  let c := s.police (4 * p.q + p.svc) p.colour (chargeOf p)
  let s := c.2
  let yellow := c.1 == 1
  if c.1 = 2 then refused (s.refuseAny port p 2 0)
  else if yellow && decide (s.reg .polCongFlits 0 ≤ s.ingressDepth port p.q p.svc) then
    refused ((s.bump .polYretry (4 * p.q + p.svc)).refuseAny port p 1 (s.reg .polRetryHint 0))
  -- cases 6 to 8
  else if op = 0x30 then
    let ok := (s.checkInvoke p (invOf p port s.now)).isNone
    let s := if ok then s.passed6 port p else s
    let x := s.serveInvoke { kind := .invoke, pkt := p, port := port, yellow := yellow, since := s.now }
    refused (if x.2 then x.1.holdCredit port 0 p.flits else x.1)
  else if op = 0x31 then
    match s.checkData p with
    | some st => refused (s.respond port p st)
    | none =>
      let s := s.passed6 port p
      match s.fedBy p with
      | none => s
      | some (i, _) =>
        match k with
        | some k => ((s.onTrick k fun t => { t with inv := i + 1 }).invokeData i p).counted k
        | none => (s.invokeData i p).emit port (p.resp 0)
  else
    match s.check6 p with
    | some st => refused (s.refuse port p st none)
    | none =>
      let s := s.passed6 port p
      if op = 0x02 || op = 0x03 then
        if yellow && s.yellowAway p.ext (pagesIn p.off p.len) true then let d := s.draw; refused (d.2.retryAfter port p d.1)
        else
          let s := match k with
            | some k => s.onTrick k fun t => { t with yellow := yellow }
            | none => s
          s.firstWrite k port p yellow
      else
        (s.accepted p.ext).serveExt { kind := .serve, pkt := p, port := port, yellow := yellow, since := s.now }
/-- RETURN at case 6: refused by its form or its extent, or served at its home. -/
def State.firstReturn (s : State) (k : Option Nat) (port : Nat) (p : Packet) : State :=
  match s.check6 p with
  | some st => (s.refuse port p st none).refusedAt k
  | none => (s.accepted p.ext).hostReturn { kind := .serve, pkt := p, port := port, since := s.now }
/-- The first packet of a transfer of several packets takes an entry of the transfer table before anything else looks at
it; one that finds none is answered with a hint of 20 µs (R108). -/
def State.withEntry (s : State) (port : Nat) (p : Packet) (f : Option Nat → State → State) : State :=
  if p.pktCount.toNat ≤ 1 then f none s else
  match s.tableEntry p.q with
  | none => s.refuseAny port p 1 20
  | some (k, s) =>
    let t : TrickRec := { src := p.src.toNat, dst := p.dst.toNat, tag := p.tg, s0 := p.s0, opcode := p.opcode.toNat, count := p.pktCount.toNat,
                          length := p.len, ext := p.ext, ptn := p.q, seen := 0, refused := false, req := p, port := port, age := s.fab.nextAge }
    f (some k) (s.onFab fun f => { f with table := Tab.put f.table k t, nextAge := f.nextAge + 1 })
/-- The first packet of a request on VC0, past the filter and the match checks. -/
def State.request (s : State) (port : Nat) (p : Packet) : State :=
  if s.lk.state = 2 then s.refuseAny port p 1 1000000  -- entry into DORMANT (R475 step 1)
  else s.withEntry port p fun k s => s.firstPacket k port p

/-! ### Arrival -/

/-- Whether a destination is the device's own ID or an alias it answers for (R23 case 1, R484). -/
def State.isLocal (s : State) (dst : Nat) : Bool :=
  dst == s.ownId || s.aliasServed == some dst || (s.aliasRetry && (s.sec.pset.pairing).elim false fun g => g.sharedId == dst)
/-- A packet that has passed the form checks and the filter (R23 cases 2 to 8): the match checks of R107 first. -/
def State.deliverPkt (s : State) (port : Nat) (p : Packet) : State :=
  let op := p.opcode.toNat
  if op = 0x26 then s.hostAck port p
  else if op = 0x50 && p.rsp && s.answersFrame p then s.mirrorArrive p
  else if op = 0x25 || op = 0x32 || p.rsp then s.bump .rtMalformed 0
  else match s.trick p with
  | some (k, t) => if t.agrees p then s.laterPacket k t port p else s.bump .rtMalformed 0
  | none =>
    if op = 0x40 then s.mgmtArrive port p
    else if op = 0x50 then s.mirrorArrive p
    else if op = 0x22 then s.withEntry port p fun k s => s.firstReturn k port p
    else s.request port p
/-- An alias request while the alias is not served here ends with ST_RETRY_AFTER; what belongs to an open transfer goes
on (R484, R489). -/
def State.aliasHeld (s : State) (p : Packet) : Bool :=
  p.dst.toNat != s.ownId && s.aliasRetry && !(s.prt.yielding && ((s.trick p).isSome || p.opcode == 0x26#8))
/-- A packet arrives whole on a port and VC (R23, R90, R91, R104, R107, R276, R502). -/
def State.fabricIn (s : State) (n vc : Nat) (p : Packet) : State :=
  if s.overrun n vc p then s.bumpN .glCreditOverrun n p.flits else
  let s := (s.takeRx n vc p).lead (44 + n)
  let dst := p.dst.toNat
  if !(s.isLocal dst) then s.transit n vc p
  else
    let s := s.freeCredit n vc p.flits
    if s.board.phase ≠ .ready then s.bump .rtDropLocal 0
    else if p.e2eCrc ≠ p.crcOf then s.onFab fun f => { f with crcDrops := wrapAdd 32 f.crcDrops 1 }
    else if !(p.formOk vc) then s.bump .rtMalformed 0
    else if s.aliasHeld p then
      if vc = 0 || p.opcode = 0x22#8 then s.refuseAny n p 1 60 else s
    else
      match s.filter (if dst = s.ownId then 0 else 1) p with
      | (.fresh, s) => (s.deliverPkt n p).settleAll
      | (_, s) => s

/-- TRANSIT_FORWARD (R23 case 1, R294). -/
def execTransitForward (n : Port) (vc : Fin 5) (p : Packet) (s : State) : Host.Outcome State Fault Refusal := .next (s.fabricIn n vc p)
/-- MALFORMED_PACKET_ARRIVAL (R107). -/
def execMalformedPacketArrival (n : Port) (vc : Fin 5) (p : Packet) (s : State) : Host.Outcome State Fault Refusal :=
  .next (s.fabricIn n vc p)

/-- A packet of a row, with the row's opcode. -/
def State.opIn (s : State) (op : BitVec 8) (n vc : Nat) (p : Packet) : State := s.fabricIn n vc { p with opcode := op }

/-- GET (R23, R82, R94, R113). -/
def execGet (n : Port) (vc : Fin 5) (p : Packet) (s : State) : Host.Outcome State Fault Refusal := .next (s.opIn 0x01#8 n vc p)
/-- PUT (R57, R106). -/
def execPut (n : Port) (vc : Fin 5) (p : Packet) (s : State) : Host.Outcome State Fault Refusal := .next (s.opIn 0x02#8 n vc p)
/-- PUT_SPARSE (R99). -/
def execPutSparse (n : Port) (vc : Fin 5) (p : Packet) (s : State) : Host.Outcome State Fault Refusal := .next (s.opIn 0x03#8 n vc p)
/-- ZERO (R100). -/
def execZero (n : Port) (vc : Fin 5) (p : Packet) (s : State) : Host.Outcome State Fault Refusal := .next (s.opIn 0x04#8 n vc p)
/-- PUBLISH: its flush begins (R65). -/
def execPublish (n : Port) (vc : Fin 5) (p : Packet) (s : State) : Host.Outcome State Fault Refusal := .next (s.opIn 0x10#8 n vc p)
/-- READ_VERSION (R67). -/
def execReadVersion (n : Port) (vc : Fin 5) (p : Packet) (s : State) : Host.Outcome State Fault Refusal := .next (s.opIn 0x11#8 n vc p)
/-- FLUSH (R58). -/
def execFlush (n : Port) (vc : Fin 5) (p : Packet) (s : State) : Host.Outcome State Fault Refusal := .next (s.opIn 0x12#8 n vc p)
/-- PERSIST (R60, R366). -/
def execPersist (n : Port) (vc : Fin 5) (p : Packet) (s : State) : Host.Outcome State Fault Refusal := .next (s.opIn 0x13#8 n vc p)
/-- CHECKOUT_S (R255). -/
def execCheckoutS (n : Port) (vc : Fin 5) (p : Packet) (s : State) : Host.Outcome State Fault Refusal := .next (s.opIn 0x20#8 n vc p)
/-- CHECKOUT_X (R255). -/
def execCheckoutX (n : Port) (vc : Fin 5) (p : Packet) (s : State) : Host.Outcome State Fault Refusal := .next (s.opIn 0x21#8 n vc p)
/-- RETURN (R98, R252, R255). -/
def execReturnLine (n : Port) (vc : Fin 5) (p : Packet) (s : State) : Host.Outcome State Fault Refusal := .next (s.opIn 0x22#8 n vc p)
/-- WRITE_INV (R255). -/
def execWriteInv (n : Port) (vc : Fin 5) (p : Packet) (s : State) : Host.Outcome State Fault Refusal := .next (s.opIn 0x23#8 n vc p)
/-- ATOMIC (R96, R255). -/
def execAtomic (n : Port) (vc : Fin 5) (p : Packet) (s : State) : Host.Outcome State Fault Refusal := .next (s.opIn 0x24#8 n vc p)
/-- RECALL_ACK (R252, R253). -/
def execRecallAck (n : Port) (vc : Fin 5) (p : Packet) (s : State) : Host.Outcome State Fault Refusal := .next (s.opIn 0x26#8 n vc p)
/-- INVOKE (R203, R205). -/
def execInvoke (n : Port) (vc : Fin 5) (p : Packet) (s : State) : Host.Outcome State Fault Refusal := .next (s.opIn 0x30#8 n vc p)
/-- INVOKE_DATA (R97, R207). -/
def execInvokeData (n : Port) (vc : Fin 5) (p : Packet) (s : State) : Host.Outcome State Fault Refusal := .next (s.opIn 0x31#8 n vc p)
/-- MGMT (R302). -/
def execMgmt (n : Port) (vc : Fin 5) (p : Packet) (s : State) : Host.Outcome State Fault Refusal := .next (s.opIn 0x40#8 n vc p)

/-! ### Partner mirror frames -/

/-- A mirror frame of a type, which the row fixes: the TYPE byte of the payload. -/
def withType (t : Nat) (p : Packet) : Packet := { p with opcode := 0x50#8, payload := le 1 t ++ p.payload.drop 1 }

/-- HELLO (R483). -/
def execHello (n : Port) (vc : Fin 5) (p : Packet) (s : State) : Host.Outcome State Fault Refusal := .next (s.fabricIn n vc (withType 1 p))
/-- HEARTBEAT (R488). -/
def execHeartbeat (n : Port) (vc : Fin 5) (p : Packet) (s : State) : Host.Outcome State Fault Refusal := .next (s.fabricIn n vc (withType 2 p))
/-- WRITE (R486). -/
def execWriteFrame (n : Port) (vc : Fin 5) (p : Packet) (s : State) : Host.Outcome State Fault Refusal := .next (s.fabricIn n vc (withType 3 p))
/-- VERSION (R486). -/
def execVersionFrame (n : Port) (vc : Fin 5) (p : Packet) (s : State) : Host.Outcome State Fault Refusal := .next (s.fabricIn n vc (withType 4 p))
/-- EXTENT (R485). -/
def execExtentFrame (n : Port) (vc : Fin 5) (p : Packet) (s : State) : Host.Outcome State Fault Refusal := .next (s.fabricIn n vc (withType 5 p))
/-- DIR (R486). -/
def execDirFrame (n : Port) (vc : Fin 5) (p : Packet) (s : State) : Host.Outcome State Fault Refusal := .next (s.fabricIn n vc (withType 6 p))
/-- ACK (R486, R488). -/
def execAckFrame (n : Port) (vc : Fin 5) (p : Packet) (s : State) : Host.Outcome State Fault Refusal := .next (s.fabricIn n vc (withType 7 p))
/-- YIELD (R490). -/
def execYieldFrame (n : Port) (vc : Fin 5) (p : Packet) (s : State) : Host.Outcome State Fault Refusal := .next (s.fabricIn n vc (withType 8 p))
/-- RESYNC_PAGE (R488). -/
def execResyncPage (n : Port) (vc : Fin 5) (p : Packet) (s : State) : Host.Outcome State Fault Refusal := .next (s.fabricIn n vc (withType 9 p))
/-- RESYNC_DONE (R488). -/
def execResyncDone (n : Port) (vc : Fin 5) (p : Packet) (s : State) : Host.Outcome State Fault Refusal := .next (s.fabricIn n vc (withType 10 p))

end Sys2Proof.Machine
end

