-- ==== Sys2Proof/Machine/Meter.lean ====
section
/-! DEFINITION. The Yeltas meter: what its senders count and send, what it accepts, its snapshots, events and signed
reports, and the 0x0Axx commands (spec/17_yeltas_meter.md R449 to R466). -/
namespace Sys2Proof.Machine

/-! ### Senders (R453 to R456) -/

/-- Frames of a partition that are allotted on an M die: tier pages, and on the die of its lowest channel its staging
pool, images and models (R453, log 55). -/
def State.allotted (s : State) (m q : Nat) : Nat :=
  let p := s.ptn q
  let pages := ((p.channels.filter fun c => dieOf c == m).map s.chanFrames).sum
  let fixed := Tab.getD s.deal.stage q 1024
    + ((s.deal.images.filter fun e => e.2.ptn == q).map fun e => e.2.pages).sum
    + ((s.deal.models.filter fun e => e.2.ptn == q).map fun e => ceilDiv ((e.2.resident.length + 2) * e.2.hdr.expertBytes) 65536).sum
  pages + if p.st ≠ .unused ∧ p.channels.head?.map dieOf = some m then fixed else 0
/-- Pages of a partition with a committed flash copy on an M die (R453). -/
def State.flashCopies (s : State) (m q : Nat) : Nat :=
  (s.mem.pages.filter fun e => e.2.loc.isSome && dieOf e.2.home == m && (s.ext (keyExt e.1)).elim false fun x => x.ptn == q).length
/-- The stored quantities of every partition are counted once a millisecond (R453). -/
def State.sampleStored (s : State) : State :=
  s.each (List.range 4) fun s m => s.each (s.ptns.map Prod.fst) fun s q =>
    (s.count (2 + m) q 1 (65536 * s.allotted m q)).count (2 + m) q 2 (65536 * s.flashCopies m q)
/-- Time passes on an empty queue: the dealer's standing work is done, and the stored quantities are counted at each whole
millisecond (R215, R218; log 11). -/
def State.tick (s : State) : State :=
  let s := s.each (s.ptns.map Prod.fst) State.dealStep
  if (s.now + 50) / msec = s.now / msec then s.idle else s.idle.sampleStored

/-- A counter frame without its check value (R455). -/
def counterHead (l : Nat) (restart : Bool) (q qty alive delta : Nat) : List Byte :=
  le 1 (l + 8 * b2n restart) ++ le 1 q ++ le 1 qty ++ zeros 1 ++ le 2 alive ++ le 6 delta
/-- A sender sends one frame: its check value comes from CHK instance 4 + l (R450, R455). -/
def State.sendCounter (s : State) (l q qty delta : Nat) : State :=
  let x := s.sender l
  let h := counterHead l x.restart q qty x.alive delta
  let s := s.chkFrame (4 + l) h
  s.onSender l fun x => { x with alive := wrapAdd 16 x.alive 1, restart := false, lastAt := s.now
                                 wire := x.wire ++ [BitVec.ofNat 128 (ofLe (h ++ le 4 (crc32c h).toNat))] }
/-- METER_DELTA_SEND: the pending delta of a quantity goes out, or a heartbeat after 1 ms without a frame; the energy
estimate is a free value (R453, R454, R456). -/
def execMeterDeltaSend (l : Fin 8) (q : Ptn) (qty : Fin 10) (s : State) : Host.Outcome State Fault Refusal :=
  if qty.val = 0 then
    .next (if s.past (s.sender l).lastAt msec then s.sendCounter l 0 0 0 else s)
  else if qty.val = 9 then
    let d := s.draw
    .next (d.2.sendCounter l q 9 (d.1 % 2 ^ 48))
  else
    let k := q.val * 16 + qty.val
    let n := min (Tab.getD (s.sender l).deltas k 0) (2 ^ 48 - 1)
    if n = 0 then .next s else
    let left := Tab.getD (s.sender l).deltas k 0 - n
    let s := s.onSender l fun x => { x with deltas := if left = 0 then Tab.del x.deltas k else Tab.put x.deltas k left }
    .next (s.sendCounter l q qty n)

/-! ### Acceptance (R457, R458) -/

/-- An accepted frame (R457). -/
def State.acceptCount (s : State) (l : Nat) (f : List Byte) : State :=
  let k := field f 1 1 % 64 * 16 + field f 2 1
  s.onMtr fun m =>
    let x := m.live
    { m with live :=
      { x with exps := Tab.put x.exps l (wrapAdd 16 (field f 4 2) 1)
               accs := if 1 ≤ field f 2 1 ∧ field f 2 1 ≤ 9 then Tab.put x.accs k (wrapAdd 128 (Tab.getD x.accs k 0) (field f 6 6)) else x.accs } }
/-- COUNTER_FRAME: a frame reaches the meter (R457, R458). While the meter does not run the frame is lost. -/
def execCounterFrame (l : Fin 8) (frame : BitVec 128) (s : State) : Host.Outcome State Fault Refusal :=
  let f := le 16 frame.toNat
  let s := s.onSender l fun x => { x with wire := x.wire.drop 1 }
  if s.mtr.st ≠ 0 then .next s
  else if (crc32c (f.take 12)).toNat ≠ field f 12 4 then .next (s.mtrLog 3 l 1 0)
  else
    let s := s.onMtr fun m => { m with heard := Tab.put m.heard l s.now, silent := m.silent.filter (· != l.val) }
    if bit (field f 0 1) 3 then .next ((s.mtrLog 5 l 1 0).acceptCount l f)
    else
      let d := (field f 4 2 + 65536 - Tab.getD s.mtr.live.exps l 0) % 65536
      if d = 65535 then .next (s.mtrLog 2 l 1 0)
      else .next ((if d ≠ 0 then s.mtrLog 1 l d 0 else s).acceptCount l f)
/-- METER_LINK_SILENCE: no frame of a link has passed the CRC for SILENCE_MS (R458). -/
def execMeterLinkSilence (l : Fin 8) (s : State) : Host.Outcome State Fault Refusal :=
  if s.mtr.st = 0 && !s.mtr.silent.contains l.val && s.past (Tab.getD s.mtr.heard l 0) (s.mtr.silenceMs * msec) then
    .next ((s.mtrLog 4 l 1 0).onMtr fun m => { m with silent := l.val :: m.silent })
  else .next s

/-! ### Snapshots and starts (R451, R460, R461) -/

/-- METER_SNAPSHOT: at a whole second of METER_TIME the accumulators are taken; the write of the snapshot before it has
ended (R460, log 56). -/
def execMeterSnapshot (s : State) : Host.Outcome State Fault Refusal :=
  let sec := s.meterTime / 1000000
  if s.mtr.st ≠ 0 || sec * 1000000 ≤ s.mtr.lastSnap then .next s else
  .next (s.onMtr fun m =>
    let m := match m.writing with
      | some w => if w.commits % 2 = 1 then { m with slotA := some w } else { m with slotB := some w }
      | none => m
    let n := m.live.commits + 1
    { m with writing := some { m.live with time := sec * 1000000, commits := n }
             live := { m.live with commits := n }, lastSnap := sec * 1000000 })
/-- The last committed snapshot (R460, R461). -/
def Meter.last (m : Meter) : Snapshot :=
  match m.slotA, m.slotB with
  | some a, some b => if a.commits < b.commits then b else a
  | some a, none => a
  | none, some b => b
  | none, none => {}

/-- The slot the meter runs: the qualifying image with the higher SVN (R451). -/
def Meter.choice (m : Meter) : Option (Nat × FwImage) :=
  (m.images.filter fun e => e.2.vendorOk && decide (m.svn ≤ e.2.svn)).foldl (fun b e =>
    match b with
    | some x => if x.2.svn < e.2.svn || (x.2.svn == e.2.svn && Config.upperOnTie 2) then some e else b
    | none => some e) none
/-- METER_START: the meter restores the newer valid slot, logs POWER_GAP and runs (R451, R461, R463). SEAL_COUNT never
decreases (log 57). -/
def execMeterStart (s : State) : Host.Outcome State Fault Refusal :=
  if s.mtr.st ≠ 1 then .next s else
  let old := s.mtr.last
  let s := s.onMtr fun m =>
    { m with st := 0, live := { old with seals := max old.seals m.live.seals }, writing := none, lastSnap := old.time
             epoch := s.now, silent := [], heard := (List.range 8).map fun l => (l, s.now), key := m.key.restart }
  let s := s.mtrLog 6 0xFF 1 old.time
  match s.mtr.choice with
  | none => .next s
  | some e =>
    let new := e.2.digest != s.mtr.lastDigest
    let s := s.onMtr fun m => { m with run := e.1, svn := max m.svn e.2.svn, lastDigest := e.2.digest }
    .next (if new then s.seal 2 else s)
/-- The meter's reset starts: what was not committed and every request queued at it is lost (R449, R461, R500; log 58). -/
def State.meterReset (s : State) : State :=
  let s := s.each s.mtr.queue fun s r => s.complete (if r.report then 0x0A02 else 0x0A03) r.no 6 []
  s.onMtr fun m => { m with st := 2, writing := none, queue := [] }

/-! ### Reports (R462, R464, R465) -/

def MtrEvent.bytes (e : MtrEvent) : List Byte :=
  le 8 e.seq ++ le 8 e.time ++ le 1 e.kind ++ le 1 e.link ++ zeros 2 ++ le 4 e.count ++ le 8 e.detail
/-- A report without its signature (R464). -/
def State.reportBody (s : State) (q : Nat) (nonce : List Byte) (tree : Nat) : List Byte :=
  let x := s.mtr.last
  let flag := x.events.any fun e => decide (Tab.getD s.mtr.reported q 0 < e.seq) && [1, 3, 4, 6].contains e.kind
  let acc (k : Nat) : List Byte := le 16 (Tab.getD x.accs (q * 16 + k) 0)
  le 4 0x524D4C45 ++ le 2 1 ++ le 1 q ++ le 1 (b2n flag) ++ slice nonce 0 32 ++ meterId ++ deviceId
    ++ le 8 x.time ++ le 8 x.commits ++ le 4 x.seals ++ le 4 s.mtr.svn ++ le 8 x.seq ++ le 8 x.gaps
    ++ (List.range 8).flatMap (fun k => acc (k + 1)) ++ acc 9 ++ slice s.mtr.label 0 8 ++ le 4 tree ++ le 4 x.lost
/-- The reply of MTR_EVENTS without its signature (R466). -/
def State.eventsBody (s : State) (first : Nat) : List Byte :=
  let x := s.mtr.last
  let l := (x.events.filter fun e => decide (first ≤ e.seq)).take 32
  le 4 0x564D4C45 ++ le 1 l.length ++ zeros 3 ++ le 8 (l.head?.elim first (·.seq)) ++ le 8 x.seq ++ le 8 x.time ++ zeros 32
    ++ l.flatMap MtrEvent.bytes
/-- METER_SIGN_DONE: the meter has signed the request it works on, or its vault has failed (R438, R465). -/
def execMeterSignDone (s : State) : Host.Outcome State Fault Refusal :=
  match s.mtr.queue with
  | [] => .next s
  | r :: rest =>
    if s.mtr.st ≠ 0 then .next s else
    let op := if r.report then 0x0A02 else 0x0A03
    let s0 := s.onMtr fun m => { m with queue := rest }
    match s0.signed 1 (if r.report then s.reportBody r.ptn r.nonce else fun _ => s.eventsBody r.first) with
    | .error s' => .next (s'.complete op r.no 15 [])
    | .ok (body, s') =>
      let s' := if r.report then s'.onMtr fun m => { m with reported := Tab.put m.reported r.ptn m.last.seq } else s'
      .next (s'.complete op r.no 0 body)

/-! ### Commands (R466) -/

/-- Free values in place of what the manual does not state. -/
def State.drawBytes : Nat → State → List Byte × State
  | 0, s => ([], s)
  | n + 1, s =>
    let d := s.draw
    let r := State.drawBytes n d.2
    (le 1 d.1 ++ r.1, r.2)
/-- MTR_INFO. What the meter holds is unstated while it does not run: free values (log 59). -/
def cmdMtrInfo : Cmd := fun _ _ s =>
  let m := s.mtr
  if m.st ≠ 0 then
    let d := s.drawBytes 40
    (d.2, .now 0 (le 1 m.st ++ zeros 3 ++ d.1.take 8 ++ zeros 4 ++ d.1.drop 8))
  else
    (s, .now 0 (le 1 m.st ++ zeros 3 ++ le 4 m.svn ++ le 4 m.live.seals ++ zeros 4 ++ le 8 m.last.commits ++ le 8 s.meterTime
      ++ le 8 m.live.seq ++ (List.range 8).flatMap fun l => le 1 (b2n (m.silent.contains l))))
/-- Queue a request at the meter: one is signed while 16 more wait (R465). -/
def State.askMeter (s : State) (m : Nat) (report : Bool) (q : Nat) (nonce : List Byte) (first : Nat) : State × Reply :=
  if s.mtr.st ≠ 0 then (s, rState)
  else if 17 ≤ s.mtr.queue.length then (s, .now 7 [])
  else if s.mtr.key.fault then (s, .now 15 [])
  else
    let n := s.mtr.nextReq
    (s.onMtr fun x =>
      { x with nextReq := n + 1, queue := x.queue ++ [{ mbx := m, report := report, ptn := q, nonce := nonce, first := first, no := n }] },
     .defer n)
/-- MTR_REPORT (R464). -/
def cmdMtrReport : Cmd := fun m l s =>
  if 63 < field l 0 1 then (s, rRange) else s.askMeter m true (field l 0 1) (slice l 4 32) 0
/-- MTR_EVENTS. -/
def cmdMtrEvents : Cmd := fun m l s => s.askMeter m false 0 [] (field l 0 8)
/-- A certificate of a chain, by index (R439). -/
def State.certRead (s : State) (which : Nat) (l : List Byte) : State × Reply :=
  match (s.certs which)[field l 0 4]? with
  | some c => (s, .now 0 c)
  | none => (s, rRange)
/-- MTR_CERT_READ (R465). -/
def cmdMtrCertRead : Cmd := fun _ l s => s.certRead 1 l

end Sys2Proof.Machine
end

