-- ==== Sys2Proof/Machine/Sec.lean ====
section
/-! DEFINITION. Attestation, the protection set-up, two-party agreement and the 0x09xx commands
(spec/16_security.md R433 to R447; spec/02_pool_model.md R39 to R45; spec/07_tracked_regions.md R242, R261;
spec/05_tile_programming.md R197; spec/19_partner_and_spares.md R483; spec/17_yeltas_meter.md R463). -/
namespace Sys2Proof.Machine

/-! ### The protection record (R441) -/

/-- The numbers of the ones among the low `n` bits. -/
def onesOf (n x : Nat) : List Nat := (List.range n).filter (bit x)
def maskOf (l : List Nat) : Nat := (l.eraseDups.map fun i => 2 ^ i).sum
/-- A key as a record holds it: all zero means none (R441). -/
def keyOrNone (l : List Byte) : List Byte := if l.all (· == 0#8) then [] else l

/-- The resources of a PTN_CREATE or PTN_RESOURCES body, over what the record holds else. -/
def PtnSet.ofBody (p : PtnSet) (b : List Byte) : PtnSet :=
  { p with clusters := onesOf 32 (field b 1 4), channels := onesOf 384 (field b 5 48), flashGib := field b 53 4
           trackedUnits := field b 57 4, mailboxes := onesOf 64 (field b 61 8) }
def PtnSet.bytes (q : Nat) (p : PtnSet) : List Byte :=
  le 1 q ++ le 4 (maskOf p.clusters) ++ le 48 (maskOf p.channels) ++ le 4 p.flashGib ++ le 4 p.trackedUnits ++ le 8 (maskOf p.mailboxes)
    ++ le 2 p.admission.length ++ p.admission.flatMap (le 2) ++ le 1 (b2n p.keyRequired) ++ slice p.keyPub 0 68
def Pairing.bytes (g : Pairing) : List Byte :=
  le 1 (b2n g.takeover) ++ le 1 g.portA ++ le 1 g.portB ++ le 2 g.peer ++ le 2 g.sharedId ++ le 2 g.silenceMs ++ le 2 g.ueLimit ++ slice g.peerDev 0 32
/-- The protection record as bytes: the layout is the model's own (log 61). -/
def Pset.bytes (p : Pset) : List Byte :=
  p.ptns.flatMap (fun e => e.2.bytes e.1) ++ slice p.opKey 0 68 ++ slice p.custKey 0 68 ++ slice p.fwOwner 0 68 ++ le 4 p.debugMin
    ++ (match p.pairing with | some g => le 1 1 ++ g.bytes | none => zeros 1)
def State.psetDigest (s : State) : List Byte := digest32 s.sec.pset.bytes

/-- A pairing from its body (R483). -/
def Pairing.ofBody (b : List Byte) : Pairing :=
  { takeover := bit (field b 1 1) 0, portA := field b 2 1, portB := field b 3 1, peer := field b 4 2, sharedId := field b 6 2
    silenceMs := field b 8 2, ueLimit := field b 10 2, peerDev := slice b 14 32 }

/-! ### Ranges of a change record (R441, R463, R483) -/

/-- The length a body of a kind takes. -/
def changeLen (kind : Nat) (b : List Byte) : Nat :=
  match kind with
  | 1 => 69
  | 2 => 1
  | 3 => 69
  | 4 => 3 + 2 * field b 1 2
  | 5 => 70
  | 6 => 69
  | 7 => 4
  | 8 => 68
  | 9 => 46
  | _ => 12
/-- The merged word of a REG_WRITE of SEC_AGREE_WINDOW, the only RWL field (R427, R448). -/
def State.mergedWindow (s : State) (b : List Byte) : Nat :=
  let mask := field b 4 4 % 2 ^ 17
  ((s.reg .secAgreeWindow 0) &&& (2 ^ 17 - 1 - mask)) ||| (field b 8 4 &&& mask)
/-- Whether the body of a change lies in the ranges of R441. -/
def State.changeOk (s : State) (kind : Nat) (b : List Byte) : Bool :=
  decide (1 ≤ kind) && decide (kind ≤ 11) && b.length == changeLen kind b &&
  match kind with
  | 1 | 3 => decide (field b 0 1 ≤ 63 ∧ field b 53 4 ≤ 524288 ∧ field b 57 4 ≤ 32768 ∧ field b 61 8 % 4 = 0)
  | 2 => decide (field b 0 1 ≤ 63)
  | 4 => decide (field b 0 1 ≤ 63 ∧ field b 1 2 ≤ 1024) && (List.range (field b 1 2)).all fun i => decide (field b (3 + 2 * i) 2 ≤ 0xBFFF)
  | 5 => decide (field b 0 1 ≤ 63 ∧ field b 1 1 ≤ 1)
  | 6 => decide (field b 0 1 ≤ 1)
  | 7 => decide (field b 0 4 ≤ 10080)
  | 8 => true
  | 9 =>
    let g := Pairing.ofBody b
    decide (field b 0 1 ≤ 1) && decide (g.portA ≠ g.portB ∧ g.portA ≤ 17 ∧ g.portB ≤ 17 ∧ g.sharedId ≠ s.ownId ∧ g.sharedId ≠ 0xFFFF
      ∧ g.peer ≠ 0xFFFF ∧ 2 ≤ g.silenceMs ∧ g.silenceMs ≤ 1000 ∧ 1 ≤ g.ueLimit)
  | 10 =>
    let v := field b 4 8
    match field b 0 1 with
    | 1 => decide (2 ≤ v ∧ v ≤ 1000)
    | 2 => (slice b 4 8).all fun x => decide (x.toNat < 128)
    | 3 => decide (v = 0)
    | _ => false
  | _ => field b 0 4 == 0x0E000020 && field b 4 4 % 2 ^ 17 != 0 && decide (60 ≤ s.mergedWindow b ∧ s.mergedWindow b ≤ 86400)
/-- The target of a change: two changes of one target exclude each other (R441, R445). -/
def changeTarget (kind : Nat) (b : List Byte) : Nat := if kind ≤ 5 then field b 0 1 else 64 + kind
/-- The change digest (R442). -/
def changeDigest (agree kind : Nat) (b : List Byte) : List Byte :=
  digest32 (deviceId ++ le 8 agree ++ le 1 kind ++ zeros 3 ++ le 4 b.length ++ b)

/-! ### Resources of a partition (R43, R45, R242, R261) -/

/-- The slice of a die with the most free blocks, the lower one on a tie, and its lowest free block (R242). -/
def nextBlockOf (used : List Nat) (m : Nat) : Option Nat :=
  let free (sl : Nat) : List Nat := ((List.range 4).map (4 * sl + ·)).filter fun b => !used.contains b
  let best := (List.range 4).foldl (fun (x : List Nat) i => if x.length < (free (4 * m + i)).length then free (4 * m + i) else x) []
  best.head?
/-- Take `n` blocks of a die one at a time; the count that was lacking where it runs short. -/
def takeBlocks (m : Nat) : Nat → List Nat → List Nat → List Nat × Nat
  | 0, _, got => (got, 0)
  | n + 1, used, got =>
    match nextBlockOf used m with
    | some b => takeBlocks m n (b :: used) (got ++ [b])
    | none => (got, n + 1)
/-- The blocks of an allotment, or the first die that lacks some and how many (R242). -/
def allotBlocks (used channels : List Nat) (trackedUnits : Nat) : Except (Nat × Nat) (List Nat) :=
  let total := ceilDiv trackedUnits 512
  let n := channels.length
  (List.range 4).foldl (fun (x : Except (Nat × Nat) (List Nat)) m =>
    match x with
    | .error e => .error e
    | .ok got =>
      let want := if n = 0 then 0 else ceilDiv (total * (channels.filter fun c => dieOf c == m).length) n
      let t := takeBlocks m want (used ++ got) []
      if t.2 = 0 then .ok (got ++ t.1) else .error (m, t.2)) (.ok [])
/-- Blocks that partitions other than `q` hold. -/
def State.blocksBut (s : State) (q : Nat) : List Nat := (s.ptns.filter fun e => e.1 != q).flatMap fun e => e.2.blocks
/-- Whether a set of resources overlaps what another partition owns (R36). -/
def State.resourcesClash (s : State) (q : Nat) (p : PtnSet) : Bool :=
  s.sec.pset.ptns.any fun e => e.1 != q && (e.2.clusters.any p.clusters.contains || e.2.channels.any p.channels.contains
    || e.2.mailboxes.any p.mailboxes.contains)
/-- The first channel R45 keeps from being removed: one with an allotted frame, those of DRAM_PINNED pages not yet written
among them, or one without which a die that holds
flash copies or is a control die would be left with no channel. -/
def State.channelBound (s : State) (q : Nat) (new : List Nat) : Option Nat :=
  let p := s.ptn q
  let fixed := s.allotted ((p.channels.head?).elim 0 dieOf) q
      - ((p.channels.filter fun c => dieOf c == (p.channels.head?).elim 0 dieOf).map s.chanFrames).sum
  (p.channels.filter fun c => !new.contains c).find? fun c =>
    s.chanFrames c != 0 || (p.channels.head? == some c && fixed != 0)
      || (!(new.any fun x => dieOf x == dieOf c) && (s.flashCopies (dieOf c) q != 0
          || s.exts.any fun e => e.2.ptn == q && e.2.controlDie == dieOf c))
/-- The refusal of a new set of resources, if any rule refuses it (R36, R43, R45, R242, R261). The body that names a channel
(0) or a quota (1), with its number, is the model's layout (log 62). -/
def State.resourcesBad (s : State) (q : Nat) (new : PtnSet) : Option Reply :=
  let p := s.ptn q
  let tracked := s.exts.any fun e => e.2.ptn == q && e.2.tracked
  if s.resourcesClash q new then some rState
  else match s.channelBound q new.channels with
    | some c => some (.now 6 (le 1 0 ++ le 2 c))
    | none =>
      if p.st ≠ .unused && decide (46080 * new.channels.length < s.pinned q + if s.hasTiered q then 1024 else 0) then some (.now 6 (le 1 1 ++ le 2 0))
      else if decide (new.flashGib * 2 ^ 30 < s.flashUsed q) then some (.now 6 (le 1 1 ++ le 2 1))
      else if decide (new.trackedUnits * 2097152 < s.trackedUsed q) || (decide (new.trackedUnits < p.trackedUnits) && tracked) then
        some (.now 6 (le 1 1 ++ le 2 2))
      else if decide (32768 < new.trackedUnits + ((s.ptns.filter fun e => e.1 != q).map fun e => e.2.trackedUnits).sum) then
        some (.now 7 (le 1 1 ++ le 2 2))
      else match allotBlocks (s.blocksBut q) new.channels new.trackedUnits with
        | .error e => some (.now 7 (le 1 e.1 ++ le 8 e.2))
        | .ok _ => none

/-- Directory entries move to the sets a new allotment gives their lines (R243, log 63). -/
def State.rehash (s : State) (q : Nat) : State :=
  let mine := s.dir.ents.filter fun e => (s.ext e.2.ext).elim false fun x => x.ptn == q
  let s := s.onDir fun d => { d with ents := d.ents.filter fun e => !(mine.any fun x => x.1 == e.1) }
  s.each mine fun s e =>
    match (s.dirSet e.2.ext e.2.line).bind s.freeWay with
    | some k => s.onDir fun d => { d with ents := Tab.put d.ents k e.2 }
    | none => s
/-- Clusters leave a partition at commit, and are cleared once their work has ended; baskets on them go back to the
dealer (R405). -/
def State.dropCluster (s : State) (q g : Nat) : State :=
  let s := s.onPtn q fun p => { p with clusters := p.clusters.erase g }
  let s := s.onDeal fun d => { d with baskets := d.baskets.map fun b => (b.1, if b.2.cluster = some g then { b.2 with cluster := none } else b.2) }
  s.onClu g fun c => { c with pendingOwner := some none }
/-- A cluster joins at commit, or once its shut-down has ended (R45, R405). -/
def State.addCluster (s : State) (q g : Nat) : State :=
  if (s.clu g).clearing || (s.clu g).pendingOwner.isSome then s.onClu g fun c => { c with pendingOwner := some (some q) }
  else s.joinCluster q g
/-- Give a partition a set of resources (R45, R242, R416). -/
def State.setResources (s : State) (q : Nat) (new : PtnSet) : State :=
  let p := s.ptn q
  let has := p.clusters ++ (List.range 32).filter fun g => (s.clu g).pendingOwner == some (some q)
  let again := p.channels ≠ new.channels || p.trackedUnits ≠ new.trackedUnits
  let blocks := match allotBlocks (s.blocksBut q) new.channels new.trackedUnits with
    | .ok l => l
    | .error _ => p.blocks
  let s := s.each ((p.mailboxes ++ new.mailboxes).filter fun m => !(p.mailboxes.contains m && new.mailboxes.contains m)) fun s m =>
    s.onBox m fun b => { b with alive := none }
  let s := s.onPtn q fun p => { p with channels := new.channels, flashGib := new.flashGib, trackedUnits := new.trackedUnits
                                       mailboxes := new.mailboxes, blocks := if again then blocks else p.blocks }
  let s := if again then s.rehash q else s
  let s := s.each (has.filter fun g => !new.clusters.contains g) fun s g => s.dropCluster q g
  let s := s.each (new.clusters.filter fun g => !has.contains g) fun s g => s.addCluster q g
  let s := s.onSec fun x => { x with pset := { x.pset with ptns := Tab.modify x.pset.ptns q fun e => { e with blocks := (s.ptn q).blocks } } }
  (s.replaceModels q).clusterResets
/-- Delete a partition: what it still runs ends, its images, models and blocks go, its clusters are cleared (R41, R198,
R261). -/
def State.deletePtn (s : State) (q : Nat) : State :=
  let s := s.endPtn q
  let s := s.onDeal fun d => { d with images := d.images.filter fun e => e.2.ptn != q, models := d.models.filter fun e => e.2.ptn != q
                                      stage := Tab.del d.stage q }
  let s := ((s.setResources q {}).complete 0x0202 q 6 []).complete 0x0202 (q + 64) 6 []
  s.onPtn q fun _ => {}

/-! ### Commit (R443 to R445) -/

/-- Write an edited protection record: the other slot, then AGREE_COUNT and the digest in the vault (R444). -/
def State.writePset (s : State) (f : Pset → Pset) : State :=
  s.onSec fun x => { x with pset := f x.pset, slotB := !x.slotB }
/-- Edit the record's entry of a partition. -/
def Pset.onPtn (p : Pset) (q : Nat) (f : PtnSet → PtnSet) : Pset := { p with ptns := Tab.put p.ptns q (f (Tab.getD p.ptns q {})) }
/-- Every open change ends as withdrawn (R445). -/
def State.endChanges (s : State) (but : Nat) : State :=
  let s := s.each (s.sec.changes.filter fun c => c.id != but && c.signed.isSome) fun s c => s.complete 0x0904 c.id 6 []
  s.onSec fun x => { x with changes := x.changes.filter fun c => c.id == but }
/-- Apply a METER_PARAM: the parameter, and a seal event (R444, R463). -/
def State.meterParam (s : State) (b : List Byte) : State :=
  let s := s.seal 1
  match field b 0 1 with
  | 1 => s.onMtr fun m => { m with silenceMs := field b 4 8 }
  | 2 => s.onMtr fun m => { m with label := slice b 4 8 }
  | _ => if s.mtr.key.fault then s else s.successor 1
/-- A change under the rules of its object: the refusal, or the state in which it is committed and applied (R444). -/
def State.applyChange (s : State) (kind : Nat) (b : List Byte) : Except Reply State :=
  let q := field b 0 1
  let unused := (s.ptn q).st = .unused
  match kind with
  | 1 =>
    let new := PtnSet.ofBody {} b
    if !unused then .error rState
    else match s.resourcesBad q new with
      | some r => .error r
      | none =>
        let s := s.writePset fun p => p.onPtn q fun _ => new
        .ok ((s.setResources q new).onPtn q fun p => { p with st := .active })
  | 2 =>
    if unused || s.exts.any (fun e => e.2.ptn == q) then .error rState
    else .ok ((s.writePset fun p => { p with ptns := Tab.del p.ptns q }).deletePtn q)
  | 3 =>
    let new := (Tab.getD s.sec.pset.ptns q {}).ofBody b
    if unused then .error rState
    else match s.resourcesBad q new with
      | some r => .error r
      | none => .ok ((s.writePset fun p => p.onPtn q fun _ => new).setResources q new)
  | 4 =>
    let l := (List.range (field b 1 2)).map fun i => field b (3 + 2 * i) 2
    if unused then .error rState
    else
      let s := (s.writePset fun p => p.onPtn q fun x => { x with admission := l }).onPtn q fun p => { p with admission := l }
      .ok ((s.each (s.exts.filter fun e => e.2.ptn == q) fun s e => s.admitOnly e.1).dirRun)
  | 5 =>
    let key := keyOrNone (slice b 2 68)
    let req := bit (field b 1 1) 0
    if unused then .error rState
    else
      let s := s.writePset fun p => p.onPtn q fun x => { x with keyPub := key, keyRequired := req }
      .ok ((s.onPtn q fun p => { p with keyPub := key, keyRequired := req }).reverify q)
  | 6 =>
    let key := slice b 1 68
    .ok (s.writePset fun p => if q = 0 then { p with opKey := key } else { p with custKey := key })
  | 7 =>
    let n := field b 0 4
    let s := (s.writePset fun p => { p with debugMin := n }).onSec fun x => { x with unlockDue := n != 0 }
    .ok (if n = 0 && s.sec.debugOn then s.onBoard fun x => { x with resetDue := some (1, x.resetDue.elim s.now Prod.snd) } else s)
  | 8 => .ok (s.writePset fun p => { p with fwOwner := keyOrNone (slice b 0 68) })
  | 9 =>
    if q = 0 then
      if s.sec.pset.pairing.isSome then .error rState
      else .ok { s.writePset (fun p => { p with pairing := some (Pairing.ofBody b) }) with prt := { st := .waiting, heard := s.now } }
    else if s.exts.any fun e => e.2.mirrored then .error rState
    else .ok { s.writePset (fun p => { p with pairing := none }) with prt := {} }
  | 10 => .ok ((s.writePset id).meterParam b)
  | _ =>
    let v := s.mergedWindow b
    if v < 60 || 86400 < v then .error rRange else .ok ((s.writePset id).setReg .secAgreeWindow 0 v)

/-- The change an identifier names, while its window runs (R443, R445). -/
def State.change? (s : State) (id : Nat) : Option Change := s.sec.changes.find? fun c => c.id == id && decide (s.now < c.until')
/-- A window that has ended ends its change: a deferred first signature expires (R443). -/
def State.expire (s : State) (id : Nat) : State :=
  match s.sec.changes.find? fun c => c.id == id with
  | some c =>
    if s.now < c.until' then s else
    let s := s.onSec fun x => { x with changes := x.changes.filter fun c => c.id != id }
    if c.signed.isSome then s.complete 0x0904 id 0x10 [] else s
  | none => s
/-- AGREEMENT_WINDOW_EXPIRY (R443). -/
def execAgreementWindowExpiry (id : BitVec 32) (s : State) : Host.Outcome State Fault Refusal := .next (s.expire id.toNat)
/-- A signature window from now (R443). -/
def State.windowEnd (s : State) : Nat := s.now + s.reg .secAgreeWindow 0 * oneSec
/-- The public key of a role: 0 operator, 1 custodian. -/
def Pset.roleKey (p : Pset) (role : Nat) : List Byte := if role = 0 then p.opKey else p.custKey
/-- Whether a role's signature over a digest verifies; its key must be set (R445). -/
def State.roleSigned (s : State) (role : Nat) (d sig : List Byte) : Bool :=
  let k := s.sec.pset.roleKey role
  !k.isEmpty && Config.verify k d sig
/-- Commit a change whose second signature has verified: preconditions, record, vault, application (R444). -/
def State.commitChange (s : State) (c : Change) : State × Reply :=
  let s0 := s.onSec fun x => { x with changes := x.changes.filter fun y => y.id != c.id }
  match s0.applyChange c.kind c.body with
  | .error (.now st body) => (s0.complete 0x0904 c.id st body, .now st body)
  | .error r => (s0, r)
  | .ok s' =>
    let n := s.sec.agree + 1
    let s' := s'.onSec fun x => { x with agree := n }
    let s' := if c.kind = 6 then s'.endChanges c.id else s'
    (s'.complete 0x0904 c.id 0 (le 8 n), .now 0 (le 8 n))

/-! ### Commands (R447) -/

/-- SEC_STATUS (R448). -/
def State.secStatus (s : State) : Nat :=
  1 + 2 * b2n (s.board.phase == .recovery) + 4 * b2n s.sec.debugOn + 8 * b2n (!s.sec.pset.fwOwner.isEmpty)
    + 16 * b2n (s.sec.att.fault || s.mtr.key.fault)
/-- The anti-rollback counter of a stage (R437). -/
def State.svn (s : State) (i : Nat) : Nat := if i = 2 then s.mtr.svn else (s.sec.svn[i]?).getD 0
/-- The digest of the image a stage runs. -/
def State.runDigest (s : State) (stage : Nat) : List Byte :=
  let i := if stage = 2 then Tab.get? s.mtr.images s.mtr.run else Tab.get? s.nor.images (2 * stage + Tab.getD s.nor.run stage 0)
  slice ((i.map (·.digest)).getD []) 0 32
/-- SEC_INFO. -/
def cmdSecInfo : Cmd := fun _ _ s =>
  (s, .now 0 (le 4 s.secStatus ++ le 4 (s.svn 0) ++ le 4 (s.svn 1) ++ le 4 (s.svn 2) ++ le 4 s.sec.att.tree ++ le 4 s.sec.att.next
    ++ le 8 s.sec.agree ++ s.psetDigest ++ deviceId))
/-- An attestation report without its signature (R440). -/
def State.attestBody (s : State) (nonce : List Byte) (tree : Nat) : List Byte :=
  let flags := b2n s.sec.debugOn + 2 * b2n (s.board.phase == .recovery) + 4 * b2n (!s.sec.pset.fwOwner.isEmpty)
  le 4 0x54414C45 ++ le 2 1 ++ le 2 flags ++ nonce ++ deviceId ++ s.runDigest 0 ++ s.runDigest 1 ++ s.runDigest 2
    ++ le 4 (s.svn 0) ++ le 4 (s.svn 1) ++ le 4 (s.svn 2) ++ le 4 tree ++ le 8 s.sec.agree ++ s.psetDigest ++ le 8 s.upUs ++ zeros 8
/-- Whether signing with the attestation key needs the vault, which does not answer yet (R438, R500). -/
def State.attestWaits (s : State) : Bool := s.mtr.st == 2 && !s.sec.att.fault && decide (s.sec.att.blockEnd ≤ s.sec.att.leaf)
/-- SEC_ATTEST (R440). -/
def cmdSecAttest : Cmd := fun _ l s =>
  if s.attestWaits then (s, .vaultWait) else
  match s.signed 0 (s.attestBody (slice l 0 32)) with
  | .ok (body, s') => (s', .now 0 body)
  | .error s' => (s', .now 15 [])
/-- SEC_PROPOSE (R443, R445). -/
def cmdSecPropose : Cmd := fun _ l s =>
  let kind := field l 0 1
  let b := l.drop 8
  let s := s.each (s.sec.changes.map (·.id)) State.expire
  if b.length ≠ field l 4 4 || !(s.changeOk kind b) then (s, rRange)
  else if s.sec.changes.any fun c => changeTarget c.kind c.body == changeTarget kind b then (s, rPending)
  else if 8 ≤ s.sec.changes.length then (s, .now 7 [])
  else
    let d := changeDigest s.sec.agree kind b
    let id := s.sec.nextId
    (s.onSec fun x =>
      { x with nextId := wrapAdd 32 id 1
               changes := x.changes ++ [{ id := id, kind := kind, body := b, digest := d, agree := x.agree, until' := s.windowEnd }] },
     .now 0 (le 4 id ++ d))
/-- A refused signature is counted (R448). -/
def State.badSignature (s : State) : State × Reply := (s.bump .secSigFail 0, .now 12 [])
/-- SEC_SIGN (R443 to R445). -/
def cmdSecSign : Cmd := fun _ l s =>
  let id := field l 0 4
  let role := field l 4 1
  match s.change? id with
  | none => (s, rRange)
  | some c =>
    if 1 < role then (s, rRange)
    else if !(s.roleSigned role c.digest (slice l 8 2820)) then s.badSignature
    else match c.signed with
      | none =>
        (s.onSec fun x => { x with changes := x.changes.map fun y => if y.id = id then { y with signed := some role, until' := s.windowEnd } else y },
         .defer id)
      | some r =>
        if r = role || c.agree ≠ s.sec.agree then (s, rState)
        else if s.mtr.st = 2 then (s, .vaultWait)
        else if !s.vaultOk then (s, .now 15 [])
        else s.commitChange c
/-- SEC_WITHDRAW (R445). -/
def cmdSecWithdraw : Cmd := fun _ l s =>
  let id := field l 0 4
  let role := field l 4 1
  match s.change? id with
  | none => (s, rRange)
  | some c =>
    if 1 < role then (s, rRange)
    else if !(s.roleSigned role (digest32 (c.digest ++ [0xFF#8])) (slice l 8 2820)) then s.badSignature
    else
      let s := s.onSec fun x => { x with changes := x.changes.filter fun y => y.id != id }
      (if c.signed.isSome then s.complete 0x0904 id 6 [] else s, rOk)
/-- SEC_PENDING_READ; the seconds that remain are rounded down (log 64). -/
def cmdSecPendingRead : Cmd := fun _ _ s =>
  let l := s.sec.changes.filter fun c => decide (s.now < c.until')
  (s, .now 0 (le 1 l.length ++ zeros 3 ++ l.flatMap fun c =>
    le 4 c.id ++ le 1 c.kind ++ le 1 (b2n c.signed.isSome) ++ le 1 (c.signed.getD 255) ++ zeros 1 ++ le 4 ((c.until' - s.now) / oneSec) ++ c.digest))
/-- SEC_CERT_READ (R439). -/
def cmdSecCertRead : Cmd := fun _ l s => s.certRead 0 l

end Sys2Proof.Machine
end

