-- ==== Sys2Proof/Machine/Lookout.lean ====
section
/-! DEFINITION. Lookout: sampling, decisions, wakes, thermal sensing and throttling, telemetry, the power states, and the
0x0Bxx commands (spec/18_lookout_and_power.md R467 to R479). Resources are numbered as ASLEEP of R479: clusters 0 to 31,
stacks 32 to 43, ports 44 to 61, flash channels 62 to 93. -/
namespace Sys2Proof.Machine

/-! ### Resources (R467, R468) -/

/-- The class of a resource. -/
def lkClass (r : Nat) : Nat := if r < 32 then 0 else if r < 44 then 1 else if r < 62 then 2 else 3
/-- Whether a resource is asleep. -/
def State.asleep (s : State) (r : Nat) : Bool :=
  if r < 32 then !(s.clu r).clockRun
  else if r < 44 then (s.stack (r - 32)).selfRefresh
  else if r < 62 then (s.link (r - 44)).st == .lpIdle
  else (s.fch (r - 62)).parked
/-- The half of the ports that shares a GCLK (R27). -/
def gclkHalf (n : Nat) : Nat := if n < 5 then 0 else if n < 9 then 1 else if n < 14 then 2 else 3
/-- Whether a channel has no queued entry. -/
def Channel.empty (c : Channel) : Bool := c.bankQ.all (fun q => q.2.isEmpty) && c.tagQ.all fun q => q.2.isEmpty
/-- Whether a lead event of a resource occurred in the interval (R468). -/
def State.led (s : State) (r : Nat) : Bool :=
  s.lk.lead.contains r ||
  if r < 32 then (List.range 17).any fun t => (s.tile (17 * r + t)).st == .running
  else if r < 44 then (List.range 32).any fun i => !(s.chan (32 * (r - 32) + i)).empty
  else if r < 62 then s.lk.lead.any fun x => decide (44 ≤ x ∧ x < 62) && gclkHalf (x - 44) == gclkHalf (r - 44)
  else (s.fch (r - 62)).queue.any fun q => q.started
/-- y + ((x − y) >> k) on 16 bits (R468). -/
def lkFilter (k y x : Nat) : Nat := unsext 16 ((y : Int) + ((x : Int) - (y : Int)) / (2 : Int) ^ k)
/-- LOOKOUT_SAMPLE: every 8 LCLK periods each filter takes its sample (R468). -/
def execLookoutSample (s : State) : Host.Outcome State Fault Refusal :=
  if !(s.past s.lk.sampleAt 256000) then .next s else
  let led := (List.range 94).filter s.led
  let s := s.each (List.range 94) fun s r =>
    s.setReg .lkFilt r (lkFilter (s.reg .lkClsCfgK (lkClass r)) (s.reg .lkFilt r) (if led.contains r then 65535 else 0))
  .next (s.onLk fun k => { k with lead := [], sampleAt := s.now, sampled := true
                                  lastLead := led.foldl (fun t r => Tab.put t r s.now) k.lastLead })

/-! ### Decisions (R469, R470, R474) -/

/-- The entry conditions of R467 besides Lookout's decision. -/
def State.maySleep (s : State) (r : Nat) : Bool :=
  if r < 32 then
    !(s.reservedClu r) && !(s.clu r).clearing && !(s.deal.baskets.any fun b => b.2.cluster == some r)
      && (List.range 17).all fun t => (s.tile (17 * r + t)).st != .running
  else if r < 44 then
    (List.range 32).all fun i => let c := s.chan (32 * (r - 32) + i); c.pwr == 1 || (c.empty && c.openRow.isEmpty)
  else if r < 62 then (s.link (r - 44)).st == .active
  else
    let d := s.fdie ((r - 62) / 8)
    (s.fch (r - 62)).queue.isEmpty && !(d.commitOpen.isSome && d.chans.contains ((r - 62) % 8))
/-- Put a resource to sleep: a port asks its peer (R285, R344). -/
def State.sleep (s : State) (r : Nat) : State :=
  if r < 32 then s.stopClock r
  else if r < 44 then
    (s.each (List.range 32) fun s i => s.onChan (32 * (r - 32) + i) fun c => { c with postponed := [] }).onStack (r - 32) fun x => { x with selfRefresh := true }
  else if r < 62 then s.askLpi (r - 44)
  else s.onFch (r - 62) fun x => { x with parked := true }
/-- The idle time of a resource in µs (R469). -/
def State.idleUs (s : State) (r : Nat) : Nat :=
  if r < 32 then (s.cluPtn r).elim 0 fun q => s.reg .lkPtnIdle q else s.reg .lkClsIdle (lkClass r)
/-- Whether Lookout puts a running resource to sleep: in STANDBY every one that may, and one woken since after its idle
time (R469, R474). -/
def State.wantsSleep (s : State) (r : Nat) : Bool :=
  let idle := s.idleUs r
  let quiet := idle != 0 && s.past (Tab.getD s.lk.lastLead r 0) (idle * usec)
  if s.lk.state = 1 then
    quiet || !(match Tab.get? s.lk.wokenAt r with | some t => decide (s.lk.standbyAt ≤ t) | none => false)
  else quiet && decide (s.reg .lkFilt r < s.reg .lkClsSleep (lkClass r))
/-- Whether Lookout wakes a sleeping resource ahead of demand, or because it does not decide for its class (R469, R474). -/
def State.wantsWake (s : State) (r : Nat) : Bool :=
  s.lk.state == 0 && (decide (32 ≤ r) || (s.cluPtn r).isSome)
    && (s.reg .lkClsCfgEn (lkClass r) == 0 || decide (s.reg .lkClsWake (lkClass r) ≤ s.reg .lkFilt r))
/-- LOOKOUT_DECISION: in the LCLK period after a sample (R469, R470). -/
def execLookoutDecision (s : State) : Host.Outcome State Fault Refusal :=
  if !(s.lk.sampled && s.past s.lk.sampleAt 32000) then .next s else
  let s := s.onLk fun k => { k with sampled := false }
  .next (s.each (List.range 94) fun s r =>
    if s.asleep r then
      if s.wantsWake r && !(Tab.has s.lk.waking r) then
        (s.onLk fun k => { k with waking := Tab.put k.waking r s.now }).bump .pwrWakesAhead 0
      else s
    else if (s.reg .lkClsCfgEn (lkClass r) == 1 || s.lk.state == 1) && s.wantsSleep r && s.maySleep r && !(Tab.has s.lk.waking r) then s.sleep r
    else s)
/-- The time a wake takes (R467). -/
def wakeCost (r : Nat) : Nat := match lkClass r with | 0 => 200000 | 1 => 150000 | 2 => 800000 | _ => 500000
/-- RESOURCE_WAKE_DONE: the resource runs, and what waits at its boundary can go on; a cluster's self-test ends first (R26,
R467, R492). -/
def execResourceWakeDone (r : Fin 94) (s : State) : Host.Outcome State Fault Refusal :=
  let r := r.val
  match Tab.get? s.lk.waking r with
  | none => .next s
  | some t =>
    if !(s.past t (wakeCost r)) || (decide (r < 32) && (s.clu r).test.isSome) then .next s else
    let s := s.onLk fun k => { k with wokenAt := Tab.put k.wokenAt r s.now }
    if 44 ≤ r ∧ r < 62 then .next (s.lpExit (r - 44))
    else
      let s := s.onLk fun k => { k with waking := Tab.del k.waking r }
      if r < 32 then .next (s.onClu r fun c => { c with clockRun := true })
      else if r < 44 then .next (s.leaveSelfRefresh (r - 32))
      else .next (s.onFch (r - 62) fun x => { x with parked := false })

/-! ### Thermal sensing and throttling (R471 to R473) -/

/-- The die of a sensor, in the order of R19 (R471). -/
def sensorDie (i : Nat) : Nat := if i < 32 then i / 16 else if i < 52 then 2 + (i - 32) / 5 else 6 + (i - 52) / 6
/-- A filtered reading in 1/256 °C. -/
def State.temp (s : State) (i : Nat) : Nat := Tab.getD s.lk.filt i 0
/-- The junction limit is reached: every die at level 7, running invocations end with a LIMIT report (R473). -/
def State.trip (s : State) : State :=
  let s := s.each (List.range 9) fun s d => s.setReg .pwrThrotLevel d 7
  let s := (s.onLk fun k => { k with tripped := true, belowSince := none }).setReg .pwrStatusTrip 0 1
  s.each (s.deal.invs.filter fun e => e.2.st == .running) fun s e => s.faultInv e.1 (dealerReport { code := 0x0B } e.2.kernel)
/-- SENSOR_READ: every 64 LCLK periods each reading passes its filter (R471, R473). -/
def execSensorRead (temps : List (BitVec 8)) (s : State) : Host.Outcome State Fault Refusal :=
  if !(s.past s.lk.sensorAt 2048000) then .next s else
  let k := s.reg .lkThermK 0
  let s := s.each (temps.take 64).zipIdx fun s x =>
    let y := lkFilter k (s.temp x.2) (256 * x.1.toNat)
    (s.onLk fun l => { l with filt := Tab.set 0 l.filt x.2 y }).setReg .lkSensor x.2 (y / 256)
  let release := 256 * (s.reg .lkThrotStart 0 - s.reg .lkThrotHyst 0)
  let below := (List.range 64).all fun i => decide (s.temp i < release)
  let s := s.onLk fun l => { l with sensorAt := s.now, belowSince := if below then some (l.belowSince.getD s.now) else none }
  .next (if !s.lk.tripped && (List.range 64).any fun i => decide (256 * 105 ≤ s.temp i) then s.trip else s)
/-- THROTTLE_EVAL: every 1 ms each die's level moves by one; during a trip it stays (R472, R473). -/
def execThrottleEval (s : State) : Host.Outcome State Fault Refusal :=
  if !(s.past s.lk.evalAt msec) then .next s else
  let s := s.onLk fun l => { l with evalAt := s.now }
  if s.lk.tripped then .next s else
  .next (s.each (List.range 9) fun s d =>
    let hot := (((List.range 64).filter fun i => sensorDie i == d).map s.temp).foldl max 0
    let lv := s.reg .pwrThrotLevel d
    if 256 * s.reg .lkThrotStart 0 ≤ hot then s.setReg .pwrThrotLevel d (min 7 (lv + 1))
    else if hot < 256 * (s.reg .lkThrotStart 0 - s.reg .lkThrotHyst 0) then s.setReg .pwrThrotLevel d (lv - 1)
    else s)
/-- TRIP_RELEASE: every reading has been below the release level for 10 ms (R473). -/
def execTripRelease (s : State) : Host.Outcome State Fault Refusal :=
  .next (if s.lk.tripped && s.lk.belowSince.elim false fun t => s.past t (10 * msec) then s.onLk fun l => { l with tripped := false } else s)

/-! ### Telemetry (R477) -/

/-- TELEMETRY_READ: the enabled slots are read once each 1 ms; a target that does not answer keeps its value and raises its
alert bit. Readings stop in a reset until step 2 of start-up, and in DORMANT (R522). -/
def execTelemetryRead (vals : List (Option (BitVec 16))) (s : State) : Host.Outcome State Fault Refusal :=
  if !(s.past s.lk.telemAt msec) || [.reset, .rom, .selfTestFailed, .noStage1, .lost].contains s.board.phase then .next s else
  let s := s.onLk fun l => { l with telemAt := s.now }
  let alert (s : State) (i : Nat) : State := s.setReg .pwrTelemAlert 0 (setBits (s.reg .pwrTelemAlert 0) i 1 1)
  .next (s.each (vals.take 16).zipIdx fun s x =>
    let t := Tab.getD s.lk.telem x.2 {}
    if t.addr = 0 then s else
    match x.1 with
    | some v =>
      let s := s.onLk fun l => { l with telem := Tab.put l.telem x.2 { t with value := v.toNat } }
      if t.thresh < v.toNat then alert s x.2 else s
    | none => alert s x.2)

/-! ### Power states (R474 to R476) -/

/-- Whether nothing is left to send (R475 step 3). -/
def State.drained (s : State) : Bool :=
  (List.range 18).all fun n =>
    let l := s.link n
    (s.eg n).queues.all (fun q => q.2.isEmpty) && l.hamper.isEmpty && l.sending.isEmpty && l.requeue.isEmpty
/-- DORMANT_DRAIN_EXPIRY: the queues have drained or RT_DRAIN_LIMIT has passed: the ports are disabled, the command
completes, and the main supplies go off (R475 steps 3 and 4). -/
def execDormantDrainExpiry (s : State) : Host.Outcome State Fault Refusal :=
  match s.lk.dormantAt with
  | none => .next s
  | some t =>
    if s.lk.state ≠ 2 || !(s.drained || s.past t (s.reg .rtDrainLimit 0 * usec)) then .next s else
    let s := s.each (List.range 18) fun s n => (s.writeEnable n false).1
    let s := s.complete 0x0B02 0 0 []
    let s := s.each (s.mbx.map Prod.fst) State.deliver
    .next ((s.onLk fun k => { k with state := 3, mainEn := false, dormantAt := none }).onBoard fun b => { b with phase := .reset })
/-- PWR_STATE (R474 to R476). -/
def cmdPwrState : Cmd := fun _ l s =>
  let v := field l 0 1
  if 2 < v then (s, rRange)
  else if s.lk.state = 2 then
    if v ≠ 0 then (s, rPending)
    else
      -- an entry that has not reached step 4 is cancelled
      let s := if s.lk.dormantAt.isSome then s.putFreeze s.lk.froze else s
      ((s.complete 0x0B02 0 6 []).onLk fun k => { k with state := 0, dormantAt := none }, rOk)
  else if v = 2 then
    if s.exts.any (fun e => e.2.policy == 0 || e.2.tracked) || s.sec.pset.pairing.isSome then (s, rState)
    else ((s.onLk fun k => { k with state := 2, dormantAt := none }).dormantRun, .defer 0)
  else (s.onLk fun k => { k with state := v, standbyAt := s.now }, rOk)

/-! ### Commands (R479) -/

/-- LK_INFO. -/
def cmdLkInfo : Cmd := fun _ _ s =>
  let st := if s.lk.state = 3 then 2 else s.lk.state
  (s, .now 0 (le 1 st ++ zeros 3 ++ le 12 (maskOf ((List.range 94).filter s.asleep))
    ++ (List.range 9).flatMap (fun d => le 1 (s.reg .pwrThrotLevel d)) ++ le 1 (((List.range 64).map s.temp).foldl max 0 / 256)))
/-- LK_TELEM_CFG. -/
def cmdLkTelemCfg : Cmd := fun _ l s =>
  let i := field l 0 1
  if 15 < i || 127 < field l 1 1 then (s, rRange)
  else
    let t : TelemSlot := { (Tab.getD s.lk.telem i {}) with addr := field l 1 1, reg := field l 2 1, thresh := field l 4 2 }
    (s.onLk fun k => { k with telem := Tab.set {} k.telem i t }, rOk)
/-- LK_TELEM_READ. -/
def cmdLkTelemRead : Cmd := fun _ _ s =>
  (s, .now 0 ((List.range 16).flatMap (fun i => le 2 (Tab.getD s.lk.telem i {}).value) ++ le 2 (s.reg .pwrTelemAlert 0)))

end Sys2Proof.Machine
end

