-- ==== Sys2Proof/Machine/Exp.lean ====
section
/-! DEFINITION. Expert register access: what each field reads, who may reach which word, and what a write does
(spec/15_control_and_mailboxes.md R425 to R432; spec/00_scope.md R11 to R16; the register tables R425 names). -/
namespace Sys2Proof.Machine

/-! ### Reading (R425, R426) -/

/-- Class and instance of the arbiter a mailbox has selected (R401). -/
def State.sel (s : State) (m : Nat) : Nat × Nat := let v := Tab.getD s.arbSel m 0; (v % 16, v / 16)
/-- The partition that owns a channel. -/
def State.chanPtn (s : State) (c : Nat) : Option Nat := (s.ptns.find? fun e => e.2.channels.contains c).map Prod.fst
def PtnState.code : PtnState → Nat
  | .unused => 0 | .active => 1 | .resetting => 2 | .faulted => 3
def TileRun.code : TileRun → Nat
  | .stopped => 0 | .idle => 1 | .running => 2 | .faulted => 3
/-- A bucket in whole bytes, as 32 bits of two's complement. -/
def wholeBytes (b : Int) : Nat := unsext 32 (b / 100000)

/-- Fields of ARB, for the arbiter the mailbox has selected. -/
def State.viewArb (s : State) (m : Nat) (r : Reg) (i : Nat) : Nat :=
  let x := s.sel m
  let a := s.arb (arbKey x.1 x.2)
  let frozen := a.frozen || a.fwHold || (x.1 == 4 && bit (s.reg .rtFreeze 0) x.2)
  match r with
  | .arbSelClass => x.1
  | .arbSelInst => x.2
  | .arbFreeze => b2n a.frozen
  | .arbStatusFrozen => b2n frozen
  | .arbStatusDrained => b2n frozen
  | .arbStatusFwHold => b2n a.fwHold
  | .arbStatusPointer => a.pointer
  | .arbStatusLastWinner => a.lastWinner
  | .arbStatusTrumpsHeld => a.trumps.length
  | .arbGrants => a.grants
  | .arbTrumps => a.trumpCount
  | .arbMaxwait => a.maxWait
  | _ => s.reg r i
/-- Fields of GL and RT. -/
def State.viewLink (s : State) (r : Reg) (i : Nat) : Nat :=
  let l := s.link i
  match r with
  | .glStateState => l.st.code
  | .glStateTxSpare => l.txSpare
  | .glStateRxSpare => l.rxSpare
  | .glHamperUsed => l.hamper.length
  | .glLseqNext => l.nextLseq.toNat
  | .glLseqOldest => (l.nextLseq.toNat + 65536 - l.hamper.length) % 65536
  | .glRxExpected => l.expected.toNat
  | .rtStatusActiveCopy => bits s.rtStatus 0 1
  | .rtStatusSwapBusy => bits s.rtStatus 1 1
  | .rtStatusResyncBusy => bits s.rtStatus 2 1
  | .rtStatusTransitOnly => bits s.rtStatus 3 1
  | .rtStatusTkReset => bits s.rtStatus 4 1
  | .rtDirActive => s.rt.active.dir
  | .rtDirShadow => s.rt.shadow.dir
  | _ => s.reg r i
/-- Fields of POL and SCH. -/
def State.viewSch (s : State) (r : Reg) (i : Nat) : Nat :=
  match r with
  | .polTc => (s.polAt i).tc / 20000
  | .polTp => (s.polAt i).tp / 20000
  | .schSlotStatusActiveCopy => b2n (s.eg i).activeCopy
  | .schSlotStatusSwapPending => b2n (s.eg i).swapPending
  | .schSlotStatusSlot => slotAt s.now
  | .schPortBucket => wholeBytes (s.bucket i 0 0)
  | .schSubBucket => wholeBytes (s.bucket (i / 512) 1 (i % 512))
  | .schSqBucket => wholeBytes (s.bucket (i / 2048) 2 (i % 2048))
  | .schHistDepth => Tab.getD (s.eg (i / 16)).snap (i % 16) 0
  | .schHistDelay => Tab.getD (s.eg (i / 16)).snap (16 + i % 16) 0
  | .schHistMaxdepth => Tab.getD (s.eg i).snap 32 0
  | .schHistMaxdelay => Tab.getD (s.eg i).snap 33 0
  | .schSlotActive => Tab.getD (s.eg (i / 1024)).slots (i % 1024) 0x40
  | .schSlotShadow => Tab.getD (s.eg (i / 1024)).shadow (i % 1024) 0x40
  | _ => s.reg r i
/-- Fields of MC and ECC. -/
def State.viewChan (s : State) (r : Reg) (i : Nat) : Nat :=
  let c := s.chan i
  match r with
  | .mcChStatusPwr => if (s.stack (i / 32)).selfRefresh then 2 else if s.now < c.pausedTo then 3 else c.pwr
  | .mcChStatusFailed => b2n c.failed
  | .mcChStatusOwned => b2n (s.chanPtn i).isSome
  | .mcChStatusPartition => (s.chanPtn i).getD 0
  | .mcChStatusRefPostponed => (c.postponed.map Prod.snd).foldl max 0
  | .mcChStatusHot => b2n c.hot
  | .mcChFrames => s.chanFrames i
  | .mcRhLevel => Tab.getD (s.chan (i / 64)).level (i % 64) 0
  | .mcStkStatusSelfRefresh => b2n (s.stack i).selfRefresh
  | .mcStkStatusTemp => (s.stack i).temp
  | .mcStkStatusHot => b2n (s.stack i).hot
  | .mcStkStatusTrained => b2n (s.stack i).trained
  | .mcStkEpoch => (s.stack i).epoch % 256
  | .eccChStatusCopying => b2n !c.copies.isEmpty
  | .eccChStatusEntriesUsed => (c.remap.filter (·.valid)).length
  | .eccRemapLo => (((s.chan (i / 4)).remap[i % 4]?).elim 0 RemapEnt.bits) % 2 ^ 32
  | .eccRemapHi => (((s.chan (i / 4)).remap[i % 4]?).elim 0 RemapEnt.bits) / 2 ^ 32
  | .eccChSpareUsed => Tab.getD (s.chan (i / 32)).spareUsed (i % 32) 0
  | .eccDieLogCount => (Tab.getD s.mem.errLog i []).length
  | _ => s.reg r i
/-- Fields of DIR, FL and SCB. -/
def State.viewTier (s : State) (r : Reg) (i : Nat) : Nat :=
  let mine (e : Nat × PageRec) : Bool := (s.ext (keyExt e.1)).elim false fun x => x.ptn == i
  let d := s.fdie i
  let f := s.fch i
  match r with
  | .dirSliceRecallsOpen => (s.dir.recalls.filter fun x => s.sliceOf x.ext x.line == i).length
  | .dirSliceWaiting => (s.dir.queue.filter fun x => s.sliceOf x.ext x.line == i).length
  | .dirSliceScanBusy => b2n (s.dir.scans.any fun x => x.1 == i)
  | .dirSliceBlocksFree => 4 - ((s.ptns.flatMap fun e => e.2.blocks).filter fun b => b / 4 == i).length
  | .dirPtnBlocks => (s.ptn i).blocks.length
  | .dirPtnEntries => (s.dir.ents.filter fun e => (s.ext e.2.ext).elim false fun x => x.ptn == i).length
  | .flPtnPromoQ => (s.mem.pages.filter fun e => e.2.st == .promoting && mine e).length
  | .flPtnDestageQ => (s.mem.pages.filter fun e => (e.2.st == .dirty || e.2.zeroPending) && (e.2.destaging || e.2.prio != 0) && mine e).length
  | .flPtnDirtyFrames => ((s.dirtyPages i).filter fun e => e.2.frame.isSome).length
  | .flPtnFlashPages => (s.mem.pages.filter fun e => e.2.loc.isSome && mine e).length
  | .flDieStatusMounted => b2n d.mounted
  | .flDieStatusGcActive => b2n d.gcActive
  | .flDieStatusNoSpace => b2n d.noSpace
  | .flDieFreeGroups => d.freeGroups
  | .flDieKittyBlocks => d.kitty
  | .flDieKittyBorrowed => d.borrowed
  | .flChStatusParked => b2n f.parked
  | .flChStatusTrained => b2n f.trained
  | .flChStatusCePresent => f.ce
  | .flChStatusLunReject => f.lunReject
  | .scbPtnStatusWalking => b2n (s.mem.scrubs.any fun p => p.ptn == i && !p.demand)
  | .scbPtnStatusDemandOpen => (s.mem.scrubs.filter fun p => p.ptn == i && p.demand).length
  | _ => s.reg r i
/-- Fields of TILE and DEAL. -/
def State.viewTile (s : State) (r : Reg) (i : Nat) : Nat :=
  let t := s.tile i
  let own := s.clu (i / 17)
  let c := s.clu i
  match r with
  | .tileStateState => t.st.code
  | .tileStateReserve => b2n (own.reserve == i % 17)
  | .tileStateRetired => b2n (own.retired == i % 17)
  | .tileStateLogical => (own.logical (i % 17)).getD 0
  | .tileAccFlagsWindowExceeded => bits t.accFlags 0 1
  | .tileAccFlagsScRange => bits t.accFlags 1 1
  | .tileAccFlagsSpecialOut => bits t.accFlags 2 1
  | .tileAccFlagsSatOut => bits t.accFlags 3 1
  | .tileAccFlagged => t.flagged % 2 ^ 32
  | .tileMmaBusy => t.mmaBusy % 2 ^ 32
  | .tileScrConflict => t.scrConflict % 2 ^ 32
  | .tileZskip => t.zskip % 2 ^ 32
  | .tileFaultCode => t.faultCode
  | .tileFaultPc => t.faultPc
  | .tileFaultInstrLo => t.faultInstr % 2 ^ 32
  | .tileFaultInstrHi => t.faultInstr / 2 ^ 32 % 2 ^ 32
  | .tileFaultAddr => t.faultAddr % 2 ^ 32
  | .tileImemHandle => t.imem
  | .tileIssueStall => t.issueStall % 2 ^ 32
  | .tileCluStateClockRun => b2n c.clockRun
  | .tileCluStateOwned => b2n (s.cluPtn i).isSome
  | .tileCluStatePartition => (s.cluPtn i).getD 0
  | .tileCluStateClearing => b2n c.clearing
  | .tileCluSpareReservePhys => c.reserve
  | .tileCluSpareRetiredPhys => c.retired
  | .tileCluScFlagsScRange => bits c.scFlags 0 1
  | .tileCluScFlagsScCount => bits c.scFlags 1 1
  | .tileCluCsConflict => c.csConflict % 2 ^ 32
  | .tileCluScConflict => c.scConflict % 2 ^ 32
  | .dealStage => s.poolOf i
  | .dealOpenInv => (s.invsOf i).length
  | .dealQueued => s.queuedBaskets i
  | .dealSpillPpm => ((s.deal.models.filter fun e => e.2.ptn == i).map fun e => e.2.spillPpm).foldl max 0
  | .dealPromoWait => (s.deal.baskets.filter fun b => b.2.ptn == i && b.2.cluster.isSome
      && (s.model i b.2.model).elim false fun m => !(m.hasExpert b.2.expert)).length
  | _ => s.reg r i
/-- The levels on the GPIO balls: driven, released, or as the board sets them; in DORMANT they read 0 (R523). -/
def State.gpioLevels (s : State) : Nat :=
  if s.lk.state = 3 then 0 else
  ((List.range 16).map fun n =>
    let out := bit (s.reg .gpioOut 0) n
    let drives := bit (s.reg .gpioDir 0) n && !(bit (s.reg .gpioOd 0) n && out)
    if (if drives then out else bit s.board.gpio n) then 2 ^ n else 0).sum
/-- Fields of PWR, PTN, CHK and SEC. -/
def State.viewSys (s : State) (r : Reg) (i : Nat) : Nat :=
  let p := s.ptn i
  let c := s.checker i
  match r with
  | .pwrStatusState => min 2 s.lk.state
  | .gpioStrap => s.board.strap
  | .gpioIn => s.gpioLevels
  | .pwrVddcVid => s.board.vid
  | .ptnStatusState => p.st.code
  | .ptnStatusFaultCause => p.cause
  | .ptnStatusEnableDeferred => b2n (s.isDeferred 0x0202 (i + 64))
  | .ptnClusters => maskOf p.clusters
  | .ptnMbxLo => maskOf p.mailboxes % 2 ^ 32
  | .ptnMbxHi => maskOf p.mailboxes / 2 ^ 32
  | .ptnChan => bits (maskOf (s.ptn (i / 12)).channels) (32 * (i % 12)) 32
  | .chkValue => c.value.toNat
  | .chkResult => (c.value ^^^ 0xFFFFFFFF#32).toNat
  | .chkAliveExpValue => c.expValue.toNat
  | .chkAliveExpValid => b2n c.expValid
  | .chkStatusRepeat => b2n c.rep
  | .chkStatusSkip => b2n c.skip
  | .chkBytes => c.bytes
  | .chkAliveErrs => c.aliveErrs
  | .chkCrcErrs => c.crcErrs
  | .secStatusProvisioned => bits s.secStatus 0 1
  | .secStatusRecovery => bits s.secStatus 1 1
  | .secStatusDebug => bits s.secStatus 2 1
  | .secStatusFwOwner => bits s.secStatus 3 1
  | .secStatusXmssFault => bits s.secStatus 4 1
  | .secSvn => s.svn i
  | .secNextLeaf => s.sec.att.next
  | .secTree => s.sec.att.tree
  | .secAgreeCountLo => s.sec.agree % 2 ^ 32
  | .secAgreeCountHi => s.sec.agree / 2 ^ 32
  | .secOpenChanges => (s.sec.changes.filter fun c => decide (s.now < c.until')).length
  | .secDebugLeftS => if s.sec.debugOn then (s.sec.debugEnd - s.now) / oneSec else 0
  | _ => s.reg r i
/-- What a field reads from a mailbox. -/
def State.view (s : State) (m : Nat) (r : Reg) (i : Nat) : Nat :=
  match r.blk with
  | .arb => s.viewArb m r i
  | .gl | .rt => s.viewLink r i
  | .pol | .sch => s.viewSch r i
  | .mc | .ecc => s.viewChan r i
  | .dir | .fl | .scb => s.viewTier r i
  | .tile | .deal => s.viewTile r i
  | .lk | .pwr | .ptn | .chk | .sec => s.viewSys r i

/-- The rows of the block an address lies in (R425). -/
def rowsNear (a : Nat) : List RegRow :=
  match a / 2 ^ 24 with
  | 1 => regsArb
  | 2 => regsGl
  | 3 => regsRt
  | 4 => regsPol ++ regsSch
  | 5 => regsDir
  | 6 => regsMc
  | 7 => regsFl
  | 8 => regsEcc ++ regsScb
  | 9 => regsTile ++ regsDeal
  | 10 => regsLk
  | 11 => regsPtn
  | 12 => regsChk
  | 13 => regsPwr
  | 14 => regsSec
  | _ => []
/-- The fields of a word, with their instances. -/
def fieldsAt (a : Nat) : List (RegRow × Nat) := (rowsNear a).filterMap fun r => (r.at? a).map fun i => (r, i)
/-- A word as a mailbox reads it: a WO field reads 0 (R11, R426). -/
def State.readWord (s : State) (m a : Nat) : Nat :=
  ((fieldsAt a).map fun x => if x.1.acc = .wo then 0 else (s.view m x.1.reg x.2 % 2 ^ x.1.width) * 2 ^ x.1.lo).sum

/-! ### Access (R425, R428) -/

/-- Whether a partition's mailbox may read a word of a field instance. -/
def State.ptnReads (s : State) (m q : Nat) (r : Reg) (i : Nat) : Bool :=
  let p := s.ptn q
  match r.blk with
  | .arb =>
    if r = .arbSelClass || r = .arbSelInst then true
    else if r = .arbTrumpLimit then false
    else
      let x := s.sel m
      match x.1 with
      | 0 => p.channels.contains x.2
      | 5 => p.clusters.contains (x.2 / 544)
      | 6 => p.clusters.contains (x.2 / 64)
      | 7 => p.clusters.contains (x.2 / 64)
      | _ => false
  | .dir => regRange .dirPtnTimeout .flPtnWeight r.ctorIdx && i == q
  | .mc => regRange .mcChCfgMap .mcStkStatusSelfRefresh r.ctorIdx && p.channels.contains (if r = .mcRhLevel then i / 64 else i)
  | .fl => regRange .flPtnWeight .flDieStatusMounted r.ctorIdx && i == q
  | .ecc => regRange .eccChCfgAutoRemap .eccDieLogCount r.ctorIdx
      && p.channels.contains (if r = .eccRemapLo || r = .eccRemapHi then i / 4 else if r = .eccChSpareUsed then i / 32 else i)
  | .scb => i == q
  | .tile => p.clusters.contains (if regRange .tileCluStateClockRun .tileFaultCode r.ctorIdx then i else i / 17)
  | .deal => i == q
  | .ptn => (if r = .ptnChan then i / 12 else i) == q
  | _ => false
/-- Whether a partition's mailbox may write a word of a field instance; of MC_CH_CFG only MAP is selected. -/
def State.ptnWrites (s : State) (m q mask : Nat) (r : Reg) (i : Nat) : Bool :=
  s.ptnReads m q r i &&
  match r.blk with
  | .arb => r = .arbSelClass || r = .arbSelInst
  | .mc => regRange .mcChCfgMap .mcChStatusPwr r.ctorIdx && mask / 4 == 0
  | .fl => r != .flPtnWeight
  | .ecc => false
  | .ptn => false
  | _ => true
/-- Whether a mailbox may reach a word (R425, R429). -/
def State.mayReach (s : State) (m : Nat) (write : Bool) (mask a : Nat) : Bool :=
  if m < 2 then !write || (fieldsAt a).all fun x => x.1.reg.blk != .chk || x.2 == 1
  else match s.boxPtn m with
    | none => false
    | some q => (fieldsAt a).all fun x => if write then s.ptnWrites m q mask x.1.reg x.2 else s.ptnReads m q x.1.reg x.2

/-! ### Writing (R13 to R16, R427) -/

/-- A word being written: the fields the mask selects, and the value each field takes. -/
structure WordWrite where
  fields : List (RegRow × Nat)
  mask : Nat
  word : Nat
deriving DecidableEq, Repr

def WordWrite.sel (w : WordWrite) (x : RegRow × Nat) : Bool := bits w.mask x.1.lo x.1.width != 0
/-- The value a field takes, if the word has it and the mask selects it. -/
def WordWrite.get? (w : WordWrite) (r : Reg) : Option Nat :=
  (w.fields.find? fun x => x.1.reg == r && w.sel x).map fun x => bits w.word x.1.lo x.1.width
/-- The merged word (R427). -/
def State.merge (s : State) (m a mask value : Nat) : WordWrite :=
  let fs := fieldsAt a
  let kept := (fs.map fun x =>
    if x.1.acc = .rw || x.1.acc = .rws || x.1.acc = .rwl then (s.view m x.1.reg x.2 % 2 ^ x.1.width) * 2 ^ x.1.lo else 0).sum
  { fields := fs, mask := mask, word := (kept &&& (2 ^ 32 - 1 - mask)) ||| (value &&& mask) }
/-- Whether every selected field stays in its range (R16, R427). -/
def WordWrite.inRange (w : WordWrite) : Bool :=
  w.fields.all fun x =>
    let v := bits w.word x.1.lo x.1.width
    !(w.sel x) || x.1.acc == .ro || (decide (x.1.min ≤ v) && decide (v ≤ x.1.max))

/-- The plain effect of a write on the fields it selects: RW and RWS fields take their value, bits of W1C fields clear. -/
def State.plainWrite (s : State) (w : WordWrite) : State :=
  s.each (w.fields.filter w.sel) fun s x =>
    let v := bits w.word x.1.lo x.1.width
    match x.1.acc with
    | .rw | .rws => s.setReg x.1.reg x.2 v
    | .w1c => s.setReg x.1.reg x.2 (s.reg x.1.reg x.2 - (s.reg x.1.reg x.2 &&& v))
    | _ => s
/-- The value a field takes, or the one it keeps. -/
def WordWrite.val (w : WordWrite) (s : State) (r : Reg) (i : Nat) : Nat := (w.get? r).getD (s.reg r i)

/-- ARB (R398 to R401). -/
def State.writeArb (s : State) (m : Nat) (w : WordWrite) : State × Reply :=
  let x := s.sel m
  if (w.get? .arbSelClass).isSome || (w.get? .arbSelInst).isSome then
    let c := (w.get? .arbSelClass).getD x.1
    let n := (w.get? .arbSelInst).getD x.2
    if arbInstances c ≤ n || 7 < c then (s, rRange) else ({ s with arbSel := Tab.set 0 s.arbSel m (c + 16 * n) }, rOk)
  else match w.get? .arbFreeze with
    | some v =>
      let k := arbKey x.1 x.2
      if v = 0 && (s.arb k).fwHold then (s, rState) else (s.onArb k fun a => { a with frozen := v == 1 }, rOk)
    | none =>
      if w.get? .arbClear = some 1 then (s.onArb (arbKey x.1 x.2) fun a => { a with grants := 0, trumpCount := 0, maxWait := 0 }, rOk)
      else (s.plainWrite w, rOk)
/-- GL and RT (R289, R292, R299, R316, R532). -/
def State.writeLink (s : State) (i : Nat) (w : WordWrite) : State × Reply :=
  if [Reg.glCtrlEnable, .glCtrlSpareAuto, .glCtrlLpiAllow].any fun r => (w.get? r).isSome then s.writeGlCtrl i (w.word % 8)
  else match w.get? .rtCtrlRouteEn, w.get? .rtTransitSub, w.get? .rtDirShadow, w.get? .rtFreeze with
    | some v, _, _, _ => ((s.setReg .rtCtrlRouteEn 0 v).rerouteAll fun _ => true, rOk)
    | _, some v, _, _ => if s.transitSubOk v then (s.plainWrite w, rOk) else (s, rState)
    | _, _, some v, _ => s.dirWrite v
    | _, _, _, some v => s.writeFreeze v
    | _, _, _, _ => (s.plainWrite w, rOk)
/-- POL and SCH (R314, R316, R319, R322, R324). -/
def State.writeSch (s : State) (i : Nat) (w : WordWrite) : State × Reply :=
  let has (l : List Reg) : Bool := l.any fun r => (w.get? r).isSome
  let v (r : Reg) : Nat := w.val s r i
  let clear (r : Reg) : Bool := w.get? r == some 1
  if has [.polCfgEn, .polCfgAware, .polCir, .polPir, .polCbs, .polPbs] then
    s.writePolicer i (v .polCfgEn) (v .polCfgAware) (v .polCir) (v .polPir) (v .polCbs) (v .polPbs)
  else if has [.schPortRate, .schPortBurst] then (s.writeShaper i 0 0 (v .schPortRate) (v .schPortBurst), rOk)
  else if has [.schSubRate, .schSubBurst] then (s.writeShaper (i / 512) 1 (i % 512) (v .schSubRate) (v .schSubBurst), rOk)
  else if has [.schSqRate, .schSqBurst] then (s.writeShaper (i / 2048) 2 (i % 2048) (v .schSqRate) (v .schSqBurst), rOk)
  else if has [.schWinGuard] then s.writeGuard i (v .schWinGuard)
  else if has [.schMirrorSub] then if s.mirrorSubOk i (v .schMirrorSub) then (s.plainWrite w, rOk) else (s, rState)
  else if has [.schSubmap] then
    if s.submapOk (i / 512) (i % 512 / 8) (v .schSubmap) then (s.plainWrite w, rOk) else (s, rRange)
  else if has [.schHistSelQueue, .schHistSelIngress, .schHistSelClear] then
    s.writeHistSel i (v .schHistSelQueue) (v .schHistSelIngress == 1) (clear .schHistSelClear)
  else
    let s := s.plainWrite w
    let s := if clear .schPortCfgSchBucketClear then s.clearBucket i 0 0 else s
    let s := if clear .schSubCfgSchBucketClear then s.clearBucket (i / 512) 1 (i % 512) else s
    (if clear .schSqCfgSchBucketClear then s.clearBucket (i / 2048) 2 (i % 2048) else s, rOk)
/-- MC, FL and LK, whose fields bound one another (R340, R374, R469). -/
def State.writeBound (s : State) (i : Nat) (w : WordWrite) : State × Reply :=
  let v (r : Reg) : Nat := w.val s r i
  let has (r : Reg) : Bool := (w.get? r).isSome
  if has .mcChCfgMap && s.chanFrames i != 0 then (s, rState)
  else if (has .flPtnDirtyHigh || has .flPtnDirtyLow) && decide (v .flPtnDirtyHigh ≤ v .flPtnDirtyLow) then (s, rRange)
  else if (has .flDieGcStart || has .flDieGcUrgent) && decide (v .flDieGcStart < v .flDieGcUrgent) then (s, rRange)
  else if (has .lkClsWake || has .lkClsSleep) && decide (v .lkClsWake ≤ v .lkClsSleep) then (s, rRange)
  else (s.plainWrite w, rOk)
/-- TILE flags clear in the tile or the cluster that holds them (R159, R160). -/
def State.writeTile (s : State) (i : Nat) (w : WordWrite) : State × Reply :=
  let b (r : Reg) : Nat := (w.get? r).getD 0
  let acc := b .tileAccFlagsWindowExceeded + 2 * b .tileAccFlagsScRange + 4 * b .tileAccFlagsSpecialOut + 8 * b .tileAccFlagsSatOut
  let sc := b .tileCluScFlagsScRange + 2 * b .tileCluScFlagsScCount
  let s := if acc = 0 then s else s.onTile i fun t => { t with accFlags := t.accFlags - (t.accFlags &&& acc) }
  (if sc = 0 then s else s.onClu i fun c => { c with scFlags := c.scFlags - (c.scFlags &&& sc) }, rOk)

/-! ### CHK (R429 to R432) -/

/-- Feed bytes to a check-value unit. -/
def Checker.feed (c : Checker) (l : List Byte) : Checker :=
  { c with value := BitVec.ofNat 32 (crcRun c.value.toNat l), bytes := wrapAdd 32 c.bytes l.length }
/-- CHK fields, in the order of a write. -/
def State.writeChk (s : State) (i : Nat) (w : WordWrite) : State × Reply :=
  let one (r : Reg) : Bool := w.get? r == some 1
  let s := s.onChk i fun c =>
    let c := if one .chkCtrlInit then { c with value := 0xFFFFFFFF#32 } else c
    let c := if one .chkCtrlAliveClr then { c with expValid := false } else c
    let c := (w.get? .chkValue).elim c fun v => { c with value := BitVec.ofNat 32 v }
    let c := (w.get? .chkData8).elim c fun v => c.feed (le 1 v)
    let c := (w.get? .chkData16).elim c fun v => c.feed (le 2 v)
    let c := (w.get? .chkData32).elim c fun v => c.feed (le 4 v)
    let c := (w.get? .chkAliveExpValue).elim c fun v => { c with expValue := BitVec.ofNat 16 v }
    let c := (w.get? .chkAliveExpValid).elim c fun v => { c with expValid := v == 1 }
    { c with rep := c.rep && !(one .chkStatusRepeat), skip := c.skip && !(one .chkStatusSkip) }
  ((w.get? .chkAliveIn).elim s fun v => s.aliveIn i v, rOk)

/-- CHK_INIT, CHK_ALIVE_CLR: a write of CHK_CTRL (R430). -/
def execChkInit (i : Chk) (s : State) : Host.Outcome State Fault Refusal := .next (s.onChk i fun c => { c with value := 0xFFFFFFFF#32 })
def execChkAliveClr (i : Chk) (s : State) : Host.Outcome State Fault Refusal := .next (s.onChk i fun c => { c with expValid := false })
/-- CHK_DATA8, CHK_DATA16, CHK_DATA32: bytes are fed, [7:0] first (R430, R431). -/
def execChkData8 (i : Chk) (v : BitVec 8) (s : State) : Host.Outcome State Fault Refusal := .next (s.onChk i fun c => c.feed (le 1 v.toNat))
def execChkData16 (i : Chk) (v : BitVec 16) (s : State) : Host.Outcome State Fault Refusal := .next (s.onChk i fun c => c.feed (le 2 v.toNat))
def execChkData32 (i : Chk) (v : BitVec 32) (s : State) : Host.Outcome State Fault Refusal := .next (s.onChk i fun c => c.feed (le 4 v.toNat))
/-- CHK_VALUE_WRITE restores a saved computation (R431). -/
def execChkValueWrite (i : Chk) (v : BitVec 32) (s : State) : Host.Outcome State Fault Refusal := .next (s.onChk i fun c => { c with value := v })
/-- CHK_ALIVE_IN (R432). -/
def execChkAliveIn (i : Chk) (v : BitVec 16) (s : State) : Host.Outcome State Fault Refusal := .next (s.aliveIn i v.toNat)

/-! ### The commands (R424 to R428) -/

/-- Whether every word of an access exists (R425). -/
def wordsExist (a n : Nat) : Bool := a % 4 == 0 && (List.range n).all fun i => !(fieldsAt (a + 4 * i)).isEmpty
/-- EXP_READ (R425, R426). -/
def cmdExpRead : Cmd := fun m l s =>
  let a := field l 0 4
  let n := field l 4 2
  if n < 1 || 1017 < n || !(wordsExist a n) then (s, rRange)
  else if !((List.range n).all fun i => s.mayReach m false 0 (a + 4 * i)) then (s, rDenied)
  else (s, .now 0 ((List.range n).flatMap fun i => le 4 (s.readWord m (a + 4 * i))))
/-- The effect of a write whose fields are in range. -/
def State.writeWord (s : State) (m : Nat) (w : WordWrite) : State × Reply :=
  match (w.fields.head?) with
  | none => (s, rRange)
  | some x =>
    match x.1.reg.blk with
    | .arb => s.writeArb m w
    | .gl | .rt => s.writeLink x.2 w
    | .pol | .sch => s.writeSch x.2 w
    | .mc | .fl | .lk => s.writeBound x.2 w
    | .tile => s.writeTile x.2 w
    | .chk => s.writeChk x.2 w
    | _ => (s.plainWrite w, rOk)
/-- EXP_WRITE (R15, R16, R425, R427). A write of SEC_AGREE_WINDOW is answered AGREEMENT_REQUIRED before its value is held to
its range (DESIGN CHOICE, log 138: R15 and R16 give no precedence). -/
def cmdExpWrite : Cmd := fun m l s =>
  let a := field l 0 4
  let mask := field l 4 4
  let w := s.merge m a mask (field l 8 4)
  if !(wordsExist a 1) then (s, rRange)
  else if !(s.mayReach m true mask a) then (s, rDenied)
  else if w.fields.any fun x => x.1.acc == .rwl && w.sel x then (s, .now 9 [])
  else if !w.inRange then (s, rRange)
  else s.writeWord m w

end Sys2Proof.Machine
end

