-- ==== Sys2Proof/Machine/Reset.lean ====
section
/-! DEFINITION. Resets, start-up, pins, clocks and supplies, control cores, the wear record and the debug port
(spec/20_reset_and_bringup.md R495 to R505; spec/21_board_attachment.md R510 to R523; spec/16_security.md R436, R437, R441,
R446; spec/15_control_and_mailboxes.md R408; spec/18_lookout_and_power.md R475, R478; spec/19_partner_and_spares.md R481, R493). -/
namespace Sys2Proof.Machine

/-! ### What survives a reset (R68, R364, R368, R497, R504) -/

/-- Whether an EXT_ATTR record of a state waits for its COMMIT: a reset forgets it (R364, R368). -/
def State.attrOpen (s : State) (h st : Nat) : Bool :=
  (s.fdie 0).pend.any fun r => r.kind == 6 && r.ext == h && bits r.loc 11 2 == st
/-- An extent as its committed records give it: none when replay drops it (R364, R497). -/
def State.extKept (s : State) (h : Nat) (e : ExtRec) : Option ExtRec :=
  if !e.committed || e.policy = 0 || (e.sanitised && !(s.attrOpen h 3)) then none
  else
    let active := e.st == .active || s.attrOpen h 1
    some { ptn := e.ptn, length := e.length, tracked := e.tracked, policy := e.policy, mirrored := e.mirrored
           acl := s.assignIdx 2097152 e.acl e.acl, init := e.init, version := e.durVersion, publisher := e.durPublisher
           drainMs := e.drainMs, controlDie := e.controlDie, st := if active then .active else .revoked
           revokedAt := s.now, durVersion := e.durVersion, durPublisher := e.durPublisher }
/-- A page as its last committed record gives it (R361, R368); a ZERO whose record had not committed counts no more
towards INIT (R78, R530). -/
def PageRec.kept (p : PageRec) : PageRec :=
  { home := p.home, loc := p.loc, committedZero := p.committedZero, zeroed := p.zeroed && !p.zeroPending
    st := if p.loc.isSome then .flash else if p.committedZero then .zero else .unwritten }
/-- A die's flash side over a reset: records after the last COMMIT are ignored, and copies no page names are space again. -/
def State.dieKept (s : State) (m : Nat) (pages : Tab PageRec) : FlashDie :=
  let d := s.fdie m
  let q := s.reg .flDieJrnlSeqLo m + 2 ^ 32 * s.reg .flDieJrnlSeqHi m
  { seq := q + 1, log := d.log, chans := d.chans, erased := d.erased, annex := d.annex, dead := d.dead, maps := d.maps
    pages := d.pages.filter fun e => pages.any fun p => dieOf p.2.home == m && p.2.loc == some e.1 }
/-- The memory side after a reset: every HBM line is poison once start-up has run, the tiers are as committed. -/
def State.memKept (s : State) (exts : Tab ExtRec) : MemSide :=
  let pages := (s.mem.pages.filter fun p => Tab.has exts (keyExt p.1)).map fun p => (p.1, p.2.kept)
  { pages := pages, dies := (List.range 4).foldl (fun t m => Tab.set {} t m (s.dieKept m pages)) [] }
/-- Trust over a reset of the main chip: the vault and the record stay, changes and leaves in use do not (R438, R445). -/
def Sec.kept (x : Sec) : Sec :=
  { pset := x.pset, slotB := x.slotB, recordOk := x.recordOk, agree := x.agree, svn := x.svn, att := x.att.restart
    unlockDue := x.unlockDue, debugOn := x.debugOn, debugEnd := x.debugEnd }
/-- The partner side over a reset: the role is in the vault, the member enters WAITING (R484, R497). -/
def State.prtKept (s : State) : Partner :=
  if s.sec.pset.pairing.isNone then {} else { st := .waiting, roleActive := s.prt.roleActive, heard := s.now }
/-- Lookout over a warm or transit-keep reset: what it knew of resources that were reset is gone, and an entry into
DORMANT ends. -/
def Lookout.kept (k : Lookout) : Lookout :=
  { k with waking := [], wokenAt := [], dormantAt := none, state := if k.state = 1 then 1 else 0, railAt := none, mainEn := true }
/-- What a transit-keep reset leaves: also the wakes of ports, so that through traffic does not pause (R306). -/
def Lookout.keptTk (k : Lookout) : Lookout :=
  let port (e : Nat × Nat) : Bool := decide (44 ≤ e.1 ∧ e.1 < 62)
  { k.kept with waking := k.waking.filter port, wokenAt := k.wokenAt.filter port }
/-- Registers that warm and transit-keep resets leave: LK and PWR with the GPIO outputs (R11, R495). -/
def keptWarm (k : Nat) : Bool := regRange .lkClsCfgEn .ptnStatusState k
/-- Registers that a transit-keep reset leaves: ARB, GL, RT, POL, SCH, MC and those a warm reset leaves (R496). -/
def keptTk (k : Nat) : Bool := regRange .arbTrumpLimit .dirSliceRecallsOpen k || keptWarm k
def State.regsKept (s : State) (f : Nat → Bool) : Tab Nat := s.regs.filter fun e => f (e.1 / 2 ^ 20)

/-- What every reset of the main chip leaves: durable records, the meter die, the commands that wait in the model. The
handles of dropped extents are held (R497). -/
def State.durable (s : State) : State :=
  let exts := s.exts.filterMap fun e => (s.extKept e.1 e.2).map fun x => (e.1, x)
  let gone := s.exts.filter fun e => e.2.committed && !(Tab.has exts e.1)
  { State.reset with
    now := s.now, pending := s.pending, free := s.free, mtr := s.mtr, exts := exts, mem := s.memKept exts, prt := s.prtKept
    sec := s.sec.kept, nor := { s.nor with run := [] }, wear := { s.wear with pend := [] }
    freed := gone.foldl (fun t e => Tab.put t e.1 { ptn := e.2.ptn, since := s.now }) (s.freed.map fun e => (e.1, { e.2 with since := s.now })) }

/-- A power-on reset: everything but the meter die; epochs are drawn afresh; an unlock ends (R281, R446, R495). -/
def State.powerOn (s : State) : State :=
  let b := s.board
  let s := s.durable.onSec fun x => { x with debugOn := false, debugEnd := 0 }
  let s := s.onBoard fun x => { x with kind := 0, startAt := s.now, vault := b.vault, porVLow := b.porVLow, strap := b.strap, gpio := b.gpio }
  s.each (List.range 18) fun s n => let d := s.draw; d.2.setReg .glEpoch n (d.1 % 2 ^ 32)
/-- A debug unlock over a warm reset: a committed one begins, one whose time is over ends (R446). -/
def State.unlockStep (s : State) : State :=
  if s.sec.unlockDue && s.sec.pset.debugMin ≠ 0 then
    (s.onSec fun x => { x with unlockDue := false, debugOn := true, debugEnd := s.now + x.pset.debugMin * 60 * oneSec }).seal 3
  else if s.sec.debugOn && (s.sec.pset.debugMin = 0 || s.sec.debugEnd ≤ s.now) then
    s.onSec fun x => { x with debugOn := false, debugEnd := 0 }
  else s
/-- A warm reset (R495, R497): Lookout, RWS fields and the meter die stay, and every epoch rises by 1. -/
def State.warm (s : State) : State :=
  let old := s
  let b := s.board
  let s := { s.durable with regs := s.regsKept keptWarm, lk := s.lk.kept }
  let s := s.onBoard fun x => { x with kind := 1, startAt := s.now, vault := b.vault, porVLow := b.porVLow, warmLow := b.warmLow
                                       strap := b.strap, gpio := b.gpio, clocksLost := b.clocksLost }
  (s.each (List.range 18) fun s n => s.setReg .glEpoch n (wrapAdd 32 (old.reg .glEpoch n) 1)).unlockStep
/-- A transit-keep reset (R495, R496): links, router, policing, scheduling, arbiters and HBM settings stay too. -/
def State.transitKeep (s : State) : State :=
  let b := s.board
  let m := s.mem
  let keep : State :=
    { s.durable with
      regs := s.regsKept keptTk, lk := s.lk.keptTk, links := s.links, egr := s.egr, groupMap := s.groupMap, pols := s.pols
      arbs := s.arbs, arbSel := s.arbSel, rt := { s.rt with tkReset := true, mgmtWait := [] } }
  let keep := keep.onMem fun x =>
    { x with
      stks := m.stks
      chans := m.chans.map fun e => (e.1,
        { e.2 with frames := [], tagQ := [], bankQ := [], openRow := [], checkBuf := [], checkDirty := [], copies := [], remap := [], spareUsed := [], repeatLog := [] }) }
  keep.onBoard fun x => { x with kind := 2, startAt := s.now, vault := b.vault, porVLow := b.porVLow, strap := b.strap, gpio := b.gpio
                                 clocksLost := b.clocksLost, vid := b.vid, vidAt := b.vidAt }
/-- Whether the main chip can be reset other than by PORST_N: it has its clocks and its main supplies (R475, R514). -/
def State.resettable (s : State) : Bool := s.board.phase != .lost && !s.board.porLow && s.lk.state != 3

/-! ### Pins and causes (R423, R475, R478, R498, R500, R514) -/

/-- PORST_N: low holds a power-on reset, and its rising edge latches the strap and begins start-up (R500, R523). -/
def execPorstN (low : Bool) (strap : BitVec 16) (s : State) : Host.Outcome State Fault Refusal :=
  if low then .next (s.powerOn.onBoard fun b => { b with phase := .reset, porLow := true })
  else if s.board.porLow then
    .next (s.onBoard fun b => { b with phase := .rom, porLow := false, startAt := s.now, strap := strap.toNat, gpio := strap.toNat })
  else .next s
/-- WARM_N: low for 2 LCLK periods holds a warm reset; start-up begins after it rises (R500). -/
def execWarmN (low : Bool) (s : State) : Host.Outcome State Fault Refusal :=
  if low then
    if s.resettable then .next (s.warm.onBoard fun b => { b with phase := .reset, warmLow := true }) else .next s
  else if s.board.warmLow && s.resettable then .next (s.onBoard fun b => { b with phase := .rom, warmLow := false, startAt := s.now })
  else .next s
/-- The meter die restarts: what the vault had kept waiting can go on. -/
def execPorstVN (low : Bool) (s : State) : Host.Outcome State Fault Refusal :=
  if low then .next (s.meterReset.onBoard fun b => { b with porVLow := true })
  else if s.board.porVLow then
    .next ((s.onBoard fun b => { b with porVLow := false }).onMtr fun m => { m with st := 1 })
  else .next s
/-- RESET_START: 100 µs after the DEV_RESET reply the reset begins (R423, R498). -/
def execResetStart (s : State) : Host.Outcome State Fault Refusal :=
  match s.board.resetDue with
  | some (kind, t) =>
    if s.resettable && s.past t (100 * usec) then .next (if kind = 2 then s.transitKeep else s.warm) else .next s
  | none => .next s
/-- WAKE_N: low for 2 LCLK periods in DORMANT raises PWR_MAIN_EN (R475, R515). -/
def execWakeN (s : State) : Host.Outcome State Fault Refusal :=
  .next (if s.lk.state = 3 && s.lk.railAt.isNone && !s.board.porLow then s.onLk fun k => { k with mainEn := true, railAt := some s.now } else s)
/-- RAIL_WAIT_EXPIRY: LK_RAIL_WAIT after the wake a warm reset is released (R475). -/
def execRailWaitExpiry (s : State) : Host.Outcome State Fault Refusal :=
  match s.lk.railAt with
  | some t => .next (if s.lk.state = 3 && s.past t (s.reg .lkRailWait 0 * msec) then s.warm else s)
  | none => .next s
/-- DEBUG_UNLOCK_EXPIRY: the minutes of an unlock are over, and a warm reset is started (R446). -/
def execDebugUnlockExpiry (s : State) : Host.Outcome State Fault Refusal :=
  .next (if s.sec.debugOn && s.resettable && decide (s.sec.debugEnd ≤ s.now) then s.warm else s)
/-- POWER_LOSS: every supply fails; what is not durable is lost, on the meter die too, until the board's supervisors
drive the reset balls (R478). -/
def execPowerLoss (s : State) : Host.Outcome State Fault Refusal :=
  .next (s.powerOn.meterReset.onBoard fun b => { b with phase := .lost })
/-- REFCLK_LOSS: the state of the domains an input feeds is lost until a power-on reset; a stopped crystal stops the
meter, which goes on as at a start (R513, R514). Inputs: 0 SYS_REFCLK, 1 and 2 GL_REFCLK of X0 and X1, 3 PCIE_REFCLK,
4 AON_CLK, 5 the meter crystal. Lost state reads as at reset (log 65). -/
def execRefclkLoss (which : Fin 6) (s : State) : Host.Outcome State Fault Refusal :=
  let lost (s : State) : State := s.onBoard fun b => { b with clocksLost := which.val :: b.clocksLost.filter (· != which.val) }
  match which.val with
  | 0 => .next (lost (s.powerOn.onBoard fun b => { b with phase := .lost }))
  | 3 => .next (lost { s with pcie := { d3 := true } })
  | 4 => .next (lost { s with lk := {}, regs := s.regs.filter fun e => !(keptWarm (e.1 / 2 ^ 20)) })
  | 5 => .next (s.meterReset.onMtr fun m => { m with st := 1 })
  | w =>
    .next (lost (s.each ((List.range 18).filter fun n => n / 9 == w - 1) fun s n =>
      (s.discardHeld n).onLink n fun _ => { st := .down, stSince := s.now }))

/-! ### Start-up (R435 to R437, R441, R501 to R503) -/

/-- Whether an image in SPI NOR qualifies for a stage (R436). -/
def State.imageOk (s : State) (stage : Nat) (i : FwImage) : Bool :=
  i.vendorOk && decide (s.svn stage ≤ i.svn)
    && (stage != 1 || s.sec.pset.fwOwner.isEmpty || (i.owner && Config.verify s.sec.pset.fwOwner i.digest i.ownerSig))
/-- The slot of a stage with the qualifying image of the highest SVN; on a tie a free choice (R436, log 66). -/
def State.imageSlot (s : State) (stage : Nat) : Option (Nat × FwImage) :=
  if !s.nor.present then none else
  (s.nor.images.filter fun e => e.1 / 2 == stage && s.imageOk stage e.2).foldl (fun (b : Option (Nat × FwImage)) e =>
    match b with
    | some x => if x.2.svn < e.2.svn || (x.2.svn == e.2.svn && Config.upperOnTie stage) then some (e.1 % 2, e.2) else b
    | none => some (e.1 % 2, e.2)) none
def State.runImage (s : State) (stage slot : Nat) : State := { s with nor := { s.nor with run := Tab.put s.nor.run stage slot } }

/-- Partitions as the protection record in force gives them, with the blocks their last agreement allotted (R242, R441,
R497). -/
def State.restorePtns (s : State) : State :=
  s.each s.sec.pset.ptns fun s e =>
    let p := e.2
    s.onPtn e.1 fun _ => { st := .active, channels := p.channels, clusters := p.clusters, mailboxes := p.mailboxes, flashGib := p.flashGib
                           trackedUnits := p.trackedUnits, admission := p.admission, keyPub := p.keyPub, keyRequired := p.keyRequired, blocks := p.blocks }
/-- A substitution the wear record holds is applied: tiles, lanes, core duties, clusters out of service (R492, R493). -/
def State.substitute (s : State) (e : WearEnt) : State :=
  match e.kind with
  | 1 => s.onClu e.unit fun c => { c with retired := e.a, reserve := 31 }
  | 2 => if s.board.kind = 2 then s else s.onLink e.unit fun l => l.swapped (!(bit e.a 0)) (bits e.a 1 3)
  | 3 => { s with cores := { s.cores with duty := (s.cores.duty.map fun d => if d = e.a then 0xFF else d).set e.unit e.a } }
  | 5 => s.onClu e.unit fun c => { c with lost := true }
  | _ => s
/-- Stage 1 reads the protection record and the wear record and starts the actions of step 2 (R501, R503): training of
every port whose ENABLE is 1 among them, except after a transit-keep reset. -/
def State.openRecords (s : State) : State :=
  let s := s.onBoard fun b => { b with linkOpen := true, vidAt := s.now, noMain := b.noMain || !s.sec.recordOk }
  let s := if s.sec.recordOk then s.restorePtns else s
  let s := if s.wear.sealOk then s.each s.wear.ents State.substitute else s.finding 10 0 0
  if s.board.kind = 2 then s
  else s.each ((List.range 18).filter fun n => s.reg .glCtrlEnable n == 1) State.linkTrain
/-- STAGE_1_VERIFIED: step 1 ends; the device stops in ROM when KC_X1_0 fails or no stage 1 qualifies (R35, R436, R501). -/
def execStage1Verified (selfTest : Bool) (s : State) : Host.Outcome State Fault Refusal :=
  if s.board.phase ≠ .rom then .next s
  else if !selfTest then .next (s.onBoard fun b => { b with phase := .selfTestFailed })
  else match s.imageSlot 0 with
    | none => .next (s.onBoard fun b => { b with phase := .noStage1 })
    | some (slot, _) =>
      let s := (s.runImage 0 slot).onBoard fun b => { b with phase := .stage1, stageAt := s.now }
      .next (if s.vaultOk then s.openRecords else s)
/-- MAIN_FIRMWARE_VERIFIED: stage 1 has chosen main firmware, or found none (R436, R501, R503). -/
def execMainFirmwareVerified (s : State) : Host.Outcome State Fault Refusal :=
  if s.board.phase ≠ .stage1 then .next s else
  let s := if s.vaultOk && !s.board.linkOpen then s.openRecords else s
  if !s.board.linkOpen then .next s else
  match s.imageSlot 1 with
  | some (slot, _) => .next ((s.runImage 1 slot).onBoard fun b => { b with mainDone := true }).advance
  | none => .next (s.onBoard fun b => { b with mainDone := true, noMain := true })
/-- FLASH_BUS_TRAINING_DONE: an M die's parameter pages have been read; rejected LUNs (bit 4 × CE + LUN of each channel)
go to the wear record; each other brings its block groups and its kitty blocks (in place 32 × channel + 4 × CE + LUN); a die
with no usable LUN mounts empty; under an unlock the die mounts at once (R354, R371, R446, R503). -/
def execFlashBusTrainingDone (m : MDie) (present : List (BitVec 8)) (rejected : List (BitVec 32)) (groups kitty : List (BitVec 16)) (s : State) :
    Host.Outcome State Fault Refusal :=
  if s.board.phase ≠ .stage1 || !s.board.linkOpen || s.board.flashDone.contains m.val then .next s else
  let ce (i : Nat) : Nat := ((present[i]?).getD 0#8).toNat
  let rej (i : Nat) : List Nat := (onesOf 32 ((rejected[i]?).getD 0#32).toNat).filter fun l => bit (ce i) (l / 4)
  let at' (t : List (BitVec 16)) (x : Nat × Nat) : Nat := ((t[32 * x.1 + x.2]?).getD 0#16).toNat
  let luns := ((List.range 32).flatMap fun l => (List.range 8).map fun i => (i, l)).filter fun x =>
    bit (ce x.1) (x.2 / 4) && !((rej x.1).contains x.2) && at' groups x != 0
  let code (x : Nat × Nat) : Nat := x.1 + 8 * (x.2 / 4) + 64 * (x.2 % 4)
  let table (t : List (BitVec 16)) : Tab Nat := luns.foldl (fun a x => Tab.put a (code x) (at' t x)) []
  let s := s.each (List.range 8) fun s i =>
    let f := 8 * m.val + i
    let s := s.onFch f fun x => { x with trained := true, ce := ce i, lunReject := (rej i).length % 64 }
    s.each (rej i) fun s l =>
      if s.wear.ents.any fun e => e.kind == 6 && e.unit == f && e.a == l then s else s.wearOut { kind := 6, unit := f, a := l, b := 0 } none
  let s := s.onFdie m fun (d : FlashDie) =>
    { d with
      luns := luns.map code, groups := table groups, kitties := table kitty
      used := ((d.pages.map fun (e : Nat × FlashPage) => locGroup e.1) ++ d.dead).eraseDups, filling := []
      noSpace := luns.isEmpty, mounted := s.sec.debugOn
      pages := if !luns.isEmpty then d.pages else d.pages.map fun (e : Nat × FlashPage) => (e.1, { e.2 with uncorr := 2 ^ 512 - 1 }) }
  .next (s.onBoard fun b => { b with flashDone := b.flashDone ++ [m.val] }).advance
/-- VDDC_VID_STEP: every 100 µs during stage 1 the code moves by up to 4 towards the device's own value (R512; log 34). -/
def execVddcVidStep (s : State) : Host.Outcome State Fault Refusal :=
  let goal := ofLe (Config.provisioned 30 1) % 81
  if s.board.phase ≠ .stage1 || !s.board.linkOpen || s.board.kind = 2 || !(s.past s.board.vidAt (100 * usec)) then .next s else
  .next (s.onBoard fun b => { b with vidAt := s.now, vid := if b.vid < goal then min goal (b.vid + 4) else max goal (b.vid - 4) })
/-- MBX_READY: step 3 ends, in recovery mode when no main firmware runs. READY is set in every mailbox, and the
anti-rollback counters of the images that run are raised (R436, R437, R501, R503). -/
def execMbxReady (s : State) : Host.Outcome State Fault Refusal :=
  let main := s.board.phase == .main
  if !(main || (s.board.phase == .stage1 && s.board.noMain && s.stepTwoDone)) then .next s else
  let s := s.onBoard fun b => { b with phase := if main then .ready else .recovery, readyAt := s.now }
  let run (i : Nat) : Nat := ((Tab.get? s.nor.images (2 * i + Tab.getD s.nor.run i 0)).map (·.svn)).getD 0
  let s := if main then s.onSec fun x => { x with svn := [max (s.svn 0) (run 0), max (s.svn 1) (run 1), s.svn 2] } else s
  let s := s.onRt fun r => { r with tkReset := false }
  let s := { s with freed := s.freed.map fun (e : Nat × FreedRec) => (e.1, { e.2 with since := s.now }) }
  .next (s.each (List.range 64) fun s m => s.onBox m fun b => { b with ready := true })

/-- BOOT_STAT (R516). -/
def State.bootStat (s : State) : Nat :=
  match s.board.phase with
  | .reset => 0 | .rom => 1 | .selfTestFailed => 2 | .noStage1 => 3 | .stage1 => 4 | .main => 5
  | .ready => if s.mounted then 7 else 6
  | .recovery => 8
  | .lost => 0
/-- Whether DIAG_N is low: an unread YIELD record stands in the log (R482). -/
def State.diagLow (s : State) : Bool := s.diag.recs.any (·.yield)
/-- Whether THERMTRIP_N is low (R473, R515). -/
def State.thermtripLow (s : State) : Bool := s.lk.tripped
/-- IDCODE of the TAP (R521). -/
def idcode : BitVec 32 := 0x1096074B#32

/-! ### Control cores, the wear record, the debug port (R408, R481, R493, R521) -/

/-- CORE_FAILURE: the duty of a failed core moves to a free spare, or stops; KC_X1_0 cannot be replaced (R35, R408, R481). -/
def execCoreFailure (c : Core) (s : State) : Host.Outcome State Fault Refusal :=
  let d := ((s.cores.moves.find? fun m => m.target == c.val).map DutyMove.duty).getD ((s.cores.duty[c.val]?).getD 0xFF)
  if d = 0xFF then .next s else
  let fail (s : State) : State :=
    { s with cores := { s.cores with duty := s.cores.duty.set c 0xFF, polling := s.cores.polling && d != 1
                                     moves := s.cores.moves.filter fun m => m.target != c.val } }
  if d = 0 then .next (fail s) else
  let spare := (List.range 8).find? fun i => i != c.val && (s.cores.duty[i]?).getD 0xFF == 0 && !(s.cores.moves.any fun m => m.target == i)
  match spare with
  | some i =>
    if c.val = 4 then .next ((fail s).finding 2 c d)
    else
      let s := fail s
      .next { s with cores := { s.cores with moves := s.cores.moves ++ [{ duty := d, target := i, startedAt := s.now }] } }
  | none => .next ((fail s).finding 2 c d)
/-- WATCHDOG: a duty missed its health check for 100 ms (R481). -/
def execWatchdog (duty : BitVec 16) (s : State) : Host.Outcome State Fault Refusal := .next (s.finding 11 duty.toNat 0)
/-- The object a deferred INT_REMAP waits on. -/
def remapKey (chan bank row : Nat) : Nat := chan * 2 ^ 21 + bank * 65536 + row
/-- WEAR_RECORD_COMMIT: the other slot is written and the vault commits; substitutions are recorded, each remap writes its log
record, and waiting INT_REMAP commands complete (R383, R386, R493). -/
def execWearRecordCommit (s : State) : Host.Outcome State Fault Refusal :=
  if s.wear.pend.isEmpty || !s.vaultOk then .next s else
  let done := s.wear.pend.filterMap (·.remap)
  let rows := (s.wear.pend.map WearPend.ent).filter fun e => e.kind == 4
  let s := { s with wear := { s.wear with ents := s.wear.ents ++ s.wear.pend.map WearPend.ent, pend := [], seq := s.wear.seq + 1
                                          slotB := !s.wear.slotB, sealOk := true } }
  let s := s.each rows fun s e => s.errLog e.unit (remapOf e.b).bank (remapOf e.b).row 0xFF 5 52 0
  .next (s.each done fun s k => s.complete 0x0701 k 0 [])
/-- DBG_ACCESS: the debug port opens while an unlock is in force, and is a BYPASS otherwise (R521). -/
def execDbgAccess (s : State) : Host.Outcome State Fault Refusal :=
  .next (if s.sec.debugOn then s.onBoard fun b => { b with dbgPort := true } else s)

/-! ### Firmware images (R435, R437) -/

/-- The header of the image in the upload window: its body length. -/
def bodyBytes (l : List Byte) : Nat := field l 12 4
/-- The size of a slot of a stage (R520). -/
def slotBytes (stage : Nat) : Nat := if stage = 0 then 2 ^ 21 else if stage = 1 then 2 ^ 26 else 2 ^ 20
/-- Whether an image is well formed for a stage: its header, its length, which fits its slot, and its digest (R435, R437,
R520). -/
def imageFormed (stage : Nat) (l : List Byte) : Bool :=
  let n := bodyBytes l
  field l 0 4 == 0x57464C45 && field l 4 1 == stage && decide (field l 5 1 ≤ 1) && decide (1 ≤ field l 8 4 ∧ field l 8 4 ≤ 0xFFFFFFFE)
    && l.length == 64 + n + 2820 + 2820 * field l 5 1 && decide (l.length ≤ slotBytes stage) && slice l 16 32 == digest32 (l.take 16 ++ (l.drop 64).take n)
/-- The vendor key of a stage: the firmware key, or the metrology key (R433, R436; log 34). -/
def vendorKey (stage : Nat) : List Byte := Config.provisioned (20 + b2n (stage == 2)) 68
/-- What DEV_FW_UPDATE finds of the image in BAR2: a refusal, or the image for its slot (R437). -/
def State.checkImage (s : State) (stage : Nat) (l : List Byte) : Except Nat FwImage :=
  let n := bodyBytes l
  let digest := slice l 16 32
  let osig := (l.drop (64 + n + 2820)).take 2820
  let signed := bit (field l 5 1) 0
  let owner := s.sec.pset.fwOwner
  if !(imageFormed stage l) || decide (field l 8 4 < s.svn stage) then .error 11
  else if !(Config.verify (vendorKey stage) digest ((l.drop (64 + n)).take 2820)) then .error 12
  else if stage = 1 && !owner.isEmpty && !(signed && Config.verify owner digest osig) then .error 12
  else .ok { svn := field l 8 4, owner := signed, digest := digest, vendorOk := true, ownerSig := osig }
/-- FIRMWARE_IMAGE_WRITTEN: the image has been verified and written into the slot the next boot does not prefer, of meter
firmware the slot the meter does not run, and the deferred command completes (R437, R451). -/
def execFirmwareImageWritten (s : State) : Host.Outcome State Fault Refusal :=
  match s.board.upd with
  | none => .next s
  | some (stage, len) =>
    let s1 := s.onBoard fun b => { b with upd := none }
    match s.checkImage stage (Mem.reads zeroByte s.pcie.bar2 0 len) with
    | .error st => .next (s1.complete 0x0103 0 st [])
    | .ok i =>
      let s2 := if stage = 2 then
          s1.onMtr fun m => { m with images := Tab.put m.images (1 - m.run) i }
        else { s1 with nor := { s1.nor with images := Tab.put s1.nor.images (2 * stage + (s.imageSlot stage).elim 0 fun x => 1 - x.1) i } }
      .next (s2.complete 0x0103 0 0 [])

end Sys2Proof.Machine
end

