-- ==== Sys2Proof/Machine/Box.lean ====
section
/-! DEFINITION. The mailbox command table, the checks on a frame, its execution, polls, and one meaning per mailbox command
(spec/15_control_and_mailboxes.md R408, R413 to R428; spec/20_reset_and_bringup.md R498, R502; spec/13_data_integrity.md
R386, R390 to R392). -/
namespace Sys2Proof.Machine

/-! ### Device, flash and integrity commands (R423, R424) -/

/-- ORDER_CODE as ASCII, filled with zeros (log 67). -/
def orderCode : List Byte := padTo 16 [0x54#8, 0x53#8, 0x45#8, 0x2D#8, 0x50#8, 0x39#8, 0x36#8, 0x30#8, 0x2D#8, 0x41#8, 0x31#8]
/-- DEV_INFO. -/
def cmdDevInfo : Cmd := fun _ _ s =>
  let up := s.board.phase == .ready || s.board.phase == .recovery
  let mounts := ((List.range 4).map fun m => if (s.fdie m).mounted then 2 ^ (m + 1) else 0).sum
  (s, .now 0 (orderCode ++ le 2 0x00A1 ++ slice (Config.provisioned (40 + Tab.getD s.nor.run 1 0) 4) 0 4 ++ le 2 s.ownId
    ++ le 2 (b2n up + mounts + 32 * b2n s.transitOnly) ++ s.cores.duty.flatMap (le 1) ++ le 8 s.upUs))
/-- DEV_RESET (R305, R423, R436, R498). -/
def cmdDevReset : Cmd := fun _ l s =>
  let kind := field l 0 1
  if 1 < kind then (s, rRange)
  else match s.board.resetDue with
    | some (k, t) =>
      if kind = 0 && k = 2 then (s.onBoard fun b => { b with resetDue := some (1, t) }, rOk) else (s, rPending)
    | none =>
      if kind = 1 && (s.board.phase == .recovery || !s.transitOnly) then (s, rState)
      else (s.onBoard fun b => { b with resetDue := some (kind + 1, s.now) }, rOk)
/-- DEV_FW_UPDATE: the image is verified and written when FIRMWARE_IMAGE_WRITTEN comes (R437). -/
def cmdDevFwUpdate : Cmd := fun _ l s =>
  let stage := field l 0 1
  let len := field l 4 4
  if 2 < stage || len < 2820 || 67108864 < len then (s, rRange)
  else if s.board.upd.isSome then (s, rPending)
  else (s.onBoard fun b => { b with upd := some (stage, len), updAt := s.now }, .defer 0)

/-- FL_INFO. Capacities the spec gives no value for are free values (log 68). -/
def cmdFlInfo : Cmd := fun _ l s =>
  let m := field l 0 1
  if 3 < m then (s, rRange) else
  let d := s.fdie m
  let raw := s.draw
  let left := raw.2.draw
  (left.2, .now 0 (le 1 (b2n d.mounted + 2 * b2n d.gcActive + 4 * s.reg .flDieStatusKittyLow m + 8 * b2n d.noSpace) ++ zeros 3
    ++ le 8 raw.1 ++ le 4 d.goodGroups ++ le 4 d.freeGroups ++ le 4 d.kitty ++ le 2 d.luns.length
    ++ le 2 ((List.range 8).map fun i => (s.fch (8 * m + i)).lunReject).sum ++ le 4 (if d.mounted then 0 else left.1)))

/-- INT_REMAP (R386). -/
def cmdIntRemap : Cmd := fun _ l s =>
  let c := field l 0 2
  let bank := field l 2 1
  let row := field l 4 2
  if 383 < c || 31 < bank || 49151 < row then (s, rRange)
  else if (s.chan c).copying bank row || s.isDeferred 0x0701 (remapKey c bank row) then (s, rPending)
  else
    let fails := (((s.chan c).repeatLog.filter fun e => e.bank == bank && e.row == row).map RepeatEnt.fails).sum
    match s.startRemap c bank row 2 fails with
    | some s' => (s', .defer (remapKey c bank row))
    | none => (s.remapRefused c bank row 0xFF 52, .now 7 [])
/-- INT_SCRUB (R390). -/
def cmdIntScrub : Cmd := fun m l s =>
  let h := field l 0 4
  let off := field l 8 8
  let len := field l 16 8
  match s.extFor m h with
  | none => (s, rRange)
  | some e =>
    if off % 128 ≠ 0 || len % 128 ≠ 0 || e.length < off + len then (s, rRange)
    else if e.st ≠ .active || !e.init || s.closed e then (s, rState)
    else if s.mem.scrubs.any fun p => p.demand && p.ext == h then (s, rPending)
    else if 4 ≤ (s.mem.scrubs.filter fun p => p.demand && p.ptn == e.ptn).length then (s, .now 7 [])
    else
      let p : ScrubPass := { ptn := e.ptn, ext := h, demand := true, startAt := s.now, off := off, len := len }
      (s.onMem fun x => { x with scrubs := x.scrubs ++ [p] }, .defer h)
/-- INT_SCRUB_LAST (R391). -/
def cmdIntScrubLast : Cmd := fun _ l s =>
  let q := field l 0 1
  if 63 < q then (s, rRange)
  else match Tab.get? s.mem.lastPass q with
    | some p => (s, .now 0 p.summary)
    | none => (s, rState)
/-- The channel line index of a bank, row and slot under a map (R339). -/
def unmapLine (map bank row slot : Nat) : Nat :=
  if map = 0 then 15 * (32 * row + bank) + slot
  else 32 * (15 * row + slot) + if map = 2 then bank ^^^ (row % 32) ^^^ (row / 32 % 32) ^^^ (row / 1024 % 32) ^^^ (row / 32768) else bank
/-- An error record as INT_LOG_READ returns it, with EXTENT and OFFSET from the tier map (R392). -/
def State.errBytes (s : State) (e : ErrRec) : List Byte :=
  let li := unmapLine (s.reg .mcChCfgMap e.chan) e.bank e.row (if e.slot = 0xFF then 0 else e.slot)
  let at' := match Tab.get? (s.chan e.chan).frames (li / 512) with
    | some k => (keyExt k, keyPage k * 65536 + li % 512 * 128)
    | none => (0xFFFFF, 0)
  le 8 e.time ++ le 2 e.chan ++ le 1 e.bank ++ le 1 e.slot ++ le 2 e.row ++ le 1 e.kind ++ le 1 e.tag ++ le 1 e.symbols ++ zeros 3
    ++ le 4 at'.1 ++ le 8 at'.2
/-- INT_LOG_READ: the records it returns leave the log (R392, R424). -/
def cmdIntLogRead : Cmd := fun _ l s =>
  let m := field l 0 1
  let n := field l 1 1
  if 3 < m || n < 1 || 127 < n then (s, rRange) else
  let log := Tab.getD s.mem.errLog m []
  let out := log.take n
  (s.onMem fun x => { x with errLog := Tab.set [] x.errLog m (log.drop n) },
   .now 0 (le 1 out.length ++ zeros 3 ++ out.flatMap s.errBytes))

/-! ### The table (R421 to R424, R447, R466, R479, R494, R499) -/

/-- One opcode: its meaning, the length its body takes, and whether a partition mailbox may issue it. -/
structure CmdRow where
  cmd : Cmd
  len : List Byte → Nat
  shared : Bool := false
  ptn : Bool := false                -- body offset 0 is a PTN field

def fixed (n : Nat) : List Byte → Nat := fun _ => n
/-- Commands 0x01xx to 0x04xx. -/
def rowLow (op : Nat) : Option CmdRow :=
  match op with
  | 0x0101 => some { cmd := cmdDevInfo, len := fixed 0, shared := true }
  | 0x0102 => some { cmd := cmdDevReset, len := fixed 1 }
  | 0x0103 => some { cmd := cmdDevFwUpdate, len := fixed 8 }
  | 0x0104 => some { cmd := cmdDevHostDead, len := fixed 3 }
  | 0x0105 => some { cmd := cmdDevPortReset, len := fixed 1 }
  | 0x0106 => some { cmd := cmdDevClusterReset, len := fixed 1 }
  | 0x0201 => some { cmd := cmdPtnInfo, len := fixed 1, shared := true, ptn := true }
  | 0x0202 => some { cmd := cmdPtnReset, len := fixed 1, shared := true, ptn := true }
  | 0x0203 => some { cmd := cmdPtnFault, len := fixed 1, ptn := true }
  | 0x0301 => some { cmd := cmdExtCreate, len := fun b => 16 + 4 * field b 12 1, shared := true, ptn := true }
  | 0x0302 => some { cmd := cmdExtInfo, len := fixed 4, shared := true }
  | 0x0303 => some { cmd := cmdExtSetPolicy, len := fixed 5, shared := true }
  | 0x0304 => some { cmd := cmdExtSetAcl, len := fun b => 8 + 4 * field b 4 1, shared := true }
  | 0x0305 => some { cmd := cmdExtSetDrain, len := fixed 8, shared := true }
  | 0x0306 => some { cmd := cmdExtRevoke, len := fixed 4, shared := true }
  | 0x0307 => some { cmd := cmdExtZero, len := fixed 4, shared := true }
  | 0x0308 => some { cmd := cmdExtInitDone, len := fixed 4, shared := true }
  | 0x0309 => some { cmd := cmdExtDirRead, len := fixed 12, shared := true }
  | 0x0401 => some { cmd := cmdKrnLoad, len := fixed 20, shared := true, ptn := true }
  | 0x0402 => some { cmd := cmdKrnUnload, len := fixed 4, shared := true, ptn := true }
  | 0x0403 => some { cmd := cmdMdlLoad, len := fixed 24, shared := true, ptn := true }
  | 0x0404 => some { cmd := cmdMdlUnload, len := fixed 4, shared := true, ptn := true }
  | 0x0405 => some { cmd := cmdMdlPlace, len := fixed 7, shared := true, ptn := true }
  | 0x0406 => some { cmd := cmdDealConfig, len := fixed 8, shared := true, ptn := true }
  | _ => none
/-- Commands 0x05xx to 0x08xx. -/
def rowMid (op : Nat) : Option CmdRow :=
  match op with
  | 0x0501 => some { cmd := cmdRtIdent, len := fixed 0 }
  | 0x0502 => some { cmd := cmdRtPort, len := fixed 2 }
  | 0x0503 => some { cmd := cmdRtTblWrite, len := fun b => 8 + 4 * field b 4 2 }
  | 0x0504 => some { cmd := cmdRtTblRead, len := fixed 6 }
  | 0x0505 => some { cmd := cmdRtTblClear, len := fixed 0 }
  | 0x0506 => some { cmd := cmdRtDirWrite, len := fixed 4 }
  | 0x0507 => some { cmd := cmdRtSwap, len := fixed 1 }
  | 0x0508 => some { cmd := cmdRtCounters, len := fixed 1 }
  | 0x0509 => some { cmd := cmdSchGroupWrite, len := fun b => 4 + field b 2 2 }
  | 0x050A => some { cmd := cmdSchSlotWrite, len := fixed 1028 }
  | 0x0601 => some { cmd := cmdFlInfo, len := fixed 1 }
  | 0x0701 => some { cmd := cmdIntRemap, len := fixed 6 }
  | 0x0702 => some { cmd := cmdIntScrub, len := fixed 24, shared := true }
  | 0x0703 => some { cmd := cmdIntScrubLast, len := fixed 1, shared := true, ptn := true }
  | 0x0704 => some { cmd := cmdIntLogRead, len := fixed 2 }
  | 0x0801 => some { cmd := cmdPrtInfo, len := fixed 0, shared := true }
  | 0x0802 => some { cmd := cmdPrtDiagRead, len := fixed 1 }
  | 0x0803 => some { cmd := cmdPrtWearRead, len := fixed 4 }
  | 0x0804 => some { cmd := cmdPrtSpareTest, len := fixed 1 }
  | _ => none
/-- Commands 0x09xx to 0x0Fxx. -/
def rowHigh (op : Nat) : Option CmdRow :=
  match op with
  | 0x0901 => some { cmd := cmdSecInfo, len := fixed 0, shared := true }
  | 0x0902 => some { cmd := cmdSecAttest, len := fixed 32, shared := true }
  | 0x0903 => some { cmd := cmdSecPropose, len := fun b => 8 + field b 4 4 }
  | 0x0904 => some { cmd := cmdSecSign, len := fixed 2828 }
  | 0x0905 => some { cmd := cmdSecWithdraw, len := fixed 2828 }
  | 0x0906 => some { cmd := cmdSecPendingRead, len := fixed 0 }
  | 0x0907 => some { cmd := cmdSecCertRead, len := fixed 4 }
  | 0x0A01 => some { cmd := cmdMtrInfo, len := fixed 0, shared := true }
  | 0x0A02 => some { cmd := cmdMtrReport, len := fixed 36, shared := true, ptn := true }
  | 0x0A03 => some { cmd := cmdMtrEvents, len := fixed 8, shared := true }
  | 0x0A04 => some { cmd := cmdMtrCertRead, len := fixed 4, shared := true }
  | 0x0B01 => some { cmd := cmdLkInfo, len := fixed 0 }
  | 0x0B02 => some { cmd := cmdPwrState, len := fixed 1 }
  | 0x0B03 => some { cmd := cmdLkTelemCfg, len := fixed 6 }
  | 0x0B04 => some { cmd := cmdLkTelemRead, len := fixed 0 }
  | 0x0F01 => some { cmd := cmdExpRead, len := fixed 6, shared := true }
  | 0x0F02 => some { cmd := cmdExpWrite, len := fixed 12, shared := true }
  | _ => none
def cmdRow (op : Nat) : Option CmdRow := if op < 0x0500 then rowLow op else if op < 0x0900 then rowMid op else rowHigh op

/-! ### Checks and execution (R414, R416 to R418, R436) -/

/-- Whether a mailbox may issue a command (R417 step 4, R421). -/
def State.mayIssue (s : State) (m : Nat) (r : CmdRow) (body : List Byte) : Bool :=
  decide (m < 2) || match s.boxPtn m with
    | none => false
    | some q => r.shared && (!r.ptn || field body 0 1 == q)
/-- Whether a command is executed at this stage: recovery mode takes five commands, and most families wait for the
tiers (R417 step 5, R421, R436). -/
def State.readyFor (s : State) (op : Nat) : Bool :=
  if s.board.phase == .recovery then [0x0101, 0x0102, 0x0103, 0x0901, 0x0902].contains op
  else s.mounted || [0x01, 0x09, 0x0F].contains (op / 256)
/-- Execute a command that has passed its checks, and answer (R414, R418). The estimates are free values (log 14). -/
def State.execute (s : State) (m op alive reqId : Nat) (r : CmdRow) (body : List Byte) : State :=
  let x := r.cmd m body s
  let s := match x.2 with
    | .now st b => x.1.putResp m false op alive reqId st b
    | .defer obj =>
      if 8 ≤ (s.box m).openCount then s.putResp m false op alive reqId 7 []
      else
        let d := x.1.draw
        let open' : Deferred := { opcode := op, alive := alive, reqId := reqId, obj := obj }
        (d.2.onBox m fun b => { b with deferred := b.deferred ++ [open'] }).putResp
          m false op alive reqId 1 (le 4 d.1)
    | .vaultWait => x.1.onBoard fun b => { b with vaultAsk := b.vaultAsk ++ [(m, s.now)] }
  s.settleAll.clusterResets
/-- The request frame that stands in a mailbox. -/
def State.reqFrame (s : State) (m : Nat) : List Byte := Mem.reads zeroByte (s.box m).req 0 4096
/-- Check a taken frame and execute it (R417). -/
def State.runFrame (s : State) (m : Nat) : State :=
  let l := s.reqFrame m
  let op := field l 0 2
  let len := field l 2 2
  let alive := field l 4 2
  let reqId := field l 8 4
  if 4076 < len then s.putResp m false op alive reqId 5 []
  else
    let s := s.chkFrame 0 (l.take (16 + len))
    if (crc32c (l.take (16 + len))).toNat ≠ field l (16 + len) 4 then
      (s.onChk 0 fun c => { c with crcErrs := wrapAdd 32 c.crcErrs 1 }).putResp m false op alive reqId 3 []
    else
      let expected := ((s.box m).alive).getD 0
      let a := s.checkAlive m alive
      let s := a.1
      if !a.2 then s.putResp m false op alive reqId 2 (le 2 expected)
      else
        let body := slice l 16 len
        match cmdRow op with
        | none => s.putResp m false op alive reqId 5 []
        | some r =>
          if r.len body ≠ len then s.putResp m false op alive reqId 5 []
          else if !(s.mayIssue m r body) then s.putResp m false op alive reqId 4 []
          else if !(s.readyFor op) then
            let d := s.draw
            d.2.putResp m false op alive reqId 14 (le 4 d.1)
          else s.execute m op alive reqId r body
/-- Take a handed-over mailbox, if firmware can, and run its frame (R414 steps 3 to 6, R415). While a command waits for
the vault no other is taken (R37). -/
def State.takeBox (s : State) (m : Nat) : State :=
  let b := s.box m
  if s.service && s.board.vaultAsk.isEmpty && b.hostDone && !b.owner && !b.unread then
    (s.onBox m fun b => { b with owner := true, hostDone := false }).runFrame m
  else s
/-- Run again the command that waited for the vault, once the meter die answers (R500). -/
def State.vaultRetry (s : State) : State :=
  match s.board.vaultAsk with
  | [] => s
  | (m, _) :: rest =>
    if s.mtr.st = 2 then s else
    let s := s.onBoard fun b => { b with vaultAsk := rest }
    let l := s.reqFrame m
    match cmdRow (field l 0 2) with
    | some r => s.execute m (field l 0 2) (field l 4 2) (field l 8 4) r (slice l 16 (field l 2 2))
    | none => s
/-- MAILBOX_POLL: every 2 µs the handed-over mailboxes are taken in ascending order, then waiting completions are
delivered (R408, R414, R419). -/
def execMailboxPoll (s : State) : Host.Outcome State Fault Refusal :=
  if !s.service || !(s.past s.cores.pollAt (2 * usec)) then .next s else
  let s := { s with cores := { s.cores with pollAt := s.now } }
  .next ((s.vaultRetry.each (List.range 64) State.takeBox).each (List.range 64) State.deliver)

/-- Commands that wait for the vault complete with MB_ST_INTERNAL (R408, R500). -/
def State.vaultGone (s : State) : State :=
  let ms := s.board.vaultAsk.map Prod.fst
  (s.onBoard fun b => { b with vaultAsk := [] }).each ms fun s m =>
    let l := s.reqFrame m
    s.putResp m false (field l 0 2) (field l 4 2) (field l 8 4) 15 []
/-- VAULT_WAIT_EXPIRY: 1 s has passed without an answer of the vault: a command completes with MB_ST_INTERNAL, and a
start-up goes on in recovery mode (R500, R503). -/
def execVaultWaitExpiry (s : State) : Host.Outcome State Fault Refusal :=
  if s.board.phase = .stage1 && !s.board.linkOpen then
    .next (if s.past s.board.stageAt oneSec then
        (s.onBoard fun b => { b with linkOpen := true, noMain := true, vidAt := s.now }).each
          ((List.range 18).filter fun n => s.board.kind != 2 && s.reg .glCtrlEnable n == 1) State.linkTrain
      else s)
  else match s.board.vaultAsk with
    | (_, t) :: _ => .next (if s.past t oneSec then s.vaultGone else s)
    | [] => .next s
/-- DUTY_MOVE_COMPLETE: a spare takes the duty over; commands that had not reached their commit point on the failed core
complete with MB_ST_INTERNAL, and polling resumes (R408). -/
def execDutyMoveComplete (s : State) : Host.Outcome State Fault Refusal :=
  match s.cores.moves with
  | [] => .next s
  | m :: rest =>
    let s := { s with cores := { s.cores with duty := s.cores.duty.set m.target m.duty, moves := rest, polling := s.cores.polling || m.duty == 1 } }
    let s := (s.wearOut { kind := 3, unit := m.target, a := m.duty, b := 0 } none).finding 1 m.target m.duty
    .next (if m.duty = 1 then s.vaultGone else s)

/-! ### The commands as rows of the table -/

/-- A request frame (R413). -/
def requestOf (h : MbxHdr) (op : Nat) (body : List Byte) : List Byte :=
  let l := le 2 op ++ le 2 body.length ++ le 2 h.alive.toNat ++ zeros 2 ++ le 4 h.reqId.toNat ++ zeros 4 ++ body
  l ++ le 4 (crc32c l).toNat
/-- A command row: the host writes the frame and hands it over, and firmware takes it at once (R414; log 69). -/
def State.mail (s : State) (h : MbxHdr) (op : Nat) (body : List Byte) : State :=
  ((s.writeReq h.mbx (requestOf h op body)).writeOwn h.mbx 1).takeBox h.mbx
/-- An EXP_WRITE of a word. -/
def State.expWr (s : State) (h : MbxHdr) (addr mask value : Nat) : State := s.mail h 0x0F02 (le 4 addr ++ le 4 mask ++ le 4 value)
/-- The entries of an access-list argument. -/
def aclBytes (l : List AclArg) : List Byte := l.flatMap fun a => le 2 a.ep.toNat ++ le 1 a.rights.toNat ++ zeros 1


end Sys2Proof.Machine
end

