-- ==== Sys2Proof/Machine/Commands.lean ====
section
/-! DEFINITION. One meaning per mailbox command: the frame its operands make, handed over and taken (R413, R414, R423, R424,
R447, R466, R479, R494, R499), and per write of an expert register that is a row of its own. -/
namespace Sys2Proof.Machine

/-- DEV_INFO (R423). -/
def execDevInfo (h : MbxHdr) (s : State) : Host.Outcome State Fault Refusal := .next (s.mail h 0x0101 [])
/-- DEV_RESET (R423, R498). -/
def execDevReset (h : MbxHdr) (kind : BitVec 8) (s : State) : Host.Outcome State Fault Refusal :=
  .next (s.mail h 0x0102 (le 1 kind.toNat))
/-- DEV_FW_UPDATE: the host writes the upload window, and then the command (R409, R410, R423, R437). -/
def execDevFwUpdate (h : MbxHdr) (stage : FwStage) (len : BitVec 32)
    (s : State) : Host.Outcome State Fault Refusal :=
  .next ((s.writeBar2 stage.upload).mail h 0x0103 (le 1 stage.stage.toNat ++ zeros 3 ++ le 4 len.toNat))
/-- DEV_HOST_DEAD (R260, R423). -/
def execDevHostDead (h : MbxHdr) (ep : BitVec 16) (action : BitVec 8)
    (s : State) : Host.Outcome State Fault Refusal :=
  .next (s.mail h 0x0104 (le 2 ep.toNat ++ le 1 action.toNat))
/-- DEV_PORT_RESET (R499). -/
def execDevPortReset (h : MbxHdr) (port : BitVec 8) (s : State) : Host.Outcome State Fault Refusal :=
  .next (s.mail h 0x0105 (le 1 port.toNat))
/-- DEV_CLUSTER_RESET (R499). -/
def execDevClusterReset (h : MbxHdr) (cluster : BitVec 8) (s : State) : Host.Outcome State Fault Refusal :=
  .next (s.mail h 0x0106 (le 1 cluster.toNat))
/-- PTN_INFO (R423). -/
def execPtnInfo (h : MbxHdr) (ptn : BitVec 8) (s : State) : Host.Outcome State Fault Refusal :=
  .next (s.mail h 0x0201 (le 1 ptn.toNat))
/-- PTN_RESET (R404, R405). -/
def execPtnReset (h : MbxHdr) (ptn : BitVec 8) (s : State) : Host.Outcome State Fault Refusal :=
  .next (s.mail h 0x0202 (le 1 ptn.toNat))
/-- PTN_FAULT (R402, R423). -/
def execPtnFault (h : MbxHdr) (ptn : BitVec 8) (s : State) : Host.Outcome State Fault Refusal :=
  .next (s.mail h 0x0203 (le 1 ptn.toNat))
/-- EXT_CREATE (R531). -/
def execExtCreate (h : MbxHdr) (ptn kind policy mirrored : BitVec 8) (length : BitVec 64) (entries : List AclArg)
    (s : State) : Host.Outcome State Fault Refusal :=
  .next (s.mail h 0x0301 (le 1 ptn.toNat ++ le 1 kind.toNat ++ le 1 policy.toNat ++ le 1 mirrored.toNat ++ le 8 length.toNat ++ le 1 entries.length ++ zeros 3 ++ aclBytes entries))
/-- EXT_INFO (R423). -/
def execExtInfo (h : MbxHdr) (handle : BitVec 32) (s : State) : Host.Outcome State Fault Refusal :=
  .next (s.mail h 0x0302 (le 4 handle.toNat))
/-- EXT_SET_POLICY (R373). -/
def execExtSetPolicy (h : MbxHdr) (handle : BitVec 32) (policy : BitVec 8)
    (s : State) : Host.Outcome State Fault Refusal :=
  .next (s.mail h 0x0303 (le 4 handle.toNat ++ le 1 policy.toNat))
/-- EXT_SET_ACL (R244). -/
def execExtSetAcl (h : MbxHdr) (handle : BitVec 32) (entries : List AclArg)
    (s : State) : Host.Outcome State Fault Refusal :=
  .next (s.mail h 0x0304 (le 4 handle.toNat ++ le 1 entries.length ++ zeros 3 ++ aclBytes entries))
/-- EXT_SET_DRAIN (R423). -/
def execExtSetDrain (h : MbxHdr) (handle : BitVec 32) (drainMs : BitVec 32)
    (s : State) : Host.Outcome State Fault Refusal :=
  .next (s.mail h 0x0305 (le 4 handle.toNat ++ le 4 drainMs.toNat))
/-- EXT_REVOKE (R72). -/
def execExtRevoke (h : MbxHdr) (handle : BitVec 32) (s : State) : Host.Outcome State Fault Refusal :=
  .next (s.mail h 0x0306 (le 4 handle.toNat))
/-- EXT_ZERO (R78, R530). -/
def execExtZero (h : MbxHdr) (handle : BitVec 32) (s : State) : Host.Outcome State Fault Refusal :=
  .next (s.mail h 0x0307 (le 4 handle.toNat))
/-- EXT_INIT_DONE (R78). -/
def execExtInitDone (h : MbxHdr) (handle : BitVec 32) (s : State) : Host.Outcome State Fault Refusal :=
  .next (s.mail h 0x0308 (le 4 handle.toNat))
/-- EXT_DIR_READ (R423). -/
def execExtDirRead (h : MbxHdr) (handle : BitVec 32) (offset : BitVec 64)
    (s : State) : Host.Outcome State Fault Refusal :=
  .next (s.mail h 0x0309 (le 4 handle.toNat ++ le 8 offset.toNat))
/-- KRN_LOAD (R196). -/
def execKrnLoad (h : MbxHdr) (ptn : BitVec 8) (ext : BitVec 32) (offset : BitVec 64) (len : BitVec 32)
    (s : State) : Host.Outcome State Fault Refusal :=
  .next (s.mail h 0x0401 (le 1 ptn.toNat ++ zeros 3 ++ le 4 ext.toNat ++ le 8 offset.toNat ++ le 4 len.toNat))
/-- KRN_UNLOAD (R198). -/
def execKrnUnload (h : MbxHdr) (ptn : BitVec 8) (handle : BitVec 16) (s : State) : Host.Outcome State Fault Refusal :=
  .next (s.mail h 0x0402 (le 1 ptn.toNat ++ zeros 1 ++ le 2 handle.toNat))
/-- MDL_LOAD (R221, R223). -/
def execMdlLoad (h : MbxHdr) (ptn : BitVec 8) (ext : BitVec 32) (offset : BitVec 64) (len : BitVec 64)
    (s : State) : Host.Outcome State Fault Refusal :=
  .next (s.mail h 0x0403 (le 1 ptn.toNat ++ zeros 3 ++ le 4 ext.toNat ++ le 8 offset.toNat ++ le 8 len.toNat))
/-- MDL_UNLOAD (R221). -/
def execMdlUnload (h : MbxHdr) (ptn : BitVec 8) (model : BitVec 16) (s : State) : Host.Outcome State Fault Refusal :=
  .next (s.mail h 0x0404 (le 1 ptn.toNat ++ zeros 1 ++ le 2 model.toNat))
/-- MDL_PLACE (R222). -/
def execMdlPlace (h : MbxHdr) (ptn action : BitVec 8) (model expert : BitVec 16) (cluster : BitVec 8)
    (s : State) : Host.Outcome State Fault Refusal :=
  .next (s.mail h 0x0405 (le 1 ptn.toNat ++ le 1 action.toNat ++ le 2 model.toNat ++ le 2 expert.toNat ++ le 1 cluster.toNat))
/-- DEAL_CONFIG (R206). -/
def execDealConfig (h : MbxHdr) (ptn : BitVec 8) (units : BitVec 32) (s : State) : Host.Outcome State Fault Refusal :=
  .next (s.mail h 0x0406 (le 1 ptn.toNat ++ zeros 3 ++ le 4 units.toNat))
/-- RT_IDENT (R304, R424). -/
def execRtIdent (h : MbxHdr) (s : State) : Host.Outcome State Fault Refusal := .next (s.mail h 0x0501 [])
/-- RT_PORT (R304, R405). -/
def execRtPort (h : MbxHdr) (body : List Byte) (s : State) : Host.Outcome State Fault Refusal :=
  .next (s.mail h 0x0502 body)
/-- RT_TBL_WRITE (R289, R304). -/
def execRtTblWrite (h : MbxHdr) (body : List Byte) (s : State) : Host.Outcome State Fault Refusal :=
  .next (s.mail h 0x0503 body)
/-- RT_TBL_READ (R304). -/
def execRtTblRead (h : MbxHdr) (body : List Byte) (s : State) : Host.Outcome State Fault Refusal :=
  .next (s.mail h 0x0504 body)
/-- RT_TBL_CLEAR (R289). -/
def execRtTblClear (h : MbxHdr) (s : State) : Host.Outcome State Fault Refusal := .next (s.mail h 0x0505 [])
/-- RT_DIR_WRITE (R289). -/
def execRtDirWrite (h : MbxHdr) (body : List Byte) (s : State) : Host.Outcome State Fault Refusal :=
  .next (s.mail h 0x0506 body)
/-- RT_SWAP (R300). -/
def execRtSwap (h : MbxHdr) (body : List Byte) (s : State) : Host.Outcome State Fault Refusal :=
  .next (s.mail h 0x0507 body)
/-- RT_COUNTERS (R304). -/
def execRtCounters (h : MbxHdr) (body : List Byte) (s : State) : Host.Outcome State Fault Refusal :=
  .next (s.mail h 0x0508 body)
/-- SCH_GROUP_WRITE (R316). -/
def execSchGroupWrite (h : MbxHdr) (first : BitVec 16) (groups : List Byte)
    (s : State) : Host.Outcome State Fault Refusal :=
  .next (s.mail h 0x0509 (le 2 first.toNat ++ le 2 groups.length ++ groups))
/-- SCH_SLOT_WRITE (R322). -/
def execSchSlotWrite (h : MbxHdr) (port : BitVec 8) (slots : List Byte)
    (s : State) : Host.Outcome State Fault Refusal :=
  .next (s.mail h 0x050A (le 1 port.toNat ++ zeros 3 ++ slots))
/-- FL_INFO (R424). -/
def execFlInfo (h : MbxHdr) (die : BitVec 8) (s : State) : Host.Outcome State Fault Refusal :=
  .next (s.mail h 0x0601 (le 1 die.toNat))
/-- INT_REMAP (R386). -/
def execIntRemap (h : MbxHdr) (channel : BitVec 16) (bank : BitVec 8) (row : BitVec 16)
    (s : State) : Host.Outcome State Fault Refusal :=
  .next (s.mail h 0x0701 (le 2 channel.toNat ++ le 1 bank.toNat ++ zeros 1 ++ le 2 row.toNat))
/-- INT_SCRUB (R390). -/
def execIntScrub (h : MbxHdr) (handle : BitVec 32) (offset length : BitVec 64)
    (s : State) : Host.Outcome State Fault Refusal :=
  .next (s.mail h 0x0702 (le 4 handle.toNat ++ zeros 4 ++ le 8 offset.toNat ++ le 8 length.toNat))
/-- INT_SCRUB_LAST (R391). -/
def execIntScrubLast (h : MbxHdr) (ptn : BitVec 8) (s : State) : Host.Outcome State Fault Refusal :=
  .next (s.mail h 0x0703 (le 1 ptn.toNat))
/-- INT_LOG_READ (R392). -/
def execIntLogRead (h : MbxHdr) (die max : BitVec 8) (s : State) : Host.Outcome State Fault Refusal :=
  .next (s.mail h 0x0704 (le 1 die.toNat ++ le 1 max.toNat))
/-- PRT_INFO (R494). -/
def execPrtInfo (h : MbxHdr) (s : State) : Host.Outcome State Fault Refusal := .next (s.mail h 0x0801 [])
/-- PRT_DIAG_READ (R482, R494). -/
def execPrtDiagRead (h : MbxHdr) (max : BitVec 8) (s : State) : Host.Outcome State Fault Refusal :=
  .next (s.mail h 0x0802 (le 1 max.toNat))
/-- PRT_WEAR_READ (R494). -/
def execPrtWearRead (h : MbxHdr) (first : BitVec 32) (s : State) : Host.Outcome State Fault Refusal :=
  .next (s.mail h 0x0803 (le 4 first.toNat))
/-- PRT_SPARE_TEST (R494). -/
def execPrtSpareTest (h : MbxHdr) (cluster : BitVec 8) (s : State) : Host.Outcome State Fault Refusal :=
  .next (s.mail h 0x0804 (le 1 cluster.toNat))
/-- SEC_INFO (R447). -/
def execSecInfo (h : MbxHdr) (s : State) : Host.Outcome State Fault Refusal := .next (s.mail h 0x0901 [])
/-- SEC_ATTEST (R440). -/
def execSecAttest (h : MbxHdr) (nonce : BitVec 256) (s : State) : Host.Outcome State Fault Refusal :=
  .next (s.mail h 0x0902 (le 32 nonce.toNat))
/-- SEC_PROPOSE (R443). -/
def execSecPropose (h : MbxHdr) (kind : BitVec 8) (body : List Byte) (s : State) : Host.Outcome State Fault Refusal :=
  .next (s.mail h 0x0903 (le 1 kind.toNat ++ zeros 3 ++ le 4 body.length ++ body))
/-- SEC_SIGN (R444). -/
def execSecSign (h : MbxHdr) (id : BitVec 32) (role : BitVec 8) (signature : List Byte)
    (s : State) : Host.Outcome State Fault Refusal :=
  .next (s.mail h 0x0904 (le 4 id.toNat ++ le 1 role.toNat ++ zeros 3 ++ signature))
/-- SEC_WITHDRAW (R445). -/
def execSecWithdraw (h : MbxHdr) (id : BitVec 32) (role : BitVec 8) (signature : List Byte)
    (s : State) : Host.Outcome State Fault Refusal :=
  .next (s.mail h 0x0905 (le 4 id.toNat ++ le 1 role.toNat ++ zeros 3 ++ signature))
/-- SEC_PENDING_READ (R447). -/
def execSecPendingRead (h : MbxHdr) (s : State) : Host.Outcome State Fault Refusal := .next (s.mail h 0x0906 [])
/-- SEC_CERT_READ (R439). -/
def execSecCertRead (h : MbxHdr) (index : BitVec 32) (s : State) : Host.Outcome State Fault Refusal :=
  .next (s.mail h 0x0907 (le 4 index.toNat))
/-- MTR_INFO (R466). -/
def execMtrInfo (h : MbxHdr) (s : State) : Host.Outcome State Fault Refusal := .next (s.mail h 0x0A01 [])
/-- MTR_REPORT (R464). -/
def execMtrReport (h : MbxHdr) (ptn : BitVec 8) (nonce : BitVec 256) (s : State) : Host.Outcome State Fault Refusal :=
  .next (s.mail h 0x0A02 (le 1 ptn.toNat ++ zeros 3 ++ le 32 nonce.toNat))
/-- MTR_EVENTS (R466). -/
def execMtrEvents (h : MbxHdr) (first : BitVec 64) (s : State) : Host.Outcome State Fault Refusal :=
  .next (s.mail h 0x0A03 (le 8 first.toNat))
/-- MTR_CERT_READ (R465). -/
def execMtrCertRead (h : MbxHdr) (index : BitVec 32) (s : State) : Host.Outcome State Fault Refusal :=
  .next (s.mail h 0x0A04 (le 4 index.toNat))
/-- LK_INFO (R479). -/
def execLkInfo (h : MbxHdr) (s : State) : Host.Outcome State Fault Refusal := .next (s.mail h 0x0B01 [])
/-- PWR_STATE (R474 to R476). -/
def execPwrState (h : MbxHdr) (state : BitVec 8) (s : State) : Host.Outcome State Fault Refusal :=
  .next (s.mail h 0x0B02 (le 1 state.toNat))
/-- LK_TELEM_CFG (R477). -/
def execLkTelemCfg (h : MbxHdr) (slot addr reg : BitVec 8) (thresh : BitVec 16)
    (s : State) : Host.Outcome State Fault Refusal :=
  .next (s.mail h 0x0B03 (le 1 slot.toNat ++ le 1 addr.toNat ++ le 1 reg.toNat ++ zeros 1 ++ le 2 thresh.toNat))
/-- LK_TELEM_READ (R479). -/
def execLkTelemRead (h : MbxHdr) (s : State) : Host.Outcome State Fault Refusal := .next (s.mail h 0x0B04 [])
/-- EXP_READ (R426). -/
def execExpRead (h : MbxHdr) (addr : BitVec 32) (count : BitVec 16) (s : State) : Host.Outcome State Fault Refusal :=
  .next (s.mail h 0x0F01 (le 4 addr.toNat ++ le 2 count.toNat))
/-- EXP_WRITE (R427). -/
def execExpWrite (h : MbxHdr) (addr mask value : BitVec 32) (s : State) : Host.Outcome State Fault Refusal :=
  .next (s.expWr h addr.toNat mask.toNat value.toNat)
/-- PORT_ENABLE: GL_CTRL.ENABLE of a port is written 1 (R532). -/
def execPortEnable (h : MbxHdr) (n : Port) (s : State) : Host.Outcome State Fault Refusal :=
  .next (s.expWr h (0x02000000 + 0x10000 * n.val) 1 1)
/-- PORT_DISABLE: GL_CTRL.ENABLE of a port is written 0 (R532). -/
def execPortDisable (h : MbxHdr) (n : Port) (s : State) : Host.Outcome State Fault Refusal :=
  .next (s.expWr h (0x02000000 + 0x10000 * n.val) 1 0)
/-- The word that holds a shaper's clear bit, by level (port, subscriber, service queue), and the bit. -/
def bucketClear (n level idx : Nat) : Nat × Nat :=
  match level with
  | 0 => (0x04010008 + 0x10000 * n, 1)
  | 1 => (0x04012008 + 0x10000 * n + 0x20 * (idx % 512), 0x100)
  | _ => (0x04018008 + 0x10000 * n + 0x10 * idx, 0x100)
/-- SCH_BUCKET_CLEAR (R319). -/
def execSchBucketClear (h : MbxHdr) (n : Port) (level : Fin 3) (idx : Fin 2048) (s : State) : Host.Outcome State Fault Refusal :=
  let w := bucketClear n level idx
  .next (s.expWr h w.1 w.2 w.2)
/-- SCH_HIST_SEL (R324). -/
def execSchHistSel (h : MbxHdr) (n : Port) (v : BitVec 32) (s : State) : Host.Outcome State Fault Refusal :=
  .next (s.expWr h (0x04010100 + 0x10000 * n.val) 0xFFFFFFFF v.toNat)
/-- POLICER_PARAM_WRITE: registers 0 to 4 are CFG, CIR, PIR, CBS and PBS (R314, R326). -/
def execPolicerParamWrite (h : MbxHdr) (pol : Fin 256) (reg : Fin 5) (v : BitVec 32) (s : State) : Host.Outcome State Fault Refusal :=
  .next (s.expWr h (0x04000000 + 0x40 * pol.val + 4 * reg.val) 0xFFFFFFFF v.toNat)
/-- ARB_FREEZE (R399). -/
def execArbFreeze (h : MbxHdr) (s : State) : Host.Outcome State Fault Refusal :=
  .next (s.expWr h 0x01000008 1 1)
/-- ARB_UNFREEZE (R400). -/
def execArbUnfreeze (h : MbxHdr) (s : State) : Host.Outcome State Fault Refusal :=
  .next (s.expWr h 0x01000008 1 0)
/-- ARB_CLEAR (R401). -/
def execArbClear (h : MbxHdr) (s : State) : Host.Outcome State Fault Refusal :=
  .next (s.expWr h 0x0100001C 1 1)
/-- ARB_TRUMP_LIMIT (R398). -/
def execArbTrumpLimit (h : MbxHdr) (v : BitVec 8) (s : State) : Host.Outcome State Fault Refusal :=
  .next (s.expWr h 0x01000000 0xFF v.toNat)
/-- ROUTE_EN (R292). -/
def execRouteEn (h : MbxHdr) (v : Bool) (s : State) : Host.Outcome State Fault Refusal :=
  .next (s.expWr h 0x03000000 1 (b2n v))
/-- RT_FREEZE (R299). -/
def execRtFreeze (h : MbxHdr) (v : BitVec 19) (s : State) : Host.Outcome State Fault Refusal :=
  .next (s.expWr h 0x03000018 0x7FFFF v.toNat)
/-- MC_CH_CFG_MAP_WRITE (R340). -/
def execMcChCfgMapWrite (h : MbxHdr) (c : Chan) (map : BitVec 2) (s : State) : Host.Outcome State Fault Refusal :=
  .next (s.expWr h (0x06000000 + 0x100000 * (c.val / 32) + 0x1000 * (c.val % 32)) 3 map.toNat)

end Sys2Proof.Machine
end

