-- ==== Sys2Proof/Machine/Dispatch.lean ====
section
/-! DEFINITION. The meaning of each command: one arm per constructor, one call of its meaning. -/
namespace Sys2Proof.Machine

/-- The effect of a command on the state. -/
def exec (i : Instr) (s : State) : Host.Outcome State Fault Refusal :=
  match i with
  | .get n vc p => Sys2Proof.Machine.execGet n vc p s
  | .put n vc p => Sys2Proof.Machine.execPut n vc p s
  | .putSparse n vc p => Sys2Proof.Machine.execPutSparse n vc p s
  | .zero n vc p => Sys2Proof.Machine.execZero n vc p s
  | .publish n vc p => Sys2Proof.Machine.execPublish n vc p s
  | .publishCompare src tag => Sys2Proof.Machine.execPublishCompare src tag s
  | .readVersion n vc p => Sys2Proof.Machine.execReadVersion n vc p s
  | .flush n vc p => Sys2Proof.Machine.execFlush n vc p s
  | .persist n vc p => Sys2Proof.Machine.execPersist n vc p s
  | .checkoutS n vc p => Sys2Proof.Machine.execCheckoutS n vc p s
  | .checkoutX n vc p => Sys2Proof.Machine.execCheckoutX n vc p s
  | .returnLine n vc p => Sys2Proof.Machine.execReturnLine n vc p s
  | .writeInv n vc p => Sys2Proof.Machine.execWriteInv n vc p s
  | .atomic n vc p => Sys2Proof.Machine.execAtomic n vc p s
  | .recallAck n vc p => Sys2Proof.Machine.execRecallAck n vc p s
  | .invoke n vc p => Sys2Proof.Machine.execInvoke n vc p s
  | .invokeData n vc p => Sys2Proof.Machine.execInvokeData n vc p s
  | .mgmt n vc p => Sys2Proof.Machine.execMgmt n vc p s
  | .mIdent => Sys2Proof.Machine.execMIdent s
  | .mPort => Sys2Proof.Machine.execMPort s
  | .mTblWrite => Sys2Proof.Machine.execMTblWrite s
  | .mTblRead => Sys2Proof.Machine.execMTblRead s
  | .mTblClear => Sys2Proof.Machine.execMTblClear s
  | .mDirWrite => Sys2Proof.Machine.execMDirWrite s
  | .mSwap => Sys2Proof.Machine.execMSwap s
  | .mCounters => Sys2Proof.Machine.execMCounters s
  | .transitForward n vc p => Sys2Proof.Machine.execTransitForward n vc p s
  | .waitingPacketRoute tb vc => Sys2Proof.Machine.execWaitingPacketRoute tb vc s
  | .hello n vc p => Sys2Proof.Machine.execHello n vc p s
  | .heartbeat n vc p => Sys2Proof.Machine.execHeartbeat n vc p s
  | .writeFrame n vc p => Sys2Proof.Machine.execWriteFrame n vc p s
  | .versionFrame n vc p => Sys2Proof.Machine.execVersionFrame n vc p s
  | .extentFrame n vc p => Sys2Proof.Machine.execExtentFrame n vc p s
  | .dirFrame n vc p => Sys2Proof.Machine.execDirFrame n vc p s
  | .ackFrame n vc p => Sys2Proof.Machine.execAckFrame n vc p s
  | .yieldFrame n vc p => Sys2Proof.Machine.execYieldFrame n vc p s
  | .resyncPage n vc p => Sys2Proof.Machine.execResyncPage n vc p s
  | .resyncDone n vc p => Sys2Proof.Machine.execResyncDone n vc p s
  | .mirrorResendTimer mseq => Sys2Proof.Machine.execMirrorResendTimer mseq s
  | .partnerHelloTimer => Sys2Proof.Machine.execPartnerHelloTimer s
  | .partnerSilence => Sys2Proof.Machine.execPartnerSilence s
  | .yieldStart => Sys2Proof.Machine.execYieldStart s
  | .yieldAckWaitEnd => Sys2Proof.Machine.execYieldAckWaitEnd s
  | .takeoverComplete => Sys2Proof.Machine.execTakeoverComplete s
  | .flitGroupReceive n slots tr fec => Sys2Proof.Machine.execFlitGroupReceive n slots tr fec s
  | .flitGroupSend n => Sys2Proof.Machine.execFlitGroupSend n s
  | .swapReq n arg => Sys2Proof.Machine.execSwapReq n arg s
  | .swapGo n arg => Sys2Proof.Machine.execSwapGo n arg s
  | .swapComplete n => Sys2Proof.Machine.execSwapComplete n s
  | .swapTimeout n => Sys2Proof.Machine.execSwapTimeout n s
  | .lpiReq n => Sys2Proof.Machine.execLpiReq n s
  | .lpiAck n => Sys2Proof.Machine.execLpiAck n s
  | .lpiReqLapse n => Sys2Proof.Machine.execLpiReqLapse n s
  | .lpIdleExitDone n => Sys2Proof.Machine.execLpIdleExitDone n s
  | .retrainReq n => Sys2Proof.Machine.execRetrainReq n s
  | .peerId n arg => Sys2Proof.Machine.execPeerId n arg s
  | .epochLo n arg => Sys2Proof.Machine.execEpochLo n arg s
  | .epochHi n arg => Sys2Proof.Machine.execEpochHi n arg s
  | .nextExp n arg => Sys2Proof.Machine.execNextExp n arg s
  | .bufVc n vc arg => Sys2Proof.Machine.execBufVc n vc arg s
  | .paramDone n => Sys2Proof.Machine.execParamDone n s
  | .replayTimerExpiry n => Sys2Proof.Machine.execReplayTimerExpiry n s
  | .replayLimitReached n => Sys2Proof.Machine.execReplayLimitReached n s
  | .alignmentLoss n => Sys2Proof.Machine.execAlignmentLoss n s
  | .trainingComplete n => Sys2Proof.Machine.execTrainingComplete n s
  | .trainingTimeout n => Sys2Proof.Machine.execTrainingTimeout n s
  | .laneSymbolWindowEnd n => Sys2Proof.Machine.execLaneSymbolWindowEnd n s
  | .portEnable h n => Sys2Proof.Machine.execPortEnable h n s
  | .portDisable h n => Sys2Proof.Machine.execPortDisable h n s
  | .portShutdownEnd n => Sys2Proof.Machine.execPortShutdownEnd n s
  | .egressPick n => Sys2Proof.Machine.execEgressPick n s
  | .slotTableWrap n => Sys2Proof.Machine.execSlotTableWrap n s
  | .queueSample => Sys2Proof.Machine.execQueueSample s
  | .schBucketClear h n level idx => Sys2Proof.Machine.execSchBucketClear h n level idx s
  | .schHistSel h n v => Sys2Proof.Machine.execSchHistSel h n v s
  | .policerParamWrite h pol reg v => Sys2Proof.Machine.execPolicerParamWrite h pol reg v s
  | .arbiterGrant cls inst asserting eligible => Sys2Proof.Machine.execArbiterGrant cls inst asserting eligible s
  | .arbFreeze h => Sys2Proof.Machine.execArbFreeze h s
  | .arbUnfreeze h => Sys2Proof.Machine.execArbUnfreeze h s
  | .arbClear h => Sys2Proof.Machine.execArbClear h s
  | .arbTrumpLimit h v => Sys2Proof.Machine.execArbTrumpLimit h v s
  | .routeEn h v => Sys2Proof.Machine.execRouteEn h v s
  | .rtFreeze h v => Sys2Proof.Machine.execRtFreeze h v s
  | .rtDrainComplete => Sys2Proof.Machine.execRtDrainComplete s
  | .rtDrainLimitExpiry => Sys2Proof.Machine.execRtDrainLimitExpiry s
  | .rtResyncDone => Sys2Proof.Machine.execRtResyncDone s
  | .channelAdmit c => Sys2Proof.Machine.execChannelAdmit c s
  | .act c b => Sys2Proof.Machine.execAct c b s
  | .pre c b => Sys2Proof.Machine.execPre c b s
  | .idleCloseExpiry c b => Sys2Proof.Machine.execIdleCloseExpiry c b s
  | .hbmColumnRead c b row slot errs => Sys2Proof.Machine.execHbmColumnRead c b row slot errs s
  | .hbmColumnWrite c b => Sys2Proof.Machine.execHbmColumnWrite c b s
  | .refreshDue c => Sys2Proof.Machine.execRefreshDue c s
  | .refreshWindowEnd k => Sys2Proof.Machine.execRefreshWindowEnd k s
  | .throttleHoldEnd c tag => Sys2Proof.Machine.execThrottleHoldEnd c tag s
  | .powerDownEntry c => Sys2Proof.Machine.execPowerDownEntry c s
  | .stackTempRead k temp => Sys2Proof.Machine.execStackTempRead k temp s
  | .zqCalibration k pc => Sys2Proof.Machine.execZqCalibration k pc s
  | .retraining c ok => Sys2Proof.Machine.execRetraining c ok s
  | .hbmBootTrainingDone failed => Sys2Proof.Machine.execHbmBootTrainingDone failed s
  | .remapCopyDone c => Sys2Proof.Machine.execRemapCopyDone c s
  | .promotionDone ext page => Sys2Proof.Machine.execPromotionDone ext page s
  | .destageStart ext page => Sys2Proof.Machine.execDestageStart ext page s
  | .destageAgeExpiry ext page => Sys2Proof.Machine.execDestageAgeExpiry ext page s
  | .destageProgramDone ext page => Sys2Proof.Machine.execDestageProgramDone ext page s
  | .flashProgramFail f erase => Sys2Proof.Machine.execFlashProgramFail f erase s
  | .flashOpStart f => Sys2Proof.Machine.execFlashOpStart f s
  | .flashReadRetry f cw tries ok => Sys2Proof.Machine.execFlashReadRetry f cw tries ok s
  | .journalCommitTimer m => Sys2Proof.Machine.execJournalCommitTimer m s
  | .journalCommitDone m => Sys2Proof.Machine.execJournalCommitDone m s
  | .checkpoint m => Sys2Proof.Machine.execCheckpoint m s
  | .garbageCollection m => Sys2Proof.Machine.execGarbageCollection m s
  | .journalReplayDone m => Sys2Proof.Machine.execJournalReplayDone m s
  | .scrubPassStart q => Sys2Proof.Machine.execScrubPassStart q s
  | .scrubWalkRead q c => Sys2Proof.Machine.execScrubWalkRead q c s
  | .scrubDemandRead ext => Sys2Proof.Machine.execScrubDemandRead ext s
  | .homeTimeout ext line => Sys2Proof.Machine.execHomeTimeout ext line s
  | .drainLimitExpiry ext => Sys2Proof.Machine.execDrainLimitExpiry ext s
  | .revokeComplete ext => Sys2Proof.Machine.execRevokeComplete ext s
  | .sanitationDone ext => Sys2Proof.Machine.execSanitationDone ext s
  | .handleHoldExpiry ext => Sys2Proof.Machine.execHandleHoldExpiry ext s
  | .deadHostScanDone sl ep => Sys2Proof.Machine.execDeadHostScanDone sl ep s
  | .workItemDeal q => Sys2Proof.Machine.execWorkItemDeal q s
  | .basketDeadline k => Sys2Proof.Machine.execBasketDeadline k s
  | .basketDeal q => Sys2Proof.Machine.execBasketDeal q s
  | .basketStart g => Sys2Proof.Machine.execBasketStart g s
  | .expertPromotionDone q model expert => Sys2Proof.Machine.execExpertPromotionDone q model expert s
  | .invocationTimeLimit k => Sys2Proof.Machine.execInvocationTimeLimit k s
  | .collectiveTimeLimit k => Sys2Proof.Machine.execCollectiveTimeLimit k s
  | .invocationFaultStop g t => Sys2Proof.Machine.execInvocationFaultStop g t s
  | .clearingEnd g => Sys2Proof.Machine.execClearingEnd g s
  | .tilePreparationDone g => Sys2Proof.Machine.execTilePreparationDone g s
  | .streamComplete g t e => Sys2Proof.Machine.execStreamComplete g t e s
  | .barrierRelease g all => Sys2Proof.Machine.execBarrierRelease g all s
  | .fma g t w => Sys2Proof.Machine.execFma g t w s
  | .fadd g t w => Sys2Proof.Machine.execFadd g t w s
  | .fmul g t w => Sys2Proof.Machine.execFmul g t w s
  | .fmax g t w => Sys2Proof.Machine.execFmax g t w s
  | .fmin g t w => Sys2Proof.Machine.execFmin g t w s
  | .fcmp g t w => Sys2Proof.Machine.execFcmp g t w s
  | .cvtw g t w => Sys2Proof.Machine.execCvtw g t w s
  | .cvtn g t w => Sys2Proof.Machine.execCvtn g t w s
  | .ftoi g t w => Sys2Proof.Machine.execFtoi g t w s
  | .itof g t w => Sys2Proof.Machine.execItof g t w s
  | .iadd g t w => Sys2Proof.Machine.execIadd g t w s
  | .isub g t w => Sys2Proof.Machine.execIsub g t w s
  | .imul g t w => Sys2Proof.Machine.execImul g t w s
  | .and g t w => Sys2Proof.Machine.execAnd g t w s
  | .or g t w => Sys2Proof.Machine.execOr g t w s
  | .xor g t w => Sys2Proof.Machine.execXor g t w s
  | .shl g t w => Sys2Proof.Machine.execShl g t w s
  | .shr g t w => Sys2Proof.Machine.execShr g t w s
  | .sar g t w => Sys2Proof.Machine.execSar g t w s
  | .imax g t w => Sys2Proof.Machine.execImax g t w s
  | .imin g t w => Sys2Proof.Machine.execImin g t w s
  | .icmp g t w => Sys2Proof.Machine.execIcmp g t w s
  | .sel g t w => Sys2Proof.Machine.execSel g t w s
  | .mov g t w => Sys2Proof.Machine.execMov g t w s
  | .vld g t w => Sys2Proof.Machine.execVld g t w s
  | .vst g t w => Sys2Proof.Machine.execVst g t w s
  | .sld g t w => Sys2Proof.Machine.execSld g t w s
  | .sst g t w => Sys2Proof.Machine.execSst g t w s
  | .exp g t w => Sys2Proof.Machine.execExp g t w s
  | .log g t w => Sys2Proof.Machine.execLog g t w s
  | .rcp g t w => Sys2Proof.Machine.execRcp g t w s
  | .rsqrt g t w => Sys2Proof.Machine.execRsqrt g t w s
  | .tanh g t w => Sys2Proof.Machine.execTanh g t w s
  | .gelu g t w => Sys2Proof.Machine.execGelu g t w s
  | .psumi g t w => Sys2Proof.Machine.execPsumi g t w s
  | .psumx g t w => Sys2Proof.Machine.execPsumx g t w s
  | .compact g t w => Sys2Proof.Machine.execCompact g t w s
  | .rsumi g t w => Sys2Proof.Machine.execRsumi g t w s
  | .rmaxf g t w => Sys2Proof.Machine.execRmaxf g t w s
  | .rminf g t w => Sys2Proof.Machine.execRminf g t w s
  | .rcnt g t w => Sys2Proof.Machine.execRcnt g t w s
  | .rany g t w => Sys2Proof.Machine.execRany g t w s
  | .rall g t w => Sys2Proof.Machine.execRall g t w s
  | .topkF32 g t w => Sys2Proof.Machine.execTopkF32 g t w s
  | .topkBf16 g t w => Sys2Proof.Machine.execTopkBf16 g t w s
  | .wld g t w => Sys2Proof.Machine.execWld g t w s
  | .run g t w => Sys2Proof.Machine.execRun g t w s
  | .wclr g t w => Sys2Proof.Machine.execWclr g t w s
  | .wrnd g t w => Sys2Proof.Machine.execWrnd g t w s
  | .wspill g t w => Sys2Proof.Machine.execWspill g t w s
  | .wrest g t w => Sys2Proof.Machine.execWrest g t w s
  | .setfmt g t w => Sys2Proof.Machine.execSetfmt g t w s
  | .addw g t w => Sys2Proof.Machine.execAddw g t w s
  | .addvf g t w => Sys2Proof.Machine.execAddvf g t w s
  | .addvi g t w => Sys2Proof.Machine.execAddvi g t w s
  | .rdraw g t w => Sys2Proof.Machine.execRdraw g t w s
  | .rdrnd g t w => Sys2Proof.Machine.execRdrnd g t w s
  | .scoreClr g t w => Sys2Proof.Machine.execScoreClr g t w s
  | .scoreLd g t w => Sys2Proof.Machine.execScoreLd g t w s
  | .streamStart g t w => Sys2Proof.Machine.execStreamStart g t w s
  | .streamWait g t w => Sys2Proof.Machine.execStreamWait g t w s
  | .br g t w => Sys2Proof.Machine.execBr g t w s
  | .loop g t w => Sys2Proof.Machine.execLoop g t w s
  | .halt g t w => Sys2Proof.Machine.execHalt g t w s
  | .bar g t w => Sys2Proof.Machine.execBar g t w s
  | .raise g t w => Sys2Proof.Machine.execRaise g t w s
  | .lookoutSample => Sys2Proof.Machine.execLookoutSample s
  | .lookoutDecision => Sys2Proof.Machine.execLookoutDecision s
  | .resourceWakeDone r => Sys2Proof.Machine.execResourceWakeDone r s
  | .sensorRead temps => Sys2Proof.Machine.execSensorRead temps s
  | .throttleEval => Sys2Proof.Machine.execThrottleEval s
  | .tripRelease => Sys2Proof.Machine.execTripRelease s
  | .telemetryRead vals => Sys2Proof.Machine.execTelemetryRead vals s
  | .railWaitExpiry => Sys2Proof.Machine.execRailWaitExpiry s
  | .counterFrame l frame => Sys2Proof.Machine.execCounterFrame l frame s
  | .meterDeltaSend l q qty => Sys2Proof.Machine.execMeterDeltaSend l q qty s
  | .meterSnapshot => Sys2Proof.Machine.execMeterSnapshot s
  | .meterLinkSilence l => Sys2Proof.Machine.execMeterLinkSilence l s
  | .meterStart => Sys2Proof.Machine.execMeterStart s
  | .meterSignDone => Sys2Proof.Machine.execMeterSignDone s
  | .mailboxPoll => Sys2Proof.Machine.execMailboxPoll s
  | .mbxHandOver m frame word => Sys2Proof.Machine.execMbxHandOver m frame word s
  | .unreadAck m => Sys2Proof.Machine.execUnreadAck m s
  | .coreFailure c => Sys2Proof.Machine.execCoreFailure c s
  | .watchdog duty => Sys2Proof.Machine.execWatchdog duty s
  | .tileSelfTest g bad => Sys2Proof.Machine.execTileSelfTest g bad s
  | .parityError q cause => Sys2Proof.Machine.execParityError q cause s
  | .clusterHang g => Sys2Proof.Machine.execClusterHang g s
  | .ptnResetDone q => Sys2Proof.Machine.execPtnResetDone q s
  | .agreementWindowExpiry id => Sys2Proof.Machine.execAgreementWindowExpiry id s
  | .debugUnlockExpiry => Sys2Proof.Machine.execDebugUnlockExpiry s
  | .resetStart => Sys2Proof.Machine.execResetStart s
  | .porstN low strap => Sys2Proof.Machine.execPorstN low strap s
  | .warmN low => Sys2Proof.Machine.execWarmN low s
  | .porstVN low => Sys2Proof.Machine.execPorstVN low s
  | .wakeN => Sys2Proof.Machine.execWakeN s
  | .powerLoss => Sys2Proof.Machine.execPowerLoss s
  | .refclkLoss which => Sys2Proof.Machine.execRefclkLoss which s
  | .vaultWaitExpiry => Sys2Proof.Machine.execVaultWaitExpiry s
  | .mbxReady => Sys2Proof.Machine.execMbxReady s
  | .devInfo h => Sys2Proof.Machine.execDevInfo h s
  | .devReset h kind => Sys2Proof.Machine.execDevReset h kind s
  | .devFwUpdate h stage len => Sys2Proof.Machine.execDevFwUpdate h stage len s
  | .devHostDead h ep action => Sys2Proof.Machine.execDevHostDead h ep action s
  | .devPortReset h port => Sys2Proof.Machine.execDevPortReset h port s
  | .devClusterReset h cluster => Sys2Proof.Machine.execDevClusterReset h cluster s
  | .ptnInfo h ptn => Sys2Proof.Machine.execPtnInfo h ptn s
  | .ptnReset h ptn => Sys2Proof.Machine.execPtnReset h ptn s
  | .ptnFault h ptn => Sys2Proof.Machine.execPtnFault h ptn s
  | .extCreate h ptn kind policy mirrored length entries => Sys2Proof.Machine.execExtCreate h ptn kind policy mirrored length entries s
  | .extInfo h handle => Sys2Proof.Machine.execExtInfo h handle s
  | .extSetPolicy h handle policy => Sys2Proof.Machine.execExtSetPolicy h handle policy s
  | .extSetAcl h handle entries => Sys2Proof.Machine.execExtSetAcl h handle entries s
  | .extSetDrain h handle drainMs => Sys2Proof.Machine.execExtSetDrain h handle drainMs s
  | .extRevoke h handle => Sys2Proof.Machine.execExtRevoke h handle s
  | .extZero h handle => Sys2Proof.Machine.execExtZero h handle s
  | .extInitDone h handle => Sys2Proof.Machine.execExtInitDone h handle s
  | .extDirRead h handle offset => Sys2Proof.Machine.execExtDirRead h handle offset s
  | .krnLoad h ptn ext offset len => Sys2Proof.Machine.execKrnLoad h ptn ext offset len s
  | .krnUnload h ptn handle => Sys2Proof.Machine.execKrnUnload h ptn handle s
  | .mdlLoad h ptn ext offset len => Sys2Proof.Machine.execMdlLoad h ptn ext offset len s
  | .mdlUnload h ptn model => Sys2Proof.Machine.execMdlUnload h ptn model s
  | .mdlPlace h ptn action model expert cluster => Sys2Proof.Machine.execMdlPlace h ptn action model expert cluster s
  | .dealConfig h ptn units => Sys2Proof.Machine.execDealConfig h ptn units s
  | .rtIdent h => Sys2Proof.Machine.execRtIdent h s
  | .rtPort h body => Sys2Proof.Machine.execRtPort h body s
  | .rtTblWrite h body => Sys2Proof.Machine.execRtTblWrite h body s
  | .rtTblRead h body => Sys2Proof.Machine.execRtTblRead h body s
  | .rtTblClear h => Sys2Proof.Machine.execRtTblClear h s
  | .rtDirWrite h body => Sys2Proof.Machine.execRtDirWrite h body s
  | .rtSwap h body => Sys2Proof.Machine.execRtSwap h body s
  | .rtCounters h body => Sys2Proof.Machine.execRtCounters h body s
  | .schGroupWrite h first groups => Sys2Proof.Machine.execSchGroupWrite h first groups s
  | .schSlotWrite h port slots => Sys2Proof.Machine.execSchSlotWrite h port slots s
  | .flInfo h die => Sys2Proof.Machine.execFlInfo h die s
  | .intRemap h channel bank row => Sys2Proof.Machine.execIntRemap h channel bank row s
  | .intScrub h handle offset length => Sys2Proof.Machine.execIntScrub h handle offset length s
  | .intScrubLast h ptn => Sys2Proof.Machine.execIntScrubLast h ptn s
  | .intLogRead h die max => Sys2Proof.Machine.execIntLogRead h die max s
  | .prtInfo h => Sys2Proof.Machine.execPrtInfo h s
  | .prtDiagRead h max => Sys2Proof.Machine.execPrtDiagRead h max s
  | .prtWearRead h first => Sys2Proof.Machine.execPrtWearRead h first s
  | .prtSpareTest h cluster => Sys2Proof.Machine.execPrtSpareTest h cluster s
  | .secInfo h => Sys2Proof.Machine.execSecInfo h s
  | .secAttest h nonce => Sys2Proof.Machine.execSecAttest h nonce s
  | .secPropose h kind body => Sys2Proof.Machine.execSecPropose h kind body s
  | .secSign h id role signature => Sys2Proof.Machine.execSecSign h id role signature s
  | .secWithdraw h id role signature => Sys2Proof.Machine.execSecWithdraw h id role signature s
  | .secPendingRead h => Sys2Proof.Machine.execSecPendingRead h s
  | .secCertRead h index => Sys2Proof.Machine.execSecCertRead h index s
  | .mtrInfo h => Sys2Proof.Machine.execMtrInfo h s
  | .mtrReport h ptn nonce => Sys2Proof.Machine.execMtrReport h ptn nonce s
  | .mtrEvents h first => Sys2Proof.Machine.execMtrEvents h first s
  | .mtrCertRead h index => Sys2Proof.Machine.execMtrCertRead h index s
  | .lkInfo h => Sys2Proof.Machine.execLkInfo h s
  | .pwrState h state => Sys2Proof.Machine.execPwrState h state s
  | .lkTelemCfg h slot addr reg thresh => Sys2Proof.Machine.execLkTelemCfg h slot addr reg thresh s
  | .lkTelemRead h => Sys2Proof.Machine.execLkTelemRead h s
  | .expRead h addr count => Sys2Proof.Machine.execExpRead h addr count s
  | .expWrite h addr mask value => Sys2Proof.Machine.execExpWrite h addr mask value s
  | .mcChCfgMapWrite h c map => Sys2Proof.Machine.execMcChCfgMapWrite h c map s
  | .chkInit c => Sys2Proof.Machine.execChkInit c s
  | .chkAliveClr c => Sys2Proof.Machine.execChkAliveClr c s
  | .chkData8 c v => Sys2Proof.Machine.execChkData8 c v s
  | .chkData16 c v => Sys2Proof.Machine.execChkData16 c v s
  | .chkData32 c v => Sys2Proof.Machine.execChkData32 c v s
  | .chkValueWrite c v => Sys2Proof.Machine.execChkValueWrite c v s
  | .chkAliveIn c v => Sys2Proof.Machine.execChkAliveIn c v s
  | .stage1Verified selfTest => Sys2Proof.Machine.execStage1Verified selfTest s
  | .mainFirmwareVerified => Sys2Proof.Machine.execMainFirmwareVerified s
  | .flashBusTrainingDone m present rejected groups kitty => Sys2Proof.Machine.execFlashBusTrainingDone m present rejected groups kitty s
  | .vddcVidStep => Sys2Proof.Machine.execVddcVidStep s
  | .dutyMoveComplete => Sys2Proof.Machine.execDutyMoveComplete s
  | .wearRecordCommit => Sys2Proof.Machine.execWearRecordCommit s
  | .firmwareImageWritten => Sys2Proof.Machine.execFirmwareImageWritten s
  | .flashEraseDone f => Sys2Proof.Machine.execFlashEraseDone f s
  | .dormantDrainExpiry => Sys2Proof.Machine.execDormantDrainExpiry s
  | .pcieConfigWrite busMaster msix d3 mask => Sys2Proof.Machine.execPcieConfigWrite busMaster msix d3 mask s
  | .dbgAccess => Sys2Proof.Machine.execDbgAccess s
  | .malformedPacketArrival n vc p => Sys2Proof.Machine.execMalformedPacketArrival n vc p s

end Sys2Proof.Machine
end

