-- ==== Sys2Proof/WellFormed.lean ====
section
/-! DEFINITION. Which commands are well formed: the limits the manual sets on operands whose type is wider than the thing
they name. A command that is not well formed is no event of the device. -/
namespace Sys2Proof

/-- No element appears twice. -/
def noRepeat : List Nat → Bool
  | [] => true
  | a :: l => !l.contains a && noRepeat l

/-- A packet's payload travels in whole 64 B flits (R86). -/
def Packet.whole (p : Packet) : Bool := p.payload.length % 64 == 0

/-- The limits, by command: whole payload flits (R86); 4,096 slot bytes and five physical lanes (R267, R283); requesters
named once, the eligible ones among those that assert (R395); a row of a bank and each symbol named once (R327, R377);
384 channels (R20); 64 sensors (R471); 16 telemetry slots (R477); mailbox areas of 4,096 B with at most 4,076 body bytes
(R409, R413); 64 access-list entries (R54); a group list that fits a body (R316); a slot image of 1,024 bytes (R322); a
signature of 2,820 bytes (R444); eight flash channels to an M die (R353). -/
def Instr.wellFormed (i : Instr) : Bool :=
  match i with
  | .get _ _ p | .put _ _ p | .putSparse _ _ p | .zero _ _ p | .publish _ _ p | .readVersion _ _ p | .flush _ _ p |
    .persist _ _ p | .checkoutS _ _ p | .checkoutX _ _ p | .returnLine _ _ p | .writeInv _ _ p | .atomic _ _ p |
    .recallAck _ _ p | .invoke _ _ p | .invokeData _ _ p | .mgmt _ _ p | .transitForward _ _ p | .hello _ _ p |
    .heartbeat _ _ p | .writeFrame _ _ p | .versionFrame _ _ p | .extentFrame _ _ p | .dirFrame _ _ p |
    .ackFrame _ _ p | .yieldFrame _ _ p | .resyncPage _ _ p | .resyncDone _ _ p | .malformedPacketArrival _ _ p => p.whole
  | .flitGroupReceive _ slots _ fec =>
    slots.length == 4096 && decide (fec.lanes.length ≤ 5)
  | .arbiterGrant _ _ asserting eligible =>
    noRepeat asserting && eligible.all asserting.contains
  | .hbmColumnRead _ _ row _ errs =>
    decide (row.toNat < 49156) && noRepeat (errs.map fun e => e.1.val)
  | .hbmBootTrainingDone failed =>
    failed.all fun c => decide (c < 384)
  | .sensorRead temps =>
    temps.length == 64
  | .telemetryRead vals =>
    decide (vals.length ≤ 16)
  | .mbxHandOver _ frame _ =>
    decide (frame.frame.length ≤ 4096)
  | .devFwUpdate _ stage _ =>
    decide (stage.upload.length ≤ 67108864)
  | .extCreate _ _ _ _ _ _ entries | .extSetAcl _ _ entries =>
    decide (entries.length ≤ 64)
  | .schGroupWrite _ _ groups =>
    decide (groups.length ≤ 4072)
  | .schSlotWrite _ _ slots =>
    slots.length == 1024
  | .secPropose _ _ body =>
    decide (body.length ≤ 4068)
  | .flashBusTrainingDone _ present rejected groups kitty =>
    present.length == 8 && rejected.length == 8 && groups.length == 256 && kitty.length == 256
  | .flashReadRetry _ _ tries ok =>
    if ok then decide (tries.val ≤ 7) || tries.val == 10 else tries.val == 10
  | .rtPort _ body | .rtTblWrite _ body | .rtTblRead _ body | .rtDirWrite _ body | .rtSwap _ body | .rtCounters _ body =>
    decide (body.length ≤ 4076)
  | .secSign _ _ _ signature | .secWithdraw _ _ _ signature =>
    signature.length == 2820
  | .publishCompare .. | .mIdent | .mPort | .mTblWrite | .mTblRead | .mTblClear | .mDirWrite | .mSwap | .mCounters |
    .waitingPacketRoute .. | .mirrorResendTimer .. | .partnerHelloTimer | .partnerSilence | .yieldStart |
    .yieldAckWaitEnd | .takeoverComplete | .flitGroupSend .. | .swapReq .. | .swapGo .. | .swapComplete .. |
    .swapTimeout .. | .lpiReq .. | .lpiAck .. | .lpiReqLapse .. | .lpIdleExitDone .. | .retrainReq .. | .peerId .. |
    .epochLo .. | .epochHi .. | .nextExp .. | .bufVc .. | .paramDone .. | .replayTimerExpiry .. |
    .replayLimitReached .. | .alignmentLoss .. | .trainingComplete .. | .trainingTimeout .. |
    .laneSymbolWindowEnd .. | .portEnable .. | .portDisable .. | .portShutdownEnd .. | .egressPick .. |
    .slotTableWrap .. | .queueSample | .schBucketClear .. | .schHistSel .. | .policerParamWrite .. | .arbFreeze .. |
    .arbUnfreeze .. | .arbClear .. | .arbTrumpLimit .. | .routeEn .. | .rtFreeze .. | .rtDrainComplete |
    .rtDrainLimitExpiry | .rtResyncDone | .channelAdmit .. | .act .. | .pre .. | .idleCloseExpiry .. |
    .hbmColumnWrite .. | .refreshDue .. | .refreshWindowEnd .. | .throttleHoldEnd .. | .powerDownEntry .. |
    .stackTempRead .. | .zqCalibration .. | .retraining .. | .remapCopyDone .. | .promotionDone .. |
    .destageStart .. | .destageAgeExpiry .. | .destageProgramDone .. | .flashProgramFail .. | .flashOpStart .. |
    .journalCommitTimer .. | .journalCommitDone .. | .checkpoint .. | .garbageCollection .. |
    .journalReplayDone .. | .scrubPassStart .. | .scrubWalkRead .. | .scrubDemandRead .. | .homeTimeout .. |
    .drainLimitExpiry .. | .revokeComplete .. | .sanitationDone .. | .handleHoldExpiry .. | .deadHostScanDone .. |
    .workItemDeal .. | .basketDeadline .. | .basketDeal .. | .basketStart .. | .expertPromotionDone .. |
    .invocationTimeLimit .. | .collectiveTimeLimit .. | .invocationFaultStop .. | .clearingEnd .. |
    .tilePreparationDone .. | .streamComplete .. | .barrierRelease .. | .fma .. | .fadd .. | .fmul .. | .fmax .. |
    .fmin .. | .fcmp .. | .cvtw .. | .cvtn .. | .ftoi .. | .itof .. | .iadd .. | .isub .. | .imul .. | .and .. |
    .or .. | .xor .. | .shl .. | .shr .. | .sar .. | .imax .. | .imin .. | .icmp .. | .sel .. | .mov .. | .vld .. |
    .vst .. | .sld .. | .sst .. | .exp .. | .log .. | .rcp .. | .rsqrt .. | .tanh .. | .gelu .. | .psumi .. |
    .psumx .. | .compact .. | .rsumi .. | .rmaxf .. | .rminf .. | .rcnt .. | .rany .. | .rall .. | .topkF32 .. |
    .topkBf16 .. | .wld .. | .run .. | .wclr .. | .wrnd .. | .wspill .. | .wrest .. | .setfmt .. | .addw .. |
    .addvf .. | .addvi .. | .rdraw .. | .rdrnd .. | .scoreClr .. | .scoreLd .. | .streamStart .. | .streamWait .. |
    .br .. | .loop .. | .halt .. | .bar .. | .raise .. | .lookoutSample | .lookoutDecision | .resourceWakeDone .. |
    .throttleEval | .tripRelease | .railWaitExpiry | .counterFrame .. | .meterDeltaSend .. | .meterSnapshot |
    .meterLinkSilence .. | .meterStart | .meterSignDone | .mailboxPoll | .unreadAck .. | .coreFailure .. |
    .watchdog .. | .tileSelfTest .. | .parityError .. | .clusterHang .. | .ptnResetDone .. |
    .agreementWindowExpiry .. | .debugUnlockExpiry | .resetStart | .porstN .. | .warmN .. | .porstVN .. | .wakeN |
    .powerLoss | .refclkLoss .. | .vaultWaitExpiry | .mbxReady | .devInfo .. | .devReset .. |
    .devHostDead .. | .devPortReset .. | .devClusterReset .. | .ptnInfo .. | .ptnReset .. | .ptnFault .. |
    .extInfo .. | .extSetPolicy .. | .extSetDrain .. | .extRevoke .. | .extZero .. | .extInitDone .. |
    .extDirRead .. | .krnLoad .. | .krnUnload .. | .mdlLoad .. | .mdlUnload .. | .mdlPlace .. | .dealConfig .. |
    .rtIdent .. | .rtTblClear .. | .flInfo .. | .intRemap .. | .intScrub .. | .intScrubLast .. | .intLogRead .. |
    .prtInfo .. | .prtDiagRead .. | .prtWearRead .. | .prtSpareTest .. | .secInfo .. | .secAttest .. |
    .secPendingRead .. | .secCertRead .. | .mtrInfo .. | .mtrReport .. | .mtrEvents .. | .mtrCertRead .. |
    .lkInfo .. | .pwrState .. | .lkTelemCfg .. | .lkTelemRead .. | .expRead .. | .expWrite .. | .mcChCfgMapWrite .. |
    .chkInit .. | .chkAliveClr .. | .chkData8 .. | .chkData16 .. | .chkData32 .. | .chkValueWrite .. |
    .chkAliveIn .. | .stage1Verified .. | .mainFirmwareVerified | .vddcVidStep | .dutyMoveComplete |
    .wearRecordCommit | .firmwareImageWritten | .flashEraseDone .. | .dormantDrainExpiry | .pcieConfigWrite .. |
    .dbgAccess => true

end Sys2Proof
end

