-- ==== Sys2Proof/Safety.lean ====
section
/-! DEFINITION. The terms claims are stated in: safe runs, what a command leaves alone, when a tile issues a word and what it
then does, when a mailbox takes a command and what it answers. -/
namespace Sys2Proof.Machine

/-- A state from which `n` steps all answer a next state. -/
def State.runs : Nat → State → Prop
  | 0, _ => True
  | n + 1, s => ∃ t, step s = .next t ∧ State.runs n t

/-! ### Tiles -/

/-- The rows that issue a tile instruction word, with their CLASS and FUNC (R164, R170 to R179). -/
def tileRows : List ((Clu → Til → TileWord → Instr) × Nat × Nat) :=
  [(.fma, 2, 0x00), (.fadd, 2, 0x01), (.fmul, 2, 0x02), (.fmax, 2, 0x03), (.fmin, 2, 0x04), (.fcmp, 2, 0x05), (.cvtw, 2, 0x06),
   (.cvtn, 2, 0x07), (.ftoi, 2, 0x08), (.itof, 2, 0x09), (.iadd, 2, 0x10), (.isub, 2, 0x11), (.imul, 2, 0x12), (.and, 2, 0x13),
   (.or, 2, 0x14), (.xor, 2, 0x15), (.shl, 2, 0x16), (.shr, 2, 0x17), (.sar, 2, 0x18), (.imax, 2, 0x19), (.imin, 2, 0x1A),
   (.icmp, 2, 0x1B), (.sel, 2, 0x1C), (.mov, 2, 0x1D), (.vld, 2, 0x20), (.vst, 2, 0x21), (.sld, 2, 0x22), (.sst, 2, 0x23)] ++
  [(.exp, 3, 0), (.log, 3, 1), (.rcp, 3, 2), (.rsqrt, 3, 3), (.tanh, 3, 4), (.gelu, 3, 5), (.psumi, 6, 0), (.psumx, 6, 1),
   (.compact, 6, 2), (.rsumi, 6, 3), (.rmaxf, 6, 4), (.rminf, 6, 5), (.rcnt, 6, 6), (.rany, 6, 7), (.rall, 6, 8),
   (.topkF32, 4, 0), (.topkBf16, 4, 1)] ++
  [(.wld, 1, 0), (.run, 1, 1), (.wclr, 1, 2), (.wrnd, 1, 3), (.wspill, 1, 4), (.wrest, 1, 5), (.setfmt, 1, 6), (.addw, 5, 0),
   (.addvf, 5, 1), (.addvi, 5, 2), (.rdraw, 5, 3), (.rdrnd, 5, 4), (.scoreClr, 5, 5), (.scoreLd, 5, 6), (.streamStart, 0, 0),
   (.streamWait, 0, 1), (.br, 7, 0), (.loop, 7, 1), (.halt, 7, 2), (.bar, 8, 0), (.raise, 9, 0)]

/-- Logical tile `t` of cluster `g` runs, waits for nothing, and the word is legal, its operands are in range and its guard
holds (R165, R167, R168, R191). -/
def TileReady (s : State) (g : Clu) (t : Til) (cls func : Nat) (w : TileWord) : Prop :=
  (s.comp.tile g t).st = .running ∧ (s.comp.tile g t).wait = .none ∧ legalWord cls func w = true ∧
  (s.comp.tile g t).guard w = true ∧ formOk cls func w = true

/-- Nothing but tiles, clusters, the counters on their way to the meter and Lookout's lead events differs (the model's own
counter of free values apart). -/
def OnlyCompute (s u : State) : Prop := { u with comp := s.comp, free := s.free, send := s.send, lk := s.lk } = s

/-- The command answers a next state in which the tile is `y` and its cluster `z`, and every other tile and cluster is as
before. -/
def TileBecomes (i : Instr) (s : State) (g : Clu) (t : Til) (y : Tile) (z : Cluster) : Prop :=
  ∃ u, exec i s = .next u ∧ u.comp = (s.comp.setClu g z).setTile g t y ∧ OnlyCompute s u

/-- A ready tile does `y` to itself and `z` to its cluster, and steps to the next word. -/
def TileDoes (i : Instr) (cls func : Nat) (s : State) (g : Clu) (t : Til) (w : TileWord) (y : Tile) (z : Cluster) : Prop :=
  TileReady s g t cls func w → TileBecomes i s g t y.next z

/-- A ready tile stops with a tile fault, whose report waits for the dealer (R190). -/
def TileFaults (i : Instr) (cls func : Nat) (s : State) (g : Clu) (t : Til) (w : TileWord) (f : TileFault) : Prop :=
  TileReady s g t cls func w → ∃ u, exec i s = .next u ∧ OnlyCompute s u ∧
    u.tile (s.comp.key g t) =
      { (s.comp.tile g t).faulted (wordOf cls func w) f with report := some f, faultAt := s.now }

/-! ### Mailboxes -/

/-- The state in which firmware runs the body of a command row: the frame stands in the request area, the mailbox is taken,
the frame has been fed to the check-value unit, and its ALIVE count accepted (R414 to R416). -/
def State.taken (s : State) (h : MbxHdr) (op : Nat) (body : List Byte) : State :=
  let m := h.mbx.val
  let s := (s.writeReq m (requestOf h op body)).writeOwn m 1
  let s := s.onBox m fun b => { b with owner := true, hostDone := false }
  ((s.chkFrame 0 ((requestOf h op body).take (16 + body.length))).checkAlive m h.alive.toNat).1

/-- Firmware polls; the host owns the mailbox, which is ready and holds no unread completion; and nothing else waits on the
vault (R37, R409, R414, R415). -/
def MailOpen (s : State) (m : Nat) : Prop :=
  s.service = true ∧ s.board.vaultAsk = [] ∧ s.pcie.d3 = false ∧ (s.box m).ready = true ∧ (s.box m).owner = false ∧
  (s.box m).unread = false ∧ Mem.wf zeroByte (s.box m).req = true

/-- A frame that firmware takes and executes: its ALIVE count is the expected one, its body has the length the command takes,
the mailbox may issue it, and the device is ready for it (R416, R417, R421). -/
def MailReady (s : State) (h : MbxHdr) (op : Nat) (body : List Byte) : Prop :=
  MailOpen s h.mbx ∧ ((s.box h.mbx).alive = none ∨ (s.box h.mbx).alive = some h.alive.toNat) ∧ body.length ≤ 4076 ∧
  (∃ r, cmdRow op = some r ∧ r.len body = body.length ∧ s.mayIssue h.mbx r body = true) ∧ s.readyFor op = true

/-- What follows a command's effect: the requests and resets it set free go on (R417, R418). -/
def State.after (s : State) : State := s.settleAll.clusterResets

/-- The command row `c` takes effect `u` and is answered with a final status and a body in the response area (R414, R418). -/
def Answers (c : Instr) (s : State) (h : MbxHdr) (op : Nat) (body : List Byte) (u : State) (status : Nat)
    (reply : List Byte) : Prop :=
  MailReady s h op body →
    exec c s = .next (u.putResp h.mbx false op h.alive.toNat h.reqId.toNat status reply).after

/-- The command row `c` takes effect `u` and is answered MB_ST_DEFERRED; its completion waits for object `obj`. The reply's
estimate is a free value (R418). -/
def Defers (c : Instr) (s : State) (h : MbxHdr) (op : Nat) (body : List Byte) (u : State) (obj : Nat) : Prop :=
  MailReady s h op body → (s.box h.mbx).openCount < 8 →
    let d : Deferred := { opcode := op, alive := h.alive.toNat, reqId := h.reqId.toNat, obj := obj }
    exec c s = .next (((u.draw.2.onBox h.mbx fun b => { b with deferred := b.deferred ++ [d] }).putResp h.mbx false op
      h.alive.toNat h.reqId.toNat 1 (le 4 u.draw.1)).after)

/-! ### Packets -/

/-- The state once a packet for the device has left its receive buffer, and its credit is given back (R23, R276). -/
def State.received (s : State) (n : Port) (vc : Fin 5) (p : Packet) : State :=
  ((s.takeRx n vc p).lead (44 + n)).freeCredit n vc p.flits
/-- The state once it has passed its source's duplicate filter as well (R104). -/
def State.fresh (s : State) (n : Port) (vc : Fin 5) (p : Packet) : State := ((s.received n vc p).filter 0 p).2
/-- A packet for the device's own endpoint ID arrives whole and well-formed at a device in service, its VC's buffer holds it, and
its sequence number is new (R23, R104, R107, R276, R502). -/
def Arrives (s : State) (n : Port) (vc : Fin 5) (p : Packet) : Prop :=
  s.overrun n vc p = false ∧ p.dst.toNat = s.ownId ∧ s.board.phase = .ready ∧ p.e2eCrc = p.crcOf ∧ p.formOk vc = true ∧
  ((s.received n vc p).filter 0 p).1 = .fresh

/-- The state in which an extent request of one packet is served: policed green, counted, and accepted (R23 cases 5 to 8). -/
def State.granted (s : State) (n : Port) (vc : Fin 5) (p : Packet) : State :=
  let c := (s.fresh n vc p).police (4 * p.q + p.svc) p.colour (chargeOf p)
  (c.2.passed6 n p).accepted p.ext
/-- An extent request of one packet that arrives, begins a transfer, is coloured green and passes every check. -/
def Granted (s : State) (n : Port) (vc : Fin 5) (p : Packet) : Prop :=
  let u := s.fresh n vc p
  let c := u.police (4 * p.q + p.svc) p.colour (chargeOf p)
  Arrives s n vc p ∧ p.rsp = false ∧ p.pktCount.toNat = 1 ∧ u.trick p = none ∧ u.lk.state ≠ 2 ∧ c.1 = 0 ∧ c.2.check6 p = none

/-- The state in which a whole mirror frame is acted on: its check value is fed, and the partner has been heard (R488). -/
def State.framed (s : State) (n : Port) (vc : Fin 5) (p : Packet) (f : List Byte) : State :=
  ((s.fresh n vc p).chkFrame 3 (f.take 24 ++ f.drop 32)).onPrt fun x => { x with heard := s.now }
/-- A mirror frame of a partner that has not been silent arrives, whole and with its check value right: a request that matches no
open transfer, or the response to an open frame (R101, R107, R487, R488). -/
def Framed (s : State) (n : Port) (vc : Fin 5) (p : Packet) (g : Pairing) (f : List Byte) : Prop :=
  Arrives s n vc p ∧ (p.rsp = false → (s.fresh n vc p).trick p = none) ∧
  (p.rsp = true → Tab.get? (s.fresh n vc p).prt.openTags p.tg = some p.reqSeq0.toNat) ∧
  (s.fresh n vc p).sec.pset.pairing = some g ∧ frameIn p = some f ∧
  (crc32c (f.take 24 ++ f.drop 32)).toNat = field f 24 4 ∧ (s.fresh n vc p).prt.silent = false

end Sys2Proof.Machine
end

