-- ==== Sys2Proof/Certificates/Slice0/Obligations.lean ====
section
/-! DEFINITION. The statements about the device that are to be proved. -/
set_option linter.unusedVariables false
open Sys2Proof Sys2Proof.Machine

/-! ### The queue, reset and whole-device invariants -/

/-- The command at the front of the queue runs on the state that holds the rest of the queue. -/
def Obligations.StepRunsTheFront : Prop :=
  ∀ (c : Instr) (q : List Instr) (s : State), step { s with pending := c :: q } = exec c { s with pending := q }

/-- After a power-on reset the queue is empty, the mask ROM runs, no partition is in use, no mailbox is ready, HBM lists
nothing and is in canonical form, and registers stand at the values their tables give. An empty queue lets one KCLK period pass,
which is the model's own choice. The epochs of the ports are a free value (R281).
Model choices: log 11, 147. -/
def Obligations.ResetState : Prop :=
  State.reset.pending = [] ∧ State.reset.board.phase = .rom ∧ State.reset.exts = [] ∧ State.reset.mem.dram = [] ∧
  Mem.wf dramByte State.reset.mem.dram = true ∧ (∀ q, (State.reset.ptn q).st = .unused) ∧
  (∀ m, (State.reset.box m).ready = false) ∧ (∀ r i, State.reset.reg r i = r.resetAt i) ∧
  (∀ x ∈ [(Reg.dealCfgTarget, 384), (.dealDeadline, 200), (.dealTlimit, 100000), (.dirPtnTimeout, 10000), (.glCtrlEnable, 1),
      (.glReplayTimer, 40), (.glReplayLimit, 8), (.glLaneThresh, 16384), (.rtCtrlRouteEn, 0), (.rtDrainLimit, 1000),
      (.rtTransitSub, 511), (.polCbs, 1048576), (.polPbs, 4194304), (.polCongFlits, 1536), (.schPortBurst, 8448),
      (.schWinGuard, 64), (.schMirrorSub, 510), (.schSubCfgWeight, 1), (.mcChCfgMap, 2), (.mcChCfgRefMode, 1),
      (.mcChCfgIdleClose, 16), (.mcRhThresh, 1024), (.mcRhFloor, 4), (.mcStkZqPeriod, 256), (.mcStkRetrainPeriod, 1000),
      (.flPtnDirtyHigh, 50), (.flPtnDirtyLow, 25), (.flPtnDestageAge, 1000), (.flDieJrnlCommitUs, 100),
      (.eccChRepeatWindow, 86400), (.scbPtnPeriod, 24), (.arbTrumpLimit, 32), (.lkThrotStart, 100), (.lkThrotHyst, 3)],
    ∀ i, State.reset.reg x.1 i = x.2) ∧
  ∀ s : State, s.pending = [] → step s = .next s.tick ∧ s.tick.now = s.now + 50 ∧ s.tick.pending = []

/-- No command passes time or touches the queue: a step takes exactly the command at its front (R3; the device's time passes in
steps on an empty queue, log 11).
Model choices: log 11. -/
def Obligations.StepConsumesTheQueue : Prop :=
  (∀ (c : Instr) (s t : State), exec c s = .next t → t.pending = s.pending ∧ t.now = s.now) ∧
  ∀ s t : State, step s = .next t → t.pending = s.pending.drop 1

/-- Every step keeps the HBM arrays in canonical form: addresses rise strictly and no listed byte equals what its address reads
as unlisted (R76, R327).
Model choices: log 7. -/
def Obligations.MemoryStaysCanonical : Prop :=
  ∀ s t : State, Mem.wf dramByte s.mem.dram = true → step s = .next t → Mem.wf dramByte t.mem.dram = true

/-! ### Tiles -/

/-- Floating-point functions of class VEC, lane by lane. CVTW widens packed 16-bit elements exactly and CVTN narrows to them,
unfilled lanes of its last register 0; a format other than FP16 and BF16 raises FORMAT (R169, R170).
Model choices: log 31, 32. -/
def Obligations.FloatFunctions : Prop :=
  (∀ (s : State) (g : Clu) (t : Til) (w : TileWord),
    let x := s.comp.tile g t
    let c := s.comp.clu g
    let a := x.lanes (vA w) (vN w)
    let b := vecB x w
    TileDoes (.fadd g t w) 2 0x01 s g t w (x.setLanes (vD w) (List.zipWith fadd a b)) c ∧
    TileDoes (.fmul g t w) 2 0x02 s g t w (x.setLanes (vD w) (List.zipWith fmul a b)) c ∧
    TileDoes (.fmax g t w) 2 0x03 s g t w (x.setLanes (vD w) (List.zipWith fmax a b)) c ∧
    TileDoes (.fmin g t w) 2 0x04 s g t w (x.setLanes (vD w) (List.zipWith fmin a b)) c ∧
    TileDoes (.fma g t w) 2 0x00 s g t w (x.setLanes (vD w) (zip3 fma a b (x.lanes (vC w) (vN w)))) c ∧
    TileDoes (.sel g t w) 2 0x1C s g t w
      (x.setLanes (vD w) (zip3 (fun p q r => if r = 0#32 then q else p) a b (x.lanes (vC w) (vN w)))) c ∧
    TileDoes (.ftoi g t w) 2 0x08 s g t w (x.setLanes (vD w) (a.map ftoi)) c ∧
    TileDoes (.itof g t w) 2 0x09 s g t w (x.setLanes (vD w) (a.map itof)) c ∧
    (vC w ≤ 5 → TileDoes (.fcmp g t w) 2 0x05 s g t w
      (x.setLanes (vD w) (List.zipWith (fun p q => if fcond (vC w) p q then 0xFFFFFFFF#32 else 0#32) a b)) c) ∧
    (5 < vC w → TileFaults (.fcmp g t w) 2 0x05 s g t w { code := 0x03 })) ∧
  (∀ (s : State) (g : Clu) (t : Til) (w : TileWord),
    let x := s.comp.tile g t
    let c := s.comp.clu g
    let half (j : Nat) : Nat := (x.lane (vA w) (j / 2)).toNat / 65536 ^ (j % 2) % 65536
    let nar (f : Fmt) (j : Nat) : Nat := if j < vN w then cvtn f (x.lane (vA w) j) else 0
    (∀ f : Fmt, (vC w = 0x10 ∨ vC w = 0x11) → fmtOf (vC w) = some f →
      TileDoes (.cvtw g t w) 2 0x06 s g t w
        (x.setLanes (vD w) ((List.range (vN w)).map fun j => cvtw f (half j))) c ∧
      TileDoes (.cvtn g t w) 2 0x07 s g t w
        (x.setLanes (vD w) ((List.range (64 * ((vN w + 127) / 128))).map fun j =>
          BitVec.ofNat 32 (nar f (2 * j) + 65536 * nar f (2 * j + 1)))) c) ∧
    (vC w ≠ 0x10 → vC w ≠ 0x11 →
      TileFaults (.cvtw g t w) 2 0x06 s g t w { code := 0x02, fmt := vC w } ∧
      TileFaults (.cvtn g t w) 2 0x07 s g t w { code := 0x02, fmt := vC w }))

/-- Integer functions of class VEC. In vector form each lane is taken modulo 2^32, shift counts from bits [5:0] of B; in scalar
form sources are taken modulo 2^64, with IMM as operand B where BSEL is set and a predicate as ICMP's destination (R163, R169,
R170).
Model choices: log 37. -/
def Obligations.IntegerFunctions : Prop :=
  (∀ (s : State) (g : Clu) (t : Til) (w : TileWord), vVL w ≠ 3 →
    let x := s.comp.tile g t
    let c := s.comp.clu g
    let a := x.lanes (vA w) (vN w)
    let b := vecB x w
    let put (f : BitVec 32 → BitVec 32 → BitVec 32) : Tile := x.setLanes (vD w) (List.zipWith f a b)
    TileDoes (.iadd g t w) 2 0x10 s g t w (put (· + ·)) c ∧
    TileDoes (.isub g t w) 2 0x11 s g t w (put (· - ·)) c ∧
    TileDoes (.imul g t w) 2 0x12 s g t w (put (· * ·)) c ∧
    TileDoes (.and g t w) 2 0x13 s g t w (put (· &&& ·)) c ∧
    TileDoes (.or g t w) 2 0x14 s g t w (put (· ||| ·)) c ∧
    TileDoes (.xor g t w) 2 0x15 s g t w (put (· ^^^ ·)) c ∧
    TileDoes (.shl g t w) 2 0x16 s g t w (put fun p q => p <<< (q.toNat % 64)) c ∧
    TileDoes (.shr g t w) 2 0x17 s g t w (put fun p q => p >>> (q.toNat % 64)) c ∧
    TileDoes (.sar g t w) 2 0x18 s g t w (put fun p q => p.sshiftRight (q.toNat % 64)) c ∧
    TileDoes (.imax g t w) 2 0x19 s g t w (put fun p q => if p.toInt < q.toInt then q else p) c ∧
    TileDoes (.imin g t w) 2 0x1A s g t w (put fun p q => if q.toInt < p.toInt then q else p) c ∧
    TileDoes (.mov g t w) 2 0x1D s g t w (x.setLanes (vD w) (if vBsel w then b else a)) c ∧
    (vC w ≤ 5 → TileDoes (.icmp g t w) 2 0x1B s g t w
      (put fun p q => if icond 32 (vC w) p.toNat q.toNat then 0xFFFFFFFF#32 else 0#32) c)) ∧
  (∀ (s : State) (g : Clu) (t : Til) (w : TileWord), vVL w = 3 →
    let x := s.comp.tile g t
    let c := s.comp.clu g
    let a := x.src (vA w)
    let b := if vBsel w then BitVec.ofInt 64 (vImm w) else x.src (vB w)
    TileDoes (.iadd g t w) 2 0x10 s g t w (x.dst (vD w) (a + b)) c ∧
    TileDoes (.isub g t w) 2 0x11 s g t w (x.dst (vD w) (a - b)) c ∧
    TileDoes (.imul g t w) 2 0x12 s g t w (x.dst (vD w) (a * b)) c ∧
    TileDoes (.and g t w) 2 0x13 s g t w (x.dst (vD w) (a &&& b)) c ∧
    TileDoes (.or g t w) 2 0x14 s g t w (x.dst (vD w) (a ||| b)) c ∧
    TileDoes (.xor g t w) 2 0x15 s g t w (x.dst (vD w) (a ^^^ b)) c ∧
    TileDoes (.shl g t w) 2 0x16 s g t w (x.dst (vD w) (a <<< (b.toNat % 64))) c ∧
    TileDoes (.shr g t w) 2 0x17 s g t w (x.dst (vD w) (a >>> (b.toNat % 64))) c ∧
    TileDoes (.sar g t w) 2 0x18 s g t w (x.dst (vD w) (a.sshiftRight (b.toNat % 64))) c ∧
    TileDoes (.imax g t w) 2 0x19 s g t w (x.dst (vD w) (if a.toInt < b.toInt then b else a)) c ∧
    TileDoes (.imin g t w) 2 0x1A s g t w (x.dst (vD w) (if b.toInt < a.toInt then b else a)) c ∧
    TileDoes (.mov g t w) 2 0x1D s g t w (x.dst (vD w) (if vBsel w then b else a)) c ∧
    (vC w ≤ 5 → TileDoes (.icmp g t w) 2 0x1B s g t w
      (x.setP (vD w - 40) (icond 64 (vC w) a.toNat b.toNat)) c) ∧
    (5 < vC w → TileFaults (.icmp g t w) 2 0x1B s g t w { code := 0x03 }))

/-- Address registers hold 32 bits, p0 reads 1 and discards writes, and a scalar register reads back what was written
(R161, R163). -/
def Obligations.RegisterFiles : Prop :=
  ∀ (x : Tile) (v : BitVec 64), Tab.wf x.s = true → Tab.wf x.a = true →
    (∀ i, i < 32 → (x.dst i v).src i = v) ∧
    (∀ i, 32 ≤ i → i < 40 → (x.dst i v).src i = (v.setWidth 32).setWidth 64) ∧
    (∀ i, 40 < i → i < 48 → (x.dst i v).src i = if v.getLsbD 0 then 1#64 else 0#64) ∧
    x.dst 40 v = x ∧ x.src 40 = 1#64

/-- The functions of the special-function unit, lane by lane; scans and reductions of class SCAN: lane j of a prefix sum is the
sum of the lanes up to j, or before it; the reductions write a scalar register or a predicate (R125, R171, R172).
Model choices: log 30, 38. -/
def Obligations.SpecialFunctionsAndScans : Prop :=
  (∀ (s : State) (g : Clu) (t : Til) (w : TileWord),
    let x := s.comp.tile g t
    let c := s.comp.clu g
    let put (f : SfuFn) : Tile := x.setLanes (vD w) ((x.lanes (vA w) (vN w)).map (sfu f))
    TileDoes (.exp g t w) 3 0 s g t w (put .exp) c ∧ TileDoes (.log g t w) 3 1 s g t w (put .log) c ∧
    TileDoes (.rcp g t w) 3 2 s g t w (put .rcp) c ∧ TileDoes (.rsqrt g t w) 3 3 s g t w (put .rsqrt) c ∧
    TileDoes (.tanh g t w) 3 4 s g t w (put .tanh) c ∧ TileDoes (.gelu g t w) 3 5 s g t w (put .gelu) c) ∧
  (∀ (s : State) (g : Clu) (t : Til) (w : TileWord),
    let x := s.comp.tile g t
    let c := s.comp.clu g
    let a := x.lanes (vA w) (vN w)
    let kept := ((a.zip (x.lanes (vC w) (vN w))).filter fun p => p.2 ≠ 0#32).map Prod.fst
    let ones := (a.filter fun v => v ≠ 0#32).length
    let old := (x.sreg (vD w)) &&& 0xFFFFFFFF00000000#64
    TileDoes (.psumi g t w) 6 0 s g t w
      (x.setLanes (vD w) ((List.range (vN w)).map fun j => (a.take (j + 1)).foldl (· + ·) 0#32)) c ∧
    TileDoes (.psumx g t w) 6 1 s g t w
      (x.setLanes (vD w) ((List.range (vN w)).map fun j => (a.take j).foldl (· + ·) 0#32)) c ∧
    TileDoes (.compact g t w) 6 2 s g t w
      ((x.setLanes (vD w) (kept ++ List.replicate (vN w - kept.length) 0#32)).setS (vSB w) (BitVec.ofNat 64 kept.length)) c ∧
    TileDoes (.rsumi g t w) 6 3 s g t w (x.setS (vD w) (BitVec.ofInt 64 ((a.map BitVec.toInt).sum))) c ∧
    TileDoes (.rmaxf g t w) 6 4 s g t w
      (x.setS (vD w) (old ||| ((a.drop 1).foldl fmax ((a.head?).getD 0#32)).setWidth 64)) c ∧
    TileDoes (.rminf g t w) 6 5 s g t w
      (x.setS (vD w) (old ||| ((a.drop 1).foldl fmin ((a.head?).getD 0#32)).setWidth 64)) c ∧
    TileDoes (.rcnt g t w) 6 6 s g t w (x.setS (vD w) (BitVec.ofNat 64 ones)) c ∧
    TileDoes (.rany g t w) 6 7 s g t w (x.setP (vD w - 40) (decide (∃ v ∈ a, v ≠ 0#32))) c ∧
    TileDoes (.rall g t w) 6 8 s g t w (x.setP (vD w - 40) (decide (∀ v ∈ a, v ≠ 0#32))) c)

/-- Vector and scalar loads and stores: an address off its boundary raises MISALIGN; else bytes of tile memory move to or
from registers, or the fault of R181 is raised (R161, R170, R181). -/
def Obligations.TileLoadsAndStores : Prop :=
  ∀ (s : State) (g : Clu) (t : Til) (w : TileWord),
    let x := s.comp.tile g t
    let c := s.comp.clu g
    let av := memAddr x w 64
    let as := memAddr x w 8
    (av % 64 ≠ 0 → TileFaults (.vld g t w) 2 0x20 s g t w { code := 0x07, addr := av } ∧
      TileFaults (.vst g t w) 2 0x21 s g t w { code := 0x07, addr := av }) ∧
    (as % 8 ≠ 0 → TileFaults (.sld g t w) 2 0x22 s g t w { code := 0x07, addr := as } ∧
      TileFaults (.sst g t w) 2 0x23 s g t w { code := 0x07, addr := as }) ∧
    (av % 64 = 0 → (∀ l, tread x c av (4 * vN w) = .ok l →
        TileDoes (.vld g t w) 2 0x20 s g t w (x.setLanes (vD w) (bytesLanes l)) c) ∧
      (∀ y z, twrite x c av (laneBytes (x.lanes (vD w) (vN w))) = .ok (y, z) →
        TileDoes (.vst g t w) 2 0x21 s g t w y z)) ∧
    (as % 8 = 0 → (∀ l, tread x c as 8 = .ok l →
        TileDoes (.sld g t w) 2 0x22 s g t w (x.setS (vD w) (BitVec.ofNat 64 (ofLe l))) c) ∧
      (∀ y z, twrite x c as (le 8 (x.sreg (vD w)).toNat) = .ok (y, z) → TileDoes (.sst g t w) 2 0x23 s g t w y z))

/-- Tile memory (R181): scratch below SCRATCH_BYTES, the invocation block, which may not be written, and the cluster store
below CS_BYTES; every other range raises BOUNDS. A write changes exactly its own bytes. -/
def Obligations.TileMemoryMap : Prop :=
  ∀ (x : Tile) (c : Cluster) (a : Nat) (bs : List Byte), x.scratchBytes ≤ 0x1FF000 → bs ≠ [] →
    Mem.wf zeroByte x.scratch = true → Mem.wf zeroByte c.store = true →
    let inScratch := a + bs.length ≤ x.scratchBytes
    let inBlock := 0x1FF000 ≤ a ∧ a + bs.length ≤ 0x200000
    let inStore := 0x400000 ≤ a ∧ a + bs.length ≤ 0x400000 + x.csBytes
    (inScratch → ∃ m, twrite x c a bs = .ok ({ x with scratch := m }, c) ∧
      ∀ b, Mem.read zeroByte m b =
        if a ≤ b ∧ b < a + bs.length then (bs[b - a]?).getD 0#8 else Mem.read zeroByte x.scratch b) ∧
    (inBlock → twrite x c a bs = .error { code := 0x06, addr := a }) ∧
    (inStore → ∃ m, twrite x c a bs = .ok (x, { c with store := m }) ∧
      ∀ b, Mem.read zeroByte m b =
        if a - 0x400000 ≤ b ∧ b < a - 0x400000 + bs.length then (bs[b - (a - 0x400000)]?).getD 0#8
        else Mem.read zeroByte c.store b) ∧
    (¬inScratch → ¬inBlock → ¬inStore →
      twrite x c a bs = .error { code := 0x05, addr := a } ∧ tread x c a bs.length = .error { code := 0x05, addr := a })

/-- TOPK: N or k out of range raises PARAM; else the k selected candidates are written as binary32 value and index
(R126, R173). -/
def Obligations.TopkInstructions : Prop :=
  ∀ (s : State) (g : Clu) (t : Til) (w : TileWord),
    let x := s.comp.tile g t
    let c := s.comp.clu g
    let n := (x.sreg (vB w)).toNat
    let k := (x.sreg (vC w)).toNat
    let src := (x.areg (vA w - 32)).toNat
    let dst := (x.areg (vD w - 32)).toNat
    let out (f : Fmt) (l : List Byte) : List Byte :=
      (topk k ((unpackCodes f.w n l).map (decodeFp f))).flatMap fun p => le 4 (toF32 p.1).toNat ++ le 4 p.2
    ((n < 1 ∨ 4096 < n ∨ k < 1 ∨ 16 < k ∨ n < k) →
      TileFaults (.topkF32 g t w) 4 0 s g t w { code := 0x03 } ∧ TileFaults (.topkBf16 g t w) 4 1 s g t w { code := 0x03 }) ∧
    (1 ≤ k → k ≤ n → k ≤ 16 → n ≤ 4096 →
      (∀ l y z, tread x c src (4 * n) = .ok l → twrite x c dst (out fp32 l) = .ok (y, z) →
        TileDoes (.topkF32 g t w) 4 0 s g t w y z) ∧
      (∀ f l y z, fmtOf 0x10 = some f → f.w = 16 → tread x c src (2 * n) = .ok l → twrite x c dst (out f l) = .ok (y, z) →
        TileDoes (.topkBf16 g t w) 4 1 s g t w y z))

/-- The selection of the gate unit (R126): exactly k candidates, each the one at its index, in the rank order, and no
candidate left out ranks before one that is selected. -/
def Obligations.TopkSelectsTheLargest : Prop :=
  ∀ (vs : List FVal) (k : Nat), k ≤ vs.length →
    (topk k vs).length = k ∧
    (∀ p ∈ topk k vs, vs[p.2]? = some p.1) ∧
    (topk k vs).Pairwise (fun p q => topkBefore p q = true) ∧
    ∀ i v, vs[i]? = some v → (v, i) ∉ topk k vs → ∀ p ∈ topk k vs, topkBefore p (v, i) = true

/-- WCLR empties the windows of its rows and no other; SETFMT reads 16 bytes at a 16 B boundary; WSPILL and WREST move the
records of their rows; rows past 127 raise PARAM (R143, R174). -/
def Obligations.WindowInstructions : Prop :=
  ∀ (s : State) (g : Clu) (t : Til) (w : TileWord),
    let x := s.comp.tile g t
    let c := s.comp.clu g
    let fits := mRow w + mRows w ≤ 128
    let a := (x.areg (mX w)).toNat
    (fits → Tab.wf x.win = true → ∃ y : Tile, { y with win := x.win } = x ∧
      (∀ r n, n < 128 → y.window r n = if mRow w ≤ r ∧ r < mRow w + mRows w then {} else x.window r n) ∧
      TileDoes (.wclr g t w) 1 2 s g t w y c) ∧
    (fits → a % 16 = 0 → ∀ l, tread x c a 16 = .ok l →
      TileDoes (.setfmt g t w) 1 6 s g t w { x with aset := Settings.ofBytes l } c) ∧
    (fits → a % 16 ≠ 0 → TileFaults (.setfmt g t w) 1 6 s g t w { code := 0x07, addr := a }) ∧
    (fits → (∀ y z, spillRows w (mRows w) 0 x c = .ok (y, z) → TileDoes (.wspill g t w) 1 4 s g t w y z) ∧
      (∀ y, restRows w (mRows w) 0 x c = .ok y → TileDoes (.wrest g t w) 1 5 s g t w y c)) ∧
    (¬fits → TileFaults (.wclr g t w) 1 2 s g t w { code := 0x03 } ∧ TileFaults (.wspill g t w) 1 4 s g t w { code := 0x03 } ∧
      TileFaults (.wrest g t w) 1 5 s g t w { code := 0x03 } ∧ TileFaults (.wrnd g t w) 1 3 s g t w { code := 0x03 } ∧
      TileFaults (.run g t w) 1 1 s g t w { code := 0x03 } ∧ TileFaults (.wld g t w) 1 0 s g t w { code := 0x03 } ∧
      TileFaults (.setfmt g t w) 1 6 s g t w { code := 0x03 })

/-- A window restored from its spill record is the window that was saved (R143). -/
def Obligations.SpillRecordRestores : Prop :=
  ∀ (x : Window), -32768 ≤ x.emax → x.emax < 32768 → -32768 ≤ x.emin → x.emin < 32768 → x.n ≤ 65537 →
    x.record.length = 32 ∧ Window.ofRecord x.record = x

/-- WLD loads the standby tile, RUN takes it into use and feeds its rows, WRND rounds the windows of its rows; an operand pair
outside R120 raises FORMAT, a RUN without a tile PARAM, and WLD waits, with no effect, while STANDBY is full (R119, R120,
R174, R175).
Model choices: log 35, 36, 40, 41, 141. -/
def Obligations.MatrixInstructions : Prop :=
  ∀ (s : State) (g : Clu) (t : Til) (w : TileWord),
    let x := s.comp.tile g t
    let c := s.comp.clu g
    let st := x.aset
    let fits := mRow w + mRows w ≤ 128
    (fits → pairOf st.aFmt st.wFmt = none → TileFaults (.wld g t w) 1 0 s g t w { code := 0x02, fmt := st.wFmt }) ∧
    (∀ cl p, fits → pairOf st.aFmt st.wFmt = some (cl, p) → x.standby.isSome = true → TileReady s g t 1 0 w →
      ∃ u, exec (.wld g t w) s = .next u ∧ u.comp = s.comp ∧ OnlyCompute s u) ∧
    (∀ cl p cs, fits → pairOf st.aFmt st.wFmt = some (cl, p) → x.standby = none → st.sparsity ≠ 3 →
      collect (wldColumn x c cl st.wFmt st.sparsity (x.areg (mX w)).toNat (x.areg (mY w)).toNat (x.areg (mZ w)).toNat)
        (List.range 128) = .ok cs →
      TileDoes (.wld g t w) 1 0 s g t w
        { x with standby := some { fmt := st.wFmt, sparsity := st.sparsity, k := (keptK cl st.sparsity).2,
                                   cols := cs.map Prod.fst, scales := cs.map Prod.snd } } c) ∧
    (∀ y z, fits → st.sparsity = 3 → tWld w x c = .ok (y, z) → TileDoes (.wld g t w) 1 0 s g t w y z) ∧
    (fits →
      (x.current = none → x.standby = none → TileFaults (.run g t w) 1 1 s g t w { code := 0x03 }) ∧
      (∀ wt cl p y, x.standby = some wt → pairOf st.aFmt wt.fmt = some (cl, p) →
        runRows w wt p (mRows w) 0 { x with current := some wt, standby := none } c = .ok y →
        TileDoes (.run g t w) 1 1 s g t w y c) ∧
      (∀ wt cl p y, x.standby = none → x.current = some wt → pairOf st.aFmt wt.fmt = some (cl, p) →
        runRows w wt p (mRows w) 0 x c = .ok y → TileDoes (.run g t w) 1 1 s g t w y c) ∧
      (roundOk st st.outFmt = false → TileFaults (.wrnd g t w) 1 3 s g t w { code := 0x02, fmt := st.outFmt }) ∧
      (∀ sc y z, roundOk st st.outFmt = true →
        (if isInt st.aFmt || isInt st.outFmt then tread x c (x.areg (mY w)).toNat 1536 else .ok []) = .ok sc →
        rndRows w sc (mRows w) 0 x c = .ok (y, z) → TileDoes (.wrnd g t w) 1 3 s g t w y z))

/-- The contributing instructions of class SCORE add to consecutive scorecards of the cluster that CRANK names; the others name 64
scorecards of the tile's own cluster: read raw or rounded, clear, load (R177).
Model choices: log 40, 142. -/
def Obligations.ScorecardInstructions : Prop :=
  (∀ (s : State) (g : Clu) (t : Til) (w : TileWord) (h : Nat),
    let x := s.comp.tile g t
    let base := (x.sreg (scSI w)).toNat
    let lanes := x.lanes (scV w) (64 * 2 ^ scVL w)
    let ws := (List.range (128 * scRows w)).map fun j => x.window (scRow w + j / 128) (j % 128)
    let done (i : Instr) (f : Nat) (y : Tile) (fs : List (Card → Card)) : Prop :=
      TileReady s g t 5 f w → base + fs.length ≤ 16384 → base + fs.length ≤ x.cards →
      ∃ u, exec i s = .next u ∧ OnlyCompute s u ∧
        u.comp = (s.comp.setTile g t (if rangeSet fs then y.flag 2 else y).next).setClu h ((s.comp.clu h).contribs base fs)
    rankCluster x g (scRank w) = .ok h →
    (scRow w + scRows w ≤ 128 → done (.addw g t w) 0 (if ws.any Window.exceeded then x.flag 1 else x) (ws.map fun v c => c.addW v)) ∧
    done (.addvf g t w) 1 x (lanes.map fun v c => c.addF (f32 v)) ∧
    done (.addvi g t w) 2 x (lanes.map fun v c => c.addI v)) ∧
  (∀ (s : State) (g : Clu) (t : Til) (w : TileWord),
    let x := s.comp.tile g t
    let c := s.comp.clu g
    let b := (x.sreg (scSI w)).toNat
    let a := (x.areg (scAreg w)).toNat
    let st := x.aset
    (scRank w = 32 → b + 64 ≤ 16384 → b + 64 ≤ x.cards →
      (∀ y z, twrite x c a ((List.range 64).flatMap fun i => (c.card (b + i)).image) = .ok (y, z) →
        TileDoes (.rdraw g t w) 5 3 s g t w y z) ∧
      (Tab.wf c.cards = true → ∃ z : Cluster, { z with cards := c.cards } = c ∧
        (∀ i, z.card i = if b ≤ i ∧ i < b + 64 then {} else c.card i) ∧ TileDoes (.scoreClr g t w) 5 5 s g t w x z) ∧
      (∀ l, tread x c a 3072 = .ok l → Tab.wf c.cards = true → ∃ z : Cluster, { z with cards := c.cards } = c ∧
        (∀ i, z.card i = if b ≤ i ∧ i < b + 64 then Card.ofImage ((l.drop (48 * (i - b))).take 48) else c.card i) ∧
        TileDoes (.scoreLd g t w) 5 6 s g t w x z) ∧
      ((st.outFmt = 0x10 ∨ st.outFmt = 0x11 ∨ st.outFmt = 0x12) → st.round < 2 → ∀ y z,
        twrite x c a (roundRow st st.outFmt b ((List.range 64).map fun i => (c.card (b + i)).xval)).bytes = .ok (y, z) →
        ∃ m, TileDoes (.rdrnd g t w) 5 4 s g t w (y.flag m) z)) ∧
    (scRank w ≠ 32 →
      TileFaults (.rdraw g t w) 5 3 s g t w { code := 0x03 } ∧ TileFaults (.rdrnd g t w) 5 4 s g t w { code := 0x03 } ∧
      TileFaults (.scoreClr g t w) 5 5 s g t w { code := 0x03 } ∧ TileFaults (.scoreLd g t w) 5 6 s g t w { code := 0x03 }))

/-- Contributions to a scorecard may arrive in any order (R146). -/
def Obligations.ScorecardOrderDoesNotMatter : Prop :=
  ∀ (c : Card) (x y : FVal) (i j : BitVec 32) (d e : Card),
    (c.addF x).addF y = (c.addF y).addF x ∧ (c.addI i).addI j = (c.addI j).addI i ∧
    (c.addRaw d).addRaw e = (c.addRaw e).addRaw d ∧ (c.addF x).addI i = (c.addI i).addF x ∧
    (c.addF x).addRaw d = (c.addRaw d).addF x ∧ (c.addI i).addRaw d = (c.addRaw d).addI i

/-- STREAM_START queues a descriptor, at most four to an engine; STREAM_WAIT goes on once the named engines have drained and
waits otherwise; BR goes to PC + OFF; LOOP enters its body, or with count 0 skips it, and a fifth level raises LOOP; RAISE is
a USER fault with its code and two scalars. HALT idles the tile once its streams have drained: the invocation goes on while
another of its tiles has not halted and ends with the last. BAR makes the tile wait at its barrier when no tile of its scope waits at
another one or has halted; a barrier with such a tile raises SYNC (R178 to R180, R187, R189). -/
def Obligations.StreamAndControlInstructions : Prop :=
  (∀ (s : State) (g : Clu) (t : Til) (w : TileWord),
    let x := s.comp.tile g t
    let c := s.comp.clu g
    let e := wfld w 48 2
    let q := Tab.getD x.streams e []
    let target := ((x.pc : Int) + sext 24 (wfld w 26 24)).emod (2 ^ 14) |>.toNat
    let count := if wfld w 44 1 = 1 then wfld w 28 16 else (x.sreg (wfld w 45 5)).toNat % 2 ^ 32
    let stop := x.pc + 1 + wfld w 14 14
    (q.length < 4 → ∀ l, tread x c (x.areg (wfld w 45 3)).toNat 64 = .ok l →
      TileDoes (.streamStart g t w) 0 0 s g t w { x with streams := Tab.set [] x.streams e (q ++ [(x.pc, l)]) } c) ∧
    (4 ≤ q.length → TileReady s g t 0 0 w →
      ∃ u, exec (.streamStart g t w) s = .next u ∧ u.comp = s.comp ∧ OnlyCompute s u) ∧
    (x.drained (wfld w 41 4) = true → TileDoes (.streamWait g t w) 0 1 s g t w x c) ∧
    (x.drained (wfld w 41 4) = false → TileDoes (.streamWait g t w) 0 1 s g t w { x with wait := .streams (wfld w 41 4) } c) ∧
    (TileReady s g t 7 0 w →
      TileBecomes (.br g t w) s g t { x with pc := target, loops := popLoops target x.loops } c) ∧
    (TileReady s g t 7 1 w → x.loops.length < 4 → (∀ v ∈ x.loops.head?, stop ≤ v.stop) →
      (count ≠ 0 → TileBecomes (.loop g t w) s g t
        { x with pc := x.pc + 1, loops := { start := x.pc + 1, stop := stop, count := count, lc := 0 } :: x.loops,
                 lc := Tab.set 0 x.lc x.loops.length 0 } c) ∧
      (count = 0 → TileBecomes (.loop g t w) s g t (x.goOn stop) c)) ∧
    (4 ≤ x.loops.length → TileFaults (.loop g t w) 7 1 s g t w { code := 0x0A }) ∧
    TileFaults (.raise g t w) 9 0 s g t w
      { code := 0x0C, ucode := wfld w 34 16, arg0 := (x.sreg (wfld w 29 5)).toNat, arg1 := (x.sreg (wfld w 24 5)).toNat }) ∧
  (∀ (s : State) (g : Clu) (t : Til) (w : TileWord) (k : Nat) (v : Inv),
    let x := s.comp.tile g t
    let c := s.comp.clu g
    let own := s.comp.key g t
    let others := (s.scopeOf v g (wfld w 48 2)).filter (· ≠ own)
    let clash (j : Nat) : Prop := (∃ a b, (s.tile j).wait = .bar a b ∧ b ≠ wfld w 45 3) ∨
      ((s.tile j).st = .idle ∧ (s.tile j).invKey = some k)
    Tab.wf s.comp.clus = true → x.invKey = some k → s.inv k = some v → x.drained 15 = true →
    (TileReady s g t 7 2 w →
      ((∀ y ∈ s.tilesOf v, ∀ a b, (s.tile y.1).wait ≠ .bar a b) → (∃ y ∈ s.tilesOf v, y.1 ≠ own ∧ (s.tile y.1).st ≠ .idle) →
        TileBecomes (.halt g t w) s g t { x with st := .idle } c) ∧
      ((∀ y ∈ s.tilesOf v, y.1 ≠ own → (s.tile y.1).st = .idle) → v.st = .running → v.prep = [] →
        exec (.halt g t w) s = .next ((s.issueRaw g t 7 2 w (tHalt w)).finishInv k))) ∧
    (TileReady s g t 8 0 w →
      ((∀ j ∈ others, ¬clash j) → TileBecomes (.bar g t w) s g t { x with wait := .bar (wfld w 48 2) (wfld w 45 3) } c) ∧
      ((∃ j ∈ others, clash j) → ∃ u, exec (.bar g t w) s = .next u ∧ OnlyCompute s u ∧
        (u.tile own).st = .faulted ∧ (u.tile own).faultCode = 0x0D)))

/-- Every tile row: a word whose guard does not hold only steps to the next word; an illegal word raises ILLEGAL, and
one with an operand out of range PARAM, and changes no register of the tile but its fault record; a tile that does not run, or waits, does nothing. PRED 0 with PNEG 1 never holds
(R165, R167, R168, R190, R191). -/
def Obligations.GuardAndLegality : Prop :=
  ∀ r ∈ tileRows, ∀ (s : State) (g : Clu) (t : Til) (w : TileWord),
    let x := s.comp.tile g t
    (x.st = .running → x.wait = .none → legalWord r.2.1 r.2.2 w = true → x.guard w = false →
      ∃ u, exec (r.1 g t w) s = .next u ∧ OnlyCompute s u ∧ u.comp = s.comp.setTile g t x.next) ∧
    (x.st = .running → x.wait = .none → legalWord r.2.1 r.2.2 w = false →
      ∃ u, exec (r.1 g t w) s = .next u ∧ OnlyCompute s u ∧
        u.tile (s.comp.key g t) =
          { x.faulted (wordOf r.2.1 r.2.2 w) { code := 0x01 } with report := some { code := 0x01 }, faultAt := s.now }) ∧
    (x.st = .running → x.wait = .none → legalWord r.2.1 r.2.2 w = true → x.guard w = true → formOk r.2.1 r.2.2 w = false →
      ∃ u, exec (r.1 g t w) s = .next u ∧ OnlyCompute s u ∧
        u.tile (s.comp.key g t) =
          { x.faulted (wordOf r.2.1 r.2.2 w) { code := 0x03 } with report := some { code := 0x03 }, faultAt := s.now }) ∧
    ((x.st ≠ .running ∨ x.wait ≠ .none) → ∃ u, exec (r.1 g t w) s = .next u ∧ OnlyCompute s u ∧ u.comp = s.comp) ∧
    (w.pred = 0 → w.pneg = true → x.guard w = false)

/-! ### Mailboxes -/

/-- A command row hands its frame over, and firmware takes and executes it: the body it runs on is the row's, whatever the
request area held before. A frame whose ALIVE count is not the expected one is answered MB_ST_STALE with the expectation; one
whose mailbox may not issue the command MB_ST_DENIED; one the device is not ready for MB_ST_NOT_READY; none of them is executed
(R410, R413, R414, R416, R417, R421).
Model choices: log 14, 69. -/
def Obligations.MailboxRows : Prop :=
  (∀ (s : State) (h : MbxHdr) (op : Nat) (body : List Byte) (r : CmdRow),
    op < 65536 → cmdRow op = some r → MailReady s h op body →
    s.mail h op body = (s.taken h op body).execute h.mbx op h.alive.toNat h.reqId.toNat r body) ∧
  (∀ (s : State) (h : MbxHdr) (op : Nat) (body : List Byte) (r : CmdRow),
    op < 65536 → body.length ≤ 4076 → cmdRow op = some r → r.len body = body.length → MailOpen s h.mbx →
    let t := s.taken h op body
    let reply (u : State) (st : Nat) (b : List Byte) := u.putResp h.mbx false op h.alive.toNat h.reqId.toNat st b
    (∀ e, (s.box h.mbx).alive = some e → e ≠ h.alive.toNat → s.mail h op body = reply t 2 (le 2 e)) ∧
    (((s.box h.mbx).alive = none ∨ (s.box h.mbx).alive = some h.alive.toNat) →
      (s.mayIssue h.mbx r body = false → s.mail h op body = reply t 4 []) ∧
      (s.mayIssue h.mbx r body = true → s.readyFor op = false →
        s.mail h op body = reply t.draw.2 14 (le 4 t.draw.1))))

/-- The device family: identity, resets, firmware update, host death. The partition family: what PTN_INFO returns, a reset of an
ACTIVE or FAULTED partition and one asked for while a reset runs, a fault by command (R260, R402 to R405, R423, R437, R498,
R499).
Model choices: log 34, 69. -/
def Obligations.DeviceAndPartitionCommands : Prop :=
  (∀ (s : State) (h : MbxHdr),
    (let t := s.taken h 0x0101 []
     let up := t.board.phase == .ready || t.board.phase == .recovery
     let mounts := ((List.range 4).map fun m => if (t.fdie m).mounted then 2 ^ (m + 1) else 0).sum
     Answers (.devInfo h) s h 0x0101 [] t 0 (orderCode ++ le 2 0x00A1
       ++ slice (Config.provisioned (40 + Tab.getD t.nor.run 1 0) 4) 0 4 ++ le 2 t.ownId
       ++ le 2 (b2n up + mounts + 32 * b2n t.transitOnly) ++ t.cores.duty.flatMap (le 1) ++ le 8 t.upUs)) ∧
    (∀ kind : BitVec 8, kind.toNat ≤ 1 → s.board.resetDue = none →
      (kind = 1#8 → s.board.phase ≠ .recovery ∧ s.transitOnly = true) →
      let b := le 1 kind.toNat
      let t := s.taken h 0x0102 b
      Answers (.devReset h kind) s h 0x0102 b (t.onBoard fun x => { x with resetDue := some (kind.toNat + 1, s.now) }) 0 []) ∧
    (∀ (upload : List Byte) (stage : BitVec 8) (len : BitVec 32), stage.toNat ≤ 2 → 2820 ≤ len.toNat → len.toNat ≤ 67108864 → s.board.upd = none →
      let b := le 1 stage.toNat ++ zeros 3 ++ le 4 len.toNat
      let t := (s.onPcie fun p => { p with bar2 := Mem.writes zeroByte p.bar2 0 upload }).taken h 0x0103 b
      Defers (.devFwUpdate h ⟨upload, stage⟩ len) s h 0x0103 b
        (t.onBoard fun x => { x with upd := some (stage.toNat, len.toNat), updAt := s.now }) 0) ∧
    (∀ (ep : BitVec 16), ep.toNat ≤ 0xBFFF → s.sec.pset.pairing = none → s.prt.st = .unpaired →
      let dead := le 2 ep.toNat ++ le 1 0
      let back := le 2 ep.toNat ++ le 1 1
      (ep.toNat ∉ s.dir.dead → s.dir.dead.length < 256 →
        Answers (.devHostDead h ep 0#8) s h 0x0104 dead ((s.taken h 0x0104 dead).hostDies ep.toNat).settleAll 0 []) ∧
      (ep.toNat ∈ s.dir.dead → (∀ x ∈ s.dir.scans, x.2 ≠ ep.toNat) →
        Answers (.devHostDead h ep 1#8) s h 0x0104 back
          ((s.taken h 0x0104 back).onDir fun d => { d with dead := d.dead.filter (· != ep.toNat) }) 0 [])) ∧
    (∀ (port : BitVec 8), port.toNat ≤ 17 → s.isDeferred 0x0105 port.toNat = false →
      let n := port.toNat
      let b := le 1 n
      let t := ((s.taken h 0x0105 b).each glCounters fun s r => s.setReg r n 0).each (List.range 5) fun s i =>
        s.setReg .glLaneSymerr (5 * n + i) 0
      let u := t.cancelEnable n
      Defers (.devPortReset h port) s h 0x0105 b
        ((if (u.link n).shutting then u else u.shutPort n).onLink n fun l => { l with resetting := true }) n) ∧
    (∀ (g : BitVec 8), g.toNat ≤ 31 → s.isDeferred 0x0106 g.toNat = false →
      Defers (.devClusterReset h g) s h 0x0106 (le 1 g.toNat) (s.taken h 0x0106 (le 1 g.toNat)) g.toNat)) ∧
  (∀ (s : State) (h : MbxHdr) (ptn : BitVec 8), ptn.toNat ≤ 63 →
    let q := ptn.toNat
    let b := le 1 q
    let mask (l : List Nat) : Nat := (l.eraseDups.map fun g => 2 ^ g).sum
    (let t := s.taken h 0x0201 b
     let p := t.ptn q
     let st := match p.st with | .unused => 0 | .active => 1 | .resetting => 2 | .faulted => 3
     Answers (.ptnInfo h ptn) s h 0x0201 b t 0 (le 1 st ++ le 1 p.cause ++ zeros 2
       ++ le 8 (t.dramQuota q * 65536) ++ le 8 (t.pinned q * 65536) ++ le 8 (p.flashGib * 2 ^ 30) ++ le 8 (t.flashUsed q)
       ++ le 8 (p.trackedUnits * 2097152) ++ le 8 (t.trackedUsed q) ++ le 4 (mask p.clusters) ++ le 48 (mask p.channels)
       ++ le 8 (mask p.mailboxes))) ∧
    ((s.ptn q).st = .active ∨ (s.ptn q).st = .faulted →
      Defers (.ptnReset h ptn) s h 0x0202 b ((s.taken h 0x0202 b).startReset q) q) ∧
    ((s.ptn q).st = .resetting → s.isDeferred 0x0202 (q + 64) = false →
      Defers (.ptnReset h ptn) s h 0x0202 b (s.taken h 0x0202 b) (q + 64)) ∧
    ((s.ptn q).st = .unused → Answers (.ptnReset h ptn) s h 0x0202 b (s.taken h 0x0202 b) 6 []) ∧
    ((s.ptn q).st = .active → Answers (.ptnFault h ptn) s h 0x0203 b ((s.taken h 0x0203 b).ptnFault q 4) 0 []) ∧
    ((s.ptn q).st ≠ .active → Answers (.ptnFault h ptn) s h 0x0203 b (s.taken h 0x0203 b) 6 []))

/-- The extent family on an extent the mailbox may name that is not mirrored; and EXT_CREATE: an extent that is not mirrored,
within its quotas, takes the lowest free handle, and its record is written to the journal before the command completes (R46,
R51 to R54, R70 to R73, R78, R244, R373, R423, R530, R531).
Model choices: log 14, 17, 48, 69. -/
def Obligations.ExtentCommands : Prop :=
  (∀ (s : State) (h : MbxHdr) (handle : BitVec 32) (e : ExtRec),
    let x := handle.toNat
    let b := le 4 x
    s.extFor h.mbx x = some e → e.mirrored = false →
    Answers (.extInfo h handle) s h 0x0302 b (s.taken h 0x0302 b) 0
      (le 1 e.ptn ++ le 1 (b2n e.tracked) ++ le 1 e.policy ++ le 1 e.st.code ++ le 1 (2 * b2n e.init) ++ zeros 3
        ++ le 8 e.length ++ le 8 e.version ++ le 2 e.publisher ++ zeros 2 ++ le 4 e.drainMs ++ le 4 e.inflight ++ le 1 e.acl.length
        ++ zeros 3 ++ e.acl.flatMap AclEntry.bytes) ∧
    (e.st = .active →
      (∀ ms : BitVec 32, 1 ≤ ms.toNat → ms.toNat ≤ 60000 →
        let b := le 4 x ++ le 4 ms.toNat
        let t := s.taken h 0x0305 b
        (e.policy = 0 → Answers (.extSetDrain h handle ms) s h 0x0305 b (t.onExt x fun e => { e with drainMs := ms.toNat }) 0 []) ∧
        (e.policy ≠ 0 → Defers (.extSetDrain h handle ms) s h 0x0305 b (t.extRecord x (.drain ms.toNat)) x)) ∧
      Defers (.extRevoke h handle) s h 0x0306 b ((s.taken h 0x0306 b).revoke x) x ∧
      (e.zeroing = false →
        let t := s.taken h 0x0307 b
        let w := t.newWrite 0xFFFF x true (pagesOf e.length)
        let p : Packet := { opcode := 0x04#8, src := zeroSrc, extent := BitVec.ofNat 32 x, length := BitVec.ofNat 64 e.length }
        Defers (.extZero h handle) s h 0x0307 b
          ((w.2.onExt x fun e => { e with zeroing := true }).serveOr
            { kind := .serve, pkt := p, port := 20, since := s.now, ids := List.range (pagesOf e.length), status := w.1, reply := false }) x) ∧
      (let t := s.taken h 0x0308 b
       (e.init = true → Answers (.extInitDone h handle) s h 0x0308 b t 0 []) ∧
       (e.init = false → e.policy = 0 →
         Answers (.extInitDone h handle) s h 0x0308 b (t.onExt x fun e => { e with init := true }) 0 []) ∧
       (e.init = false → e.policy ≠ 0 → Defers (.extInitDone h handle) s h 0x0308 b (t.extRecord x .init) x)) ∧
      (∀ pol : BitVec 8, pol.toNat = e.policy → pol.toNat ≤ 2 → s.closed e = false → (s.sec.debugOn = true → pol.toNat = 0) →
        e.policyPending = false → (e.tracked = true → pol.toNat ≠ 2) →
        Answers (.extSetPolicy h handle pol) s h 0x0303 (le 4 x ++ le 1 pol.toNat)
          (s.taken h 0x0303 (le 4 x ++ le 1 pol.toNat)) 0 []) ∧
      (∀ pol : BitVec 8, pol.toNat ≤ 2 → pol.toNat ≠ e.policy → s.closed e = false → (s.sec.debugOn = true → pol.toNat = 0) →
        e.policyPending = false → (e.tracked = true → pol.toNat ≠ 2) →
        let q := e.ptn
        let n := pagesOf e.length
        let others := s.exts.any fun y => y.1 != x && y.2.ptn == q && y.2.policy != 0 && !y.2.sanitised
        (if e.policy = 0 then s.quotaFault q (s.pinned q - n) (s.flashUsed q + e.length) (s.trackedUsed q) true
         else if pol.toNat = 0 then s.quotaFault q (s.pinned q + n) (s.flashUsed q) (s.trackedUsed q) others else none) = none →
        Defers (.extSetPolicy h handle pol) s h 0x0303 (le 4 x ++ le 1 pol.toNat)
          ((s.taken h 0x0303 (le 4 x ++ le 1 pol.toNat)).movePolicy x e pol.toNat).1 x) ∧
      (∀ l : List AclArg, l.length ≤ 64 → e.aclStage = 0 →
        let b := le 4 x ++ le 1 l.length ++ zeros 3 ++ aclBytes l
        let t := s.taken h 0x0304 b
        let new := t.assignIdx x e.acl (aclOf b 8 l.length)
        let rec' := t.aclRecalls x e.acl new
        s.aclFault e.ptn [] (aclOf b 8 l.length) = none →
        (e.policy = 0 → rec' = [] → (∀ a ∈ new, a.idx.isSome = true) →
          Answers (.extSetAcl h handle l) s h 0x0304 b (t.putAcl x new) 0 []) ∧
        (¬(e.policy = 0 ∧ rec' = [] ∧ ∀ a ∈ new, a.idx.isSome = true) → Defers (.extSetAcl h handle l) s h 0x0304 b
          (t.onExt x fun e => { e with nextAcl := new, aclStage := 2, aclLines := rec' }) x))) ∧
    (∀ offset : BitVec 64, e.tracked = true → offset.toNat % 128 = 0 → offset.toNat < e.length →
      let b := le 4 x ++ le 8 offset.toNat
      let t := s.taken h 0x0309 b
      let line := offset.toNat / 128
      (t.dirEnt x line = none → Answers (.extDirRead h handle offset) s h 0x0309 b t 0 (zeros 16)) ∧
      (∀ k d, t.dirEnt x line = some (k, d) → Answers (.extDirRead h handle offset) s h 0x0309 b t 0
        (le 1 1 ++ le 1 (b2n (d.st == .m)) ++ le 1 (if d.st = .m then d.owner else 0) ++ le 1 (b2n (t.blocked x line))
          ++ le 1 (t.awaiting x line) ++ le 1 (t.lruAge k d) ++ zeros 2
          ++ le 8 ((if d.st = .s then d.sharers else []).map (2 ^ ·)).sum)))) ∧
  (∀ (s : State) (h : MbxHdr) (ptn kind policy : BitVec 8) (length : BitVec 64) (l : List AclArg) (x : Nat),
    let q := ptn.toNat
    let n := length.toNat
    let pol := policy.toNat
    let b := le 1 q ++ le 1 kind.toNat ++ le 1 pol ++ le 1 0 ++ le 8 n ++ le 1 l.length ++ zeros 3 ++ aclBytes l
    let es := aclOf b 16 l.length
    let t := s.taken h 0x0301 b
    q ≤ 63 → kind.toNat ≤ 1 → pol ≤ 2 → n % 2097152 = 0 → 2097152 ≤ n → n ≤ 2 ^ 44 → l.length ≤ 64 → ¬(kind.toNat = 1 ∧ pol = 2) →
    (s.ptn q).st ≠ .unused → (s.sec.debugOn = true → pol = 0) → s.aclFault q [] es = none →
    s.quotaFault q (s.pinned q + if pol = 0 then n / 65536 else 0) (s.flashUsed q + if pol = 0 then 0 else n)
      (s.trackedUsed q + if kind.toNat = 1 then n else 0) (pol != 0 || s.hasTiered q) = none →
    s.freeHandle = some x →
    let e : ExtRec :=
      { ptn := q, length := n, tracked := kind.toNat == 1, policy := pol, mirrored := false, committed := false,
        acl := es.zipIdx.map fun a => { a.1 with idx := some a.2 }, controlDie := s.controlDieOf q,
        chans := if pol = 0 then (s.ptn q).channels else [] }
    Defers (.extCreate h ptn kind policy 0#8 length l) s h 0x0301 b ({ t with exts := Tab.put t.exts x e }.extRecord x .create) x)

/-- Kernel images, models and the staging pool: what a load that passes its checks places, an unload without open work, a
placement that adds or removes a slot, a new pool size (R196, R198, R206, R221 to R223).
Model choices: log 33, 49, 69, 103, 139. -/
def Obligations.KernelAndModelCommands : Prop :=
  ∀ (s : State) (h : MbxHdr) (ptn : BitVec 8), ptn.toNat ≤ 63 →
    let q := ptn.toNat
    (∀ (ext : BitVec 32) (off : BitVec 64) (len : BitVec 32) (img : List Byte),
      let b := le 1 q ++ zeros 3 ++ le 4 ext.toNat ++ le 8 off.toNat ++ le 4 len.toNat
      let t := s.taken h 0x0401 b
      s.sourceOk q ext.toNat off.toNat len.toNat = true → (∀ e, s.ext ext.toNat = some e → s.closed e = false) →
      s.readRange ext.toNat off.toNat len.toNat = .ok img → 128 ≤ img.length → imageHdrBad img = none →
      imageSize img = len.toNat →
      slice (Config.shake256 (img.take 64 ++ slice img 128 (8 * field img 8 4 + field img 28 4))) 0 32 = slice img 64 32 →
      let v := t.rangeFx ext.toNat off.toNat len.toNat
      (∀ u st r, v.takeImage q img = (u, .now st r) → Answers (.krnLoad h ptn ext off len) s h 0x0401 b u st r) ∧
      (let n := field img 8 4
       let consts := field img 28 4
       let signed := bit (field img 6 2) 0
       let sign := if signed then img.drop (128 + 8 * n + consts) else []
       let pages := ceilDiv img.length 65536
       n ≤ 16384 → field img 16 4 ≤ 2093056 → field img 20 4 ≤ 4194304 → field img 24 4 ≤ 16384 →
       (v.ptn q).signOk signed sign (slice img 64 32) = true →
       (∀ pc, pc < n → codeWordOk n pc (field img (128 + 8 * pc) 8) = true) →
       ∀ k, 0x8000 ≤ k → k < 0x8040 → v.image q k = none → (∀ j, 0x8000 ≤ j → j < k → v.image q j ≠ none) →
       pages ≤ v.dramQuota q - v.pinned q →
       let i : Image :=
         { ptn := q, handle := k, flags := field img 6 2 % 16, entry := field img 12 4, scratchBytes := field img 16 4,
           csBytes := field img 20 4, cards := field img 24 4, constAddr := field img 32 4,
           timeLimit := if field img 36 4 = 0 then 100000 else field img 36 4,
           code := (List.range n).map fun i => field img (128 + 8 * i) 8, consts := slice img (128 + 8 * n) consts,
           digest := slice img 64 32, sign := sign, pages := pages }
       Answers (.krnLoad h ptn ext off len) s h 0x0401 b
         (v.onDeal fun d => { d with images := Tab.put d.images (q * 65536 + k) i }) 0 (le 2 k))) ∧
    (∀ (k : BitVec 16) (i : Image),
      let b := le 1 q ++ zeros 1 ++ le 2 k.toNat
      let t := s.taken h 0x0402 b
      let u := t.onDeal fun d => { d with images := Tab.put d.images (q * 65536 + k.toNat) { i with unloading := true } }
      s.image q k.toNat = some i → i.unloading = false →
      ((∀ v ∈ s.deal.invs, ¬(v.2.ptn = q ∧ v.2.kernel = k.toNat)) → Answers (.krnUnload h ptn k) s h 0x0402 b (u.unloads q) 0 []) ∧
      ((∃ v ∈ s.deal.invs, v.2.ptn = q ∧ v.2.kernel = k.toNat) →
        Defers (.krnUnload h ptn k) s h 0x0402 b u (q * 65536 + k.toNat))) ∧
    (∀ (ext : BitVec 32) (off len : BitVec 64) (rec' : List Byte),
      let b := le 1 q ++ zeros 3 ++ le 4 ext.toNat ++ le 8 off.toNat ++ le 8 len.toNat
      let t := s.taken h 0x0403 b
      s.sourceOk q ext.toNat off.toNat len.toNat = true → (∀ e, s.ext ext.toNat = some e → s.closed e = false) →
      s.readRange ext.toNat off.toNat len.toNat = .ok rec' → 64 ≤ rec'.length → modelHdrBad rec' = none →
      modelSize (ModelHdr.ofBytes rec') = len.toNat → slice (Config.shake256 (rec'.take 32 ++ rec'.drop 64)) 0 32 = slice rec' 32 32 →
      let v := t.rangeFx ext.toNat off.toNat len.toNat
      (∀ u st r, v.takeModel q rec' = (u, .now st r) → Answers (.mdlLoad h ptn ext off len) s h 0x0403 b u st r) ∧
      (let m := ModelHdr.ofBytes rec'
       let room := (v.dramQuota q - v.pinned q) * 65536 - 67108864
       let hot := ((List.range m.hotCount).map fun i => field rec' (64 + 2 * i) 2).filter fun e => decide (e < m.experts)
       (m.experts + 2) * m.expertBytes ≤ room →
       ∀ k, 0x0100 ≤ k → k < 0x0110 → v.model q k = none → (∀ j, 0x0100 ≤ j → j < k → v.model q j ≠ none) →
       let x : Model :=
         { ptn := q, handle := k, hdr := m, resident := (hot ++ List.range m.experts).eraseDups.take m.experts, spillPpm := 0,
           slots := v.loadSlots q m.experts, experts := Mem.writes zeroByte [] 0 (rec'.drop (64 + roundUp (2 * m.hotCount) 64)) }
       Answers (.mdlLoad h ptn ext off len) s h 0x0403 b
         (v.onDeal fun d => { d with models := Tab.put d.models (q * 65536 + k) x }) 0 (le 2 k ++ zeros 2 ++ le 4 0))) ∧
    (∀ (k : BitVec 16) (m : Model),
      let b := le 1 q ++ zeros 1 ++ le 2 k.toNat
      let u := (s.taken h 0x0404 b).onModel q k.toNat fun m => { m with unloading := true, lastInv := s.deal.nextInv }
      s.model q k.toNat = some m → m.unloading = false →
      (∀ v ∈ s.deal.invs, ¬(v.2.ptn = q ∧ v.2.kernel = 1 ∧ v.2.model = k.toNat)) →
      (∀ v ∈ s.deal.baskets, ¬(v.2.ptn = q ∧ v.2.model = k.toNat)) →
      Answers (.mdlUnload h ptn k) s h 0x0404 b (u.unloads q) 0 []) ∧
    (∀ (k e : BitVec 16) (g : BitVec 8) (m : Model),
      let b (a : Nat) := le 1 q ++ le 1 a ++ le 2 k.toNat ++ le 2 e.toNat ++ le 1 g.toNat
      let sl := Tab.getD m.slots e.toNat []
      s.model q k.toNat = some m → m.unloading = false → e.toNat < m.hdr.experts → g.toNat ∈ (s.ptn q).clusters →
      (g.toNat ∉ sl → sl.length < 4 → Answers (.mdlPlace h ptn 0#8 k e g) s h 0x0405 (b 0)
        ((s.taken h 0x0405 (b 0)).onModel q k.toNat fun m => { m with slots := Tab.put m.slots e.toNat (sl ++ [g.toNat]) }) 0 []) ∧
      (g.toNat ∈ sl → 1 < sl.length → Answers (.mdlPlace h ptn 1#8 k e g) s h 0x0405 (b 1)
        ((s.taken h 0x0405 (b 1)).onModel q k.toNat fun m => { m with slots := Tab.put m.slots e.toNat (sl.erase g.toNat) }) 0 [])) ∧
    (∀ units : BitVec 32, units.toNat ≤ 65536 →
      let b := le 1 q ++ zeros 3 ++ le 4 units.toNat
      (s.poolOf q < units.toNat →
        units.toNat - s.poolOf q + (if s.hasTiered q then 1024 else 0) ≤ s.dramQuota q - s.pinned q) →
      s.poolUsed q ≤ units.toNat →
      Answers (.dealConfig h ptn units) s h 0x0406 b
        ((s.taken h 0x0406 b).onDeal fun d => { d with stage := Tab.set 1024 d.stage q units.toNat }) 0 [])

/-- The fabric and routing family from mailbox 0 or 1: identity, tables read, written and cleared in the shadow, the shadow
direction map, a swap's first two steps, counters (R289, R300, R304, R424).
Model choices: log 69, 149. -/
def Obligations.RoutingCommands : Prop :=
  ∀ (s : State) (h : MbxHdr),
    (let t := s.taken h 0x0501 []
     Answers (.rtIdent h) s h 0x0501 [] t 0 (le 2 t.ownId ++ le 2 0x00A1 ++ le 4 t.rtStatus ++ le 4 t.rt.active.dir
       ++ (List.range 18).flatMap fun n => le 4 (t.link n).stateWord ++ le 4 (t.reg .glPeerId n))) ∧
    (∀ n v : Nat, n < 18 → v < 8 →
      let b := le 1 n ++ le 1 v
      let t := s.taken h 0x0502 b
      let ok (u : State) : Prop := Answers (.rtPort h b) s h 0x0502 b
        ((u.setReg .glCtrlSpareAuto n (bits v 1 1)).setReg .glCtrlLpiAllow n (bits v 2 1)) 0 []
      (bit v 0 = true → s.ownId ≠ 0xFFFF → s.reg .glCtrlEnable n = 1 → ok t) ∧
      (bit v 0 = true → s.ownId ≠ 0xFFFF → s.reg .glCtrlEnable n ≠ 1 → (s.link n).shutting = false →
        ok (((t.setReg .glCtrlEnable n 1).epochUp n).linkTrain n)) ∧
      (bit v 0 = false → (s.link n).shutting = false → (s.link n).enableDeferred = false → (s.link n).st ≠ .disabled →
        ok ((t.setReg .glCtrlEnable n 0).shutPort n)) ∧
      (∀ u, t.writeEnable n (bit v 0) = (u, rOk) → ok u)) ∧
    (∀ (tb first : Nat) (vals : List Nat), tb ≤ 18 → vals ≠ [] → vals.length ≤ 1016 → first + vals.length ≤ 0xC000 →
      (∀ v ∈ vals, v < 2 ^ 18 ∧ entryOk s.shadowSeen.dir tb v = true) →
      let b := le 1 tb ++ le 1 0 ++ le 2 first ++ le 2 vals.length ++ zeros 2 ++ vals.flatMap (le 4)
      Answers (.rtTblWrite h b) s h 0x0503 b ((s.taken h 0x0503 b).shadowWrite (.entries tb first vals)) 0 []) ∧
    (∀ (tb first n : Nat), tb ≤ 18 → 1 ≤ n → n ≤ 1016 → first + n ≤ 0xC000 →
      let b (copy : Nat) := le 1 tb ++ le 1 copy ++ le 2 first ++ le 2 n
      let out (c : RtCopy) := (List.range n).flatMap fun i => le 4 (Tab.getD c.cand (tb * 65536 + first + i) 0)
      Answers (.rtTblRead h (b 0)) s h 0x0504 (b 0) (s.taken h 0x0504 (b 0)) 0 (out s.rt.shadow) ∧
      Answers (.rtTblRead h (b 1)) s h 0x0504 (b 1) (s.taken h 0x0504 (b 1)) 0 (out s.rt.active)) ∧
    Answers (.rtTblClear h) s h 0x0505 [] ((s.taken h 0x0505 []).shadowWrite .clear) 0 [] ∧
    (∀ v : Nat, v < 2 ^ 18 → s.shadowSeen.dirOk v = true →
      Answers (.rtDirWrite h (le 4 v)) s h 0x0506 (le 4 v) ((s.taken h 0x0506 (le 4 v)).shadowWrite (.dir v)) 0 []) ∧
    (∀ force : Bool, s.rt.swap = none →
      let b := le 1 (b2n force)
      let t := s.taken h 0x0507 b
      let ts := s.swapSet
      let add := ((ts.filter fun t => !(bit (s.reg .rtFreeze 0) t)).map (2 ^ ·)).sum
      (ts = [] → Answers (.rtSwap h b) s h 0x0507 b t 0 (t.outCounts (List.range 19))) ∧
      (ts ≠ [] → Defers (.rtSwap h b) s h 0x0507 b
        (((t.each ts fun s x => s.fwHold (arbKey 4 x) true).putFreeze (s.reg .rtFreeze 0 + add)).onRt fun r =>
          { r with swap := some { stage := 2, affected := ts, force := force, startedAt := s.now, froze := add } }) 0)) ∧
    (∀ n : Nat, n < 18 →
      let t := s.taken h 0x0508 (le 1 n)
      let rt : List Reg := [.rtDropNoroute, .rtDropHops, .rtDup, .rtStale, .rtMalformed, .rtMgmtReject, .rtMgmtDrop, .rtDropLocal,
        .rtSwaps, .rtSwapTimeout, .rtForced]
      Answers (.rtCounters h (le 1 n)) s h 0x0508 (le 1 n) t 0
        ((rt.flatMap fun r => le 4 (t.reg r 0)) ++ glCounters.flatMap fun r => le 4 (t.reg r n)))

/-- A write of GL_CTRL.ENABLE: a port that is already as asked is left so, a shut-down port starts training with a raised epoch,
a running one is shut down, and while a shut-down runs both wait for its end; and the writes of expert registers that are rows
of their own, from mailbox 0 or 1 (R292, R299, R314, R319, R324, R340, R398 to R401, R405, R406, R427, R532).
Model choices: log 53, 69. -/
def Obligations.ExpertWrites : Prop :=
  (∀ (s : State) (n : Nat),
    (s.ownId ≠ 0xFFFF → s.reg .glCtrlEnable n = 1 → s.writeEnable n true = (s, rOk)) ∧
    (s.ownId ≠ 0xFFFF → s.reg .glCtrlEnable n ≠ 1 → (s.link n).shutting = false →
      s.writeEnable n true = (((s.setReg .glCtrlEnable n 1).epochUp n).linkTrain n, rOk)) ∧
    (s.ownId ≠ 0xFFFF → s.reg .glCtrlEnable n ≠ 1 → (s.link n).shutting = true → (s.link n).enableDeferred = false →
      s.writeEnable n true = (s.onLink n fun l => { l with enableDeferred := true }, .defer n)) ∧
    ((s.link n).shutting = false → (s.link n).enableDeferred = false → (s.link n).st ≠ .disabled →
      s.writeEnable n false = ((s.setReg .glCtrlEnable n 0).shutPort n, rOk)) ∧
    ((s.link n).shutting = true → (s.writeEnable n false).2 = .defer (n + 32))) ∧
  (∀ (s : State) (h : MbxHdr), h.mbx.val < 2 →
    let body (a m v : Nat) := le 4 a ++ le 4 m ++ le 4 v
    let kept (a m v : Nat) := s.taken h 0x0F02 (body a m v)
    let ok (c : Instr) (a m v : Nat) (u : State) : Prop := Answers c s h 0x0F02 (body a m v) u 0 []
    (∀ n : Port, s.ownId ≠ 0xFFFF → (s.link n).shutting = false → (s.link n).enableDeferred = false →
      let a := 0x02000000 + 0x10000 * n.val
      let rest (u : State) := (u.setReg .glCtrlSpareAuto n (s.reg .glCtrlSpareAuto n % 2)).setReg .glCtrlLpiAllow n
        (s.reg .glCtrlLpiAllow n % 2)
      (s.reg .glCtrlEnable n ≠ 1 →
        ok (.portEnable h n) a 1 1 (rest ((((kept a 1 1).setReg .glCtrlEnable n 1).epochUp n).linkTrain n))) ∧
      ((s.link n).st ≠ .disabled → ok (.portDisable h n) a 1 0 (rest (((kept a 1 0).setReg .glCtrlEnable n 0).shutPort n)))) ∧
    (∀ (n : Port) (i : Fin 2048),
      ok (.schBucketClear h n 0 i) (0x04010008 + 0x10000 * n) 1 1 ((kept (0x04010008 + 0x10000 * n) 1 1).clearBucket n 0 0) ∧
      (let a := 0x04012008 + 0x10000 * n.val + 0x20 * (i.val % 512)
       ok (.schBucketClear h n 1 i) a 0x100 0x100 ((kept a 0x100 0x100).clearBucket n 1 (i.val % 512))) ∧
      (let a := 0x04018008 + 0x10000 * n.val + 0x10 * i.val
       ok (.schBucketClear h n 2 i) a 0x100 0x100 ((kept a 0x100 0x100).clearBucket n 2 i))) ∧
    (∀ (n : Port) (queue : Nat) (ing clr : Bool), queue < 2048 → (ing = true → queue < 256) →
      let a := 0x04010100 + 0x10000 * n.val
      let v := queue + 2048 * b2n ing + 4096 * b2n clr
      ok (.schHistSel h n (BitVec.ofNat 32 v)) a 0xFFFFFFFF v ((kept a 0xFFFFFFFF v).writeHistSel n queue ing clr).1) ∧
    (∀ (p : Fin 256) (v : BitVec 32),
      let a (r : Nat) := 0x04000000 + 0x40 * p.val + 4 * r
      let g (r : Reg) := s.reg r p
      let w (r : Nat) (en aware cir pir cbs pbs : Nat) :=
        ok (.policerParamWrite h p (Fin.ofNat 5 r) v) (a r) 0xFFFFFFFF v.toNat
          ((kept (a r) 0xFFFFFFFF v.toNat).writePolicer p en aware cir pir cbs pbs).1
      (g .polCir ≤ g .polPir → w 0 (v.toNat % 2) (v.toNat / 2 % 2) (g .polCir) (g .polPir) (g .polCbs) (g .polPbs)) ∧
      (v.toNat ≤ g .polPir → v.toNat ≤ 2000000 →
        w 1 (g .polCfgEn) (g .polCfgAware) v.toNat (g .polPir) (g .polCbs) (g .polPbs)) ∧
      (g .polCir ≤ v.toNat → v.toNat ≤ 2000000 →
        w 2 (g .polCfgEn) (g .polCfgAware) (g .polCir) v.toNat (g .polCbs) (g .polPbs)) ∧
      (g .polCir ≤ g .polPir → 4224 ≤ v.toNat → w 3 (g .polCfgEn) (g .polCfgAware) (g .polCir) (g .polPir) v.toNat (g .polPbs)) ∧
      (g .polCir ≤ g .polPir → 4224 ≤ v.toNat → w 4 (g .polCfgEn) (g .polCfgAware) (g .polCir) (g .polPir) (g .polCbs) v.toNat)) ∧
    (let k := arbKey (s.sel h.mbx).1 (s.sel h.mbx).2
     ok (.arbFreeze h) 0x01000008 1 1 ((kept 0x01000008 1 1).onArb k fun a => { a with frozen := true }) ∧
     ((s.arb k).fwHold = false → ok (.arbUnfreeze h) 0x01000008 1 0 ((kept 0x01000008 1 0).onArb k fun a => { a with frozen := false })) ∧
     ok (.arbClear h) 0x0100001C 1 1 ((kept 0x0100001C 1 1).onArb k fun a => { a with grants := 0, trumpCount := 0, maxWait := 0 })) ∧
    (∀ v : BitVec 8, 1 ≤ v.toNat →
      ok (.arbTrumpLimit h v) 0x01000000 0xFF v.toNat ((kept 0x01000000 0xFF v.toNat).setReg .arbTrumpLimit 0 v.toNat)) ∧
    (∀ v : Bool, ok (.routeEn h v) 0x03000000 1 (b2n v)
      (((kept 0x03000000 1 (b2n v)).setReg .rtCtrlRouteEn 0 (b2n v)).rerouteAll fun _ => true)) ∧
    (∀ v : BitVec 19, s.rt.swap = none →
      ok (.rtFreeze h v) 0x03000018 0x7FFFF v.toNat ((kept 0x03000018 0x7FFFF v.toNat).setReg .rtFreeze 0 v.toNat)) ∧
    (∀ (c : Chan) (map : BitVec 2), map.toNat ≤ 2 → s.chanFrames c = 0 →
      let a := 0x06000000 + 0x100000 * (c.val / 32) + 0x1000 * (c.val % 32)
      ok (.mcChCfgMapWrite h c map) a 3 map.toNat ((kept a 3 map.toNat).setReg .mcChCfgMap c map.toNat)))

/-- EXP_READ returns the words as the mailbox reads them, a word the mailbox may not reach is MB_ST_DENIED and one that does
not exist MB_ST_RANGE; EXP_WRITE of a field outside its range changes nothing, and one of a field that needs an agreement is
answered MB_ST_AGREEMENT_REQUIRED and leaves it unchanged (R15, R16, R425 to R427).
Model choices: log 69, 138. -/
def Obligations.ExpertAccess : Prop :=
  ∀ (s : State) (h : MbxHdr) (addr : BitVec 32),
    let a := addr.toNat
    (∀ count : BitVec 16, 1 ≤ count.toNat → count.toNat ≤ 1017 →
      let b := le 4 a ++ le 2 count.toNat
      let t := s.taken h 0x0F01 b
      (wordsExist a count.toNat = false → Answers (.expRead h addr count) s h 0x0F01 b t 5 []) ∧
      (wordsExist a count.toNat = true →
        ((∃ i, i < count.toNat ∧ s.mayReach h.mbx false 0 (a + 4 * i) = false) →
          Answers (.expRead h addr count) s h 0x0F01 b t 4 []) ∧
        ((∀ i, i < count.toNat → s.mayReach h.mbx false 0 (a + 4 * i) = true) →
          Answers (.expRead h addr count) s h 0x0F01 b t 0
            ((List.range count.toNat).flatMap fun i => le 4 (t.readWord h.mbx (a + 4 * i)))))) ∧
    (∀ mask value : BitVec 32,
      let b := le 4 a ++ le 4 mask.toNat ++ le 4 value.toNat
      let t := s.taken h 0x0F02 b
      let w := t.merge h.mbx a mask.toNat value.toNat
      wordsExist a 1 = true → s.mayReach h.mbx true mask.toNat a = true →
      ((∃ x ∈ w.fields, x.1.acc = .rwl ∧ w.sel x = true) → Answers (.expWrite h addr mask value) s h 0x0F02 b t 9 []) ∧
      ((∀ x ∈ w.fields, x.1.acc = .rwl → w.sel x = false) →
        (w.inRange = false → Answers (.expWrite h addr mask value) s h 0x0F02 b t 5 []) ∧
        (w.inRange = true →
          (∀ x rest, w.fields = x :: rest → x.1.reg.blk ∈ [.dir, .ecc, .scb, .deal, .pwr, .ptn, .sec] →
            Answers (.expWrite h addr mask value) s h 0x0F02 b (t.plainWrite w) 0 []) ∧
          (∀ u st r, t.writeWord h.mbx w = (u, .now st r) → Answers (.expWrite h addr mask value) s h 0x0F02 b u st r))))

/-- SCH_GROUP_WRITE writes the group map; SCH_SLOT_WRITE refuses an image with a reserved value or too short a window, naming
its first slot, and otherwise makes it the port's pending table, one at a time. The flash and integrity families: what FL_INFO
returns of a die (capacities that the manual does not give are free values), a row remapped by command, a scrub of a range, the
last pass, records of the error log, which leave it (R316, R322, R386, R390 to R392, R424).
Model choices: log 68, 69. -/
def Obligations.SchedulingAndIntegrityCommands : Prop :=
  (∀ (s : State) (h : MbxHdr),
    (∀ (first : BitVec 16) (groups : List Byte), groups ≠ [] → groups.length ≤ 4072 → first.toNat + groups.length ≤ 49152 →
      let b := le 2 first.toNat ++ le 2 groups.length ++ groups
      let t := s.taken h 0x0509 b
      let put (m : Tab Nat) (i : Nat) : Tab Nat := Tab.set 0 m (first.toNat + i) (((groups[i]?).getD 0#8).toNat % 8)
      Answers (.schGroupWrite h first groups) s h 0x0509 b
        { t with groupMap := (List.range groups.length).foldl put t.groupMap } 0 []) ∧
    (∀ (port : BitVec 8) (slots : List Byte), port.toNat ≤ 17 → slots.length = 1024 →
      let n := port.toNat
      let b := le 1 n ++ zeros 3 ++ slots
      let t := s.taken h 0x050A b
      let img := slots.map fun v => v.toNat % 128
      (∀ i, badWindow img (s.reg .schWinGuard n) = some i → Answers (.schSlotWrite h port slots) s h 0x050A b t 5 (le 2 i)) ∧
      (badWindow img (s.reg .schWinGuard n) = none →
        ((s.eg n).swapPending = true → Answers (.schSlotWrite h port slots) s h 0x050A b t 8 []) ∧
        ((s.eg n).swapPending = false → Answers (.schSlotWrite h port slots) s h 0x050A b
          (t.onEg n fun e => { e with shadow := (img.zipIdx.map fun x => (x.2, x.1)).filter fun x => x.2 != 0x40,
                                      swapPending := true, shadowAt := s.now }) 0 [])))) ∧
  (∀ (s : State) (h : MbxHdr),
    (∀ die : BitVec 8, die.toNat ≤ 3 →
      let m := die.toNat
      let t := s.taken h 0x0601 (le 1 m)
      let raw := t.draw
      let left := raw.2.draw
      let d := t.fdie m
      Answers (.flInfo h die) s h 0x0601 (le 1 m) left.2 0
        (le 1 (b2n d.mounted + 2 * b2n d.gcActive + 4 * t.reg .flDieStatusKittyLow m + 8 * b2n d.noSpace) ++ zeros 3
          ++ le 8 raw.1 ++ le 4 d.goodGroups ++ le 4 d.freeGroups ++ le 4 d.kitty ++ le 2 d.luns.length
          ++ le 2 ((List.range 8).map fun i => (t.fch (8 * m + i)).lunReject).sum ++ le 4 (if d.mounted then 0 else left.1))) ∧
    (∀ (channel row : BitVec 16) (bank : BitVec 8), channel.toNat ≤ 383 → bank.toNat ≤ 31 → row.toNat ≤ 49151 →
      let c := channel.toNat
      let k := remapKey c bank.toNat row.toNat
      let b := le 2 c ++ le 1 bank.toNat ++ zeros 1 ++ le 2 row.toNat
      let t := s.taken h 0x0701 b
      let fails := (((t.chan c).repeatLog.filter fun e => e.bank == bank.toNat && e.row == row.toNat).map RepeatEnt.fails).sum
      (s.chan c).copying bank.toNat row.toNat = false → s.isDeferred 0x0701 k = false →
      (∀ u, t.startRemap c bank.toNat row.toNat 2 fails = some u → Defers (.intRemap h channel bank row) s h 0x0701 b u k) ∧
      (t.startRemap c bank.toNat row.toNat 2 fails = none →
        Answers (.intRemap h channel bank row) s h 0x0701 b (t.remapRefused c bank.toNat row.toNat 0xFF 52) 7 [])) ∧
    (∀ (handle : BitVec 32) (off len : BitVec 64) (e : ExtRec),
      let x := handle.toNat
      let b := le 4 x ++ zeros 4 ++ le 8 off.toNat ++ le 8 len.toNat
      s.extFor h.mbx x = some e → off.toNat % 128 = 0 → len.toNat % 128 = 0 → off.toNat + len.toNat ≤ e.length →
      e.st = .active → e.init = true → s.closed e = false → (∀ p ∈ s.mem.scrubs, ¬(p.demand = true ∧ p.ext = x)) →
      (s.mem.scrubs.filter fun p => p.demand && p.ptn == e.ptn).length < 4 →
      Defers (.intScrub h handle off len) s h 0x0702 b ((s.taken h 0x0702 b).onMem fun m =>
        { m with scrubs := m.scrubs ++ [{ ptn := e.ptn, ext := x, demand := true, startAt := s.now, off := off.toNat, len := len.toNat }] })
        x) ∧
    (∀ (ptn : BitVec 8) (p : ScrubPass), ptn.toNat ≤ 63 → Tab.get? s.mem.lastPass ptn.toNat = some p →
      Answers (.intScrubLast h ptn) s h 0x0703 (le 1 ptn.toNat) (s.taken h 0x0703 (le 1 ptn.toNat)) 0 p.summary) ∧
    (∀ die max : BitVec 8, die.toNat ≤ 3 → 1 ≤ max.toNat → max.toNat ≤ 127 →
      let m := die.toNat
      let b := le 1 m ++ le 1 max.toNat
      let t := s.taken h 0x0704 b
      let log := Tab.getD t.mem.errLog m []
      Answers (.intLogRead h die max) s h 0x0704 b
        (t.onMem fun x => { x with errLog := Tab.set [] x.errLog m (log.drop max.toNat) }) 0
        (le 1 (log.take max.toNat).length ++ zeros 3 ++ (log.take max.toNat).flatMap t.errBytes)))

/-- The partner family: the pair's state, findings of self-diagnosis, which leave the log as they are read, entries of the
wear record, a spare test (R482, R493, R494).
Model choices: log 69. -/
def Obligations.PartnerCommands : Prop :=
  ∀ (s : State) (h : MbxHdr),
    (let t := s.taken h 0x0801 []
     let g := t.sec.pset.pairing
     Answers (.prtInfo h) s h 0x0801 [] t 0
       (le 1 t.prt.st.code ++ le 1 t.prt.peerSt ++ le 1 (b2n (g.elim false (·.takeover)) + 2 * b2n t.prt.silent) ++ zeros 1
         ++ le 2 (g.elim 0 (·.peer)) ++ le 2 (g.elim 0 (·.sharedId)) ++ le 4 (t.exts.filter fun e => e.2.mirrored).length
         ++ le 8 (65536 * t.prt.resyncTodo.length) ++ le 4 t.prt.mseq ++ le 4 t.prt.acked ++ le 4 t.prt.switchovers)) ∧
    (∀ max : BitVec 8, 1 ≤ max.toNat → max.toNat ≤ 64 →
      let b := le 1 max.toNat
      let t := s.taken h 0x0802 b
      let rs := t.diag.recs.take max.toNat
      Answers (.prtDiagRead h max) s h 0x0802 b { t with diag := { t.diag with recs := t.diag.recs.drop max.toNat } } 0
        (le 1 rs.length ++ zeros 3 ++ le 4 t.diag.lost
          ++ rs.flatMap fun r => le 8 r.time ++ le 1 r.code ++ zeros 1 ++ le 2 r.unit ++ le 4 r.detail)) ∧
    (∀ first : BitVec 32, first.toNat < s.wear.ents.length ∨ first.toNat = 0 →
      let b := le 4 first.toNat
      let t := s.taken h 0x0803 b
      let es := (t.wear.ents.drop first.toNat).take 250
      Answers (.prtWearRead h first) s h 0x0803 b t 0
        (le 2 es.length ++ zeros 2 ++ le 8 t.wear.seq
          ++ es.flatMap fun e => le 1 e.kind ++ zeros 1 ++ le 2 e.unit ++ le 4 e.a ++ le 8 e.b)) ∧
    (∀ g : BitVec 8, g.toNat ≤ 31 → s.isDeferred 0x0804 g.toNat = false →
      Defers (.prtSpareTest h g) s h 0x0804 (le 1 g.toNat) (s.taken h 0x0804 (le 1 g.toNat)) g.toNat)

/-- The security family: identity, an attestation, a change proposed, signed by one role and by both, withdrawn, listed; a
certificate; a signature that does not verify is counted (R439, R440, R443 to R448).
Model choices: log 33, 34, 69. -/
def Obligations.SecurityCommands : Prop :=
  ∀ (s : State) (h : MbxHdr),
    (let t := s.taken h 0x0901 []
     Answers (.secInfo h) s h 0x0901 [] t 0 (le 4 t.secStatus ++ le 4 (t.svn 0) ++ le 4 (t.svn 1) ++ le 4 (t.svn 2)
       ++ le 4 t.sec.att.tree ++ le 4 t.sec.att.next ++ le 8 t.sec.agree ++ t.psetDigest ++ deviceId)) ∧
    (∀ (nonce : BitVec 256) (body : List Byte) (u : State),
      let b := le 32 nonce.toNat
      let t := s.taken h 0x0902 b
      let k := s.sec.att
      (t.attestWaits = false → t.signed 0 (t.attestBody b) = .ok (body, u) → Answers (.secAttest h nonce) s h 0x0902 b u 0 body) ∧
      (k.fault = false → k.leaf < k.blockEnd →
        let report := t.attestBody b k.tree
        Answers (.secAttest h nonce) s h 0x0902 b (t.onSec fun x => { x with att := { k with leaf := k.leaf + 1 } }) 0
          (report ++ xmssSig 0 k.tree k.leaf (digest32 report)))) ∧
    (∀ (kind : BitVec 8) (body : List Byte), body.length ≤ 4068 →
      let b := le 1 kind.toNat ++ zeros 3 ++ le 4 body.length ++ body
      let t := (s.taken h 0x0903 b).each (s.sec.changes.map (·.id)) State.expire
      let d := changeDigest t.sec.agree kind.toNat body
      let id := t.sec.nextId
      t.changeOk kind.toNat body = true →
      (∀ c ∈ t.sec.changes, changeTarget c.kind c.body ≠ changeTarget kind.toNat body) → t.sec.changes.length < 8 →
      Answers (.secPropose h kind body) s h 0x0903 b
        (t.onSec fun x => { x with nextId := wrapAdd 32 id 1, changes := x.changes ++
            [{ id := id, kind := kind.toNat, body := body, digest := d, agree := t.sec.agree, until' := t.windowEnd }] }) 0
        (le 4 id ++ d)) ∧
    (∀ (id : BitVec 32) (role : BitVec 8) (sig : List Byte) (c : Change), sig.length = 2820 → role.toNat ≤ 1 →
      let k := id.toNat
      let b := le 4 k ++ le 1 role.toNat ++ zeros 3 ++ sig
      let t := s.taken h 0x0904 b
      s.change? k = some c →
      (s.roleSigned role.toNat c.digest sig = false →
        Answers (.secSign h id role sig) s h 0x0904 b (t.bump .secSigFail 0) 12 []) ∧
      (s.roleSigned role.toNat c.digest sig = true →
        (c.signed = none → Defers (.secSign h id role sig) s h 0x0904 b
          (t.onSec fun x => { x with changes := x.changes.map fun y =>
            if y.id = k then { y with signed := some role.toNat, until' := t.windowEnd } else y }) k) ∧
        (∀ r u st rep, c.signed = some r → r ≠ role.toNat → c.agree = s.sec.agree → s.mtr.st ≠ 2 → s.vaultOk = true →
          t.commitChange c = (u, .now st rep) → Answers (.secSign h id role sig) s h 0x0904 b u st rep))) ∧
    (∀ (id : BitVec 32) (role : BitVec 8) (sig : List Byte) (c : Change), sig.length = 2820 → role.toNat ≤ 1 →
      let k := id.toNat
      let b := le 4 k ++ le 1 role.toNat ++ zeros 3 ++ sig
      let t := (s.taken h 0x0905 b).onSec fun x => { x with changes := x.changes.filter fun y => y.id != k }
      s.change? k = some c → s.roleSigned role.toNat (digest32 (c.digest ++ [0xFF#8])) sig = true →
      Answers (.secWithdraw h id role sig) s h 0x0905 b (if c.signed.isSome then t.complete 0x0904 k 6 [] else t) 0 []) ∧
    (let t := s.taken h 0x0906 []
     let l := t.sec.changes.filter fun c => decide (s.now < c.until')
     Answers (.secPendingRead h) s h 0x0906 [] t 0 (le 1 l.length ++ zeros 3 ++ l.flatMap fun c =>
       le 4 c.id ++ le 1 c.kind ++ le 1 (b2n c.signed.isSome) ++ le 1 (c.signed.getD 255) ++ zeros 1
         ++ le 4 ((c.until' - s.now) / oneSec) ++ c.digest)) ∧
    (∀ (i : BitVec 32) (c : List Byte), (s.certs 0)[i.toNat]? = some c →
      Answers (.secCertRead h i) s h 0x0907 (le 4 i.toNat) (s.taken h 0x0907 (le 4 i.toNat)) 0 c)

/-- The meter and Lookout families: what MTR_INFO returns of a running meter, a report or event list queued for signing, a
certificate; the power state and sleeping resources, a power state asked for, telemetry slots (R464 to R466, R474 to R479).
Model choices: log 59, 69. -/
def Obligations.MeterAndPowerCommands : Prop :=
  ∀ (s : State) (h : MbxHdr),
    (s.mtr.st = 0 →
      let t := s.taken h 0x0A01 []
      Answers (.mtrInfo h) s h 0x0A01 [] t 0 (le 1 0 ++ zeros 3 ++ le 4 t.mtr.svn ++ le 4 t.mtr.live.seals ++ zeros 4
        ++ le 8 t.mtr.last.commits ++ le 8 t.meterTime ++ le 8 t.mtr.live.seq
        ++ (List.range 8).flatMap fun l => le 1 (b2n (t.mtr.silent.contains l)))) ∧
    (s.mtr.st = 0 → s.mtr.queue.length < 17 → s.mtr.key.fault = false →
      let ask (t : State) (report : Bool) (q first : Nat) (nonce : List Byte) : State := t.onMtr fun x =>
        { x with nextReq := s.mtr.nextReq + 1, queue := x.queue ++
            [{ mbx := h.mbx, report := report, ptn := q, nonce := nonce, first := first, no := s.mtr.nextReq }] }
      (∀ (ptn : BitVec 8) (nonce : BitVec 256), ptn.toNat ≤ 63 →
        let b := le 1 ptn.toNat ++ zeros 3 ++ le 32 nonce.toNat
        Defers (.mtrReport h ptn nonce) s h 0x0A02 b (ask (s.taken h 0x0A02 b) true ptn.toNat 0 (le 32 nonce.toNat)) s.mtr.nextReq) ∧
      (∀ first : BitVec 64, Defers (.mtrEvents h first) s h 0x0A03 (le 8 first.toNat)
        (ask (s.taken h 0x0A03 (le 8 first.toNat)) false 0 first.toNat []) s.mtr.nextReq)) ∧
    (∀ (i : BitVec 32) (c : List Byte), (s.certs 1)[i.toNat]? = some c →
      Answers (.mtrCertRead h i) s h 0x0A04 (le 4 i.toNat) (s.taken h 0x0A04 (le 4 i.toNat)) 0 c) ∧
    (let t := s.taken h 0x0B01 []
     Answers (.lkInfo h) s h 0x0B01 [] t 0
       (le 1 (if t.lk.state = 3 then 2 else t.lk.state) ++ zeros 3 ++ le 12 (maskOf ((List.range 94).filter t.asleep))
         ++ (List.range 9).flatMap (fun d => le 1 (t.reg .pwrThrotLevel d)) ++ le 1 (((List.range 64).map t.temp).foldl max 0 / 256))) ∧
    (∀ state : BitVec 8, s.lk.state ≠ 2 →
      let b := le 1 state.toNat
      let t := s.taken h 0x0B02 b
      (state.toNat < 2 → Answers (.pwrState h state) s h 0x0B02 b
        (t.onLk fun k => { k with state := state.toNat, standbyAt := s.now }) 0 []) ∧
      (state.toNat = 2 → (∀ e ∈ s.exts, e.2.policy ≠ 0 ∧ e.2.tracked = false) → s.sec.pset.pairing = none →
        Defers (.pwrState h state) s h 0x0B02 b (t.onLk fun k => { k with state := 2, dormantAt := none }).dormantRun 0) ∧
      (state.toNat = 2 → (∃ e ∈ s.exts, e.2.policy = 0 ∨ e.2.tracked = true) → Answers (.pwrState h state) s h 0x0B02 b t 6 [])) ∧
    (∀ (slot addr reg : BitVec 8) (thresh : BitVec 16), slot.toNat ≤ 15 → addr.toNat ≤ 127 →
      let b := le 1 slot.toNat ++ le 1 addr.toNat ++ le 1 reg.toNat ++ zeros 1 ++ le 2 thresh.toNat
      let old : TelemSlot := Tab.getD s.lk.telem slot.toNat {}
      let new : TelemSlot := { old with addr := addr.toNat, reg := reg.toNat, thresh := thresh.toNat }
      Answers (.lkTelemCfg h slot addr reg thresh) s h 0x0B03 b
        ((s.taken h 0x0B03 b).onLk fun k => { k with telem := Tab.set {} k.telem slot.toNat new }) 0 []) ∧
    (let t := s.taken h 0x0B04 []
     Answers (.lkTelemRead h) s h 0x0B04 [] t 0
       ((List.range 16).flatMap (fun i => le 2 (Tab.getD t.lk.telem i {}).value) ++ le 2 (t.reg .pwrTelemAlert 0)))

/-! ### HBM -/

/-- ACT opens the row of the bank's head entry, or its spare row, fills the check buffer, counts the activation for its tag and
in the row's tail, and below the threshold does no more; at the threshold the row's count is written 0, the tag with the most
activations is throttled and the trigger recorded. A bank closes its row for a head entry on another row, or when its queue has
been empty long enough, and writes a changed check buffer back; a queued write is stored with its check bytes in the open row;
a row past the last spare row does not exist (R327 to R329, R335, R336, R348 to R350, R376, R380, R381).
Model choices: log 12. -/
def Obligations.HbmBankCommands : Prop :=
  (∀ (s : State) (c : Chan) (b : Fin 32) (r : ChanReq) (q : List ChanReq),
    Tab.getD (s.chan c).bankQ b [] = r :: q → Tab.get? (s.chan c).openRow b = none → (s.stack (c / 32)).selfRefresh = false →
    (s.chan c).failed = false →
    let row := (s.chan c).rowOf b r.row
    let cols := Mem.reads dramByte s.mem.dram (dramAddr c b row 1920) 128
    let acts := Tab.getD (s.chan c).tagActs (b * 64 + r.tag) 0 + 1
    let opened := (s.onChan c fun x => { x with
      openRow := Tab.put x.openRow b row, checkBuf := Tab.put x.checkBuf b cols,
      tagActs := Tab.put x.tagActs (b * 64 + r.tag) acts }).bump .mcActs c
    let ep := (s.stack (c / 32)).epoch
    let held := if field cols 124 4 + field cols 120 4 ≠ 2 ^ 32 - 1 then s.reg .mcRhThresh c
      else if field cols 122 1 ≠ ep then 0 else field cols 120 2
    let n := min 65535 (held + 1)
    let tail (n : Nat) : List Byte := le 4 (n + ep * 65536) ++ le 4 (2 ^ 32 - 1 - (n + ep * 65536))
    let counted := opened.setCheck c b row 120 (tail n)
    (n < s.reg .mcRhThresh c → exec (.act c b) s = .next counted) ∧
    (s.reg .mcRhThresh c ≤ n →
      let t := heaviest (Tab.put (s.chan c).tagActs (b * 64 + r.tag) acts) b
      let level := min (s.reg .mcRhFloor c) (Tab.getD (s.chan c).level t 0 + 1)
      let throttled := (counted.setCheck c b row 120 (tail 0)).onChan c fun x =>
        { x with level := Tab.put x.level t level, levelAt := Tab.put x.levelAt t s.now }
      exec (.act c b) s = .next (((((throttled.setReg .mcRhLastBank c b).setReg .mcRhLastTag c t).setReg .mcRhLastRow c
        r.row).bump .mcRhEvents c).bump .mcRfmIssued c))) ∧
  (∀ (s : State) (c : Chan) (b : Fin 32) (row : Nat), Tab.get? (s.chan c).openRow b = some row →
    let closed (u : State) : State := u.onChan c fun x =>
      { x with openRow := Tab.del x.openRow b, checkBuf := Tab.del x.checkBuf b, emptySince := u.now, checkDirty := x.checkDirty.filter (· ≠ b.val) }
    let shut : State := if b.val ∈ (s.chan c).checkDirty then
        closed (s.onMem fun m => { m with
          dram := Mem.writes dramByte m.dram (dramAddr c b row 1920) (Tab.getD (s.chan c).checkBuf b (zeros 128)) })
      else closed s
    ((∀ r q, Tab.getD (s.chan c).bankQ b [] = r :: q → (s.chan c).rowOf b r.row ≠ row) → exec (.pre c b) s = .next shut) ∧
    (Tab.getD (s.chan c).bankQ b [] = [] → Tab.getD (s.chan c).idleSince b 0 + s.reg .mcChCfgIdleClose c * 80 ≤ s.now →
      exec (.idleCloseExpiry c b) s = .next shut) ∧
    (∀ r q d m, Tab.getD (s.chan c).bankQ b [] = r :: q → r.kind = .write d m → (s.chan c).rowOf b r.row = row →
      (s.chan c).pausedTo ≤ s.now →
      let line := if m = 0 then d else zeros 128
      let data := s.onMem fun x => { x with dram := Mem.writes dramByte x.dram (dramAddr c b row (128 * r.slot)) line }
      exec (.hbmColumnWrite c b) s = .next
        (((data.setCheck c b row (8 * r.slot) (xorBytes (rsCheck line) (markPattern m))).bump .mcWrLines c).onChan c fun x =>
          { x with bankQ := if q = [] then Tab.del x.bankQ b else Tab.put x.bankQ b q,
                   idleSince := if q = [] then Tab.put x.idleSince b s.now else x.idleSince, emptySince := s.now,
                   postponed := if q = [] then x.postponed.filter (fun e => x.busyBut b e.1) else x.postponed })) ∧
    (∀ (i : BitVec 16) (slot : Fin 15) (errs : List (Fin 136 × Byte)),
      49152 ≤ i.toNat → exec (.hbmColumnRead c b i slot errs) s = .fault .absentRow))

/-- HBM_COLUMN_READ: the line that stands in the arrays is decoded; a clean line changes no more than the read count; a
corrected, poisoned or uncorrectable one is counted, and what needs repair is written back, logged and kept in the repeat log
(R333, R377 to R379, R384, R392). -/
def Obligations.HbmColumnReads : Prop :=
  ∀ (s : State) (c : Chan) (b : Fin 32) (row : BitVec 16) (slot : Fin 15) (line check : List Byte) (o : LineOut) (d : List Byte),
    let i := row.toNat
    let t := s.bump .mcRdLines c
    i < 49152 → (s.chan c).pausedTo ≤ s.now → (s.stack (c / 32)).selfRefresh = false → (s.chan c).failed = false →
    (s.chan c).queued b i slot 51 = none →
    line = Mem.reads dramByte s.mem.dram (dramAddr c b ((s.chan c).rowOf b i) (128 * slot.val)) 128 →
    check = slice (s.checkCols c b ((s.chan c).rowOf b i)) (8 * slot.val) 8 → decodeLine line check = (o, d) →
    let repaired (u : State) (kind n mark : Nat) : State :=
      let wb : ChanReq := { kind := .write d mark, bank := b, row := i, slot := slot, tag := 51, since := s.now, reserved := true,
                            li := lineOf (s.reg .mcChCfgMap c) b i slot }
      (((u.onChan c fun x => { x with bankQ := Tab.put x.bankQ b (wb :: Tab.getD x.bankQ b []) }).errLog c b i slot kind 51 n).repeatFail
        c b i slot 51)
    (o = .data → exec (.hbmColumnRead c b row slot []) s = .next t) ∧
    (o = .poison → exec (.hbmColumnRead c b row slot []) s = .next (t.bump .eccChPoisonReads c)) ∧
    (o = .marked → exec (.hbmColumnRead c b row slot []) s = .next (t.bump .eccChUncorr c)) ∧
    (∀ n, o = .corrected n → exec (.hbmColumnRead c b row slot []) s = .next (repaired (t.bump .eccChCorrected c) 1 n 0)) ∧
    (∀ n, o = .poisonRepaired n →
      exec (.hbmColumnRead c b row slot []) s = .next (repaired ((t.bump .eccChPoisonReads c).bump .eccChRepaired c) 2 n 1)) ∧
    (∀ n, o = .markedRepaired n →
      exec (.hbmColumnRead c b row slot []) s = .next (repaired ((t.bump .eccChUncorr c).bump .eccChRepaired c) 3 n 2)) ∧
    (o = .uncorrectable → exec (.hbmColumnRead c b row slot []) s = .next (repaired (t.bump .eccChUncorr c) 4 0 2))

/-- Refresh, the end of a window and of a hold, power-down, temperature, calibration, retraining, boot training, the end of a
row copy, and admission (R332, R341 to R350, R383, R386, R387, R501).
Model choices: log 12. -/
def Obligations.HbmUpkeep : Prop :=
  ∀ (s : State) (c : Chan) (k : Stk),
    ((s.stack (c / 32)).selfRefresh = false → (s.chan c).refAt + s.refInterval c ≤ s.now →
      let t := if (s.chan c).refMode = 1 then (s.chan c).refBank else 32
      let n := Tab.getD (s.chan c).postponed t 0
      let u := s.onChan c fun x =>
        { x with refBank := if t < 32 then (t + 1) % 32 else x.refBank, hot := (s.stack (c / 32)).hot, refAt := s.now,
                 refMode := s.reg .mcChCfgRefMode c, pwr := if x.pwr = 1 then 0 else x.pwr, emptySince := if x.pwr = 1 then s.now else x.emptySince }
      let on (u : State) (f : Tab Nat → Tab Nat) : State := u.onChan c fun x => { x with postponed := f x.postponed }
      ((s.chan c).busy t = false → exec (.refreshDue c) s = .next (on u fun p => Tab.del p t)) ∧
      ((s.chan c).busy t = true → n < 8 → exec (.refreshDue c) s = .next (on u fun p => Tab.put p t (n + 1))) ∧
      ((s.chan c).busy t = true → 8 ≤ n → exec (.refreshDue c) s = .next (on (u.bumpN .mcRefForced c 9) fun p => Tab.del p t))) ∧
    ((s.stack k).epochAt + (if (s.stack k).hot then 16 else 32) * msec ≤ s.now →
      exec (.refreshWindowEnd k) s = .next ((s.onStack k fun x => { x with epoch := (x.epoch + 1) % 256, epochAt := s.now }).onMem
        fun m => { m with chans := m.chans.map fun e => (e.1, if e.1 / 32 = k.val then { e.2 with tagActs := [] } else e.2) })) ∧
    (∀ tag : Ptn, Tab.getD (s.chan c).levelAt tag 0 + (if (s.stack (c / 32)).hot then 16 else 32) * msec ≤ s.now →
      exec (.throttleHoldEnd c tag) s = .next (s.onChan c fun x => { x with
        level := Tab.del x.level tag, levelAt := Tab.del x.levelAt tag, grantAt := Tab.del x.grantAt tag })) ∧
    (s.reg .mcChCfgPdIdle c ≠ 0 → (s.chan c).quiet = true → (s.chan c).pwr = 0 →
      (s.chan c).emptySince + s.reg .mcChCfgPdIdle c * 16 * 80 ≤ s.now →
      exec (.powerDownEntry c) s = .next (s.onChan c fun x => { x with pwr := 1 })) ∧
    (∀ temp : BitVec 8, (s.stack k).tempAt + msec ≤ s.now → exec (.stackTempRead k temp) s = .next (s.onStack k fun x =>
      { x with temp := temp.toNat, tempAt := s.now, hot := decide (85 < temp.toNat) || (x.hot && decide (82 ≤ temp.toNat)) })) ∧
    (∀ i : Fin 32, (s.stack k).selfRefresh = false → Tab.getD (s.stack k).zqAt i 0 + s.reg .mcStkZqPeriod k * msec ≤ s.now →
      s.stackPauses k = false →
      exec (.zqCalibration k i) s = .next ((s.onStack k fun x => { x with zqAt := Tab.put x.zqAt i s.now }).onChan (32 * k.val + i.val)
        fun x => { x with pausedTo := s.now + usec })) ∧
    ((s.stack (c / 32)).selfRefresh = false → (s.chan c).failed = false → s.retrainDue c = true → s.stackPauses (c / 32) = false →
      let paused (n : Nat) : State := s.onChan c fun x => { x with pausedTo := s.now + 20 * usec, trainFails := n }
      let n := (s.chan c).trainFails + 1
      exec (.retraining c true) s = .next (((paused 0).onStack (c / 32) fun x =>
        { x with trainAt := Tab.put x.trainAt (c % 32) s.now }).onChan c fun x => { x with trainTemp := (s.stack (c / 32)).temp }) ∧
      (n < 3 → exec (.retraining c false) s = .next ((paused n).bump .mcTrainFail c)) ∧
      (3 ≤ n → exec (.retraining c false) s = .next
        (((((paused n).bump .mcTrainFail c).bumpN .mcWrDiscard c ((s.chan c).bankQ.map fun e => e.2.length).sum).onChan c fun x =>
          { x with failed := true, bankQ := [] }).finding 3 c 0))) ∧
    (s.board.phase = .stage1 → s.board.linkOpen = true →
      let up := s.each (List.range 12) fun s k =>
        (s.onStack k fun x => { x with trained := true, epochAt := s.now }).each (List.range 32) fun s i =>
          s.onChan (32 * k + i) fun x => { x with trainTemp := (s.stack k).temp }
      exec (.hbmBootTrainingDone []) s = .next (up.onBoard fun b => { b with hbmDone := true }).advance ∧
      exec (.hbmBootTrainingDone [c]) s = .next
        (((((up.bumpN .mcTrainFail c 3).bumpN .mcWrDiscard c ((s.chan c).bankQ.map fun e => e.2.length).sum).onChan c fun x =>
          { x with failed := true, bankQ := [] }).finding 3 c 0).onBoard fun b => { b with hbmDone := true }).advance) ∧
    (∀ j js, (s.chan c).copies = j :: js →
      let e : RemapEnt := { valid := true, copying := false, bank := j.bank, row := j.row, spare := j.spare, cause := j.cause,
                            fails := min 65535 j.fails }
      let t := (s.copyRow c j.bank ((s.chan c).rowOf j.bank j.row) (49152 + j.spare)).onChan c fun x =>
        { x with remap := startNext (x.remap.set j.entry e) js, copies := js }
      exec (.remapCopyDone c) s = .next (t.wearOut { kind := 4, unit := c, a := 0, b := e.bits }
        (some (c * 2 ^ 21 + j.bank * 65536 + j.row)))) ∧
    (∀ tag r q, (s.tagsOf c) = ([tag], [tag]) → tag < 53 → Tab.getD (s.chan c).tagQ tag [] = r :: q →
      (s.arb c).frozen = false → (s.arb c).fwHold = false →
      ∃ a, exec (.channelAdmit c) s = .next ((((s.onArb c fun _ => a).onChan c fun x =>
        { x with tagQ := if q = [] then Tab.del x.tagQ tag else Tab.put x.tagQ tag q }).takeIn c r).settleAll) ∧
        a.lastWinner = tag ∧ a.grants = wrapAdd 32 (s.arb c).grants 1)

/-- Scrubbing. A walk starts when its period has passed, and one still open then is late; it reads the first line at or past its
place in a frame that qualifies, counts the outcome and moves on; a channel without such a line is done, and the walk ends with its
last channel. A pass on demand reads its next resident line, waking a stack, checks a FLASH page in flash, skips a page without
contents, waits for a promotion, and at its end completes INT_SCRUB with the summary (R388 to R391). -/
def Obligations.Scrubbing : Prop :=
  ∀ (s : State) (q : Ptn) (c : Chan) (p : ScrubPass),
    let period := s.reg .scbPtnPeriod q * 3600 * oneSec
    (s.walkOf q = none → (∀ l, Tab.get? s.mem.lastPass q = some l → l.startAt + period ≤ s.now) →
      s.reg .scbPtnCfgMode q = 0 → (s.ptn q).st = .active →
      let lines (c : Nat) : Nat := 512 * ((Tab.keys (s.chan c).frames).filter (s.qualifies c)).length
      exec (.scrubPassStart q) s = .next ((s.onMem fun m => { m with scrubs := m.scrubs ++ [
        { ptn := q, demand := false, startAt := s.now,
          gap := (s.ptn q).channels.map fun c => (c, max usec (period / max 1 (lines c))) }] }).setReg .scbPtnLines q 0)) ∧
    (s.walkOf q = some p → p.startAt + period ≤ s.now →
      exec (.scrubPassStart q) s = .next ((s.setPass p { p with late := true }).setReg .scbPtnStatusLate q 1)) ∧
    (s.walkOf q = some p → c.val ∈ (s.ptn q).channels →
      (∀ x ∈ s.mem.scrubs, x.demand = true → x.ptn = q.val → s.demandsOn x c = false) →
      (s.stack (c / 32)).selfRefresh = false → (∀ t, Tab.get? p.readAt c = some t → t + Tab.getD p.gap c usec ≤ s.now) →
      let turn := (Tab.keys (s.chan c).frames).filter fun f => Tab.getD p.pos c 0 / 512 ≤ f && s.qualifies c f
      (∀ f rest, turn = f :: rest →
        let li := max (Tab.getD p.pos c 0) (f * 512)
        let r := s.scrubRead p c li 0
        exec (.scrubWalkRead q c) s = .next ((r.2.setPass p { r.1 with
          pos := Tab.put p.pos c (li + 1), readAt := Tab.put p.readAt c s.now }).bump .scbPtnLines q)) ∧
      (turn = [] →
        let done := { p with pos := Tab.put p.pos c 23592960 }
        ((∀ x ∈ (s.ptn q).channels, Tab.getD done.pos x 0 = 23592960) → exec (.scrubWalkRead q c) s = .next
          ((s.onMem fun m => { m with scrubs := m.scrubs.erase p, lastPass := Tab.put m.lastPass q done }).bump .scbPtnPasses q)) ∧
        ((∃ x ∈ (s.ptn q).channels, Tab.getD done.pos x 0 ≠ 23592960) →
          exec (.scrubWalkRead q c) s = .next (s.setPass p done)))) ∧
    (∀ ext : BitVec 20, s.mem.scrubs.find? (fun x => x.demand && x.ext == ext.toNat) = some p →
      let w := exec (.scrubDemandRead ext) s
      let a := p.off + p.cur
      let page := a / 65536
      let r := s.pageOr ext.toNat page
      let pageEnd := min p.len ((page + 1) * 65536 - p.off)
      (p.len ≤ p.cur → w = .next ((s.onMem fun m => { m with scrubs := m.scrubs.erase p }).complete 0x0702 p.ext 0 p.summary)) ∧
      (p.cur < p.len →
        (∀ f, r.st = .clean ∨ r.st = .dirty → r.frame = some f →
          ((s.stack (r.home / 32)).selfRefresh = true → w = .next (s.wakeRes (32 + r.home / 32))) ∧
          ((s.stack (r.home / 32)).selfRefresh = false →
            (∀ t, Tab.get? p.readAt r.home = some t → t + 100000000 / max 1 (s.reg .scbPtnDemandRate p.ptn) ≤ s.now) →
            let x := s.scrubRead p r.home (f * 512 + a / 128 % 512) a
            w = .next (x.2.setPass p { x.1 with cur := p.cur + 128, readAt := Tab.put p.readAt r.home s.now }))) ∧
        (r.st = .zero ∨ r.st = .unwritten → r.frame = none →
          w = .next (s.setPass p { p with cur := pageEnd, skipped := p.skipped + 1 })) ∧
        (r.st = .promoting → w = .next s) ∧
        (r.st = .flash →
          let k := pageKey ext.toNat page
          let f := locChan (dieOf r.home) (r.loc.getD 0)
          let u (x : FlReq) (s : State) : State := (s.bump .flChReads f).setPass p
            { p with cur := pageEnd, flashPages := p.flashPages + 1, flashUncorr := p.flashUncorr + x.bad.length }
          ((∀ x ∈ (s.fch f).queue, x.op ≠ .scrub k) → w = .next
            (s.flashOp f { op := .scrub k, ptn := p.ptn, prio := 4, since := s.now, loc := r.loc.getD 0 })) ∧
          (∀ x v, s.takeOp f (fun x => x.op == .scrub k) = some (x, v) →
            (x.bad = [] → w = .next (u x v)) ∧
            (∀ v', x.bad ≠ [] → (u x v).promote p.ptn ext.toNat page = some v' → w = .next (v'.onFch f fun y =>
              { y with queue := y.queue.map fun z => if z.op == .promote k then { z with bad := x.bad } else z }))))))

/-- The three address maps: LI is frame × 512 + line, the map that MC_CH_CFG.MAP names gives bank, row and slot, the line's 128
bytes stand in the slot's two data columns, and each map is a bijection onto the data slots (R339). -/
def Obligations.AddressMaps : Prop :=
  (∀ (s : State) (h line tag : Nat) (p : PageRec) (f : Nat), s.pageOr h (line / 512) = p → p.frame = some f →
    let m := mapLine (s.reg .mcChCfgMap p.home) (f * 512 + line % 512)
    (s.readExt h line tag).1 = ((s.demandChan p.home).readLine p.home m.1 m.2.1 m.2.2 tag).1) ∧
  (∀ (s : State) (c b row slot : Nat) (d : List Byte) (j : Nat), Mem.wf dramByte s.mem.dram = true → slot < 15 → d.length = 128 →
    j < 128 → Mem.read dramByte (s.storeLine c b row slot 0 d).mem.dram (dramAddr c b row (128 * slot + j)) = (d[j]?).getD 0#8) ∧
  (∀ li, mapLine 0 li = ((li / 15) &&& 31, (li / 15) >>> 5, li % 15)) ∧
  (∀ li, mapLine 1 li = (li &&& 31, (li >>> 5) / 15, (li >>> 5) % 15)) ∧
  (∀ li, let row := (li >>> 5) / 15
    mapLine 2 li = ((li &&& 31) ^^^ (row &&& 31) ^^^ ((row >>> 5) &&& 31) ^^^ ((row >>> 10) &&& 31) ^^^ (row >>> 15), row,
      (li >>> 5) % 15)) ∧
  (∀ k j, j < 15 → mapLine 0 (15 * k + j) = (k % 32, k / 32, j)) ∧
  (∀ k j, j < 32 → mapLine 1 (32 * k + j) = (j, k / 15, k % 15)) ∧
  ∀ map, map ≤ 2 →
    (∀ li, li < 23592960 → (mapLine map li).1 < 32 ∧ (mapLine map li).2.1 < 49152 ∧ (mapLine map li).2.2 < 15) ∧
    ∀ b row slot, b < 32 → row < 49152 → slot < 15 →
      ∃ li, li < 23592960 ∧ mapLine map li = (b, row, slot) ∧ ∀ k, k < 23592960 → mapLine map k = (b, row, slot) → k = li

/-! ### Check-value units, arbiters and mailboxes -/

/-- The check-value units: CRC-32C runs over the bytes fed, low byte first; an ALIVE count sets, meets or misses the expectation
(R430 to R432). The check value of the digits 1 to 9 is CRC-32C's own.
Model choices: log 42. -/
def Obligations.CheckValueUnits : Prop :=
  (crc32c ((List.range 9).map fun i => BitVec.ofNat 8 (0x31 + i))).toNat = 0xE3069283 ∧
  ∀ (s : State) (i : Chk),
    let c := s.checker i
    let put (c : Checker) : Host.Outcome State Fault Refusal := .next { s with chk := Tab.set {} s.chk i c }
    let fed (l : List Byte) : Checker :=
      { c with value := BitVec.ofNat 32 (l.foldl crcByte c.value.toNat), bytes := (c.bytes + l.length) % 2 ^ 32 }
    exec (.chkInit i) s = put { c with value := 0xFFFFFFFF#32 } ∧
    exec (.chkAliveClr i) s = put { c with expValid := false } ∧
    (∀ v : BitVec 8, exec (.chkData8 i v) s = put (fed [v])) ∧
    (∀ v : BitVec 16, exec (.chkData16 i v) s = put (fed [v.setWidth 8, (v >>> 8).setWidth 8])) ∧
    (∀ v : BitVec 32, exec (.chkData32 i v) s =
      put (fed [v.setWidth 8, (v >>> 8).setWidth 8, (v >>> 16).setWidth 8, (v >>> 24).setWidth 8])) ∧
    (∀ v : BitVec 32, exec (.chkValueWrite i v) s = put { c with value := v }) ∧
    (∀ v : BitVec 16,
      (c.expValid = false → exec (.chkAliveIn i v) s = put { c with expValue := v + 1#16, expValid := true }) ∧
      (c.expValid = true → c.expValue = v → exec (.chkAliveIn i v) s = put { c with expValue := v + 1#16 }) ∧
      (c.expValid = true → c.expValue = v + 1#16 →
        exec (.chkAliveIn i v) s = put { c with rep := true, aliveErrs := (c.aliveErrs + 1) % 2 ^ 32 }) ∧
      (c.expValid = true → c.expValue ≠ v → c.expValue ≠ v + 1#16 →
        exec (.chkAliveIn i v) s = put { c with skip := true, aliveErrs := (c.aliveErrs + 1) % 2 ^ 32 }))

/-- An arbiter that is not frozen grants the first eligible requester at or after its pointer when no trump is held, and the
oldest eligible trump when one is; the pointer moves only on a grant without a trump; the losers' wait counters rise, the
winner's becomes 0; an instance the table of arbiters does not list does not exist (R394 to R398).
Model choices: log 6, 92. -/
def Obligations.ArbiterDecisions : Prop :=
  ∀ (s : State) (cls : Fin 8) (inst : BitVec 16) (asserting eligible : List Nat),
    let k := inst.toNat
    let a := s.arb (arbKey cls k)
    let n := arbRequesters cls k
    let limit := s.reg .arbTrumpLimit 0
    let granted (b : Arb) (r : Nat) : State := (s.onArb (arbKey cls k) fun _ => b).stalls cls k
      ((List.range n).filter fun x => asserting.contains x && eligible.contains x && x != r).length
    (arbInstances cls ≤ k → exec (.arbiterGrant cls inst asserting eligible) s = .fault .absentArbiter) ∧
    (k < arbInstances cls → a.frozen = false → a.fwHold = false → (cls.val = 4 → bit (s.reg .rtFreeze 0) k = false) →
      (∀ r ∈ eligible, r ∈ asserting ∧ r < n) → Tab.wf a.waits = true →
      (∀ r, r ∈ eligible → (∀ x, x < n → x ∈ asserting → Tab.getD a.waits x 0 < limit) → 0 < limit →
        (∀ x ∈ eligible, (r + n - a.pointer) % n ≤ (x + n - a.pointer) % n) → a.pointer < n →
        ∃ b, exec (.arbiterGrant cls inst asserting eligible) s = .next (granted b r) ∧
          b.lastWinner = r ∧ b.pointer = (r + 1) % n ∧ b.grants = wrapAdd 32 a.grants 1 ∧ b.trumpCount = wrapAdd 32 a.trumpCount 0 ∧
          Tab.getD b.waits r 0 = 0 ∧
          (eligible.Nodup → ∀ x ∈ eligible, x ≠ r → Tab.getD b.waits x 0 = min limit (Tab.getD a.waits x 0 + 1))) ∧
      (∀ r rest, arbTrumps limit n (Tab.keep a.waits fun x _ => asserting.contains x) a.trumps = r :: rest → r ∈ eligible →
        ∃ b, exec (.arbiterGrant cls inst asserting eligible) s = .next (granted b r) ∧
          b.lastWinner = r ∧ b.pointer = a.pointer ∧ b.grants = wrapAdd 32 a.grants 1 ∧ b.trumpCount = wrapAdd 32 a.trumpCount 1) ∧
      (eligible = [] →
        ∃ b, exec (.arbiterGrant cls inst asserting eligible) s = .next (s.onArb (arbKey cls k) fun _ => b) ∧
          b.pointer = a.pointer ∧ b.grants = a.grants ∧ b.lastWinner = a.lastWinner))

/-- The handshake of a mailbox: the request area and MBX_OWN, a hand-over that collides, the acknowledgement of a completion, a
poll, the end of a wait for the vault, and a duty that moves to a spare (R408, R410, R412, R414, R415, R419, R500).
Model choices: log 69. -/
def Obligations.MailboxHandshake : Prop :=
  ∀ (s : State) (m : Mbx), s.pcie.d3 = false → (s.box m).ready = true →
    let b := s.box m
    let put (b : Mailbox) : Host.Outcome State Fault Refusal := .next { s with mbx := Tab.set {} s.mbx m b }
    (∀ (frame : List Byte) (ctl word : BitVec 32), word.toNat % 2 = 1 →
      (b.owner = false → b.unread = false → bit word.toNat 2 = false → bit word.toNat 3 = false →
        exec (.mbxHandOver m ⟨frame, none⟩ word) s = put { b with req := Mem.writes zeroByte b.req 0 (frame.take 4096), hostDone := true }) ∧
      (b.owner = true → bit word.toNat 2 = false → bit word.toNat 3 = false →
        exec (.mbxHandOver m ⟨frame, some ctl⟩ word) s = put { b with irqEn := bit ctl.toNat 0, collide := true })) ∧
    exec (.unreadAck m) s = put { b with hostDone := false, unread := false } ∧
    (s.service = true → s.cores.pollAt + 2 * usec ≤ s.now →
      let t := { s with cores := { s.cores with pollAt := s.now } }
      exec .mailboxPoll s = .next ((t.vaultRetry.each (List.range 64) State.takeBox).each (List.range 64) State.deliver)) ∧
    (∀ b t, s.board.phase = .ready → s.board.vaultAsk = [(b, t)] → t + oneSec ≤ s.now →
      exec .vaultWaitExpiry s = .next ((s.onBoard fun x => { x with vaultAsk := [] }).putResp b false (field (s.reqFrame b) 0 2)
        (field (s.reqFrame b) 4 2) (field (s.reqFrame b) 8 4) 15 [])) ∧
    (∀ d rest, s.cores.moves = d :: rest → d.duty ≠ 1 →
      exec .dutyMoveComplete s = .next
        (({ s with cores := { s.cores with duty := s.cores.duty.set d.target d.duty, moves := rest } }.wearOut
          { kind := 3, unit := d.target, a := d.duty, b := 0 } none).finding 1 d.target d.duty)) ∧
    (∀ d rest, s.cores.moves = d :: rest → d.duty = 1 → s.board.vaultAsk = [] →
      exec .dutyMoveComplete s = .next
        (({ s with cores := { duty := s.cores.duty.set d.target 1, moves := rest, polling := true,
                              pollAt := s.cores.pollAt } }.wearOut
          { kind := 3, unit := d.target, a := 1, b := 0 } none).finding 1 d.target 1))

/-! ### The flash tier -/

/-- Pages on their way between flash and HBM: a promotion ends, a DIRTY page that is due is snapshot and programmed or recorded
as zeros, its age expires, its program ends (R82, R358, R360, R361, R363, R530).
Model choices: log 13. -/
def Obligations.PageMoves : Prop :=
  ∀ (s : State) (ext : BitVec 20) (page : BitVec 28) (e : ExtRec) (p : PageRec),
    let h := ext.toNat
    let k := pageKey h page.toNat
    let m := dieOf p.home
    s.ext h = some e → s.page k = some p →
    (∀ (i : Nat) (r : FlReq) (fp : FlashPage), i < 8 →
      (∀ j, j < i → ∀ x ∈ (s.fch (m * 8 + j)).queue, ¬(x.started = true ∧ x.op = .promote k)) →
      (s.fch (m * 8 + i)).queue.find? (fun x => x.started && x.op == .promote k) = some r →
      Tab.get? (s.fdie m).pages r.loc = some fp →
      let f := m * 8 + i
      let filled := (s.onFch f fun x => { x with queue := x.queue.erase r }).fillFromFlash k fp r.bad
      exec (.promotionDone ext page) s = .next
        ((((filled.onPage k fun p => { p with st := .clean, usedAt := filled.now }).bump .flChReads f).bump .flPtnPromotions
          e.ptn).settleAll)) ∧
    (let u := s.noteShare e.ptn
     let lv := u.destageLevel e.ptn (k, p)
     e.pinned = false → p.destaging = false → lv < 18 →
     (∀ x ∈ u.dirtyPages e.ptn, x.2.destaging = false → x.2.zeroPending = true ∨ u.flashFull (dieOf x.2.home) = false →
       lv ≤ u.destageLevel e.ptn x ∧ (lv / 2 = 3 → u.destageLevel e.ptn x = lv → p.dirtyAt ≤ x.2.dirtyAt)) →
     (p.zeroPending = true → exec (.destageStart ext page) s = .next
       ((u.onPage k fun p => { p with destaging := true }).journal m [u.pageRec 2 k 0] (p.prio == 1))) ∧
     (p.zeroPending = false → p.st = .dirty → s.chanAwake p.home = true → ∀ ls v,
       (List.range 512).foldl (fun (acc : List (Nat × List Byte) × State) n =>
         let r := acc.2.readExt h (page.toNat * 512 + n) 50
         (acc.1 ++ [r.1], r.2)) ([], u) = (ls, v) →
       ((∀ l ∈ ls, l.1 = 0 ∧ ∀ b ∈ l.2, b = 0#8) → exec (.destageStart ext page) s = .next
         (((v.onPage k fun p => { p with destaging := true, rewritten := false }).bump .flPtnZeroElided e.ptn).journal m
           [v.pageRec 2 k 0] (p.prio == 1))) ∧
       ((∃ l ∈ ls, l.1 ≠ 0 ∨ ∃ b ∈ l.2, b ≠ 0#8) → ∀ loc w, v.flashSlot m = some (loc, w) →
         let mask (n : Nat) : Nat := (ls.zipIdx.map fun x => if x.1.1 = n then 2 ^ x.2 else 0).sum
         exec (.destageStart ext page) s = .next
           ((w.onPage k fun p => { p with destaging := true, rewritten := false }).flashOp (locChan m loc)
             { op := .destage k (ls.flatMap Prod.snd) (mask 1) (mask 2), ptn := e.ptn, prio := p.prio, since := w.now, loc := loc })))) ∧
    (e.policy ≠ 0 → p.st = .dirty ∨ p.zeroPending = true → p.prio = 0 →
      p.dirtyAt + s.reg .flPtnDestageAge e.ptn * msec ≤ s.now →
      exec (.destageAgeExpiry ext page) s = .next (s.onPage k fun p => { p with prio := 4 })) ∧
    (∀ (i : Nat) (r : FlReq) (data : List Byte) (poison uncorr : Nat), i < 8 →
      (∀ j, j < i → ∀ x ∈ (s.fch (m * 8 + j)).queue, x.started = true → ∀ d a b, x.op ≠ .destage k d a b) →
      (∃ l1 l2, (s.fch (m * 8 + i)).queue = l1 ++ r :: l2 ∧ ∀ x ∈ l1, x.started = true → ∀ d a b, x.op ≠ .destage k d a b) →
      r.started = true → r.op = .destage k data poison uncorr →
      let f := m * 8 + i
      let u := s.onFch f fun x => { x with queue := x.queue.erase r }
      let fp : FlashPage := { ext := keyExt k, page := keyPage k, wseq := (s.fdie m).seq, poison := poison, uncorr := uncorr,
                              data := Mem.writes zeroByte [] 0 data }
      exec (.destageProgramDone ext page) s = .next
        (((u.onFdie m fun d => { d with pages := Tab.put d.pages r.loc fp }).bump .flChPrograms f).journal m
          [u.pageRec 1 k r.loc] (p.prio == 1)))

/-- The journal: a COMMIT is written when its time has passed; when it is programmed every earlier record takes effect; a
checkpoint, the end of a replay (R69, R363 to R366, R368, R497, R504). -/
def Obligations.Journal : Prop :=
  ∀ (s : State) (m : MDie),
    let d := s.fdie m
    (d.pend ≠ [] → d.commitOpen = none → d.firstUncommitted + s.reg .flDieJrnlCommitUs m * usec ≤ s.now →
      exec (.journalCommitTimer m) s = .next
        ((s.onFdie m fun d => { d with commitOpen := some d.seq, seq := d.seq + 1 }).each d.chans fun s c =>
          s.flashOp (8 * m + c) { op := .journal, ptn := 65, prio := 0, since := s.now })) ∧
    (∀ q, d.commitOpen = some q → (∃ c ∈ d.chans, ∀ r ∈ (s.fch (8 * m + c)).queue, r.started = true → r.op ≠ .journal) →
      exec (.journalCommitDone m) s = .next s.settleAll) ∧
    (∀ q, d.commitOpen = some q → d.commitAsked = false → (∀ r ∈ d.pend, r.kind ≠ 5) →
      (∀ c ∈ d.chans, ∃ r ∈ (s.fch (8 * m + c)).queue, r.started = true ∧ r.op = .journal) →
      let done := d.pend.filter fun r => r.seq < q
      let v := s.each d.chans fun s c => s.onFch (8 * m + c) fun x => { x with queue := x.queue.filter fun r => r.op != .journal }
      let t := v.onFdie m fun d => { d with
        log := sinceCheckpoint (d.log ++ done), pend := d.pend.filter (fun r => q ≤ r.seq), firstUncommitted := s.now, commitOpen := none, commitAsked := false }
      let u := (t.setReg .flDieJrnlSeqLo m (q % 2 ^ 32)).setReg .flDieJrnlSeqHi m (q / 2 ^ 32)
      exec (.journalCommitDone m) s = .next (u.each done fun s r =>
        if r.kind = 6 then (s.pairDurable r).extCommitted r
        else if r.kind ≤ 3 then (s.pairDurable r).pageCommitted m r else s).settleAll) ∧
    (d.mounted = true → d.ckAt + 10 * oneSec ≤ s.now ∨ 4194304 ≤ d.ckRecords →
      let own := ((s.ptns.flatMap fun e => e.2.channels).filter fun c => dieOf c == m.val).foldl
        (fun t c => Tab.put t c (s.reg .mcChCfgMap c)) []
      let rec' : JRec := { seq := 0, kind := 5, ext := 0, page := 0, loc := (d.slot.map Prod.fst).getD 0, version := 0, publisher := 0 }
      exec (.checkpoint m) s = .next ((s.journal m [rec'] false).onFdie m fun d =>
        { d with ckAt := s.now, ckRecords := 0, mapsNew := own })) ∧
    (d.mounted = false → s.sec.debugOn = false → s.board.phase = .main ∨ s.board.phase = .ready →
      let q := d.seq - 1
      let t := ((s.onFdie m fun d => { d with mounted := true, ckAt := s.now }).setReg .flDieJrnlSeqLo m (q % 2 ^ 32)).setReg
        .flDieJrnlSeqHi m (q / 2 ^ 32)
      ((∃ i : MDie, i ≠ m ∧ (s.fdie i).mounted = false) → exec (.journalReplayDone m) s = .next t) ∧
      ((∀ i : MDie, i ≠ m → (s.fdie i).mounted = true) → exec (.journalReplayDone m) s = .next
        { t with exts := t.exts.map fun e => (e.1, { e.2 with version := e.2.durVersion, publisher := e.2.durPublisher }) }))

/-- Operations of a flash channel: a journal write starts first, then the requester that deficit round robin picks; a failed
program is repeated in another block; a codeword is read again; the group with the fewest valid pages is moved and erased
(R366, R367, R369 to R372).
Model choices: log 13, 54. -/
def Obligations.FlashOperations : Prop :=
  ∀ (s : State) (f : FCh),
    let q := (s.fch f).queue
    let start (u : State) (r : FlReq) : State := u.onFch f fun x =>
      { x with queue := x.queue.map fun y => if y == r && !y.started then { y with started := true } else y }
    ((s.fch f).parked = false → ∀ r, q.find? (fun r => !r.started && r.op == .journal) = some r →
      exec (.flashOpStart f) s = .next (start s r)) ∧
    (let elig := (List.range 65).filter fun r => (firstOp q r).isSome
     let a := s.arb (arbKey 1 f)
     let w := Tab.keep a.waits fun r _ => elig.contains r
     let lim := s.reg .arbTrumpLimit 0
     (s.fch f).parked = false → (∀ r ∈ q, r.started = false → r.op ≠ .journal) → a.frozen = false → a.fwHold = false →
     (∀ r ∈ arbTrumps lim 65 w a.trumps, r ∉ elig) →
     ∀ r d x, drrPick (fun r => s.flQuantum f r elig) (fun r => (firstOp q r).elim 0 FlReq.cost) elig 400 (s.fch f).last
       (s.fch f).deficit = some (r, d) → firstOp q r = some x →
     ∃ b, b.lastWinner = r ∧ b.grants = wrapAdd 32 a.grants 1 ∧
       exec (.flashOpStart f) s = .next
         (start (((s.onArb (arbKey 1 f) fun _ => b).onFch f fun x => { x with deficit := d, last := r }).lead (62 + f)) x)) ∧
    (∀ r, q.find? (fun r => r.started && (match r.op with | .destage .. => true | _ => false)) = some r →
      let u := (s.onFch f fun x => { x with queue := x.queue.erase r }).retireBlock f r.loc
      ∀ loc v, u.flashSlot (f / 8) = some (loc, v) →
        exec (.flashProgramFail f false) s = .next (v.flashOp (locChan (f / 8) loc) { r with loc := loc, started := false })) ∧
    (∀ r, q.find? (fun r => r.started && (match r.op with | .erase _ => true | _ => false)) = some r →
      exec (.flashProgramFail f true) s = .next ((s.onFch f fun x => { x with queue := x.queue.erase r }).retireBlock f r.loc)) ∧
    (∀ (r : FlReq) (cw : Fin 16) (tries : Fin 11),
      q.find? (fun r => r.started && (match r.op with | .promote _ => true | .expert _ _ => true | .scrub _ => true | _ => false)) = some r →
      let u := s.bumpN .flChRetryReads f tries.val
      (tries.val < 4 → exec (.flashReadRetry f cw tries true) s = .next u) ∧
      (4 ≤ tries.val → exec (.flashReadRetry f cw tries true) s = .next
        (u.onFdie (f / 8) fun d => { d with gcQueue := addOnce d.gcQueue (locGroup r.loc) })) ∧
      exec (.flashReadRetry f cw tries false) s = .next ((((s.bumpN .flChRetryReads f 10).bump .flChUncorr f).retireBlock f r.loc).onFch f fun x =>
        { x with queue := x.queue.map fun y => if y == r then { y with bad := cw.val :: y.bad } else y })) ∧
    (∀ (m : MDie) (g : Nat) (l1 l2 : List Nat),
      let d := s.fdie m
      100 * d.freeGroups < s.reg .flDieGcStart m * d.goodGroups →
      d.gcQueue = [] → s.gcGroups m = l1 ++ g :: l2 →
      (∀ x ∈ l1, (d.inGroup g).length < (d.inGroup x).length) → (∀ x ∈ l2, (d.inGroup g).length ≤ (d.inGroup x).length) →
      let begun := s.onFdie m fun d => { d with gcActive := true, gcQueue := d.gcQueue.erase g }
      exec (.garbageCollection m) s = .next (((begun.each (d.inGroup g) fun s e => s.gcMove m e).flashOp (locChan m g)
        { op := .erase g, ptn := 64, prio := 0, since := (begun.each (d.inGroup g) fun s e => s.gcMove m e).now, loc := g }))) ∧
    (∀ r g, q.find? (fun r => r.started && (match r.op with | .erase g => !(s.groupHeld (f / 8) g) | _ => false)) = some r →
      r.op = .erase g →
      exec (.flashEraseDone f) s = .next
        (((s.onFch f fun x => { x with queue := x.queue.erase r }).bump .flChErases f).onFdie (f / 8) fun d =>
          { d with used := d.used.erase r.loc, noSpace := false,
                   kitties := if d.own r.loc then d.kitties else Tab.put d.kitties (r.loc % 256) (Tab.getD d.kitties (r.loc % 256) 0 + 4),
                   pages := d.pages.filter (fun e => locGroup e.1 != r.loc),
                   erased := Tab.put d.erased r.loc (Tab.getD d.erased r.loc 0 + 1) }))

/-! ### Extents and the directory -/

/-- An extent's end: the drain limit, the completion of a revoke, sanitation, the end of the hold on its handle; a home timeout
and the end of a scan for a dead host; the comparison of a PUBLISH with the visible pair
(R62 to R65, R70, R72, R74, R258, R260, R262). -/
def Obligations.ExtentLifecycle : Prop :=
  ∀ (s : State) (ext : BitVec 20) (e : ExtRec),
    let h := ext.toNat
    s.ext h = some e →
    let ends (u : State) (x : ExtRec) : State :=
      ((u.onExt h fun e => { e with st := .revoked, revokedAt := u.now }).onFab fun f =>
        { f with waits := f.waits.filter (fun r => !(r.pkt.ext == h && r.kind != .invoke)),
                 writes := f.writes.filter fun e => e.2.ext != h }).complete 0x0306 h 0
          (le 4 x.completed ++ le 4 x.cut ++ le 4 x.unanswered)
    (e.st = .revoking → e.revokeAt + e.drainMs * msec ≤ s.now → ∀ x, (s.cutExtent h).ext h = some x →
      exec (.drainLimitExpiry ext) s = .next (ends (s.cutExtent h) x).dirRun) ∧
    (let u := (s.recallLines h .revoke DirEnt.holders).dirRun
     e.st = .revoking → ∀ x, u.ext h = some x → x.inflight = 0 → (∀ y ∈ u.dir.ents, y.2.ext ≠ h) → (∀ t ∈ u.dir.txns, t.ext ≠ h) →
     exec (.revokeComplete ext) s = .next (ends u x)) ∧
    (e.st = .revoked → e.sanitised = false → ∃ t, exec (.sanitationDone ext) s = .next t ∧
      (∀ x ∈ t.mem.pages, keyExt x.1 ≠ h) ∧ (∀ k, keyExt k ≠ h → t.page k = s.page k) ∧
      t.ext h = some { e with sanitised := true } ∧ (∀ i, i ≠ h → t.ext i = s.ext i) ∧ t.ptns = s.ptns ∧ t.dir = s.dir) ∧
    (e.st = .revoked → e.sanitised = true → e.revokedAt + 60 * oneSec ≤ s.now →
      exec (.handleHoldExpiry ext) s = .next { s with exts := Tab.del s.exts h }) ∧
    (∀ line : BitVec 40,
      let l := line.toNat
      let late (t : Nat) : Prop := t + s.reg .dirPtnTimeout e.ptn * usec ≤ s.now
      ((∃ r ∈ s.dir.recalls, r.ext = h ∧ r.line = l ∧ r.forRevoke = false ∧ late r.sentAt ∧ r.answered = false) →
        exec (.homeTimeout ext line) s = .next (((s.bump .dirPtnTimeoutPoison e.ptn).poisonEnds h l).dirRun.settleAll)) ∧
      ((∀ r ∈ s.dir.recalls, r.ext ≠ h ∨ r.line ≠ l) → s.txn h l = none →
        exec (.homeTimeout ext line) s = .next s.dirRun.settleAll)) ∧
    (∀ (sl : Slice) (ep : BitVec 16), (sl.val, ep.toNat) ∈ s.dir.scans →
      exec (.deadHostScanDone sl ep) s = .next
        ((s.deadScan sl ep.toNat).onDir fun d => { d with scans := d.scans.erase (sl.val, ep.toNat) }).dirRun.settleAll) ∧
    (∀ (src : BitVec 16) (tag : BitVec 32) (r : WaitReq), e.tracked = false →
      s.fab.waits.find? (fun r => r.kind == .cover && r.pkt.opcode == 0x10#8 && r.pkt.src == src && r.pkt.tg == tag.toNat % 2 ^ 20
        && s.coverDone r && !(s.writing r.pkt.ext src.toNat && (s.ext r.pkt.ext).elim false (·.tracked))) = some r →
      r.pkt.ext = h → e.mirrored = false →
      let v := r.pkt.arg0.toNat
      let p := src.toNat
      let u := s.onFab fun f => { f with waits := f.waits.erase r }
      let tell (st v p : Nat) : Packet := { r.pkt.resp st with arg0 := BitVec.ofNat 64 v, arg1 := BitVec.ofNat 64 p }
      (e.version < v ∨ (v = e.version ∧ p < e.publisher) → exec (.publishCompare src tag) s = .next
        ((u.onExt h fun e => { e with version := v, publisher := p }).answer r true (tell 0 v p))) ∧
      (v = e.version ∧ p = e.publisher → exec (.publishCompare src tag) s = .next (u.answer r true (tell 0 v p))) ∧
      (v < e.version ∨ (v = e.version ∧ e.publisher < p) → exec (.publishCompare src tag) s = .next
        (u.answer r true (tell 8 e.version e.publisher))))

/-- The visible pair of an extent after a set of publishes is the highest of them and of the pair it held, in whatever order they
are compared (R64, R66). -/
def Obligations.PublishOrderDoesNotMatter : Prop :=
  ∀ (old : Nat × Nat) (l1 l2 : List (Nat × Nat)), l1.Perm l2 →
    let see (a p : Nat × Nat) : Nat × Nat := if pairHigher p.1 p.2 a.1 a.2 then p else a
    l1.foldl see old = l2.foldl see old ∧ l1.foldl see old ∈ old :: l1 ∧
    ∀ p ∈ old :: l1, pairHigher p.1 p.2 (l1.foldl see old).1 (l1.foldl see old).2 = false

/-! ### The dealer and the clusters -/

/-- Dealing: idle clusters go to the waiting items in order, and the first that holds all it needs starts; a loaded image's tiles
start when their preparation ends; baskets close, are dealt and run; an expert arrives in the cache, in place of the least
recently dealt of two, and a basket whose expert is not there waits for it. An invocation whose input is late and a collective that
waits too long end with LIMIT, as do invocations a late basket holds; tiles that run too long raise LIMIT; a tile's fault ends its
invocation with a report of the lowest tile that faulted in its NCLK cycle (R190, R192 to R194, R199, R208, R209, R216 to R220,
R223, R224, R235, R238).
Model choices: log 45, 46, 144, 145. -/
def Obligations.DealingAndLimits : Prop :=
  (∀ (s : State) (q : Ptn) (g : Clu),
    (∀ k v, let u := s.reserveAll q
      (u.readyInvs q).find? (fun x => u.startable x.2) = some (k, v) →
      let w := u.each v.reserved fun s g => s.lead g
      (0x8000 ≤ v.kernel → exec (.workItemDeal q) s = .next (w.onInv k fun v => { v with st := .running, prep := v.reserved })) ∧
      (v.kernel < 0x8000 → ∀ x, w.homeCopies (w.kernelStale v) = (x, true) →
        exec (.workItemDeal q) s = .next (x.runStock k))) ∧
    (∀ k v im, s.deal.invs.find? (fun e => e.2.prep.contains g.val) = some (k, v) → s.image v.ptn v.kernel = some im →
      (s.clu g).clockRun = true → (s.clu g).clearing = false →
      let held := s.onClu g fun c => { c with
        store := if bit im.flags 2 then c.store else Mem.clear c.store 0 im.csBytes,
        cards := if bit im.flags 3 then c.cards else c.cards.filter fun e => decide (im.cards ≤ e.1) }
      let set := held.each (List.range v.tiles) fun s t =>
        s.onTile (17 * g.val + (s.clu g).phys t) (prepTile im v k (v.reserved.idxOf g.val) t s.now)
      exec (.tilePreparationDone g) s = .next ((set.onInv k fun v => { v with
        prep := v.prep.erase g.val, startedAt := if v.startedAt = 0 then set.now else v.startedAt }).lead g)) ∧
    (∀ (k : BitVec 32) (b c : Basket),
      let u := s.dealStep b.ptn
      Tab.get? s.deal.baskets k.toNat = some b → Tab.get? u.deal.baskets k.toNat = some c → c.closed = false →
      c.deadline ≤ u.now → u.queuedBaskets c.ptn < 1024 →
      exec (.basketDeadline k) s = .next ((u.onDeal fun d =>
        { d with baskets := Tab.modify d.baskets k.toNat fun x => { x with closed := true, due := false, order := d.nextClose },
                 nextClose := d.nextClose + 1 }).bump .dealCloseDeadline c.ptn)) ∧
    (∀ k b m,
      let u := s.dealStep q
      let slots (b : Basket) : List Nat := ((u.model b.ptn b.model).elim [] fun m => Tab.getD m.slots b.expert []).filter fun g =>
        !(u.clu g).lost && !(u.isDeferred 0x0106 g)
      firstClosed (u.deal.baskets.filter fun b => b.2.ptn == q.val && b.2.closed && b.2.cluster.isNone && !(slots b.2).isEmpty) =
        some (k, b) → u.model b.ptn b.model = some m →
      ∀ l1 l2, (u.owned q).filter (fun g => (slots b).contains g) = l1 ++ g.val :: l2 →
      (∀ x ∈ l1, u.queuedTokens g < u.queuedTokens x) → (∀ x ∈ l2, u.queuedTokens g ≤ u.queuedTokens x) →
      let put := ((u.onDeal fun d =>
        { d with baskets := Tab.put d.baskets k { b with cluster := some g.val }, nextDeal := u.deal.nextDeal + 1 }).onModel b.ptn
          b.model fun m => { m with dealt := Tab.put m.dealt b.expert u.deal.nextDeal }).wakeClus [g]
      (m.hasExpert b.expert = true → exec (.basketDeal q) s = .next put) ∧
      (m.hasExpert b.expert = false → exec (.basketDeal q) s = .next (put.basketWaits b))) ∧
    (∀ k b m, firstClosed (s.deal.baskets.filter fun b => b.2.cluster == some g.val) = some (k, b) → s.model b.ptn b.model = some m →
      let u := (s.onDeal fun d => { d with baskets := Tab.del d.baskets k }).lead g
      let ks := (b.entries.map Prod.fst).eraseDups
      let late : Prop := ∃ x ∈ ks, ∃ v, u.inv x = some v ∧ v.startedAt ≠ 0 ∧ v.startedAt + u.limitUs v * usec ≤ u.now
      let done (w : State) : Host.Outcome State Fault Refusal := .next ((w.unloads b.ptn).dealStep b.ptn)
      (m.hasExpert b.expert = false → exec (.basketStart g) s = .next (s.basketWaits b)) ∧
      (m.hasExpert b.expert = true → s.idleClu g = true → (s.clu g).clockRun = true →
        (¬late → exec (.basketStart g) s = done ((u.each ks fun s k => s.onInv k fun v =>
          { v with startedAt := if v.startedAt = 0 then u.now else v.startedAt }).runEntries m g b (b.entries.zip b.weights))) ∧
        (late → exec (.basketStart g) s = done (u.each ks fun s k => s.endInv k 9 (some (dealerReport { code := 0x0B } 1)))))) ∧
    (∀ (m : Model) (e x y : Nat), m.cache = [x, y] → x ≠ y →
      (m.promoted e).cache = if Tab.getD m.dealt y 0 < Tab.getD m.dealt x 0 then [x, e] else [y, e]) ∧
    (∀ (model expert : BitVec 16) (c : Nat) (r : FlReq),
      let isIt (r : FlReq) : Bool := r.started && (match r.op with
        | .expert m e => m == model.toNat && e == expert.toNat && r.ptn == q.val | _ => false)
      c < 32 → (∀ j, j < c → (s.fch j).queue.find? isIt = none) → (s.fch c).queue.find? isIt = some r →
      exec (.expertPromotionDone q model expert) s = .next
        (((s.onFch c fun x => { x with queue := x.queue.erase r }).onModel q model.toNat fun m =>
          m.promoted expert.toNat).bump .flChReads c))) ∧
  (∀ (s : State) (k : BitVec 32) (v : Inv),
    (s.inv k.toNat = some v →
      (v.st = .input → v.acceptedAt + s.limitUs v * usec ≤ s.now →
        exec (.invocationTimeLimit k) s = .next (s.endInv k.toNat 9 (some (dealerReport { code := 0x0B } v.kernel)))) ∧
      (v.st = .running → v.startedAt ≠ 0 → v.startedAt + s.limitUs v * usec ≤ s.now → ∀ x xs,
        (s.tilesOf v).filter (fun x => (s.tile x.1).st == .running && (s.tile x.1).invKey == some k.toNat) = x :: xs →
        let u := s.each (x :: xs) fun s x => s.onTile x.1 fun t => t.limitFault s.now t.pc { code := 0x0B }
        exec (.invocationTimeLimit k) s = .next (u.endInv k.toNat 9 (some (u.tileReport v x { code := 0x0B }))))) ∧
    (∀ c : Coll, Tab.get? s.deal.colls k.toNat = some c → c.openedAt + s.reg .dealTlimit c.ptn * usec ≤ s.now →
      let u := (s.each c.clusters fun s g => s.onClu g fun x => { x with cards := [] }).onDeal fun d =>
        { d with colls := Tab.del d.colls k.toNat }
      let waits := (u.invsOf c.ptn).filter fun e => e.2.kernel == 5 && e.2.st == .ready && field e.2.args 0 4 == c.id
      exec (.collectiveTimeLimit k) s = .next (u.each (c.ranks.map Prod.snd ++ waits.map Prod.fst) fun s x =>
        s.endInv x 9 (some (dealerReport { code := 0x0B } 5)))) ∧
    (∀ (g : Clu) (t : Til) (f : TileFault) (key : Nat),
      let p := 17 * g.val + (s.clu g).phys t
      (s.tile p).report = some f → (s.tile p).invKey = some key → s.inv key = some v →
      ∀ y r, (s.tilesOf v).find? (fun y => (s.tile y.1).report.isSome && (s.tile y.1).invKey == some key
          && decide ((s.tile y.1).faultAt / 40 = (s.tile p).faultAt / 40)) = some y → (s.tile y.1).report = some r →
        exec (.invocationFaultStop g t) s = .next (s.endInv key 9 (some (s.tileReport v y r)))))

/-- Streams, barriers and clusters: a descriptor runs to its end or its fault; a barrier releases the tiles that arrived at it;
a clearing, a self-test, a hang, a parity error and a partition reset end (R118, R178, R183 to R187, R190, R402, R404, R405,
R492).
Model choices: log 51. -/
def Obligations.ClusterEvents : Prop :=
  ∀ (s : State) (g : Clu) (q : Ptn),
    (∀ (t : Til) (e : Fin 4) (pc : Nat) (l : List Byte) (rest : List (Nat × List Byte)) (k : Nat) (v : Inv),
      let key := 17 * g.val + (s.clu g).phys t
      let x := s.tile key
      let d := Stream.ofBytes l
      let fail (u : State) (f : TileFault) : State := u.onTile key fun x => x.limitFault u.now pc f
      x.st = .running → Tab.getD x.streams e.val [] = (pc, l) :: rest → x.invKey = some k → s.inv k = some v →
      (d.ok = false → exec (.streamComplete g t e) s = .next (fail s { code := 0x03 })) ∧
      let rows := if d.srcSpace = 2 then d.reads v x (s.clu g) (d.rows * d.planes) 0 else []
      (d.ok = true → ∀ u, s.homeCopies (s.modified v (d.touches rows)) = (u, true) →
        (∀ w f, streamRows v k g key d (d.rows * d.planes) 0 u = (w, some f) →
          exec (.streamComplete g t e) s = .next (fail w f).dirRun) ∧
        (∀ w, streamRows v k g key d (d.rows * d.planes) 0 u = (w, none) → (w.tile key).wait = .none →
          exec (.streamComplete g t e) s = .next
            (((w.onTile key fun x => { x with streams := Tab.set [] x.streams e.val rest }).lead g).dirRun)))) ∧
    (∀ (all : Bool) (k : Nat) (v : Inv),
      let ks := s.scopeOf v g (b2n all)
      s.deal.invs.find? (fun e => e.2.st == .running && e.2.reserved.contains g.val) = some (k, v) → v.prep = [] →
      (∀ x ∈ ks, (s.tile x).st = .running ∧ ∃ n, (s.tile x).wait = .bar (b2n all) n) → ks.Nodup →
      exec (.barrierRelease g all) s = .next (s.each ks fun s x => s.onTile x fun t => { t with wait := .none }.next)) ∧
    ((s.clu g).clearing = true → (s.clu g).clearStart + 81920 ≤ s.now →
      exec (.clearingEnd g) s = .next (s.cleared g).clusterResets) ∧
    (∀ began, (s.clu g).clockRun = false → (s.clu g).test = some began → began + 200 * usec ≤ s.now →
      let tested := s.onClu g fun c => { c with hung := false, test := none, testedAt := s.now }
      exec (.tileSelfTest g none) s = .next (tested.complete 0x0804 g 0 (le 4 0)) ∧
      ∀ t : Fin 17, exec (.tileSelfTest g (some t)) s = .next ((tested.tileFails g t).complete 0x0804 g 0 (le 4 (2 ^ t.val)))) ∧
    (let faulted (s : State) (p cause : Nat) : State :=
       let u := ((s.bump .ptnFaults p).onPtn p fun x => { x with st := .faulted, cause := cause }).endPtn p
       if u.reg .ptnCfgAutoReset p = 1 then u.startReset p else u
     ((s.ptn q).st = .active → exec (.parityError q 1#4) s = .next (faulted s q 1) ∧ exec (.parityError q 2#4) s = .next (faulted s q 2)) ∧
     (∀ p, s.cluPtn g = some p → (s.ptn p).st = .active → exec (.clusterHang g) s = .next (faulted (s.onClu g fun c => { c with hung := true }) p 3))) ∧
    ((s.ptn q).st = .resetting → (s.ptn q).clearing = [] → s.isDeferred 0x0202 (q + 64) = false →
      exec (.ptnResetDone q) s = .next
        ((((s.each ptnCounters fun s r => s.setReg r q 0).onPtn q fun p => { p with st := .active, cause := 0 }).bump
          .ptnResets q).complete 0x0202 q 0 []))

/-! ### Packets -/

/-- Requests that name an extent, of one packet each, that pass every check: what serves them (R23, R57, R58, R60, R65, R67, R77,
R82, R94, R96, R98 to R100, R111, R248, R252, R255).
Model choices: log 14, 149. -/
def Obligations.ExtentRequests : Prop :=
  ∀ (s : State) (n : Port) (vc : Fin 5) (p : Packet),
    let at' (op : BitVec 8) : Packet := { p with opcode := op }
    let req (op : BitVec 8) : WaitReq := { kind := .serve, pkt := at' op, port := n, since := s.now }
    let covers (u : State) (op : BitVec 8) (host : Option Nat) : WaitReq :=
      { req op with kind := .cover, ids := u.coveredBy p.ext host }
    (Granted s n vc (at' 0x01#8) →
      let u := s.granted n vc (at' 0x01#8)
      let k := ceilDiv p.len 4096
      let s0 := Tab.getD u.fab.seqs p.src.toNat 0#32
      exec (.get n vc p) s = .next ((u.onFab fun f => { f with seqs := Tab.put f.seqs p.src.toNat (s0 + BitVec.ofNat 32 k) }).serveOr
        { req 0x01#8 with ids := List.range k, status := s0.toNat }).settleAll) ∧
    (∀ op, op = 0x02#8 ∨ op = 0x03#8 → Granted s n vc (at' op) →
      let w := (s.granted n vc (at' op)).newWrite p.src.toNat p.ext false 1
      exec (if op = 0x02#8 then .put n vc p else .putSparse n vc p) s = .next
        (((w.2.writePacket (at' op) n w.1 false).writeCounted (at' op) n w.1 0).settleAll)) ∧
    (Granted s n vc (at' 0x04#8) →
      let parts := zeroParts p.off p.len
      let w := (s.granted n vc (at' 0x04#8)).newWrite p.src.toNat p.ext true
        ((parts.map fun x => if x.2.2 = 512 then 1 else x.2.2).sum)
      exec (.zero n vc p) s = .next ((w.2.serveOr { req 0x04#8 with ids := parts.map (·.1), status := w.1, reply := false }).answer
        (req 0x04#8) true ((at' 0x04#8).resp 0)).settleAll) ∧
    (Granted s n vc (at' 0x10#8) →
      let u := s.granted n vc (at' 0x10#8)
      exec (.publish n vc p) s = .next (u.onFab fun f => { f with
        waits := f.waits ++ [covers u 0x10#8 (some p.src.toNat)] }).settleAll) ∧
    (Granted s n vc (at' 0x11#8) → ∀ e, s.ext p.ext = some e →
      exec (.readVersion n vc p) s = .next ((s.granted n vc (at' 0x11#8)).answer (req 0x11#8) false { (at' 0x11#8).resp 0 with
        arg0 := BitVec.ofNat 64 e.version, arg1 := BitVec.ofNat 64 e.publisher }).settleAll) ∧
    (Granted s n vc (at' 0x12#8) →
      let u := s.granted n vc (at' 0x12#8)
      exec (.flush n vc p) s = .next (u.serveOr (covers u 0x12#8 (some p.src.toNat))).settleAll) ∧
    (Granted s n vc (at' 0x13#8) → ∀ e, s.ext p.ext = some e →
      let u := s.granted n vc (at' 0x13#8)
      (e.policy = 0 → exec (.persist n vc p) s = .next (u.answer (req 0x13#8) false ((at' 0x13#8).resp 0x0A)).settleAll) ∧
      (e.policy ≠ 0 → exec (.persist n vc p) s = .next (u.serveOr { covers u 0x13#8 (if e.tracked then none else some p.src.toNat) with
        kind := .persist 0 }).settleAll)) ∧
    (Granted s n vc (at' 0x20#8) →
      exec (.checkoutS n vc p) s = .next ((s.granted n vc (at' 0x20#8)).lineRequest (req 0x20#8)).settleAll) ∧
    (Granted s n vc (at' 0x21#8) →
      exec (.checkoutX n vc p) s = .next ((s.granted n vc (at' 0x21#8)).lineRequest (req 0x21#8)).settleAll) ∧
    (Granted s n vc (at' 0x23#8) →
      exec (.writeInv n vc p) s = .next ((s.granted n vc (at' 0x23#8)).lineRequest (req 0x23#8)).settleAll) ∧
    (Granted s n vc (at' 0x24#8) →
      exec (.atomic n vc p) s = .next ((s.granted n vc (at' 0x24#8)).lineRequest (req 0x24#8)).settleAll) ∧
    (Arrives s n vc (at' 0x22#8) → p.rsp = false → (s.fresh n vc (at' 0x22#8)).trick (at' 0x22#8) = none →
      (s.fresh n vc (at' 0x22#8)).check6 (at' 0x22#8) = none →
      exec (.returnLine n vc p) s = .next
        (((s.fresh n vc (at' 0x22#8)).accepted p.ext).hostReturn (req 0x22#8)).settleAll)

/-- ATOMIC reads the old value and stores the sum, the operand, or the operand where the old value equals the compared one,
modulo the operand's size; the line's other bytes stay (R96). -/
def Obligations.AtomicResults : Prop :=
  ∀ (p : Packet) (d : List Byte), d.length = 128 → p.len = 4 ∨ p.len = 8 → p.off % p.len = 0 →
    let o := p.off % 128
    let n := p.len
    let old := field d o n
    let new := field (atomicOp p d).2 o n
    (atomicOp p d).1 = old ∧ (atomicOp p d).2.length = 128 ∧
    (p.subop = 1#8 → new = (old + p.arg0.toNat) % 2 ^ (8 * n)) ∧
    (p.subop = 2#8 → new = p.arg0.toNat % 2 ^ (8 * n)) ∧
    (p.subop = 3#8 → old = p.arg1.toNat % 2 ^ (8 * n) → new = p.arg0.toNat % 2 ^ (8 * n)) ∧
    (p.subop = 3#8 → old ≠ p.arg1.toNat % 2 ^ (8 * n) → (atomicOp p d).2 = d) ∧
    ∀ i, i < 128 → i < o ∨ o + n ≤ i → (atomicOp p d).2[i]? = d[i]?

/-- A packet read back from its bytes is the packet: no field of header or trailer is lost, and neither is a payload of whole
flits (R85 to R89). -/
def Obligations.PacketRoundTrip : Prop :=
  ∀ p : Packet, p.payload.length % 64 = 0 → Packet.ofBytes p.bytes = some p ∧ p.bytes.length = 128 + p.payload.length

/-- Transit: a packet for another endpoint is forwarded with HOPS one higher, whatever its other fields hold; at the hop limit it
is discarded, counted, and its credit given back; one whose buffer is full is discarded and its flits counted; HOPS is no part of
the check value (R90, R276). -/
def Obligations.TransitForwarding : Prop :=
  ∀ (s : State) (n : Port) (vc : Fin 5) (p : Packet),
    (s.overrun n vc p = false → s.isLocal p.dst.toNat = false →
      let u := (s.takeRx n vc p).lead (44 + n)
      (p.hops.toNat < 32 → exec (.transitForward n vc p) s = .next (u.route n vc true .any { p with hops := p.hops + 1#8 })) ∧
      (32 ≤ p.hops.toNat → exec (.transitForward n vc p) s = .next ((u.bump .rtDropHops 0).freeCredit n vc p.flits))) ∧
    (s.overrun n vc p = true → exec (.transitForward n vc p) s = .next (s.bumpN .glCreditOverrun n p.flits)) ∧
    ∀ h : BitVec 8, { p with hops := h }.crcOf = p.crcOf

/-- Other packets: an answer to a RECALL, an INVOKE and its data, management; a packet the device is not ready for, one whose
form is wrong, one that differs from the transfer it matches, a duplicate and a stale one are dropped and counted; a held packet is
routed again. A management request in front of the core's queue is carried out as the mailbox command of the same family, and
answered on the port it came by, with MB_ST_NOT_READY before the tiers are mounted (R23, R91, R97, R104, R107, R203, R207, R253,
R292 to R295, R302 to R304, R421, R502).
Model choices: log 14, 27, 140, 149. -/
def Obligations.OtherPackets : Prop :=
  (∀ (s : State) (n : Port) (vc : Fin 5) (p : Packet),
    let at' (op : BitVec 8) : Packet := { p with opcode := op }
    (Arrives s n vc (at' 0x26#8) →
      exec (.recallAck n vc p) s = .next ((s.fresh n vc (at' 0x26#8)).hostAck n (at' 0x26#8)).settleAll) ∧
    (let q := at' 0x30#8
     let u := s.fresh n vc q
     let c := u.police (4 * p.q + p.svc) p.colour (chargeOf q)
     Arrives s n vc q → p.rsp = false → p.pktCount.toNat = 1 → u.trick q = none → u.lk.state ≠ 2 → c.1 = 0 →
     c.2.checkInvoke q (invOf q n s.now) = none → (c.2.passed6 n q).checkInvoke q (invOf q n s.now) = none →
     ((invOf q n s.now).kernel ≠ 1 ∨ (c.2.passed6 n q).queuedBaskets p.q < 1024) →
     exec (.invoke n vc p) s = .next ((c.2.passed6 n q).admitInvoke q (invOf q n s.now) false).settleAll) ∧
    (let q := at' 0x31#8
     let u := s.fresh n vc q
     let c := u.police (4 * p.q + p.svc) p.colour (chargeOf q)
     Arrives s n vc q → p.rsp = false → p.pktCount.toNat = 1 → u.trick q = none → u.lk.state ≠ 2 → c.1 = 0 →
     c.2.checkData q = none → ∀ i v, (c.2.passed6 n q).fedBy q = some (i, v) →
     exec (.invokeData n vc p) s = .next ((((c.2.passed6 n q).invokeData i q).emit n (q.resp 0)).settleAll)) ∧
    (let q := at' 0x40#8
     let u := s.fresh n vc q
     Arrives s n vc q → p.rsp = false → u.trick q = none → (∃ m : Fin 4, u.reg .rtMgrIdValid m = 1 ∧ u.reg .rtMgrIdId m = p.src.toNat) →
     u.fab.mgmtQ.length < 256 → (mgmtCmd (mgmtParse q).1 (mgmtParse q).2.length).isSome = true →
     8 + field p.payload 6 2 ≤ p.payloadLen.toNat →
     exec (.mgmt n vc p) s = .next (u.onFab fun f => { f with mgmtQ := f.mgmtQ ++ [(n.val, q)] }).settleAll) ∧
    (s.overrun n vc p = false → p.dst.toNat = s.ownId →
      let u := s.received n vc p
      let w := exec (.malformedPacketArrival n vc p) s
      (s.board.phase ≠ .ready → w = .next (u.bump .rtDropLocal 0)) ∧
      (s.board.phase = .ready → p.e2eCrc ≠ p.crcOf →
        w = .next (u.onFab fun f => { f with crcDrops := wrapAdd 32 f.crcDrops 1 })) ∧
      (∀ k t, Arrives s n vc p → p.rsp = false → p.opcode ≠ 0x25#8 → p.opcode ≠ 0x26#8 → p.opcode ≠ 0x32#8 →
        (s.fresh n vc p).trick p = some (k, t) → t.agrees p = false →
        w = .next ((s.fresh n vc p).bump .rtMalformed 0).settleAll) ∧
      (s.board.phase = .ready → p.e2eCrc = p.crcOf →
        (p.formOk vc = false → w = .next (u.bump .rtMalformed 0)) ∧
        (p.formOk vc = true → (u.filter 0 p).1 = .dup → w = .next (u.bump .rtDup 0)) ∧
        (p.formOk vc = true → (u.filter 0 p).1 = .stale → w = .next (u.bump .rtStale 0)))) ∧
    (∀ tb : Fin 19, exec (.waitingPacketRoute tb vc) s = .next (
      let mine (h : Held) : Bool := h.table == tb.val && h.vc == vc.val
      (s.onRt fun r => { r with held := r.held.filter fun h => !mine h }).each (s.rt.held.filter mine) fun s h =>
        s.route h.table h.vc h.transit h.via h.pkt))) ∧
  (∀ (s : State) (port : Nat) (p : Packet) (rest : List (Nat × Packet)), s.cores.duty.contains 3 = true →
    s.fab.mgmtQ = (port, p) :: rest →
    let u := s.onFab fun f => { f with mgmtQ := rest }
    let b := (mgmtParse p).2
    let runs (i : Instr) (c n : Nat) (f : Cmd) : Prop := (mgmtParse p).1 = c → (c = 3 ∧ 8 ≤ b.length ∨ c ≠ 3 ∧ b.length = n) →
      (s.mounted = true → exec i s = .next (match (f 0 b u).2 with
        | .now st r => (f 0 b u).1.emit port (mgmtResp p st r)
        | .defer o => (f 0 b u).1.onRt fun r => { r with mgmtWait := r.mgmtWait ++ [(0x0500 + c, o, port, p)] }
        | .vaultWait => (f 0 b u).1)) ∧
      (s.mounted = false → exec i s = .next (u.draw.2.emit port (mgmtResp p 14 (le 4 u.draw.1))))
    runs .mIdent 1 0 cmdRtIdent ∧ runs .mPort 2 2 cmdRtPort ∧ runs .mTblWrite 3 0 cmdRtTblWrite ∧ runs .mTblRead 4 6 cmdRtTblRead ∧
    runs .mTblClear 5 0 cmdRtTblClear ∧ runs .mDirWrite 6 4 cmdRtDirWrite ∧ runs .mSwap 7 1 cmdRtSwap ∧
    runs .mCounters 8 1 cmdRtCounters)

/-! ### The partner -/

/-- Mirror frames: HELLO of a standby makes a waiting member active, a HEARTBEAT of a restarted partner, frames of the sequence
are applied in order and a repeat is acknowledged again, YIELD; an ACK is the response to a frame that is open. Timers of the pair: a frame sent
again, HELLO and HEARTBEAT each millisecond, silence, a yield begun and ended, a takeover completed (R101, R481, R483 to R491).
Model choices: log 47, 114, 140. -/
def Obligations.PartnerProtocol : Prop :=
  (∀ (s : State) (n : Port) (vc : Fin 5) (p : Packet) (g : Pairing) (f : List Byte),
    let u (t : Nat) : State := s.framed n vc (withType t p) f
    let b := (f.drop 32).take (field f 12 4)
    let m := field f 4 4
    (Framed s n vc (withType 1 p) g f → p.rsp = false → helloMatches g b = true → s.prt.st = .waiting → s.sec.debugOn = false →
      (s.prt.roleActive = true → field b 6 1 ≠ 1 → exec (.hello n vc p) s = .next
        ((((u 1).sequenceStart.onPrt fun p => { p with st := .active, roleActive := true }).resyncStart).settleAll)) ∧
      (s.prt.roleActive = false → field b 6 1 = 1 → exec (.hello n vc p) s = .next
        ((((u 1).sequenceStart.onPrt fun p => { p with st := .standbySync, roleActive := false }).onPrt fun p =>
          { p with peerSt := 2 }).settleAll))) ∧
    (Framed s n vc (withType 2 p) g f → p.rsp = false → s.prt.st = .active → b ≠ [] → field b 0 1 = 1 → s.prt.peerSt = 4 →
      exec (.heartbeat n vc p) s = .next (((u 2).onPrt fun p => { p with peerSt := 1 }).settleAll)) ∧
    (∀ (t : Nat) (i : Instr), (t, i) ∈ [(3, Instr.writeFrame n vc p), (4, .versionFrame n vc p), (5, .extentFrame n vc p),
        (6, .dirFrame n vc p), (9, .resyncPage n vc p), (10, .resyncDone n vc p)] →
      Framed s n vc (withType t p) g f → p.rsp = false → s.prt.st = .standby ∨ s.prt.st = .standbySync →
      (s.prt.applied < m → m - s.prt.applied ≤ 257 → exec i s = .next
        ((State.applyRun 258 ((u t).onPrt fun x => { x with early := Tab.put x.early m (withType t p) })).settleAll)) ∧
      (m ≤ s.prt.applied → ((u t).aliveIn 3 m).mirrorBusy = false → exec i s = .next
        ((((u t).aliveIn 3 m).sendFrame g (((u t).aliveIn 3 m).framePort g) (some (withType t p))
          (mirrorFrame 7 0 0 s.prt.applied [])).settleAll))) ∧
    (Framed s n vc (withType 7 p) g f → p.rsp = true → s.prt.st = .active →
      exec (.ackFrame n vc p) s = .next
        (((u 7).onPrt fun x => { x with openTags := Tab.del x.openTags p.tg }).onAck (field f 16 8) b).settleAll) ∧
    (Framed s n vc (withType 8 p) g f → p.rsp = false → s.prt.st = .standby →
      exec (.yieldFrame n vc p) s = .next
        (((u 8).takeOver (field f 16 8)).onPrt fun p => { p with peerSt := 6 }).settleAll)) ∧
  (∀ (s : State) (g : Pairing), s.sec.pset.pairing = some g →
    (∀ (mseq : BitVec 32) (f : SentFrame), s.prt.sent.find? (fun f => f.mseq == mseq.toNat) = some f → f.sentAt + 20 * usec ≤ s.now →
      let u := s.onPrt fun p => { p with sent := p.sent.map fun x => if x.mseq = f.mseq then { x with sentAt := s.now } else x }
      exec (.mirrorResendTimer mseq) s = .next (u.sendFrame g (s.framePort g) none f.frame)) ∧
    (s.prt.helloAt + msec ≤ s.now → exec .partnerHelloTimer s = .next
      (((s.bothPorts g 1 0 (s.helloBody g)).bothPorts g 2 0 (le 1 s.prt.st.code)).onPrt fun p =>
        { p with helloAt := s.now })) ∧
    (s.prt.silent = false → s.prt.heard + g.silenceMs * msec ≤ s.now →
      let u := (s.finding 12 g.peer 0).onPrt fun p => { p with silent := true }
      (s.prt.st = .active → exec .partnerSilence s = .next u.mirrorStop) ∧
      (s.prt.st = .standby → g.takeover = true → exec .partnerSilence s = .next (u.takeOver s.prt.mseq)) ∧
      (s.prt.st = .standby → g.takeover = false → exec .partnerSilence s = .next u)) ∧
    (s.prt.st = .active → s.prt.yieldDue = true → s.prt.peerSt = 4 → s.prt.silent = false → s.prt.yielding = false →
      exec .yieldStart s = .next (s.onPrt fun p => { p with yielding := true, yieldDue := false, yieldAt := s.now })) ∧
    (s.prt.yielding = true → s.prt.yieldAt + 10 * usec ≤ s.now ∨ s.prt.acked = s.prt.mseq →
      let u := s.endAlias g.sharedId
      exec .yieldAckWaitEnd s = .next (((u.bothPorts g 8 u.prt.mseq []).onPrt fun p =>
        { p with st := .yielded, roleActive := false, yielding := false, sent := [], peerSt := 5, resyncTodo := [] }).dirRun)) ∧
    (s.prt.st = .takingOver → s.prt.lines = [] →
      let u := s.each s.prt.dirm fun s e => s.rebuildEnt e.2
      exec .takeoverComplete s = .next (((u.onPrt fun p => { p with
        st := .active, roleActive := true, switchovers := wrapAdd 32 p.switchovers 1, dirm := [], lines := [] }).dirRun).sendHello g)))

/-! ### Links -/

/-- Flit groups: a received group whose check value is right gives its new slots, its acknowledgement, its credit and its
command to the link; a bad one is discarded and counted; a sent group carries new flits, which enter the hamper; the replay timer and the replay limit (R267 to R277).
Model choices: log 52, 146. -/
def Obligations.FlitGroups : Prop :=
  ∀ (s : State) (n : Port),
    let l := s.link n
    (∀ (slots : List Byte) (tr : GroupTrailer) (fec : FecReport), l.listening = true →
      let b := padTo 4096 (slots.take 4096)
      let cs := chunks 64 b
      let tail := trailerTail tr.firstLseq.toNat tr.ackLseq.toNat tr.ctl.toNat tr.credFreed.toNat tr.cmd.toNat tr.arg.toNat
      let u := ((s.bumpN .glCwCorrected n fec.corrected).bumpN .glCwUncorr n fec.uncorr).onLink n fun l =>
        { l with symerr := l.symerr.zipIdx.map fun x => x.1 + (fec.lanes[x.2]?).getD 0 }
      let ends (u : State) : State :=
        ((u.rxAck n tr.ackLseq).rxCredit n (tr.ctl.toNat % 8) tr.credFreed.toNat).rxCmd n tr.cmd.toNat tr.arg.toNat
      let w := exec (.flitGroupReceive n slots tr fec) s
      (fec.uncorr ≠ 0 ∨ crc32c (b ++ tail) ≠ tr.crc → w = .next (u.bump .glGrpDiscard n)) ∧
      (fec.uncorr = 0 → crc32c (b ++ tail) = tr.crc →
        let d := (l.expected - tr.firstLseq).toInt
        (bit tr.ctl.toNat 3 = false → w = .next (ends u)) ∧
        (bit tr.ctl.toNat 3 = true → 0 ≤ d → w = .next (ends ((u.bumpN .glDupFlits n (min d.toNat 64)).each
          (cs.drop (min d.toNat 64)) fun s b => s.rxSlot n b))) ∧
        (bit tr.ctl.toNat 3 = true → d < 0 → w = .next (ends (u.draw.2.bumpN .glGapFlits n (gapFlits u.draw.1 cs)))))) ∧
    (l.st = .active →
      ∃ t, exec (.flitGroupSend n) s = .next t ∧
        let rep := l.replayFrom.elim [] fun i => (l.hamper.drop i).take 64
        let first := l.replayFrom.elim l.nextLseq fun i => l.nextLseq - BitVec.ofNat 16 (l.hamper.length - i)
        let new := l.sending.take (64 - rep.length)
        let starts := l.timerAt = none ∧ (new ≠ [] ∨ l.hamper ≠ [])
        let c := (l.cmdQ.head?).getD (0, 0)
        let slots := (rep ++ new).flatMap (·.bytes) ++ zeros (4096 - 64 * (rep ++ new).length)
        let tail := trailerTail first.toNat l.expected.toNat (l.cvc + 8 * b2n (!(rep ++ new).isEmpty))
          (s.reg .glFreedVc (5 * n + l.cvc)) c.1 c.2
        t = State.releaseAll (s.onLink n fun l => { l with
          hamper := l.hamper ++ new.map (fun f => { f with owner := none }), sending := l.sending.drop new.length,
          nextLseq := l.nextLseq + BitVec.ofNat 16 new.length,
          replayFrom := l.replayFrom.bind fun i => if i + 64 < l.hamper.length then some (i + 64) else none,
          timerAt := if starts then some s.now else l.timerAt,
          timerPer := if starts then s.reg .glReplayTimer n else l.timerPer,
          cvc := (l.cvc + 1) % 5, cmdQ := l.cmdQ.drop 1, lastGroup := slots ++ le 4 (crc32c (slots ++ tail)).toNat ++ tail }) new) ∧
    (l.st = .param →
      let tail := trailerTail (l.replayFrom.elim l.nextLseq fun i => l.nextLseq - BitVec.ofNat 16 (l.hamper.length - i)).toNat
        l.expected.toNat l.cvc (s.reg .glFreedVc (5 * n + l.cvc)) l.itemNext (s.paramArg n l.itemNext)
      exec (.flitGroupSend n) s = .next (s.onLink n fun l => { l with
        cvc := (l.cvc + 1) % 5, itemNext := l.nextItem, sentDone := l.sentDone || l.itemNext == 0x19,
        lastGroup := zeros 4096 ++ le 4 (crc32c (zeros 4096 ++ tail)).toNat ++ tail })) ∧
    (∀ t, l.timerAt = some t → l.st = .active → l.hamper ≠ [] → t + l.timerPer * 10000 ≤ s.now →
      exec (.replayTimerExpiry n) s = .next ((s.onLink n fun l =>
        { l with replayFrom := some 0, replaysSince := l.replaysSince + 1, timerAt := some s.now,
                 timerPer := s.reg .glReplayTimer n }).bump .glReplays n)) ∧
    (l.st = .active → s.reg .glReplayLimit n ≤ l.replaysSince → exec (.replayLimitReached n) s = .next (s.goDown n))

/-- Lane swaps and low power (R283 to R285, R493).
Model choices: log 105, 150. -/
def Obligations.SwapsAndLowPower : Prop :=
  ∀ (s : State) (n : Port),
    let l := s.link n
    let into (u : State) (st : LinkSt) : State := u.onLink n fun l => { l with st := st, stSince := s.now }
    (∀ lane : BitVec 16,
      (l.st = .active → l.txSpare ≠ 7 → lane.toNat ∈ l.txLanes → exec (.swapReq n lane) s = .next
        (((s.sendCmd n 2 lane.toNat).onLink n fun l => { l with swapLane := [(true, lane.toNat)] }).linkTo n .swap)) ∧
      (l.st = .swap ∨ l.st = .lpIdle →
        exec (.swapReq n lane) s = .next (s.onLink n fun l => { l with swapReq := some lane.toNat })) ∧
      (l.st = .active → l.rxSpare ≠ 7 → lane.toNat ∈ l.rxLanes → exec (.swapGo n lane) s = .next
        (into (s.onLink n fun l => { l with swapLane := [(false, lane.toNat)] }) .swap)) ∧
      (∀ own, l.st = .swap → l.swapLane = [(true, own)] → l.rxSpare ≠ 7 → lane.toNat ∈ l.rxLanes → exec (.swapGo n lane) s = .next
        (s.onLink n fun l => { l with swapLane := [(true, own), (false, lane.toNat)] }))) ∧
    (l.st = .swap →
      let put (ls : List Nat) (lane spare : Nat) : List Nat := ls.map fun x => if x = lane then spare else x
      let tx (u : State) (lane : Nat) : State :=
        ((u.onLink n fun l => { l with txLanes := put l.txLanes lane l.txSpare, txSpare := 7 }).bump .glLaneSwaps n).wearOut
          { kind := 2, unit := n, a := 2 * lane, b := 0 } none
      let rx (u : State) (lane : Nat) : State :=
        ((u.onLink n fun l => { l with rxLanes := put l.rxLanes lane l.rxSpare, rxSpare := 7 }).bump .glLaneSwaps n).wearOut
          { kind := 2, unit := n, a := 1 + 2 * lane, b := 0 } none
      let back (u : State) : Host.Outcome State Fault Refusal := .next ((u.onLink n fun l => { l with swapLane := [] }).toActive n)
      ∀ a b, (l.swapLane = [(true, a)] → exec (.swapComplete n) s = back (tx s a)) ∧
        (l.swapLane = [(false, b)] → exec (.swapComplete n) s = back (rx s b)) ∧
        (l.swapLane = [(true, a), (false, b)] → exec (.swapComplete n) s = back (rx (tx s a) b))) ∧
    (l.st = .swap → l.stSince + 20 * usec ≤ s.now → exec (.swapTimeout n) s = .next (s.goDown n)) ∧
    (l.st = .active → s.reg .glCtrlLpiAllow n = 1 → s.quiet n = true → exec (.lpiReq n) s = .next
      (((s.sendCmd n 4 0).onLink n fun l => { l with lpiSent := none }).linkTo n .lpIdle)) ∧
    (l.st = .lpIdle → exec (.lpiReq n) s = .next (s.wakeRes (44 + n))) ∧
    (∀ t, l.lpiSent = some t →
      (l.st = .active → s.now ≤ t + usec →
        let idle := into (s.onLink n fun l => { l with lpiSent := none }) .lpIdle
        (l.hamper = [] → l.sending = [] → l.requeue = [] → (s.eg n).queues = [] → exec (.lpiAck n) s = .next idle) ∧
        (l.hamper ≠ [] ∨ l.sending ≠ [] ∨ l.requeue ≠ [] → exec (.lpiAck n) s = .next (idle.wakeRes (44 + n)))) ∧
      (t + usec ≤ s.now → exec (.lpiReqLapse n) s = .next (s.onLink n fun l => { l with lpiSent := none }))) ∧
    (l.st = .lpIdle → Tab.has s.lk.waking (44 + n) = true → l.swapReq = none → exec (.lpIdleExitDone n) s = .next
      (((s.onLk fun k => { k with waking := Tab.del k.waking (44 + n) }).onLink n fun l =>
        { l with swapReq := none, st := .active, stSince := s.now }))) ∧
    (l.symAt + msec ≤ s.now →
      let u := (s.each (List.range 5) fun s i => s.setReg .glLaneSymerr (5 * n + i) ((l.symerr[i]?).getD 0 % 2 ^ 32)).onLink n fun l =>
        { l with symerr := [0, 0, 0, 0, 0], symAt := s.now }
      ((∀ i, i < 5 → i ∈ l.rxLanes → (l.symerr[i]?).getD 0 ≤ s.reg .glLaneThresh n) →
        exec (.laneSymbolWindowEnd n) s = .next u) ∧
      (∀ i, i < 5 → l.st = .active → l.rxSpare ≠ 7 → s.reg .glCtrlSpareAuto n = 1 → i ∈ l.rxLanes →
        s.reg .glLaneThresh n < (l.symerr[i]?).getD 0 → (∀ j, j < 5 → j ≠ i → (l.symerr[j]?).getD 0 < (l.symerr[i]?).getD 0) →
        exec (.laneSymbolWindowEnd n) s = .next (u.onLink n fun l => { l with cmdQ := l.cmdQ ++ [(1, i)] })) ∧
      (∀ i, i < 5 → l.st = .active → l.rxSpare = 7 ∨ s.reg .glCtrlSpareAuto n = 0 → i ∈ l.rxLanes →
        s.reg .glLaneThresh n < (l.symerr[i]?).getD 0 →
        (∀ j, j < 5 → j ≠ i → j ∈ l.rxLanes → (l.symerr[j]?).getD 0 ≤ s.reg .glLaneThresh n) →
        exec (.laneSymbolWindowEnd n) s = .next (((if l.rxSpare = 7 then u.finding 7 n i else u).report 1 n i).bump .glLaneAlarm n)))

/-- Training and parameters: a port leaves for DOWN and trains again; in PARAM each item is kept, and the last opens a new epoch
or resumes the old one; a shut-down ends (R279 to R281, R405, R406, R499, R501, R532).
Model choices: log 105, 150. -/
def Obligations.LinkTraining : Prop :=
  ∀ (s : State) (n : Port),
    let l := s.link n
    let down (lost : Bool) : State :=
      (((s.onLink n fun l => { l with replayFrom := none, replaysSince := 0, lpiSent := none, swapLane := [],
                                      noLane := l.noLane || (lost && l.rxSpare == 7) }).bump .glDownEvents n).report 0 n 0).linkTo n .training
    (l.st = .param ∨ l.st = .active ∨ l.st = .swap →
      exec (.retrainReq n) s = .next (down false) ∧ exec (.alignmentLoss n) s = .next (down true)) ∧
    (l.st = .training →
      (l.noLane = false → exec (.trainingComplete n) s = .next (((s.onLink n fun l =>
        { l with got := [], itemNext := 0x10, sentDone := false, st := .param, stSince := s.now }).portDone n))) ∧
      (l.noLane = true → exec (.trainingComplete n) s = .next s) ∧
      (l.stSince + 300 * msec ≤ s.now → exec (.trainingTimeout n) s = .next ((down false).portDone n))) ∧
    (l.st = .param → ∀ arg : BitVec 16,
      let keep (c : Nat) : State := s.onLink n fun l => { l with got := Tab.put l.got c arg.toNat }
      (∀ (c : Nat) (i : Instr), (c, i) ∈ [(0x10, Instr.peerId n arg), (0x11, .epochLo n arg), (0x12, .epochHi n arg), (0x13, .nextExp n arg)] →
        Tab.has l.got 0x19 = false → exec i s = .next (keep c)) ∧
      (∀ vc : Fin 5, Tab.has l.got 0x19 = false → exec (.bufVc n vc arg) s = .next (keep (0x14 + vc)))) ∧
    (l.st = .param → (∀ i, 0x10 ≤ i → i ≤ 0x18 → Tab.has l.got i = true) →
      let id := Tab.getD l.got 0x10 0
      let ep := Tab.getD l.got 0x11 0 + 65536 * Tab.getD l.got 0x12 0
      let u := s.onLink n fun l => { l with got := Tab.put l.got 0x19 0 }
      let known (u : State) : State := (((u.setReg .glPeerId n id).setReg .glPeerEpoch n ep).onLink n fun l =>
        { l with firstParam := false, cmdQ := if l.sentDone then [] else [(0x19, 0)] }).toActive n
      (l.firstParam = false → s.reg .glPeerId n = id → s.reg .glPeerEpoch n = ep →
        exec (.paramDone n) s = .next (known (u.sameEpoch n))) ∧
      (l.firstParam = true ∨ s.reg .glPeerId n ≠ id ∨ s.reg .glPeerEpoch n ≠ ep →
        exec (.paramDone n) s = .next (known (u.newEpoch n)))) ∧
    (l.shutting = true → l.enableDeferred = false → l.resetting = false →
      exec (.portShutdownEnd n) s = .next
        (((s.onLink n fun l => { l with shutting := false, resetting := false, enableDeferred := false }).completeAny 0x0F02 (n + 32)
          0 []).completeAny 0x0502 (n + 32) 0 []))

/-! ### Routing and egress -/

/-- A swap of the routing tables: when nothing is outstanding, or at the limit with FORCE, the copies change places and the
freeze ends; at the limit without FORCE the command ends with the counts; the shadow then becomes a copy of the tables in force,
and the record is saved. A port's next packet and its slot table; of a sample of queue depths the clause states the port's egress
state only (R278, R281, R299 to R301, R315,
R317, R322, R323).
Model choices: log 54, 107, 148, 150. -/
def Obligations.SwapsAndEgress : Prop :=
  ∀ (s : State) (n : Port),
    (∀ w : Swap, s.rt.tkReset = false → s.rt.swap = some w →
      let forced := w.affected.any fun t => s.reg .rtOutstanding t != 0
      let toggled := ((s.bumpN .rtForced 0 (b2n forced)).onRt fun r =>
        { r with activeCopy := !r.activeCopy, swap := some { w with stage := 5, startedAt := s.now } }).unfreeze w
      (w.stage = 2 → (∀ t ∈ w.affected, s.reg .rtOutstanding t = 0) → exec .rtDrainComplete s = .next toggled) ∧
      (w.stage = 2 → w.startedAt + s.reg .rtDrainLimit 0 * usec ≤ s.now →
        (w.force = true ∨ (∀ t ∈ w.affected, s.reg .rtOutstanding t = 0) → exec .rtDrainLimitExpiry s = .next toggled) ∧
        (w.force = false → (∃ t ∈ w.affected, s.reg .rtOutstanding t ≠ 0) → exec .rtDrainLimitExpiry s = .next
          ((((s.unfreeze w).applyDelayed.bump .rtSwapTimeout 0).completeAny 0x0507 0 0x0D
            (w.affected.flatMap fun t => le 2 (s.reg .rtOutstanding t % 65536)))))) ∧
      (w.stage = 5 → w.startedAt + 384000 ≤ s.now →
        let c := s.rt.active
        let u := { (s.onRt fun r => { (if r.activeCopy then { r with copy0 := c } else { r with copy1 := c }) with dirty := [] }) with
          nor := { s.nor with routing := some c, routeOk := true, routeSlotB := !s.nor.routeSlotB } }
        exec .rtResyncDone s = .next ((u.applyDelayed.bump .rtSwaps 0).completeAny 0x0507 0 0
          ((List.range 19).flatMap fun t => le 2 (s.reg .rtOutstanding t % 65536))))) ∧
    (∀ fs, (s.link n).requeue.find? (fun fs => s.canStart n ((fs.head?).elim 0 fun f => hdrVc f.bytes) fs.length) = some fs →
      exec (.egressPick n) s = .next ((s.onLink n fun l => { l with requeue := l.requeue.erase fs, sending := l.sending ++ fs }).bumpN
        .glConsumedVc (5 * n + (fs.head?).elim 0 fun f => hdrVc f.bytes) fs.length)) ∧
    ((s.link n).requeue.find? (fun fs => s.canStart n ((fs.head?).elim 0 fun f => hdrVc f.bytes) fs.length) = none →
      let direct (k : Nat) : Option OutPkt := (s.headOf n k).filter fun o => s.canStart n o.vc o.flits
      (∀ o, direct 2050 = some o → exec (.egressPick n) s = .next (s.startHead n 2050 o)) ∧
      (∀ o, direct 2050 = none → direct 2052 = some o → exec (.egressPick n) s = .next (s.startHead n 2052 o)) ∧
      (direct 2050 = none → direct 2052 = none →
        (∀ k a b, (s.countSkips n).choose n = some (k, a, b) → exec (.egressPick n) s = .next ((s.countSkips n).serveQueue n k a b)) ∧
        ((s.countSkips n).choose n = none → exec (.egressPick n) s = .next (s.countSkips n)))) ∧
    ((s.eg n).swapPending = true → (s.eg n).shadowAt / 26214400 < s.now / 26214400 →
      exec (.slotTableWrap n) s = .next (s.onEg n fun e =>
        { e with slots := e.shadow, shadow := e.slots, swapPending := false, activeCopy := !e.activeCopy })) ∧
    ((s.eg n).sampleAt + usec ≤ s.now → s.ingress n = [] →
      ∃ t, exec .queueSample s = .next t ∧
        let e := { s.eg n with samples := (s.eg n).samples + 1, sampleAt := s.now }
        ((s.eg n).queues = [] → t.eg n = e) ∧
        (∀ q o os, (s.eg n).queues = [(q, o :: os)] → q < 2048 →
          t.eg n = e.sample q (o.flits + (os.map (·.flits)).sum) ((s.now - o.since) / 6400)))

/-! ### Lookout and power -/

/-- Lookout: filters take their samples, a sleeping resource runs again when its wake has taken its time (R26, R467, R468);
sensors, throttle levels, the trip, telemetry (R471 to R473, R477); the DORMANT state (R475, R476). -/
def Obligations.LookoutEvents : Prop :=
  ∀ (s : State),
    (s.lk.sampleAt + 256000 ≤ s.now →
      let led := (List.range 94).filter s.led
      let u := s.each (List.range 94) fun s r => s.setReg .lkFilt r
        (lkFilter (s.reg .lkClsCfgK (lkClass r)) (s.reg .lkFilt r) (if led.contains r then 65535 else 0))
      exec .lookoutSample s = .next (u.onLk fun k => { k with
        lead := [], sampleAt := u.now, sampled := true, lastLead := led.foldl (fun t r => Tab.put t r u.now) k.lastLead })) ∧
    (s.lk.sampled = true → s.lk.sampleAt + 32000 ≤ s.now → exec .lookoutDecision s = .next
      ((s.onLk fun k => { k with sampled := false }).each (List.range 94) fun s r =>
        if s.asleep r = true ∧ s.wantsWake r = true ∧ Tab.has s.lk.waking r = false then
          (s.onLk fun k => { k with waking := Tab.put k.waking r s.now }).bump .pwrWakesAhead 0
        else if s.asleep r = false ∧ (s.reg .lkClsCfgEn (lkClass r) = 1 ∨ s.lk.state = 1) ∧ s.wantsSleep r = true ∧ s.maySleep r = true
            ∧ Tab.has s.lk.waking r = false then s.sleep r
        else s)) ∧
    (∀ (r : Fin 94) (t : Nat), Tab.get? s.lk.waking r = some t → t + wakeCost r ≤ s.now →
      let woken := s.onLk fun k => { k with wokenAt := Tab.put k.wokenAt r s.now }
      let done := woken.onLk fun k => { k with waking := Tab.del k.waking r }
      (r < 32 → (s.clu r).test = none → exec (.resourceWakeDone r) s = .next (done.onClu r fun c => { c with clockRun := true })) ∧
      (32 ≤ r.val → r.val < 44 → exec (.resourceWakeDone r) s = .next
        ((done.each (List.range 32) fun s i => s.onChan (32 * (r - 32) + i) fun x => { x with refAt := s.now }).onStack (r - 32) fun x =>
          { x with selfRefresh := false })) ∧
      (44 ≤ r.val → r.val < 62 → (s.link (r - 44)).st = .lpIdle →
        exec (.resourceWakeDone r) s = .next (done.toActive (r - 44))) ∧
      (62 ≤ r.val → exec (.resourceWakeDone r) s = .next (done.onFch (r - 62) fun x => { x with parked := false }))) ∧
    (s.lk.evalAt + msec ≤ s.now → s.lk.tripped = false → exec .throttleEval s = .next
      ((s.onLk fun l => { l with evalAt := s.now }).each (List.range 9) fun s d =>
        let hot := (((List.range 64).filter fun i => sensorDie i == d).map s.temp).foldl max 0
        if 256 * s.reg .lkThrotStart 0 ≤ hot then s.setReg .pwrThrotLevel d (min 7 (s.reg .pwrThrotLevel d + 1))
        else if hot < 256 * (s.reg .lkThrotStart 0 - s.reg .lkThrotHyst 0) then s.setReg .pwrThrotLevel d (s.reg .pwrThrotLevel d - 1)
        else s)) ∧
    (∀ t, s.lk.tripped = true → s.lk.belowSince = some t → t + 10 * msec ≤ s.now →
      exec .tripRelease s = .next (s.onLk fun l => { l with tripped := false })) ∧
    (s.lk.sensorAt + 2048000 ≤ s.now → s.lk.tripped = false → ∀ temps : List (BitVec 8), temps.length ≤ 64 →
      let u := s.each temps.zipIdx fun s x =>
        let y := lkFilter (s.reg .lkThermK 0) (s.temp x.2) (256 * x.1.toNat)
        (s.onLk fun l => { l with filt := Tab.set 0 l.filt x.2 y }).setReg .lkSensor x.2 (y / 256)
      let release := 256 * (u.reg .lkThrotStart 0 - u.reg .lkThrotHyst 0)
      let since := if (List.range 64).all fun i => decide (u.temp i < release) then some (u.lk.belowSince.getD u.now) else none
      let v := u.onLk fun l => { l with sensorAt := u.now, belowSince := since }
      ((∀ i, i < 64 → u.temp i < 26880) → exec (.sensorRead temps) s = .next v) ∧
      ((∃ i, i < 64 ∧ 26880 ≤ u.temp i) → exec (.sensorRead temps) s = .next v.trip)) ∧
    (s.lk.telemAt + msec ≤ s.now → s.board.phase = .ready → ∀ vals : List (Option (BitVec 16)), vals.length ≤ 16 →
      let alert (u : State) (i : Nat) : State := u.setReg .pwrTelemAlert 0 (setBits (u.reg .pwrTelemAlert 0) i 1 1)
      exec (.telemetryRead vals) s = .next ((s.onLk fun l => { l with telemAt := s.now }).each vals.zipIdx fun s x =>
        let t := Tab.getD s.lk.telem x.2 {}
        if t.addr = 0 then s else
        match x.1 with
        | some v =>
          let u := s.onLk fun l => { l with telem := Tab.put l.telem x.2 { t with value := v.toNat } }
          if t.thresh < v.toNat then alert u x.2 else u
        | none => alert s x.2)) ∧
    (∀ t, s.lk.dormantAt = some t → s.lk.state = 2 → s.drained = true ∨ t + s.reg .rtDrainLimit 0 * usec ≤ s.now →
      let u := (s.each (List.range 18) fun s n => (s.writeEnable n false).1).complete 0x0B02 0 0 []
      exec .dormantDrainExpiry s = .next (((u.each (u.mbx.map Prod.fst) State.deliver).onLk fun k =>
        { k with state := 3, mainEn := false, dormantAt := none }).onBoard fun b => { b with phase := .reset }))

/-! ### The meter -/

/-- The meter: what a sender sends, which frames are accepted and which events they leave, a snapshot, a silent link, a start,
and a signed report (R451, R453 to R458, R460, R461, R463 to R465).
Model choices: log 2, 56, 57. -/
def Obligations.MeterOperations : Prop :=
  ∀ (s : State),
    (∀ (l : Fin 8) (q : Ptn) (qty : Fin 10),
      let x := s.sender l
      let k := q.val * 16 + qty.val
      let n := min (Tab.getD x.deltas k 0) (2 ^ 48 - 1)
      let left := Tab.getD x.deltas k 0 - n
      (qty.val = 0 → x.lastAt + msec ≤ s.now → exec (.meterDeltaSend l q qty) s = .next (s.sendCounter l 0 0 0)) ∧
      (1 ≤ qty.val → qty.val ≤ 8 → n ≠ 0 → exec (.meterDeltaSend l q qty) s = .next
        ((s.onSender l fun x => { x with deltas := if left = 0 then Tab.del x.deltas k else Tab.put x.deltas k left }).sendCounter
          l q qty n)) ∧
      (qty.val = 9 → exec (.meterDeltaSend l q qty) s = .next (s.draw.2.sendCounter l q 9 (s.draw.1 % 2 ^ 48)))) ∧
    (∀ (l : Fin 8) (frame : BitVec 128), s.mtr.st = 0 →
      let f := le 16 frame.toNat
      let u := s.onSender l fun x => { x with wire := x.wire.drop 1 }
      let v := u.onMtr fun m => { m with heard := Tab.put m.heard l s.now, silent := m.silent.filter (· != l.val) }
      let d := (field f 4 2 + 65536 - Tab.getD s.mtr.live.exps l 0) % 65536
      let w := exec (.counterFrame l frame) s
      ((crc32c (f.take 12)).toNat ≠ field f 12 4 → w = .next (u.mtrLog 3 l 1 0)) ∧
      ((crc32c (f.take 12)).toNat = field f 12 4 →
        (bit (field f 0 1) 3 = true → w = .next ((v.mtrLog 5 l 1 0).acceptCount l f)) ∧
        (bit (field f 0 1) 3 = false →
          (d = 0 → w = .next (v.acceptCount l f)) ∧
          (d = 65535 → w = .next (v.mtrLog 2 l 1 0)) ∧
          (d ≠ 0 → d ≠ 65535 → w = .next ((v.mtrLog 1 l d 0).acceptCount l f))))) ∧
    (s.mtr.st = 0 → s.mtr.lastSnap < s.meterTime / 1000000 * 1000000 →
      let t := s.meterTime / 1000000 * 1000000
      let n := s.mtr.live.commits + 1
      let slots (m : Meter) : Meter := match m.writing with
        | some w => if w.commits % 2 = 1 then { m with slotA := some w } else { m with slotB := some w }
        | none => m
      exec .meterSnapshot s = .next (s.onMtr fun m => { slots m with
        writing := some { m.live with time := t, commits := n }, live := { m.live with commits := n }, lastSnap := t })) ∧
    (∀ l : Fin 8, s.mtr.st = 0 → l.val ∉ s.mtr.silent → Tab.getD s.mtr.heard l 0 + s.mtr.silenceMs * msec ≤ s.now →
      exec (.meterLinkSilence l) s = .next ((s.mtrLog 4 l 1 0).onMtr fun m => { m with silent := l.val :: m.silent })) ∧
    (s.mtr.st = 1 → s.mtr.choice = none →
      let old := s.mtr.last
      exec .meterStart s = .next ((s.onMtr fun m => { m with
        st := 0, live := { old with seals := max old.seals m.live.seals }, writing := none, lastSnap := old.time, epoch := s.now,
        silent := [], heard := (List.range 8).map fun l => (l, s.now), key := m.key.restart }).mtrLog 6 0xFF 1 old.time)) ∧
    (∀ r rest, s.mtr.st = 0 → s.mtr.queue = r :: rest → r.report = true →
      let u := s.onMtr fun m => { m with queue := rest }
      (∀ b v, u.signed 1 (u.reportBody r.ptn r.nonce) = .ok (b, v) → exec .meterSignDone s = .next
        ((v.onMtr fun m => { m with reported := Tab.put m.reported r.ptn m.last.seq }).complete 0x0A02 r.no 0 b)) ∧
      (∀ v, u.signed 1 (u.reportBody r.ptn r.nonce) = .error v → exec .meterSignDone s = .next (v.complete 0x0A02 r.no 15 [])))

/-! ### Resets, start-up, security clocks and upkeep -/

/-- Resets: what each pin and cause starts, and what the state is then; a supply or a reference lost (R446, R475, R478, R495 to
R500, R513, R514). A power-on reset keeps the meter die and what is durable; warm and transit-keep resets keep more, and a
transit-keep reset lets a swap of the tables stand still and a wake of a port go on (R306).
Model choices: log 58, 65, 148. -/
def Obligations.ResetsAndPins : Prop :=
  ∀ (s : State),
    (∀ strap : BitVec 16,
      exec (.porstN true strap) s = .next (s.powerOn.onBoard fun b => { b with phase := .reset, porLow := true }) ∧
      (s.board.porLow = true → exec (.porstN false strap) s = .next (s.onBoard fun b =>
        { b with phase := .rom, porLow := false, startAt := s.now, strap := strap.toNat, gpio := strap.toNat }))) ∧
    (s.board.phase ≠ .lost → s.board.porLow = false → s.lk.state ≠ 3 →
      exec (.warmN true) s = .next (s.warm.onBoard fun b => { b with phase := .reset, warmLow := true }) ∧
      (s.board.warmLow = true → exec (.warmN false) s = .next (s.onBoard fun b =>
        { b with phase := .rom, warmLow := false, startAt := s.now })) ∧
      (∀ t, s.board.resetDue = some (1, t) → t + 100 * usec ≤ s.now → exec .resetStart s = .next s.warm) ∧
      (∀ t, s.board.resetDue = some (2, t) → t + 100 * usec ≤ s.now → exec .resetStart s = .next s.transitKeep) ∧
      (s.sec.debugOn = true → s.sec.debugEnd ≤ s.now → exec .debugUnlockExpiry s = .next s.warm)) ∧
    (let u := s.each s.mtr.queue fun s r => s.complete (if r.report then 0x0A02 else 0x0A03) r.no 6 []
     exec (.porstVN true) s = .next ((u.onMtr fun m => { m with st := 2, writing := none, queue := [] }).onBoard fun b =>
       { b with porVLow := true }) ∧
     exec (.refclkLoss 5) s = .next (u.onMtr fun m => { m with st := 1, writing := none, queue := [] })) ∧
    (s.board.porVLow = true → exec (.porstVN false) s = .next
      ((s.onBoard fun b => { b with porVLow := false }).onMtr fun m => { m with st := 1 })) ∧
    (s.lk.state = 3 → s.lk.railAt = none → s.board.porLow = false →
      exec .wakeN s = .next (s.onLk fun k => { k with mainEn := true, railAt := some s.now })) ∧
    (∀ t, s.lk.railAt = some t → s.lk.state = 3 → t + s.reg .lkRailWait 0 * msec ≤ s.now →
      exec .railWaitExpiry s = .next s.warm) ∧
    exec .powerLoss s = .next (s.powerOn.meterReset.onBoard fun b => { b with phase := .lost }) ∧
    (let lost (u : State) (w : Nat) : State := u.onBoard fun b => { b with clocksLost := w :: b.clocksLost.filter (· != w) }
     exec (.refclkLoss 0) s = .next (lost (s.powerOn.onBoard fun b => { b with phase := .lost }) 0) ∧
     exec (.refclkLoss 3) s = .next (lost { s with pcie := { d3 := true } } 3) ∧
     exec (.refclkLoss 4) s = .next (lost { s with lk := {}, regs := s.regs.filter fun e => !(keptWarm (e.1 / 2 ^ 20)) } 4) ∧
     ∀ w : Fin 6, w.val = 1 ∨ w.val = 2 → exec (.refclkLoss w) s = .next
       (lost (s.each ((List.range 18).filter fun n => n / 9 == w.val - 1) fun s n =>
         (s.discardHeld n).onLink n fun _ => { st := .down, stSince := s.now }) w)) ∧
    (s.powerOn.mtr = s.mtr ∧ s.powerOn.now = s.now ∧ s.powerOn.comp = State.reset.comp ∧ s.powerOn.mbx = [] ∧
      s.powerOn.links = [] ∧ s.powerOn.mem.dram = [] ∧ s.powerOn.sec.agree = s.sec.agree ∧ s.powerOn.board.phase = .rom) ∧
    (s.sec.unlockDue = false → s.warm.mtr = s.mtr) ∧
    (s.warm.sec.pset = s.sec.pset ∧ s.warm.comp = State.reset.comp ∧ s.warm.mem.dram = [] ∧ s.warm.board.kind = 1 ∧
      ∀ n, n < 18 → s.warm.reg .glEpoch n = wrapAdd 32 (s.reg .glEpoch n) 1) ∧
    (s.transitKeep.links = s.links ∧ s.transitKeep.egr = s.egr ∧ s.transitKeep.pols = s.pols ∧ s.transitKeep.arbs = s.arbs ∧
      s.transitKeep.rt.copy0 = s.rt.copy0 ∧ s.transitKeep.rt.copy1 = s.rt.copy1 ∧ s.transitKeep.mtr = s.mtr ∧
      s.transitKeep.board.kind = 2 ∧ s.transitKeep.rt.swap = s.rt.swap ∧ s.transitKeep.openSwap = none ∧
      ∀ n, n < 18 → Tab.get? s.transitKeep.lk.waking (44 + n) = Tab.get? s.lk.waking (44 + n))

/-- Start-up, step by step: the self-test and stage 1, main firmware, flash bus training, the core supply's code, MBX_READY
(R35, R436, R437, R501, R503, R512).
Model choices: log 10, 34, 66. -/
def Obligations.BringUp : Prop :=
  ∀ (s : State),
    (s.board.phase = .rom →
      exec (.stage1Verified false) s = .next (s.onBoard fun b => { b with phase := .selfTestFailed }) ∧
      (s.imageSlot 0 = none → exec (.stage1Verified true) s = .next (s.onBoard fun b => { b with phase := .noStage1 })) ∧
      (∀ slot i, s.imageSlot 0 = some (slot, i) →
        let u := { s with nor := { s.nor with run := Tab.put s.nor.run 0 slot },
                          board := { s.board with phase := .stage1, stageAt := s.now } }
        exec (.stage1Verified true) s = .next (if u.vaultOk then u.openRecords else u))) ∧
    (s.board.phase = .stage1 → s.board.linkOpen = true →
      (s.imageSlot 1 = none → exec .mainFirmwareVerified s = .next (s.onBoard fun b => { b with mainDone := true, noMain := true })) ∧
      (∀ slot i, s.imageSlot 1 = some (slot, i) → exec .mainFirmwareVerified s = .next
        ({ s with nor := { s.nor with run := Tab.put s.nor.run 1 slot }, board := { s.board with mainDone := true } }.advance)) ∧
      (s.board.kind ≠ 2 → s.board.vidAt + 100 * usec ≤ s.now →
        let goal := ofLe (Config.provisioned 30 1) % 81
        exec .vddcVidStep s = .next (s.onBoard fun b => { b with
          vidAt := s.now, vid := if b.vid < goal then min goal (b.vid + 4) else max goal (b.vid - 4) })) ∧
      (∀ (m : MDie) (n k : BitVec 16), n ≠ 0#16 → m.val ∉ s.board.flashDone →
        let u := s.each (List.range 8) fun s i => s.onFch (8 * m.val + i) fun x => { x with trained := true, ce := 0xFF, lunReject := 0 }
        let all := (List.range 32).flatMap fun l => (List.range 8).map fun i => i + 8 * (l / 4) + 64 * (l % 4)
        let table (v : Nat) : Tab Nat := all.foldl (fun a x => Tab.put a x v) []
        exec (.flashBusTrainingDone m (List.replicate 8 0xFF#8) (List.replicate 8 0) (List.replicate 256 n) (List.replicate 256 k)) s = .next
          (((u.onFdie m fun d => { d with
            luns := all, groups := table n.toNat, kitties := table k.toNat, noSpace := false, mounted := s.sec.debugOn,
            used := ((d.pages.map fun e => locGroup e.1) ++ d.dead).eraseDups, filling := [] }).onBoard fun b =>
              { b with flashDone := b.flashDone ++ [m.val] }).advance))) ∧
    (∀ main : Bool, (if main then s.board.phase = .main else s.board.phase = .stage1 ∧ s.board.noMain = true ∧ s.stepTwoDone = true) →
      let run (i : Nat) : Nat := ((Tab.get? s.nor.images (2 * i + Tab.getD s.nor.run i 0)).map (·.svn)).getD 0
      ∃ t, exec .mbxReady s = .next t ∧
        (∀ m, m < 64 → t.box m = { s.box m with ready := true }) ∧ (∀ m, 64 ≤ m → t.box m = s.box m) ∧
        { t with mbx := s.mbx } =
          { s with board := { s.board with phase := if main then .ready else .recovery, readyAt := s.now },
                   sec := if main then { s.sec with svn := [max (s.svn 0) (run 0), max (s.svn 1) (run 1), s.svn 2] } else s.sec,
                   rt := { s.rt with tkReset := false }, freed := s.freed.map fun e => (e.1, { e.2 with since := s.now }) })

/-- Upkeep: a core fails, a duty misses its health check, the wear record is committed, the debug port, a firmware image, the
window of a change, and a write of the PCIe configuration (R37, R386, R408, R437, R443, R445, R481, R493, R518, R521).
Model choices: log 2. -/
def Obligations.Upkeep : Prop :=
  ∀ (s : State),
    (∀ (c : Core) (d : Nat), s.cores.moves = [] → s.cores.duty[c.val]? = some d → d ≠ 0xFF →
      let failed := { s with cores := { s.cores with duty := s.cores.duty.set c 0xFF, polling := s.cores.polling && d != 1, moves := [] } }
      let spare (i : Nat) : Prop := i < 8 ∧ i ≠ c.val ∧ (s.cores.duty[i]?).getD 0xFF = 0
      (d = 0 → exec (.coreFailure c) s = .next failed) ∧
      (d ≠ 0 → (∀ i, ¬spare i) → exec (.coreFailure c) s = .next (failed.finding 2 c d)) ∧
      (d ≠ 0 → c.val = 4 → exec (.coreFailure c) s = .next (failed.finding 2 c d)) ∧
      (d ≠ 0 → c.val ≠ 4 → ∀ i, spare i → (∀ j, j < i → ¬spare j) → exec (.coreFailure c) s = .next
        { failed with cores := { failed.cores with moves := [{ duty := d, target := i, startedAt := s.now }] } })) ∧
    (∀ duty : BitVec 16, s.diag.recs.length < 64 → s.prt.st = .unpaired →
      exec (.watchdog duty) s = .next { s with diag := { s.diag with recs := s.diag.recs ++
        [{ time := s.upUs, code := 11, unit := duty.toNat, detail := 0, yield := true }] } }) ∧
    (s.wear.pend ≠ [] → s.vaultOk = true →
      let u : State := { s with wear := { ents := s.wear.ents ++ s.wear.pend.map WearPend.ent, pend := [], seq := s.wear.seq + 1,
                                          slotB := !s.wear.slotB, sealOk := true } }
      let v := u.each ((s.wear.pend.map WearPend.ent).filter fun e => e.kind == 4) fun s e =>
        s.errLog e.unit (bits e.b 2 5) (bits e.b 7 16) 0xFF 5 52 0
      exec .wearRecordCommit s = .next (v.each (s.wear.pend.filterMap WearPend.remap) fun s k => s.complete 0x0701 k 0 [])) ∧
    (s.sec.debugOn = true → exec .dbgAccess s = .next (s.onBoard fun b => { b with dbgPort := true })) ∧
    (s.sec.debugOn = false → exec .dbgAccess s = .next s) ∧
    (∀ stage len, s.board.upd = some (stage, len) →
      let u := s.onBoard fun b => { b with upd := none }
      let img := Mem.reads zeroByte s.pcie.bar2 0 len
      (∀ st, s.checkImage stage img = .error st → exec .firmwareImageWritten s = .next (u.complete 0x0103 0 st [])) ∧
      (∀ i, s.checkImage stage img = .ok i → stage ≠ 2 → exec .firmwareImageWritten s = .next
        ({ u with nor := { u.nor with images := Tab.put u.nor.images (2 * stage + (s.imageSlot stage).elim 0 fun x => 1 - x.1) i }
          }.complete 0x0103 0 0 [])) ∧
      (∀ i, s.checkImage stage img = .ok i → stage = 2 → exec .firmwareImageWritten s = .next
        ((u.onMtr fun m => { m with images := Tab.put m.images (1 - m.run) i }).complete 0x0103 0 0 []))) ∧
    (∀ (id : BitVec 32) (c : Change), s.sec.changes.find? (fun c => c.id == id.toNat) = some c → c.until' ≤ s.now →
      let u := s.onSec fun x => { x with changes := x.changes.filter fun c => c.id != id.toNat }
      exec (.agreementWindowExpiry id) s = .next (if c.signed.isSome then u.complete 0x0904 id.toNat 0x10 [] else u)) ∧
    (∀ (bm msix d3 : Bool) (mask : BitVec 64), 3 ∉ s.board.clocksLost →
      let u := s.onPcie fun p => { p with busMaster := bm, msixEn := msix, d3 := d3, masked := mask.toNat }
      let due := (List.range 64).filter fun m => bit s.pcie.pend m && bm && msix && !bit mask.toNat m && !d3
      exec (.pcieConfigWrite bm msix d3 mask) s = .next (u.each due fun s m =>
        s.onPcie fun p => { p with pend := setBits p.pend m 1 0, sent := Tab.put p.sent m (Tab.getD p.sent m 0 + 1) }))
end

