-- ==== Sys2Proof/Laws/State.lean ====
section
/-! SUPPORT. Which field of the state each shared update changes, and that it leaves every other field alone: one lemma per
update and field, so that no later proof unfolds a record update. -/
namespace Sys2Proof.Machine

/-! ### setReg -/
section setReg
variable (s : State) (r : Reg) (i v : Nat)
@[simp] theorem State.setReg_now : (s.setReg r i v).now = s.now := rfl
@[simp] theorem State.setReg_pending : (s.setReg r i v).pending = s.pending := rfl
@[simp] theorem State.setReg_free : (s.setReg r i v).free = s.free := rfl
@[simp] theorem State.setReg_comp : (s.setReg r i v).comp = s.comp := rfl
@[simp] theorem State.setReg_deal : (s.setReg r i v).deal = s.deal := rfl
@[simp] theorem State.setReg_fab : (s.setReg r i v).fab = s.fab := rfl
@[simp] theorem State.setReg_dir : (s.setReg r i v).dir = s.dir := rfl
@[simp] theorem State.setReg_links : (s.setReg r i v).links = s.links := rfl
@[simp] theorem State.setReg_rt : (s.setReg r i v).rt = s.rt := rfl
@[simp] theorem State.setReg_egr : (s.setReg r i v).egr = s.egr := rfl
@[simp] theorem State.setReg_groupMap : (s.setReg r i v).groupMap = s.groupMap := rfl
@[simp] theorem State.setReg_pols : (s.setReg r i v).pols = s.pols := rfl
@[simp] theorem State.setReg_arbs : (s.setReg r i v).arbs = s.arbs := rfl
@[simp] theorem State.setReg_arbSel : (s.setReg r i v).arbSel = s.arbSel := rfl
@[simp] theorem State.setReg_mem : (s.setReg r i v).mem = s.mem := rfl
@[simp] theorem State.setReg_ptns : (s.setReg r i v).ptns = s.ptns := rfl
@[simp] theorem State.setReg_exts : (s.setReg r i v).exts = s.exts := rfl
@[simp] theorem State.setReg_freed : (s.setReg r i v).freed = s.freed := rfl
@[simp] theorem State.setReg_mbx : (s.setReg r i v).mbx = s.mbx := rfl
@[simp] theorem State.setReg_chk : (s.setReg r i v).chk = s.chk := rfl
@[simp] theorem State.setReg_cores : (s.setReg r i v).cores = s.cores := rfl
@[simp] theorem State.setReg_pcie : (s.setReg r i v).pcie = s.pcie := rfl
@[simp] theorem State.setReg_sec : (s.setReg r i v).sec = s.sec := rfl
@[simp] theorem State.setReg_nor : (s.setReg r i v).nor = s.nor := rfl
@[simp] theorem State.setReg_wear : (s.setReg r i v).wear = s.wear := rfl
@[simp] theorem State.setReg_diag : (s.setReg r i v).diag = s.diag := rfl
@[simp] theorem State.setReg_prt : (s.setReg r i v).prt = s.prt := rfl
@[simp] theorem State.setReg_mtr : (s.setReg r i v).mtr = s.mtr := rfl
@[simp] theorem State.setReg_send : (s.setReg r i v).send = s.send := rfl
@[simp] theorem State.setReg_lk : (s.setReg r i v).lk = s.lk := rfl
@[simp] theorem State.setReg_board : (s.setReg r i v).board = s.board := rfl
end setReg

/-! ### bumpN -/
section bumpN
variable (s : State) (r : Reg) (i n : Nat)
@[simp] theorem State.bumpN_now : (s.bumpN r i n).now = s.now := rfl
@[simp] theorem State.bumpN_pending : (s.bumpN r i n).pending = s.pending := rfl
@[simp] theorem State.bumpN_free : (s.bumpN r i n).free = s.free := rfl
@[simp] theorem State.bumpN_comp : (s.bumpN r i n).comp = s.comp := rfl
@[simp] theorem State.bumpN_deal : (s.bumpN r i n).deal = s.deal := rfl
@[simp] theorem State.bumpN_fab : (s.bumpN r i n).fab = s.fab := rfl
@[simp] theorem State.bumpN_dir : (s.bumpN r i n).dir = s.dir := rfl
@[simp] theorem State.bumpN_links : (s.bumpN r i n).links = s.links := rfl
@[simp] theorem State.bumpN_rt : (s.bumpN r i n).rt = s.rt := rfl
@[simp] theorem State.bumpN_egr : (s.bumpN r i n).egr = s.egr := rfl
@[simp] theorem State.bumpN_groupMap : (s.bumpN r i n).groupMap = s.groupMap := rfl
@[simp] theorem State.bumpN_pols : (s.bumpN r i n).pols = s.pols := rfl
@[simp] theorem State.bumpN_arbs : (s.bumpN r i n).arbs = s.arbs := rfl
@[simp] theorem State.bumpN_arbSel : (s.bumpN r i n).arbSel = s.arbSel := rfl
@[simp] theorem State.bumpN_mem : (s.bumpN r i n).mem = s.mem := rfl
@[simp] theorem State.bumpN_ptns : (s.bumpN r i n).ptns = s.ptns := rfl
@[simp] theorem State.bumpN_exts : (s.bumpN r i n).exts = s.exts := rfl
@[simp] theorem State.bumpN_freed : (s.bumpN r i n).freed = s.freed := rfl
@[simp] theorem State.bumpN_mbx : (s.bumpN r i n).mbx = s.mbx := rfl
@[simp] theorem State.bumpN_chk : (s.bumpN r i n).chk = s.chk := rfl
@[simp] theorem State.bumpN_cores : (s.bumpN r i n).cores = s.cores := rfl
@[simp] theorem State.bumpN_pcie : (s.bumpN r i n).pcie = s.pcie := rfl
@[simp] theorem State.bumpN_sec : (s.bumpN r i n).sec = s.sec := rfl
@[simp] theorem State.bumpN_nor : (s.bumpN r i n).nor = s.nor := rfl
@[simp] theorem State.bumpN_wear : (s.bumpN r i n).wear = s.wear := rfl
@[simp] theorem State.bumpN_diag : (s.bumpN r i n).diag = s.diag := rfl
@[simp] theorem State.bumpN_prt : (s.bumpN r i n).prt = s.prt := rfl
@[simp] theorem State.bumpN_mtr : (s.bumpN r i n).mtr = s.mtr := rfl
@[simp] theorem State.bumpN_send : (s.bumpN r i n).send = s.send := rfl
@[simp] theorem State.bumpN_lk : (s.bumpN r i n).lk = s.lk := rfl
@[simp] theorem State.bumpN_board : (s.bumpN r i n).board = s.board := rfl
end bumpN

/-! ### bump -/
section bump
variable (s : State) (r : Reg) (i : Nat)
@[simp] theorem State.bump_now : (s.bump r i).now = s.now := rfl
@[simp] theorem State.bump_pending : (s.bump r i).pending = s.pending := rfl
@[simp] theorem State.bump_free : (s.bump r i).free = s.free := rfl
@[simp] theorem State.bump_comp : (s.bump r i).comp = s.comp := rfl
@[simp] theorem State.bump_deal : (s.bump r i).deal = s.deal := rfl
@[simp] theorem State.bump_fab : (s.bump r i).fab = s.fab := rfl
@[simp] theorem State.bump_dir : (s.bump r i).dir = s.dir := rfl
@[simp] theorem State.bump_links : (s.bump r i).links = s.links := rfl
@[simp] theorem State.bump_rt : (s.bump r i).rt = s.rt := rfl
@[simp] theorem State.bump_egr : (s.bump r i).egr = s.egr := rfl
@[simp] theorem State.bump_groupMap : (s.bump r i).groupMap = s.groupMap := rfl
@[simp] theorem State.bump_pols : (s.bump r i).pols = s.pols := rfl
@[simp] theorem State.bump_arbs : (s.bump r i).arbs = s.arbs := rfl
@[simp] theorem State.bump_arbSel : (s.bump r i).arbSel = s.arbSel := rfl
@[simp] theorem State.bump_mem : (s.bump r i).mem = s.mem := rfl
@[simp] theorem State.bump_ptns : (s.bump r i).ptns = s.ptns := rfl
@[simp] theorem State.bump_exts : (s.bump r i).exts = s.exts := rfl
@[simp] theorem State.bump_freed : (s.bump r i).freed = s.freed := rfl
@[simp] theorem State.bump_mbx : (s.bump r i).mbx = s.mbx := rfl
@[simp] theorem State.bump_chk : (s.bump r i).chk = s.chk := rfl
@[simp] theorem State.bump_cores : (s.bump r i).cores = s.cores := rfl
@[simp] theorem State.bump_pcie : (s.bump r i).pcie = s.pcie := rfl
@[simp] theorem State.bump_sec : (s.bump r i).sec = s.sec := rfl
@[simp] theorem State.bump_nor : (s.bump r i).nor = s.nor := rfl
@[simp] theorem State.bump_wear : (s.bump r i).wear = s.wear := rfl
@[simp] theorem State.bump_diag : (s.bump r i).diag = s.diag := rfl
@[simp] theorem State.bump_prt : (s.bump r i).prt = s.prt := rfl
@[simp] theorem State.bump_mtr : (s.bump r i).mtr = s.mtr := rfl
@[simp] theorem State.bump_send : (s.bump r i).send = s.send := rfl
@[simp] theorem State.bump_lk : (s.bump r i).lk = s.lk := rfl
@[simp] theorem State.bump_board : (s.bump r i).board = s.board := rfl
end bump

/-! ### idle -/
section idle
variable (s : State)
@[simp] theorem State.idle_pending : (s.idle).pending = s.pending := rfl
@[simp] theorem State.idle_free : (s.idle).free = s.free := rfl
@[simp] theorem State.idle_regs : (s.idle).regs = s.regs := rfl
@[simp] theorem State.idle_comp : (s.idle).comp = s.comp := rfl
@[simp] theorem State.idle_deal : (s.idle).deal = s.deal := rfl
@[simp] theorem State.idle_fab : (s.idle).fab = s.fab := rfl
@[simp] theorem State.idle_dir : (s.idle).dir = s.dir := rfl
@[simp] theorem State.idle_links : (s.idle).links = s.links := rfl
@[simp] theorem State.idle_rt : (s.idle).rt = s.rt := rfl
@[simp] theorem State.idle_egr : (s.idle).egr = s.egr := rfl
@[simp] theorem State.idle_groupMap : (s.idle).groupMap = s.groupMap := rfl
@[simp] theorem State.idle_pols : (s.idle).pols = s.pols := rfl
@[simp] theorem State.idle_arbs : (s.idle).arbs = s.arbs := rfl
@[simp] theorem State.idle_arbSel : (s.idle).arbSel = s.arbSel := rfl
@[simp] theorem State.idle_mem : (s.idle).mem = s.mem := rfl
@[simp] theorem State.idle_ptns : (s.idle).ptns = s.ptns := rfl
@[simp] theorem State.idle_exts : (s.idle).exts = s.exts := rfl
@[simp] theorem State.idle_freed : (s.idle).freed = s.freed := rfl
@[simp] theorem State.idle_mbx : (s.idle).mbx = s.mbx := rfl
@[simp] theorem State.idle_chk : (s.idle).chk = s.chk := rfl
@[simp] theorem State.idle_cores : (s.idle).cores = s.cores := rfl
@[simp] theorem State.idle_pcie : (s.idle).pcie = s.pcie := rfl
@[simp] theorem State.idle_sec : (s.idle).sec = s.sec := rfl
@[simp] theorem State.idle_nor : (s.idle).nor = s.nor := rfl
@[simp] theorem State.idle_wear : (s.idle).wear = s.wear := rfl
@[simp] theorem State.idle_diag : (s.idle).diag = s.diag := rfl
@[simp] theorem State.idle_prt : (s.idle).prt = s.prt := rfl
@[simp] theorem State.idle_mtr : (s.idle).mtr = s.mtr := rfl
@[simp] theorem State.idle_send : (s.idle).send = s.send := rfl
@[simp] theorem State.idle_lk : (s.idle).lk = s.lk := rfl
@[simp] theorem State.idle_board : (s.idle).board = s.board := rfl
end idle

/-! ### clearRegs -/
section clearRegs
variable (s : State) (f : Nat → Nat → Bool)
@[simp] theorem State.clearRegs_now : (s.clearRegs f).now = s.now := rfl
@[simp] theorem State.clearRegs_pending : (s.clearRegs f).pending = s.pending := rfl
@[simp] theorem State.clearRegs_free : (s.clearRegs f).free = s.free := rfl
@[simp] theorem State.clearRegs_comp : (s.clearRegs f).comp = s.comp := rfl
@[simp] theorem State.clearRegs_deal : (s.clearRegs f).deal = s.deal := rfl
@[simp] theorem State.clearRegs_fab : (s.clearRegs f).fab = s.fab := rfl
@[simp] theorem State.clearRegs_dir : (s.clearRegs f).dir = s.dir := rfl
@[simp] theorem State.clearRegs_links : (s.clearRegs f).links = s.links := rfl
@[simp] theorem State.clearRegs_rt : (s.clearRegs f).rt = s.rt := rfl
@[simp] theorem State.clearRegs_egr : (s.clearRegs f).egr = s.egr := rfl
@[simp] theorem State.clearRegs_groupMap : (s.clearRegs f).groupMap = s.groupMap := rfl
@[simp] theorem State.clearRegs_pols : (s.clearRegs f).pols = s.pols := rfl
@[simp] theorem State.clearRegs_arbs : (s.clearRegs f).arbs = s.arbs := rfl
@[simp] theorem State.clearRegs_arbSel : (s.clearRegs f).arbSel = s.arbSel := rfl
@[simp] theorem State.clearRegs_mem : (s.clearRegs f).mem = s.mem := rfl
@[simp] theorem State.clearRegs_ptns : (s.clearRegs f).ptns = s.ptns := rfl
@[simp] theorem State.clearRegs_exts : (s.clearRegs f).exts = s.exts := rfl
@[simp] theorem State.clearRegs_freed : (s.clearRegs f).freed = s.freed := rfl
@[simp] theorem State.clearRegs_mbx : (s.clearRegs f).mbx = s.mbx := rfl
@[simp] theorem State.clearRegs_chk : (s.clearRegs f).chk = s.chk := rfl
@[simp] theorem State.clearRegs_cores : (s.clearRegs f).cores = s.cores := rfl
@[simp] theorem State.clearRegs_pcie : (s.clearRegs f).pcie = s.pcie := rfl
@[simp] theorem State.clearRegs_sec : (s.clearRegs f).sec = s.sec := rfl
@[simp] theorem State.clearRegs_nor : (s.clearRegs f).nor = s.nor := rfl
@[simp] theorem State.clearRegs_wear : (s.clearRegs f).wear = s.wear := rfl
@[simp] theorem State.clearRegs_diag : (s.clearRegs f).diag = s.diag := rfl
@[simp] theorem State.clearRegs_prt : (s.clearRegs f).prt = s.prt := rfl
@[simp] theorem State.clearRegs_mtr : (s.clearRegs f).mtr = s.mtr := rfl
@[simp] theorem State.clearRegs_send : (s.clearRegs f).send = s.send := rfl
@[simp] theorem State.clearRegs_lk : (s.clearRegs f).lk = s.lk := rfl
@[simp] theorem State.clearRegs_board : (s.clearRegs f).board = s.board := rfl
end clearRegs

/-! ### setLink -/
section setLink
variable (s : State) (n : Nat) (l : Link)
@[simp] theorem State.setLink_now : (s.setLink n l).now = s.now := rfl
@[simp] theorem State.setLink_pending : (s.setLink n l).pending = s.pending := rfl
@[simp] theorem State.setLink_free : (s.setLink n l).free = s.free := rfl
@[simp] theorem State.setLink_regs : (s.setLink n l).regs = s.regs := rfl
@[simp] theorem State.setLink_comp : (s.setLink n l).comp = s.comp := rfl
@[simp] theorem State.setLink_deal : (s.setLink n l).deal = s.deal := rfl
@[simp] theorem State.setLink_fab : (s.setLink n l).fab = s.fab := rfl
@[simp] theorem State.setLink_dir : (s.setLink n l).dir = s.dir := rfl
@[simp] theorem State.setLink_rt : (s.setLink n l).rt = s.rt := rfl
@[simp] theorem State.setLink_egr : (s.setLink n l).egr = s.egr := rfl
@[simp] theorem State.setLink_groupMap : (s.setLink n l).groupMap = s.groupMap := rfl
@[simp] theorem State.setLink_pols : (s.setLink n l).pols = s.pols := rfl
@[simp] theorem State.setLink_arbs : (s.setLink n l).arbs = s.arbs := rfl
@[simp] theorem State.setLink_arbSel : (s.setLink n l).arbSel = s.arbSel := rfl
@[simp] theorem State.setLink_mem : (s.setLink n l).mem = s.mem := rfl
@[simp] theorem State.setLink_ptns : (s.setLink n l).ptns = s.ptns := rfl
@[simp] theorem State.setLink_exts : (s.setLink n l).exts = s.exts := rfl
@[simp] theorem State.setLink_freed : (s.setLink n l).freed = s.freed := rfl
@[simp] theorem State.setLink_mbx : (s.setLink n l).mbx = s.mbx := rfl
@[simp] theorem State.setLink_chk : (s.setLink n l).chk = s.chk := rfl
@[simp] theorem State.setLink_cores : (s.setLink n l).cores = s.cores := rfl
@[simp] theorem State.setLink_pcie : (s.setLink n l).pcie = s.pcie := rfl
@[simp] theorem State.setLink_sec : (s.setLink n l).sec = s.sec := rfl
@[simp] theorem State.setLink_nor : (s.setLink n l).nor = s.nor := rfl
@[simp] theorem State.setLink_wear : (s.setLink n l).wear = s.wear := rfl
@[simp] theorem State.setLink_diag : (s.setLink n l).diag = s.diag := rfl
@[simp] theorem State.setLink_prt : (s.setLink n l).prt = s.prt := rfl
@[simp] theorem State.setLink_mtr : (s.setLink n l).mtr = s.mtr := rfl
@[simp] theorem State.setLink_send : (s.setLink n l).send = s.send := rfl
@[simp] theorem State.setLink_lk : (s.setLink n l).lk = s.lk := rfl
@[simp] theorem State.setLink_board : (s.setLink n l).board = s.board := rfl
end setLink

/-! ### onLink -/
section onLink
variable (s : State) (n : Nat) (f : Link → Link)
@[simp] theorem State.onLink_now : (s.onLink n f).now = s.now := rfl
@[simp] theorem State.onLink_pending : (s.onLink n f).pending = s.pending := rfl
@[simp] theorem State.onLink_free : (s.onLink n f).free = s.free := rfl
@[simp] theorem State.onLink_regs : (s.onLink n f).regs = s.regs := rfl
@[simp] theorem State.onLink_comp : (s.onLink n f).comp = s.comp := rfl
@[simp] theorem State.onLink_deal : (s.onLink n f).deal = s.deal := rfl
@[simp] theorem State.onLink_fab : (s.onLink n f).fab = s.fab := rfl
@[simp] theorem State.onLink_dir : (s.onLink n f).dir = s.dir := rfl
@[simp] theorem State.onLink_rt : (s.onLink n f).rt = s.rt := rfl
@[simp] theorem State.onLink_egr : (s.onLink n f).egr = s.egr := rfl
@[simp] theorem State.onLink_groupMap : (s.onLink n f).groupMap = s.groupMap := rfl
@[simp] theorem State.onLink_pols : (s.onLink n f).pols = s.pols := rfl
@[simp] theorem State.onLink_arbs : (s.onLink n f).arbs = s.arbs := rfl
@[simp] theorem State.onLink_arbSel : (s.onLink n f).arbSel = s.arbSel := rfl
@[simp] theorem State.onLink_mem : (s.onLink n f).mem = s.mem := rfl
@[simp] theorem State.onLink_ptns : (s.onLink n f).ptns = s.ptns := rfl
@[simp] theorem State.onLink_exts : (s.onLink n f).exts = s.exts := rfl
@[simp] theorem State.onLink_freed : (s.onLink n f).freed = s.freed := rfl
@[simp] theorem State.onLink_mbx : (s.onLink n f).mbx = s.mbx := rfl
@[simp] theorem State.onLink_chk : (s.onLink n f).chk = s.chk := rfl
@[simp] theorem State.onLink_cores : (s.onLink n f).cores = s.cores := rfl
@[simp] theorem State.onLink_pcie : (s.onLink n f).pcie = s.pcie := rfl
@[simp] theorem State.onLink_sec : (s.onLink n f).sec = s.sec := rfl
@[simp] theorem State.onLink_nor : (s.onLink n f).nor = s.nor := rfl
@[simp] theorem State.onLink_wear : (s.onLink n f).wear = s.wear := rfl
@[simp] theorem State.onLink_diag : (s.onLink n f).diag = s.diag := rfl
@[simp] theorem State.onLink_prt : (s.onLink n f).prt = s.prt := rfl
@[simp] theorem State.onLink_mtr : (s.onLink n f).mtr = s.mtr := rfl
@[simp] theorem State.onLink_send : (s.onLink n f).send = s.send := rfl
@[simp] theorem State.onLink_lk : (s.onLink n f).lk = s.lk := rfl
@[simp] theorem State.onLink_board : (s.onLink n f).board = s.board := rfl
end onLink

/-! ### setEg -/
section setEg
variable (s : State) (n : Nat) (e : Egress)
@[simp] theorem State.setEg_now : (s.setEg n e).now = s.now := rfl
@[simp] theorem State.setEg_pending : (s.setEg n e).pending = s.pending := rfl
@[simp] theorem State.setEg_free : (s.setEg n e).free = s.free := rfl
@[simp] theorem State.setEg_regs : (s.setEg n e).regs = s.regs := rfl
@[simp] theorem State.setEg_comp : (s.setEg n e).comp = s.comp := rfl
@[simp] theorem State.setEg_deal : (s.setEg n e).deal = s.deal := rfl
@[simp] theorem State.setEg_fab : (s.setEg n e).fab = s.fab := rfl
@[simp] theorem State.setEg_dir : (s.setEg n e).dir = s.dir := rfl
@[simp] theorem State.setEg_links : (s.setEg n e).links = s.links := rfl
@[simp] theorem State.setEg_rt : (s.setEg n e).rt = s.rt := rfl
@[simp] theorem State.setEg_groupMap : (s.setEg n e).groupMap = s.groupMap := rfl
@[simp] theorem State.setEg_pols : (s.setEg n e).pols = s.pols := rfl
@[simp] theorem State.setEg_arbs : (s.setEg n e).arbs = s.arbs := rfl
@[simp] theorem State.setEg_arbSel : (s.setEg n e).arbSel = s.arbSel := rfl
@[simp] theorem State.setEg_mem : (s.setEg n e).mem = s.mem := rfl
@[simp] theorem State.setEg_ptns : (s.setEg n e).ptns = s.ptns := rfl
@[simp] theorem State.setEg_exts : (s.setEg n e).exts = s.exts := rfl
@[simp] theorem State.setEg_freed : (s.setEg n e).freed = s.freed := rfl
@[simp] theorem State.setEg_mbx : (s.setEg n e).mbx = s.mbx := rfl
@[simp] theorem State.setEg_chk : (s.setEg n e).chk = s.chk := rfl
@[simp] theorem State.setEg_cores : (s.setEg n e).cores = s.cores := rfl
@[simp] theorem State.setEg_pcie : (s.setEg n e).pcie = s.pcie := rfl
@[simp] theorem State.setEg_sec : (s.setEg n e).sec = s.sec := rfl
@[simp] theorem State.setEg_nor : (s.setEg n e).nor = s.nor := rfl
@[simp] theorem State.setEg_wear : (s.setEg n e).wear = s.wear := rfl
@[simp] theorem State.setEg_diag : (s.setEg n e).diag = s.diag := rfl
@[simp] theorem State.setEg_prt : (s.setEg n e).prt = s.prt := rfl
@[simp] theorem State.setEg_mtr : (s.setEg n e).mtr = s.mtr := rfl
@[simp] theorem State.setEg_send : (s.setEg n e).send = s.send := rfl
@[simp] theorem State.setEg_lk : (s.setEg n e).lk = s.lk := rfl
@[simp] theorem State.setEg_board : (s.setEg n e).board = s.board := rfl
end setEg

/-! ### onEg -/
section onEg
variable (s : State) (n : Nat) (f : Egress → Egress)
@[simp] theorem State.onEg_now : (s.onEg n f).now = s.now := rfl
@[simp] theorem State.onEg_pending : (s.onEg n f).pending = s.pending := rfl
@[simp] theorem State.onEg_free : (s.onEg n f).free = s.free := rfl
@[simp] theorem State.onEg_regs : (s.onEg n f).regs = s.regs := rfl
@[simp] theorem State.onEg_comp : (s.onEg n f).comp = s.comp := rfl
@[simp] theorem State.onEg_deal : (s.onEg n f).deal = s.deal := rfl
@[simp] theorem State.onEg_fab : (s.onEg n f).fab = s.fab := rfl
@[simp] theorem State.onEg_dir : (s.onEg n f).dir = s.dir := rfl
@[simp] theorem State.onEg_links : (s.onEg n f).links = s.links := rfl
@[simp] theorem State.onEg_rt : (s.onEg n f).rt = s.rt := rfl
@[simp] theorem State.onEg_groupMap : (s.onEg n f).groupMap = s.groupMap := rfl
@[simp] theorem State.onEg_pols : (s.onEg n f).pols = s.pols := rfl
@[simp] theorem State.onEg_arbs : (s.onEg n f).arbs = s.arbs := rfl
@[simp] theorem State.onEg_arbSel : (s.onEg n f).arbSel = s.arbSel := rfl
@[simp] theorem State.onEg_mem : (s.onEg n f).mem = s.mem := rfl
@[simp] theorem State.onEg_ptns : (s.onEg n f).ptns = s.ptns := rfl
@[simp] theorem State.onEg_exts : (s.onEg n f).exts = s.exts := rfl
@[simp] theorem State.onEg_freed : (s.onEg n f).freed = s.freed := rfl
@[simp] theorem State.onEg_mbx : (s.onEg n f).mbx = s.mbx := rfl
@[simp] theorem State.onEg_chk : (s.onEg n f).chk = s.chk := rfl
@[simp] theorem State.onEg_cores : (s.onEg n f).cores = s.cores := rfl
@[simp] theorem State.onEg_pcie : (s.onEg n f).pcie = s.pcie := rfl
@[simp] theorem State.onEg_sec : (s.onEg n f).sec = s.sec := rfl
@[simp] theorem State.onEg_nor : (s.onEg n f).nor = s.nor := rfl
@[simp] theorem State.onEg_wear : (s.onEg n f).wear = s.wear := rfl
@[simp] theorem State.onEg_diag : (s.onEg n f).diag = s.diag := rfl
@[simp] theorem State.onEg_prt : (s.onEg n f).prt = s.prt := rfl
@[simp] theorem State.onEg_mtr : (s.onEg n f).mtr = s.mtr := rfl
@[simp] theorem State.onEg_send : (s.onEg n f).send = s.send := rfl
@[simp] theorem State.onEg_lk : (s.onEg n f).lk = s.lk := rfl
@[simp] theorem State.onEg_board : (s.onEg n f).board = s.board := rfl
end onEg

/-! ### onMem -/
section onMem
variable (s : State) (f : MemSide → MemSide)
@[simp] theorem State.onMem_now : (s.onMem f).now = s.now := rfl
@[simp] theorem State.onMem_pending : (s.onMem f).pending = s.pending := rfl
@[simp] theorem State.onMem_free : (s.onMem f).free = s.free := rfl
@[simp] theorem State.onMem_regs : (s.onMem f).regs = s.regs := rfl
@[simp] theorem State.onMem_comp : (s.onMem f).comp = s.comp := rfl
@[simp] theorem State.onMem_deal : (s.onMem f).deal = s.deal := rfl
@[simp] theorem State.onMem_fab : (s.onMem f).fab = s.fab := rfl
@[simp] theorem State.onMem_dir : (s.onMem f).dir = s.dir := rfl
@[simp] theorem State.onMem_links : (s.onMem f).links = s.links := rfl
@[simp] theorem State.onMem_rt : (s.onMem f).rt = s.rt := rfl
@[simp] theorem State.onMem_egr : (s.onMem f).egr = s.egr := rfl
@[simp] theorem State.onMem_groupMap : (s.onMem f).groupMap = s.groupMap := rfl
@[simp] theorem State.onMem_pols : (s.onMem f).pols = s.pols := rfl
@[simp] theorem State.onMem_arbs : (s.onMem f).arbs = s.arbs := rfl
@[simp] theorem State.onMem_arbSel : (s.onMem f).arbSel = s.arbSel := rfl
@[simp] theorem State.onMem_mem : (s.onMem f).mem = f s.mem := rfl
@[simp] theorem State.onMem_ptns : (s.onMem f).ptns = s.ptns := rfl
@[simp] theorem State.onMem_exts : (s.onMem f).exts = s.exts := rfl
@[simp] theorem State.onMem_freed : (s.onMem f).freed = s.freed := rfl
@[simp] theorem State.onMem_mbx : (s.onMem f).mbx = s.mbx := rfl
@[simp] theorem State.onMem_chk : (s.onMem f).chk = s.chk := rfl
@[simp] theorem State.onMem_cores : (s.onMem f).cores = s.cores := rfl
@[simp] theorem State.onMem_pcie : (s.onMem f).pcie = s.pcie := rfl
@[simp] theorem State.onMem_sec : (s.onMem f).sec = s.sec := rfl
@[simp] theorem State.onMem_nor : (s.onMem f).nor = s.nor := rfl
@[simp] theorem State.onMem_wear : (s.onMem f).wear = s.wear := rfl
@[simp] theorem State.onMem_diag : (s.onMem f).diag = s.diag := rfl
@[simp] theorem State.onMem_prt : (s.onMem f).prt = s.prt := rfl
@[simp] theorem State.onMem_mtr : (s.onMem f).mtr = s.mtr := rfl
@[simp] theorem State.onMem_send : (s.onMem f).send = s.send := rfl
@[simp] theorem State.onMem_lk : (s.onMem f).lk = s.lk := rfl
@[simp] theorem State.onMem_board : (s.onMem f).board = s.board := rfl
end onMem

/-! ### setChan -/
section setChan
variable (s : State) (c : Nat) (x : Channel)
@[simp] theorem State.setChan_now : (s.setChan c x).now = s.now := rfl
@[simp] theorem State.setChan_pending : (s.setChan c x).pending = s.pending := rfl
@[simp] theorem State.setChan_free : (s.setChan c x).free = s.free := rfl
@[simp] theorem State.setChan_regs : (s.setChan c x).regs = s.regs := rfl
@[simp] theorem State.setChan_comp : (s.setChan c x).comp = s.comp := rfl
@[simp] theorem State.setChan_deal : (s.setChan c x).deal = s.deal := rfl
@[simp] theorem State.setChan_fab : (s.setChan c x).fab = s.fab := rfl
@[simp] theorem State.setChan_dir : (s.setChan c x).dir = s.dir := rfl
@[simp] theorem State.setChan_links : (s.setChan c x).links = s.links := rfl
@[simp] theorem State.setChan_rt : (s.setChan c x).rt = s.rt := rfl
@[simp] theorem State.setChan_egr : (s.setChan c x).egr = s.egr := rfl
@[simp] theorem State.setChan_groupMap : (s.setChan c x).groupMap = s.groupMap := rfl
@[simp] theorem State.setChan_pols : (s.setChan c x).pols = s.pols := rfl
@[simp] theorem State.setChan_arbs : (s.setChan c x).arbs = s.arbs := rfl
@[simp] theorem State.setChan_arbSel : (s.setChan c x).arbSel = s.arbSel := rfl
@[simp] theorem State.setChan_ptns : (s.setChan c x).ptns = s.ptns := rfl
@[simp] theorem State.setChan_exts : (s.setChan c x).exts = s.exts := rfl
@[simp] theorem State.setChan_freed : (s.setChan c x).freed = s.freed := rfl
@[simp] theorem State.setChan_mbx : (s.setChan c x).mbx = s.mbx := rfl
@[simp] theorem State.setChan_chk : (s.setChan c x).chk = s.chk := rfl
@[simp] theorem State.setChan_cores : (s.setChan c x).cores = s.cores := rfl
@[simp] theorem State.setChan_pcie : (s.setChan c x).pcie = s.pcie := rfl
@[simp] theorem State.setChan_sec : (s.setChan c x).sec = s.sec := rfl
@[simp] theorem State.setChan_nor : (s.setChan c x).nor = s.nor := rfl
@[simp] theorem State.setChan_wear : (s.setChan c x).wear = s.wear := rfl
@[simp] theorem State.setChan_diag : (s.setChan c x).diag = s.diag := rfl
@[simp] theorem State.setChan_prt : (s.setChan c x).prt = s.prt := rfl
@[simp] theorem State.setChan_mtr : (s.setChan c x).mtr = s.mtr := rfl
@[simp] theorem State.setChan_send : (s.setChan c x).send = s.send := rfl
@[simp] theorem State.setChan_lk : (s.setChan c x).lk = s.lk := rfl
@[simp] theorem State.setChan_board : (s.setChan c x).board = s.board := rfl
end setChan

/-! ### onChan -/
section onChan
variable (s : State) (c : Nat) (f : Channel → Channel)
@[simp] theorem State.onChan_now : (s.onChan c f).now = s.now := rfl
@[simp] theorem State.onChan_pending : (s.onChan c f).pending = s.pending := rfl
@[simp] theorem State.onChan_free : (s.onChan c f).free = s.free := rfl
@[simp] theorem State.onChan_regs : (s.onChan c f).regs = s.regs := rfl
@[simp] theorem State.onChan_comp : (s.onChan c f).comp = s.comp := rfl
@[simp] theorem State.onChan_deal : (s.onChan c f).deal = s.deal := rfl
@[simp] theorem State.onChan_fab : (s.onChan c f).fab = s.fab := rfl
@[simp] theorem State.onChan_dir : (s.onChan c f).dir = s.dir := rfl
@[simp] theorem State.onChan_links : (s.onChan c f).links = s.links := rfl
@[simp] theorem State.onChan_rt : (s.onChan c f).rt = s.rt := rfl
@[simp] theorem State.onChan_egr : (s.onChan c f).egr = s.egr := rfl
@[simp] theorem State.onChan_groupMap : (s.onChan c f).groupMap = s.groupMap := rfl
@[simp] theorem State.onChan_pols : (s.onChan c f).pols = s.pols := rfl
@[simp] theorem State.onChan_arbs : (s.onChan c f).arbs = s.arbs := rfl
@[simp] theorem State.onChan_arbSel : (s.onChan c f).arbSel = s.arbSel := rfl
@[simp] theorem State.onChan_ptns : (s.onChan c f).ptns = s.ptns := rfl
@[simp] theorem State.onChan_exts : (s.onChan c f).exts = s.exts := rfl
@[simp] theorem State.onChan_freed : (s.onChan c f).freed = s.freed := rfl
@[simp] theorem State.onChan_mbx : (s.onChan c f).mbx = s.mbx := rfl
@[simp] theorem State.onChan_chk : (s.onChan c f).chk = s.chk := rfl
@[simp] theorem State.onChan_cores : (s.onChan c f).cores = s.cores := rfl
@[simp] theorem State.onChan_pcie : (s.onChan c f).pcie = s.pcie := rfl
@[simp] theorem State.onChan_sec : (s.onChan c f).sec = s.sec := rfl
@[simp] theorem State.onChan_nor : (s.onChan c f).nor = s.nor := rfl
@[simp] theorem State.onChan_wear : (s.onChan c f).wear = s.wear := rfl
@[simp] theorem State.onChan_diag : (s.onChan c f).diag = s.diag := rfl
@[simp] theorem State.onChan_prt : (s.onChan c f).prt = s.prt := rfl
@[simp] theorem State.onChan_mtr : (s.onChan c f).mtr = s.mtr := rfl
@[simp] theorem State.onChan_send : (s.onChan c f).send = s.send := rfl
@[simp] theorem State.onChan_lk : (s.onChan c f).lk = s.lk := rfl
@[simp] theorem State.onChan_board : (s.onChan c f).board = s.board := rfl
end onChan

/-! ### onStack -/
section onStack
variable (s : State) (k : Nat) (f : Stack → Stack)
@[simp] theorem State.onStack_now : (s.onStack k f).now = s.now := rfl
@[simp] theorem State.onStack_pending : (s.onStack k f).pending = s.pending := rfl
@[simp] theorem State.onStack_free : (s.onStack k f).free = s.free := rfl
@[simp] theorem State.onStack_regs : (s.onStack k f).regs = s.regs := rfl
@[simp] theorem State.onStack_comp : (s.onStack k f).comp = s.comp := rfl
@[simp] theorem State.onStack_deal : (s.onStack k f).deal = s.deal := rfl
@[simp] theorem State.onStack_fab : (s.onStack k f).fab = s.fab := rfl
@[simp] theorem State.onStack_dir : (s.onStack k f).dir = s.dir := rfl
@[simp] theorem State.onStack_links : (s.onStack k f).links = s.links := rfl
@[simp] theorem State.onStack_rt : (s.onStack k f).rt = s.rt := rfl
@[simp] theorem State.onStack_egr : (s.onStack k f).egr = s.egr := rfl
@[simp] theorem State.onStack_groupMap : (s.onStack k f).groupMap = s.groupMap := rfl
@[simp] theorem State.onStack_pols : (s.onStack k f).pols = s.pols := rfl
@[simp] theorem State.onStack_arbs : (s.onStack k f).arbs = s.arbs := rfl
@[simp] theorem State.onStack_arbSel : (s.onStack k f).arbSel = s.arbSel := rfl
@[simp] theorem State.onStack_ptns : (s.onStack k f).ptns = s.ptns := rfl
@[simp] theorem State.onStack_exts : (s.onStack k f).exts = s.exts := rfl
@[simp] theorem State.onStack_freed : (s.onStack k f).freed = s.freed := rfl
@[simp] theorem State.onStack_mbx : (s.onStack k f).mbx = s.mbx := rfl
@[simp] theorem State.onStack_chk : (s.onStack k f).chk = s.chk := rfl
@[simp] theorem State.onStack_cores : (s.onStack k f).cores = s.cores := rfl
@[simp] theorem State.onStack_pcie : (s.onStack k f).pcie = s.pcie := rfl
@[simp] theorem State.onStack_sec : (s.onStack k f).sec = s.sec := rfl
@[simp] theorem State.onStack_nor : (s.onStack k f).nor = s.nor := rfl
@[simp] theorem State.onStack_wear : (s.onStack k f).wear = s.wear := rfl
@[simp] theorem State.onStack_diag : (s.onStack k f).diag = s.diag := rfl
@[simp] theorem State.onStack_prt : (s.onStack k f).prt = s.prt := rfl
@[simp] theorem State.onStack_mtr : (s.onStack k f).mtr = s.mtr := rfl
@[simp] theorem State.onStack_send : (s.onStack k f).send = s.send := rfl
@[simp] theorem State.onStack_lk : (s.onStack k f).lk = s.lk := rfl
@[simp] theorem State.onStack_board : (s.onStack k f).board = s.board := rfl
end onStack

/-! ### onFch -/
section onFch
variable (s : State) (c : Nat) (f : FlashCh → FlashCh)
@[simp] theorem State.onFch_now : (s.onFch c f).now = s.now := rfl
@[simp] theorem State.onFch_pending : (s.onFch c f).pending = s.pending := rfl
@[simp] theorem State.onFch_free : (s.onFch c f).free = s.free := rfl
@[simp] theorem State.onFch_regs : (s.onFch c f).regs = s.regs := rfl
@[simp] theorem State.onFch_comp : (s.onFch c f).comp = s.comp := rfl
@[simp] theorem State.onFch_deal : (s.onFch c f).deal = s.deal := rfl
@[simp] theorem State.onFch_fab : (s.onFch c f).fab = s.fab := rfl
@[simp] theorem State.onFch_dir : (s.onFch c f).dir = s.dir := rfl
@[simp] theorem State.onFch_links : (s.onFch c f).links = s.links := rfl
@[simp] theorem State.onFch_rt : (s.onFch c f).rt = s.rt := rfl
@[simp] theorem State.onFch_egr : (s.onFch c f).egr = s.egr := rfl
@[simp] theorem State.onFch_groupMap : (s.onFch c f).groupMap = s.groupMap := rfl
@[simp] theorem State.onFch_pols : (s.onFch c f).pols = s.pols := rfl
@[simp] theorem State.onFch_arbs : (s.onFch c f).arbs = s.arbs := rfl
@[simp] theorem State.onFch_arbSel : (s.onFch c f).arbSel = s.arbSel := rfl
@[simp] theorem State.onFch_ptns : (s.onFch c f).ptns = s.ptns := rfl
@[simp] theorem State.onFch_exts : (s.onFch c f).exts = s.exts := rfl
@[simp] theorem State.onFch_freed : (s.onFch c f).freed = s.freed := rfl
@[simp] theorem State.onFch_mbx : (s.onFch c f).mbx = s.mbx := rfl
@[simp] theorem State.onFch_chk : (s.onFch c f).chk = s.chk := rfl
@[simp] theorem State.onFch_cores : (s.onFch c f).cores = s.cores := rfl
@[simp] theorem State.onFch_pcie : (s.onFch c f).pcie = s.pcie := rfl
@[simp] theorem State.onFch_sec : (s.onFch c f).sec = s.sec := rfl
@[simp] theorem State.onFch_nor : (s.onFch c f).nor = s.nor := rfl
@[simp] theorem State.onFch_wear : (s.onFch c f).wear = s.wear := rfl
@[simp] theorem State.onFch_diag : (s.onFch c f).diag = s.diag := rfl
@[simp] theorem State.onFch_prt : (s.onFch c f).prt = s.prt := rfl
@[simp] theorem State.onFch_mtr : (s.onFch c f).mtr = s.mtr := rfl
@[simp] theorem State.onFch_send : (s.onFch c f).send = s.send := rfl
@[simp] theorem State.onFch_lk : (s.onFch c f).lk = s.lk := rfl
@[simp] theorem State.onFch_board : (s.onFch c f).board = s.board := rfl
end onFch

/-! ### onFdie -/
section onFdie
variable (s : State) (d : Nat) (f : FlashDie → FlashDie)
@[simp] theorem State.onFdie_now : (s.onFdie d f).now = s.now := rfl
@[simp] theorem State.onFdie_pending : (s.onFdie d f).pending = s.pending := rfl
@[simp] theorem State.onFdie_free : (s.onFdie d f).free = s.free := rfl
@[simp] theorem State.onFdie_regs : (s.onFdie d f).regs = s.regs := rfl
@[simp] theorem State.onFdie_comp : (s.onFdie d f).comp = s.comp := rfl
@[simp] theorem State.onFdie_deal : (s.onFdie d f).deal = s.deal := rfl
@[simp] theorem State.onFdie_fab : (s.onFdie d f).fab = s.fab := rfl
@[simp] theorem State.onFdie_dir : (s.onFdie d f).dir = s.dir := rfl
@[simp] theorem State.onFdie_links : (s.onFdie d f).links = s.links := rfl
@[simp] theorem State.onFdie_rt : (s.onFdie d f).rt = s.rt := rfl
@[simp] theorem State.onFdie_egr : (s.onFdie d f).egr = s.egr := rfl
@[simp] theorem State.onFdie_groupMap : (s.onFdie d f).groupMap = s.groupMap := rfl
@[simp] theorem State.onFdie_pols : (s.onFdie d f).pols = s.pols := rfl
@[simp] theorem State.onFdie_arbs : (s.onFdie d f).arbs = s.arbs := rfl
@[simp] theorem State.onFdie_arbSel : (s.onFdie d f).arbSel = s.arbSel := rfl
@[simp] theorem State.onFdie_ptns : (s.onFdie d f).ptns = s.ptns := rfl
@[simp] theorem State.onFdie_exts : (s.onFdie d f).exts = s.exts := rfl
@[simp] theorem State.onFdie_freed : (s.onFdie d f).freed = s.freed := rfl
@[simp] theorem State.onFdie_mbx : (s.onFdie d f).mbx = s.mbx := rfl
@[simp] theorem State.onFdie_chk : (s.onFdie d f).chk = s.chk := rfl
@[simp] theorem State.onFdie_cores : (s.onFdie d f).cores = s.cores := rfl
@[simp] theorem State.onFdie_pcie : (s.onFdie d f).pcie = s.pcie := rfl
@[simp] theorem State.onFdie_sec : (s.onFdie d f).sec = s.sec := rfl
@[simp] theorem State.onFdie_nor : (s.onFdie d f).nor = s.nor := rfl
@[simp] theorem State.onFdie_wear : (s.onFdie d f).wear = s.wear := rfl
@[simp] theorem State.onFdie_diag : (s.onFdie d f).diag = s.diag := rfl
@[simp] theorem State.onFdie_prt : (s.onFdie d f).prt = s.prt := rfl
@[simp] theorem State.onFdie_mtr : (s.onFdie d f).mtr = s.mtr := rfl
@[simp] theorem State.onFdie_send : (s.onFdie d f).send = s.send := rfl
@[simp] theorem State.onFdie_lk : (s.onFdie d f).lk = s.lk := rfl
@[simp] theorem State.onFdie_board : (s.onFdie d f).board = s.board := rfl
end onFdie

/-! ### setPage -/
section setPage
variable (s : State) (k : Nat) (p : PageRec)
@[simp] theorem State.setPage_now : (s.setPage k p).now = s.now := rfl
@[simp] theorem State.setPage_pending : (s.setPage k p).pending = s.pending := rfl
@[simp] theorem State.setPage_free : (s.setPage k p).free = s.free := rfl
@[simp] theorem State.setPage_regs : (s.setPage k p).regs = s.regs := rfl
@[simp] theorem State.setPage_comp : (s.setPage k p).comp = s.comp := rfl
@[simp] theorem State.setPage_deal : (s.setPage k p).deal = s.deal := rfl
@[simp] theorem State.setPage_fab : (s.setPage k p).fab = s.fab := rfl
@[simp] theorem State.setPage_dir : (s.setPage k p).dir = s.dir := rfl
@[simp] theorem State.setPage_links : (s.setPage k p).links = s.links := rfl
@[simp] theorem State.setPage_rt : (s.setPage k p).rt = s.rt := rfl
@[simp] theorem State.setPage_egr : (s.setPage k p).egr = s.egr := rfl
@[simp] theorem State.setPage_groupMap : (s.setPage k p).groupMap = s.groupMap := rfl
@[simp] theorem State.setPage_pols : (s.setPage k p).pols = s.pols := rfl
@[simp] theorem State.setPage_arbs : (s.setPage k p).arbs = s.arbs := rfl
@[simp] theorem State.setPage_arbSel : (s.setPage k p).arbSel = s.arbSel := rfl
@[simp] theorem State.setPage_ptns : (s.setPage k p).ptns = s.ptns := rfl
@[simp] theorem State.setPage_exts : (s.setPage k p).exts = s.exts := rfl
@[simp] theorem State.setPage_freed : (s.setPage k p).freed = s.freed := rfl
@[simp] theorem State.setPage_mbx : (s.setPage k p).mbx = s.mbx := rfl
@[simp] theorem State.setPage_chk : (s.setPage k p).chk = s.chk := rfl
@[simp] theorem State.setPage_cores : (s.setPage k p).cores = s.cores := rfl
@[simp] theorem State.setPage_pcie : (s.setPage k p).pcie = s.pcie := rfl
@[simp] theorem State.setPage_sec : (s.setPage k p).sec = s.sec := rfl
@[simp] theorem State.setPage_nor : (s.setPage k p).nor = s.nor := rfl
@[simp] theorem State.setPage_wear : (s.setPage k p).wear = s.wear := rfl
@[simp] theorem State.setPage_diag : (s.setPage k p).diag = s.diag := rfl
@[simp] theorem State.setPage_prt : (s.setPage k p).prt = s.prt := rfl
@[simp] theorem State.setPage_mtr : (s.setPage k p).mtr = s.mtr := rfl
@[simp] theorem State.setPage_send : (s.setPage k p).send = s.send := rfl
@[simp] theorem State.setPage_lk : (s.setPage k p).lk = s.lk := rfl
@[simp] theorem State.setPage_board : (s.setPage k p).board = s.board := rfl
end setPage

/-! ### onPage -/
section onPage
variable (s : State) (k : Nat) (f : PageRec → PageRec)
@[simp] theorem State.onPage_now : (s.onPage k f).now = s.now := rfl
@[simp] theorem State.onPage_pending : (s.onPage k f).pending = s.pending := rfl
@[simp] theorem State.onPage_free : (s.onPage k f).free = s.free := rfl
@[simp] theorem State.onPage_regs : (s.onPage k f).regs = s.regs := rfl
@[simp] theorem State.onPage_comp : (s.onPage k f).comp = s.comp := rfl
@[simp] theorem State.onPage_deal : (s.onPage k f).deal = s.deal := rfl
@[simp] theorem State.onPage_fab : (s.onPage k f).fab = s.fab := rfl
@[simp] theorem State.onPage_dir : (s.onPage k f).dir = s.dir := rfl
@[simp] theorem State.onPage_links : (s.onPage k f).links = s.links := rfl
@[simp] theorem State.onPage_rt : (s.onPage k f).rt = s.rt := rfl
@[simp] theorem State.onPage_egr : (s.onPage k f).egr = s.egr := rfl
@[simp] theorem State.onPage_groupMap : (s.onPage k f).groupMap = s.groupMap := rfl
@[simp] theorem State.onPage_pols : (s.onPage k f).pols = s.pols := rfl
@[simp] theorem State.onPage_arbs : (s.onPage k f).arbs = s.arbs := rfl
@[simp] theorem State.onPage_arbSel : (s.onPage k f).arbSel = s.arbSel := rfl
@[simp] theorem State.onPage_ptns : (s.onPage k f).ptns = s.ptns := rfl
@[simp] theorem State.onPage_exts : (s.onPage k f).exts = s.exts := rfl
@[simp] theorem State.onPage_freed : (s.onPage k f).freed = s.freed := rfl
@[simp] theorem State.onPage_mbx : (s.onPage k f).mbx = s.mbx := rfl
@[simp] theorem State.onPage_chk : (s.onPage k f).chk = s.chk := rfl
@[simp] theorem State.onPage_cores : (s.onPage k f).cores = s.cores := rfl
@[simp] theorem State.onPage_pcie : (s.onPage k f).pcie = s.pcie := rfl
@[simp] theorem State.onPage_sec : (s.onPage k f).sec = s.sec := rfl
@[simp] theorem State.onPage_nor : (s.onPage k f).nor = s.nor := rfl
@[simp] theorem State.onPage_wear : (s.onPage k f).wear = s.wear := rfl
@[simp] theorem State.onPage_diag : (s.onPage k f).diag = s.diag := rfl
@[simp] theorem State.onPage_prt : (s.onPage k f).prt = s.prt := rfl
@[simp] theorem State.onPage_mtr : (s.onPage k f).mtr = s.mtr := rfl
@[simp] theorem State.onPage_send : (s.onPage k f).send = s.send := rfl
@[simp] theorem State.onPage_lk : (s.onPage k f).lk = s.lk := rfl
@[simp] theorem State.onPage_board : (s.onPage k f).board = s.board := rfl
end onPage

/-! ### onPtn -/
section onPtn
variable (s : State) (q : Nat) (f : PtnRec → PtnRec)
@[simp] theorem State.onPtn_now : (s.onPtn q f).now = s.now := rfl
@[simp] theorem State.onPtn_pending : (s.onPtn q f).pending = s.pending := rfl
@[simp] theorem State.onPtn_free : (s.onPtn q f).free = s.free := rfl
@[simp] theorem State.onPtn_regs : (s.onPtn q f).regs = s.regs := rfl
@[simp] theorem State.onPtn_comp : (s.onPtn q f).comp = s.comp := rfl
@[simp] theorem State.onPtn_deal : (s.onPtn q f).deal = s.deal := rfl
@[simp] theorem State.onPtn_fab : (s.onPtn q f).fab = s.fab := rfl
@[simp] theorem State.onPtn_dir : (s.onPtn q f).dir = s.dir := rfl
@[simp] theorem State.onPtn_links : (s.onPtn q f).links = s.links := rfl
@[simp] theorem State.onPtn_rt : (s.onPtn q f).rt = s.rt := rfl
@[simp] theorem State.onPtn_egr : (s.onPtn q f).egr = s.egr := rfl
@[simp] theorem State.onPtn_groupMap : (s.onPtn q f).groupMap = s.groupMap := rfl
@[simp] theorem State.onPtn_pols : (s.onPtn q f).pols = s.pols := rfl
@[simp] theorem State.onPtn_arbs : (s.onPtn q f).arbs = s.arbs := rfl
@[simp] theorem State.onPtn_arbSel : (s.onPtn q f).arbSel = s.arbSel := rfl
@[simp] theorem State.onPtn_mem : (s.onPtn q f).mem = s.mem := rfl
@[simp] theorem State.onPtn_exts : (s.onPtn q f).exts = s.exts := rfl
@[simp] theorem State.onPtn_freed : (s.onPtn q f).freed = s.freed := rfl
@[simp] theorem State.onPtn_mbx : (s.onPtn q f).mbx = s.mbx := rfl
@[simp] theorem State.onPtn_chk : (s.onPtn q f).chk = s.chk := rfl
@[simp] theorem State.onPtn_cores : (s.onPtn q f).cores = s.cores := rfl
@[simp] theorem State.onPtn_pcie : (s.onPtn q f).pcie = s.pcie := rfl
@[simp] theorem State.onPtn_sec : (s.onPtn q f).sec = s.sec := rfl
@[simp] theorem State.onPtn_nor : (s.onPtn q f).nor = s.nor := rfl
@[simp] theorem State.onPtn_wear : (s.onPtn q f).wear = s.wear := rfl
@[simp] theorem State.onPtn_diag : (s.onPtn q f).diag = s.diag := rfl
@[simp] theorem State.onPtn_prt : (s.onPtn q f).prt = s.prt := rfl
@[simp] theorem State.onPtn_mtr : (s.onPtn q f).mtr = s.mtr := rfl
@[simp] theorem State.onPtn_send : (s.onPtn q f).send = s.send := rfl
@[simp] theorem State.onPtn_lk : (s.onPtn q f).lk = s.lk := rfl
@[simp] theorem State.onPtn_board : (s.onPtn q f).board = s.board := rfl
end onPtn

/-! ### onExt -/
section onExt
variable (s : State) (h : Nat) (f : ExtRec → ExtRec)
@[simp] theorem State.onExt_now : (s.onExt h f).now = s.now := rfl
@[simp] theorem State.onExt_pending : (s.onExt h f).pending = s.pending := rfl
@[simp] theorem State.onExt_free : (s.onExt h f).free = s.free := rfl
@[simp] theorem State.onExt_regs : (s.onExt h f).regs = s.regs := rfl
@[simp] theorem State.onExt_comp : (s.onExt h f).comp = s.comp := rfl
@[simp] theorem State.onExt_deal : (s.onExt h f).deal = s.deal := rfl
@[simp] theorem State.onExt_fab : (s.onExt h f).fab = s.fab := rfl
@[simp] theorem State.onExt_dir : (s.onExt h f).dir = s.dir := rfl
@[simp] theorem State.onExt_links : (s.onExt h f).links = s.links := rfl
@[simp] theorem State.onExt_rt : (s.onExt h f).rt = s.rt := rfl
@[simp] theorem State.onExt_egr : (s.onExt h f).egr = s.egr := rfl
@[simp] theorem State.onExt_groupMap : (s.onExt h f).groupMap = s.groupMap := rfl
@[simp] theorem State.onExt_pols : (s.onExt h f).pols = s.pols := rfl
@[simp] theorem State.onExt_arbs : (s.onExt h f).arbs = s.arbs := rfl
@[simp] theorem State.onExt_arbSel : (s.onExt h f).arbSel = s.arbSel := rfl
@[simp] theorem State.onExt_mem : (s.onExt h f).mem = s.mem := rfl
@[simp] theorem State.onExt_ptns : (s.onExt h f).ptns = s.ptns := rfl
@[simp] theorem State.onExt_freed : (s.onExt h f).freed = s.freed := rfl
@[simp] theorem State.onExt_mbx : (s.onExt h f).mbx = s.mbx := rfl
@[simp] theorem State.onExt_chk : (s.onExt h f).chk = s.chk := rfl
@[simp] theorem State.onExt_cores : (s.onExt h f).cores = s.cores := rfl
@[simp] theorem State.onExt_pcie : (s.onExt h f).pcie = s.pcie := rfl
@[simp] theorem State.onExt_sec : (s.onExt h f).sec = s.sec := rfl
@[simp] theorem State.onExt_nor : (s.onExt h f).nor = s.nor := rfl
@[simp] theorem State.onExt_wear : (s.onExt h f).wear = s.wear := rfl
@[simp] theorem State.onExt_diag : (s.onExt h f).diag = s.diag := rfl
@[simp] theorem State.onExt_prt : (s.onExt h f).prt = s.prt := rfl
@[simp] theorem State.onExt_mtr : (s.onExt h f).mtr = s.mtr := rfl
@[simp] theorem State.onExt_send : (s.onExt h f).send = s.send := rfl
@[simp] theorem State.onExt_lk : (s.onExt h f).lk = s.lk := rfl
@[simp] theorem State.onExt_board : (s.onExt h f).board = s.board := rfl
end onExt

/-! ### onBox -/
section onBox
variable (s : State) (m : Nat) (f : Mailbox → Mailbox)
@[simp] theorem State.onBox_now : (s.onBox m f).now = s.now := rfl
@[simp] theorem State.onBox_pending : (s.onBox m f).pending = s.pending := rfl
@[simp] theorem State.onBox_free : (s.onBox m f).free = s.free := rfl
@[simp] theorem State.onBox_regs : (s.onBox m f).regs = s.regs := rfl
@[simp] theorem State.onBox_comp : (s.onBox m f).comp = s.comp := rfl
@[simp] theorem State.onBox_deal : (s.onBox m f).deal = s.deal := rfl
@[simp] theorem State.onBox_fab : (s.onBox m f).fab = s.fab := rfl
@[simp] theorem State.onBox_dir : (s.onBox m f).dir = s.dir := rfl
@[simp] theorem State.onBox_links : (s.onBox m f).links = s.links := rfl
@[simp] theorem State.onBox_rt : (s.onBox m f).rt = s.rt := rfl
@[simp] theorem State.onBox_egr : (s.onBox m f).egr = s.egr := rfl
@[simp] theorem State.onBox_groupMap : (s.onBox m f).groupMap = s.groupMap := rfl
@[simp] theorem State.onBox_pols : (s.onBox m f).pols = s.pols := rfl
@[simp] theorem State.onBox_arbs : (s.onBox m f).arbs = s.arbs := rfl
@[simp] theorem State.onBox_arbSel : (s.onBox m f).arbSel = s.arbSel := rfl
@[simp] theorem State.onBox_mem : (s.onBox m f).mem = s.mem := rfl
@[simp] theorem State.onBox_ptns : (s.onBox m f).ptns = s.ptns := rfl
@[simp] theorem State.onBox_exts : (s.onBox m f).exts = s.exts := rfl
@[simp] theorem State.onBox_freed : (s.onBox m f).freed = s.freed := rfl
@[simp] theorem State.onBox_chk : (s.onBox m f).chk = s.chk := rfl
@[simp] theorem State.onBox_cores : (s.onBox m f).cores = s.cores := rfl
@[simp] theorem State.onBox_pcie : (s.onBox m f).pcie = s.pcie := rfl
@[simp] theorem State.onBox_sec : (s.onBox m f).sec = s.sec := rfl
@[simp] theorem State.onBox_nor : (s.onBox m f).nor = s.nor := rfl
@[simp] theorem State.onBox_wear : (s.onBox m f).wear = s.wear := rfl
@[simp] theorem State.onBox_diag : (s.onBox m f).diag = s.diag := rfl
@[simp] theorem State.onBox_prt : (s.onBox m f).prt = s.prt := rfl
@[simp] theorem State.onBox_mtr : (s.onBox m f).mtr = s.mtr := rfl
@[simp] theorem State.onBox_send : (s.onBox m f).send = s.send := rfl
@[simp] theorem State.onBox_lk : (s.onBox m f).lk = s.lk := rfl
@[simp] theorem State.onBox_board : (s.onBox m f).board = s.board := rfl
end onBox

/-! ### onClu -/
section onClu
variable (s : State) (g : Nat) (f : Cluster → Cluster)
@[simp] theorem State.onClu_now : (s.onClu g f).now = s.now := rfl
@[simp] theorem State.onClu_pending : (s.onClu g f).pending = s.pending := rfl
@[simp] theorem State.onClu_free : (s.onClu g f).free = s.free := rfl
@[simp] theorem State.onClu_regs : (s.onClu g f).regs = s.regs := rfl
@[simp] theorem State.onClu_deal : (s.onClu g f).deal = s.deal := rfl
@[simp] theorem State.onClu_fab : (s.onClu g f).fab = s.fab := rfl
@[simp] theorem State.onClu_dir : (s.onClu g f).dir = s.dir := rfl
@[simp] theorem State.onClu_links : (s.onClu g f).links = s.links := rfl
@[simp] theorem State.onClu_rt : (s.onClu g f).rt = s.rt := rfl
@[simp] theorem State.onClu_egr : (s.onClu g f).egr = s.egr := rfl
@[simp] theorem State.onClu_groupMap : (s.onClu g f).groupMap = s.groupMap := rfl
@[simp] theorem State.onClu_pols : (s.onClu g f).pols = s.pols := rfl
@[simp] theorem State.onClu_arbs : (s.onClu g f).arbs = s.arbs := rfl
@[simp] theorem State.onClu_arbSel : (s.onClu g f).arbSel = s.arbSel := rfl
@[simp] theorem State.onClu_mem : (s.onClu g f).mem = s.mem := rfl
@[simp] theorem State.onClu_ptns : (s.onClu g f).ptns = s.ptns := rfl
@[simp] theorem State.onClu_exts : (s.onClu g f).exts = s.exts := rfl
@[simp] theorem State.onClu_freed : (s.onClu g f).freed = s.freed := rfl
@[simp] theorem State.onClu_mbx : (s.onClu g f).mbx = s.mbx := rfl
@[simp] theorem State.onClu_chk : (s.onClu g f).chk = s.chk := rfl
@[simp] theorem State.onClu_cores : (s.onClu g f).cores = s.cores := rfl
@[simp] theorem State.onClu_pcie : (s.onClu g f).pcie = s.pcie := rfl
@[simp] theorem State.onClu_sec : (s.onClu g f).sec = s.sec := rfl
@[simp] theorem State.onClu_nor : (s.onClu g f).nor = s.nor := rfl
@[simp] theorem State.onClu_wear : (s.onClu g f).wear = s.wear := rfl
@[simp] theorem State.onClu_diag : (s.onClu g f).diag = s.diag := rfl
@[simp] theorem State.onClu_prt : (s.onClu g f).prt = s.prt := rfl
@[simp] theorem State.onClu_mtr : (s.onClu g f).mtr = s.mtr := rfl
@[simp] theorem State.onClu_send : (s.onClu g f).send = s.send := rfl
@[simp] theorem State.onClu_lk : (s.onClu g f).lk = s.lk := rfl
@[simp] theorem State.onClu_board : (s.onClu g f).board = s.board := rfl
end onClu

/-! ### onTile -/
section onTile
variable (s : State) (k : Nat) (f : Tile → Tile)
@[simp] theorem State.onTile_now : (s.onTile k f).now = s.now := rfl
@[simp] theorem State.onTile_pending : (s.onTile k f).pending = s.pending := rfl
@[simp] theorem State.onTile_free : (s.onTile k f).free = s.free := rfl
@[simp] theorem State.onTile_regs : (s.onTile k f).regs = s.regs := rfl
@[simp] theorem State.onTile_deal : (s.onTile k f).deal = s.deal := rfl
@[simp] theorem State.onTile_fab : (s.onTile k f).fab = s.fab := rfl
@[simp] theorem State.onTile_dir : (s.onTile k f).dir = s.dir := rfl
@[simp] theorem State.onTile_links : (s.onTile k f).links = s.links := rfl
@[simp] theorem State.onTile_rt : (s.onTile k f).rt = s.rt := rfl
@[simp] theorem State.onTile_egr : (s.onTile k f).egr = s.egr := rfl
@[simp] theorem State.onTile_groupMap : (s.onTile k f).groupMap = s.groupMap := rfl
@[simp] theorem State.onTile_pols : (s.onTile k f).pols = s.pols := rfl
@[simp] theorem State.onTile_arbs : (s.onTile k f).arbs = s.arbs := rfl
@[simp] theorem State.onTile_arbSel : (s.onTile k f).arbSel = s.arbSel := rfl
@[simp] theorem State.onTile_mem : (s.onTile k f).mem = s.mem := rfl
@[simp] theorem State.onTile_ptns : (s.onTile k f).ptns = s.ptns := rfl
@[simp] theorem State.onTile_exts : (s.onTile k f).exts = s.exts := rfl
@[simp] theorem State.onTile_freed : (s.onTile k f).freed = s.freed := rfl
@[simp] theorem State.onTile_mbx : (s.onTile k f).mbx = s.mbx := rfl
@[simp] theorem State.onTile_chk : (s.onTile k f).chk = s.chk := rfl
@[simp] theorem State.onTile_cores : (s.onTile k f).cores = s.cores := rfl
@[simp] theorem State.onTile_pcie : (s.onTile k f).pcie = s.pcie := rfl
@[simp] theorem State.onTile_sec : (s.onTile k f).sec = s.sec := rfl
@[simp] theorem State.onTile_nor : (s.onTile k f).nor = s.nor := rfl
@[simp] theorem State.onTile_wear : (s.onTile k f).wear = s.wear := rfl
@[simp] theorem State.onTile_diag : (s.onTile k f).diag = s.diag := rfl
@[simp] theorem State.onTile_prt : (s.onTile k f).prt = s.prt := rfl
@[simp] theorem State.onTile_mtr : (s.onTile k f).mtr = s.mtr := rfl
@[simp] theorem State.onTile_send : (s.onTile k f).send = s.send := rfl
@[simp] theorem State.onTile_lk : (s.onTile k f).lk = s.lk := rfl
@[simp] theorem State.onTile_board : (s.onTile k f).board = s.board := rfl
end onTile

/-! ### onChk -/
section onChk
variable (s : State) (i : Nat) (f : Checker → Checker)
@[simp] theorem State.onChk_now : (s.onChk i f).now = s.now := rfl
@[simp] theorem State.onChk_pending : (s.onChk i f).pending = s.pending := rfl
@[simp] theorem State.onChk_free : (s.onChk i f).free = s.free := rfl
@[simp] theorem State.onChk_regs : (s.onChk i f).regs = s.regs := rfl
@[simp] theorem State.onChk_comp : (s.onChk i f).comp = s.comp := rfl
@[simp] theorem State.onChk_deal : (s.onChk i f).deal = s.deal := rfl
@[simp] theorem State.onChk_fab : (s.onChk i f).fab = s.fab := rfl
@[simp] theorem State.onChk_dir : (s.onChk i f).dir = s.dir := rfl
@[simp] theorem State.onChk_links : (s.onChk i f).links = s.links := rfl
@[simp] theorem State.onChk_rt : (s.onChk i f).rt = s.rt := rfl
@[simp] theorem State.onChk_egr : (s.onChk i f).egr = s.egr := rfl
@[simp] theorem State.onChk_groupMap : (s.onChk i f).groupMap = s.groupMap := rfl
@[simp] theorem State.onChk_pols : (s.onChk i f).pols = s.pols := rfl
@[simp] theorem State.onChk_arbs : (s.onChk i f).arbs = s.arbs := rfl
@[simp] theorem State.onChk_arbSel : (s.onChk i f).arbSel = s.arbSel := rfl
@[simp] theorem State.onChk_mem : (s.onChk i f).mem = s.mem := rfl
@[simp] theorem State.onChk_ptns : (s.onChk i f).ptns = s.ptns := rfl
@[simp] theorem State.onChk_exts : (s.onChk i f).exts = s.exts := rfl
@[simp] theorem State.onChk_freed : (s.onChk i f).freed = s.freed := rfl
@[simp] theorem State.onChk_mbx : (s.onChk i f).mbx = s.mbx := rfl
@[simp] theorem State.onChk_cores : (s.onChk i f).cores = s.cores := rfl
@[simp] theorem State.onChk_pcie : (s.onChk i f).pcie = s.pcie := rfl
@[simp] theorem State.onChk_sec : (s.onChk i f).sec = s.sec := rfl
@[simp] theorem State.onChk_nor : (s.onChk i f).nor = s.nor := rfl
@[simp] theorem State.onChk_wear : (s.onChk i f).wear = s.wear := rfl
@[simp] theorem State.onChk_diag : (s.onChk i f).diag = s.diag := rfl
@[simp] theorem State.onChk_prt : (s.onChk i f).prt = s.prt := rfl
@[simp] theorem State.onChk_mtr : (s.onChk i f).mtr = s.mtr := rfl
@[simp] theorem State.onChk_send : (s.onChk i f).send = s.send := rfl
@[simp] theorem State.onChk_lk : (s.onChk i f).lk = s.lk := rfl
@[simp] theorem State.onChk_board : (s.onChk i f).board = s.board := rfl
end onChk

/-! ### onArb -/
section onArb
variable (s : State) (k : Nat) (f : Arb → Arb)
@[simp] theorem State.onArb_now : (s.onArb k f).now = s.now := rfl
@[simp] theorem State.onArb_pending : (s.onArb k f).pending = s.pending := rfl
@[simp] theorem State.onArb_free : (s.onArb k f).free = s.free := rfl
@[simp] theorem State.onArb_regs : (s.onArb k f).regs = s.regs := rfl
@[simp] theorem State.onArb_comp : (s.onArb k f).comp = s.comp := rfl
@[simp] theorem State.onArb_deal : (s.onArb k f).deal = s.deal := rfl
@[simp] theorem State.onArb_fab : (s.onArb k f).fab = s.fab := rfl
@[simp] theorem State.onArb_dir : (s.onArb k f).dir = s.dir := rfl
@[simp] theorem State.onArb_links : (s.onArb k f).links = s.links := rfl
@[simp] theorem State.onArb_rt : (s.onArb k f).rt = s.rt := rfl
@[simp] theorem State.onArb_egr : (s.onArb k f).egr = s.egr := rfl
@[simp] theorem State.onArb_groupMap : (s.onArb k f).groupMap = s.groupMap := rfl
@[simp] theorem State.onArb_pols : (s.onArb k f).pols = s.pols := rfl
@[simp] theorem State.onArb_arbSel : (s.onArb k f).arbSel = s.arbSel := rfl
@[simp] theorem State.onArb_mem : (s.onArb k f).mem = s.mem := rfl
@[simp] theorem State.onArb_ptns : (s.onArb k f).ptns = s.ptns := rfl
@[simp] theorem State.onArb_exts : (s.onArb k f).exts = s.exts := rfl
@[simp] theorem State.onArb_freed : (s.onArb k f).freed = s.freed := rfl
@[simp] theorem State.onArb_mbx : (s.onArb k f).mbx = s.mbx := rfl
@[simp] theorem State.onArb_chk : (s.onArb k f).chk = s.chk := rfl
@[simp] theorem State.onArb_cores : (s.onArb k f).cores = s.cores := rfl
@[simp] theorem State.onArb_pcie : (s.onArb k f).pcie = s.pcie := rfl
@[simp] theorem State.onArb_sec : (s.onArb k f).sec = s.sec := rfl
@[simp] theorem State.onArb_nor : (s.onArb k f).nor = s.nor := rfl
@[simp] theorem State.onArb_wear : (s.onArb k f).wear = s.wear := rfl
@[simp] theorem State.onArb_diag : (s.onArb k f).diag = s.diag := rfl
@[simp] theorem State.onArb_prt : (s.onArb k f).prt = s.prt := rfl
@[simp] theorem State.onArb_mtr : (s.onArb k f).mtr = s.mtr := rfl
@[simp] theorem State.onArb_send : (s.onArb k f).send = s.send := rfl
@[simp] theorem State.onArb_lk : (s.onArb k f).lk = s.lk := rfl
@[simp] theorem State.onArb_board : (s.onArb k f).board = s.board := rfl
end onArb

/-! ### onSender -/
section onSender
variable (s : State) (l : Nat) (f : Sender → Sender)
@[simp] theorem State.onSender_now : (s.onSender l f).now = s.now := rfl
@[simp] theorem State.onSender_pending : (s.onSender l f).pending = s.pending := rfl
@[simp] theorem State.onSender_free : (s.onSender l f).free = s.free := rfl
@[simp] theorem State.onSender_regs : (s.onSender l f).regs = s.regs := rfl
@[simp] theorem State.onSender_comp : (s.onSender l f).comp = s.comp := rfl
@[simp] theorem State.onSender_deal : (s.onSender l f).deal = s.deal := rfl
@[simp] theorem State.onSender_fab : (s.onSender l f).fab = s.fab := rfl
@[simp] theorem State.onSender_dir : (s.onSender l f).dir = s.dir := rfl
@[simp] theorem State.onSender_links : (s.onSender l f).links = s.links := rfl
@[simp] theorem State.onSender_rt : (s.onSender l f).rt = s.rt := rfl
@[simp] theorem State.onSender_egr : (s.onSender l f).egr = s.egr := rfl
@[simp] theorem State.onSender_groupMap : (s.onSender l f).groupMap = s.groupMap := rfl
@[simp] theorem State.onSender_pols : (s.onSender l f).pols = s.pols := rfl
@[simp] theorem State.onSender_arbs : (s.onSender l f).arbs = s.arbs := rfl
@[simp] theorem State.onSender_arbSel : (s.onSender l f).arbSel = s.arbSel := rfl
@[simp] theorem State.onSender_mem : (s.onSender l f).mem = s.mem := rfl
@[simp] theorem State.onSender_ptns : (s.onSender l f).ptns = s.ptns := rfl
@[simp] theorem State.onSender_exts : (s.onSender l f).exts = s.exts := rfl
@[simp] theorem State.onSender_freed : (s.onSender l f).freed = s.freed := rfl
@[simp] theorem State.onSender_mbx : (s.onSender l f).mbx = s.mbx := rfl
@[simp] theorem State.onSender_chk : (s.onSender l f).chk = s.chk := rfl
@[simp] theorem State.onSender_cores : (s.onSender l f).cores = s.cores := rfl
@[simp] theorem State.onSender_pcie : (s.onSender l f).pcie = s.pcie := rfl
@[simp] theorem State.onSender_sec : (s.onSender l f).sec = s.sec := rfl
@[simp] theorem State.onSender_nor : (s.onSender l f).nor = s.nor := rfl
@[simp] theorem State.onSender_wear : (s.onSender l f).wear = s.wear := rfl
@[simp] theorem State.onSender_diag : (s.onSender l f).diag = s.diag := rfl
@[simp] theorem State.onSender_prt : (s.onSender l f).prt = s.prt := rfl
@[simp] theorem State.onSender_mtr : (s.onSender l f).mtr = s.mtr := rfl
@[simp] theorem State.onSender_lk : (s.onSender l f).lk = s.lk := rfl
@[simp] theorem State.onSender_board : (s.onSender l f).board = s.board := rfl
end onSender

/-! ### onDeal -/
section onDeal
variable (s : State) (f : Dealer → Dealer)
@[simp] theorem State.onDeal_now : (s.onDeal f).now = s.now := rfl
@[simp] theorem State.onDeal_pending : (s.onDeal f).pending = s.pending := rfl
@[simp] theorem State.onDeal_free : (s.onDeal f).free = s.free := rfl
@[simp] theorem State.onDeal_regs : (s.onDeal f).regs = s.regs := rfl
@[simp] theorem State.onDeal_comp : (s.onDeal f).comp = s.comp := rfl
@[simp] theorem State.onDeal_deal : (s.onDeal f).deal = f s.deal := rfl
@[simp] theorem State.onDeal_fab : (s.onDeal f).fab = s.fab := rfl
@[simp] theorem State.onDeal_dir : (s.onDeal f).dir = s.dir := rfl
@[simp] theorem State.onDeal_links : (s.onDeal f).links = s.links := rfl
@[simp] theorem State.onDeal_rt : (s.onDeal f).rt = s.rt := rfl
@[simp] theorem State.onDeal_egr : (s.onDeal f).egr = s.egr := rfl
@[simp] theorem State.onDeal_groupMap : (s.onDeal f).groupMap = s.groupMap := rfl
@[simp] theorem State.onDeal_pols : (s.onDeal f).pols = s.pols := rfl
@[simp] theorem State.onDeal_arbs : (s.onDeal f).arbs = s.arbs := rfl
@[simp] theorem State.onDeal_arbSel : (s.onDeal f).arbSel = s.arbSel := rfl
@[simp] theorem State.onDeal_mem : (s.onDeal f).mem = s.mem := rfl
@[simp] theorem State.onDeal_ptns : (s.onDeal f).ptns = s.ptns := rfl
@[simp] theorem State.onDeal_exts : (s.onDeal f).exts = s.exts := rfl
@[simp] theorem State.onDeal_freed : (s.onDeal f).freed = s.freed := rfl
@[simp] theorem State.onDeal_mbx : (s.onDeal f).mbx = s.mbx := rfl
@[simp] theorem State.onDeal_chk : (s.onDeal f).chk = s.chk := rfl
@[simp] theorem State.onDeal_cores : (s.onDeal f).cores = s.cores := rfl
@[simp] theorem State.onDeal_pcie : (s.onDeal f).pcie = s.pcie := rfl
@[simp] theorem State.onDeal_sec : (s.onDeal f).sec = s.sec := rfl
@[simp] theorem State.onDeal_nor : (s.onDeal f).nor = s.nor := rfl
@[simp] theorem State.onDeal_wear : (s.onDeal f).wear = s.wear := rfl
@[simp] theorem State.onDeal_diag : (s.onDeal f).diag = s.diag := rfl
@[simp] theorem State.onDeal_prt : (s.onDeal f).prt = s.prt := rfl
@[simp] theorem State.onDeal_mtr : (s.onDeal f).mtr = s.mtr := rfl
@[simp] theorem State.onDeal_send : (s.onDeal f).send = s.send := rfl
@[simp] theorem State.onDeal_lk : (s.onDeal f).lk = s.lk := rfl
@[simp] theorem State.onDeal_board : (s.onDeal f).board = s.board := rfl
end onDeal

/-! ### onInv -/
section onInv
variable (s : State) (k : Nat) (f : Inv → Inv)
@[simp] theorem State.onInv_now : (s.onInv k f).now = s.now := rfl
@[simp] theorem State.onInv_pending : (s.onInv k f).pending = s.pending := rfl
@[simp] theorem State.onInv_free : (s.onInv k f).free = s.free := rfl
@[simp] theorem State.onInv_regs : (s.onInv k f).regs = s.regs := rfl
@[simp] theorem State.onInv_comp : (s.onInv k f).comp = s.comp := rfl
@[simp] theorem State.onInv_fab : (s.onInv k f).fab = s.fab := rfl
@[simp] theorem State.onInv_dir : (s.onInv k f).dir = s.dir := rfl
@[simp] theorem State.onInv_links : (s.onInv k f).links = s.links := rfl
@[simp] theorem State.onInv_rt : (s.onInv k f).rt = s.rt := rfl
@[simp] theorem State.onInv_egr : (s.onInv k f).egr = s.egr := rfl
@[simp] theorem State.onInv_groupMap : (s.onInv k f).groupMap = s.groupMap := rfl
@[simp] theorem State.onInv_pols : (s.onInv k f).pols = s.pols := rfl
@[simp] theorem State.onInv_arbs : (s.onInv k f).arbs = s.arbs := rfl
@[simp] theorem State.onInv_arbSel : (s.onInv k f).arbSel = s.arbSel := rfl
@[simp] theorem State.onInv_mem : (s.onInv k f).mem = s.mem := rfl
@[simp] theorem State.onInv_ptns : (s.onInv k f).ptns = s.ptns := rfl
@[simp] theorem State.onInv_exts : (s.onInv k f).exts = s.exts := rfl
@[simp] theorem State.onInv_freed : (s.onInv k f).freed = s.freed := rfl
@[simp] theorem State.onInv_mbx : (s.onInv k f).mbx = s.mbx := rfl
@[simp] theorem State.onInv_chk : (s.onInv k f).chk = s.chk := rfl
@[simp] theorem State.onInv_cores : (s.onInv k f).cores = s.cores := rfl
@[simp] theorem State.onInv_pcie : (s.onInv k f).pcie = s.pcie := rfl
@[simp] theorem State.onInv_sec : (s.onInv k f).sec = s.sec := rfl
@[simp] theorem State.onInv_nor : (s.onInv k f).nor = s.nor := rfl
@[simp] theorem State.onInv_wear : (s.onInv k f).wear = s.wear := rfl
@[simp] theorem State.onInv_diag : (s.onInv k f).diag = s.diag := rfl
@[simp] theorem State.onInv_prt : (s.onInv k f).prt = s.prt := rfl
@[simp] theorem State.onInv_mtr : (s.onInv k f).mtr = s.mtr := rfl
@[simp] theorem State.onInv_send : (s.onInv k f).send = s.send := rfl
@[simp] theorem State.onInv_lk : (s.onInv k f).lk = s.lk := rfl
@[simp] theorem State.onInv_board : (s.onInv k f).board = s.board := rfl
end onInv

/-! ### onFab -/
section onFab
variable (s : State) (f : Fabric → Fabric)
@[simp] theorem State.onFab_now : (s.onFab f).now = s.now := rfl
@[simp] theorem State.onFab_pending : (s.onFab f).pending = s.pending := rfl
@[simp] theorem State.onFab_free : (s.onFab f).free = s.free := rfl
@[simp] theorem State.onFab_regs : (s.onFab f).regs = s.regs := rfl
@[simp] theorem State.onFab_comp : (s.onFab f).comp = s.comp := rfl
@[simp] theorem State.onFab_deal : (s.onFab f).deal = s.deal := rfl
@[simp] theorem State.onFab_fab : (s.onFab f).fab = f s.fab := rfl
@[simp] theorem State.onFab_dir : (s.onFab f).dir = s.dir := rfl
@[simp] theorem State.onFab_links : (s.onFab f).links = s.links := rfl
@[simp] theorem State.onFab_rt : (s.onFab f).rt = s.rt := rfl
@[simp] theorem State.onFab_egr : (s.onFab f).egr = s.egr := rfl
@[simp] theorem State.onFab_groupMap : (s.onFab f).groupMap = s.groupMap := rfl
@[simp] theorem State.onFab_pols : (s.onFab f).pols = s.pols := rfl
@[simp] theorem State.onFab_arbs : (s.onFab f).arbs = s.arbs := rfl
@[simp] theorem State.onFab_arbSel : (s.onFab f).arbSel = s.arbSel := rfl
@[simp] theorem State.onFab_mem : (s.onFab f).mem = s.mem := rfl
@[simp] theorem State.onFab_ptns : (s.onFab f).ptns = s.ptns := rfl
@[simp] theorem State.onFab_exts : (s.onFab f).exts = s.exts := rfl
@[simp] theorem State.onFab_freed : (s.onFab f).freed = s.freed := rfl
@[simp] theorem State.onFab_mbx : (s.onFab f).mbx = s.mbx := rfl
@[simp] theorem State.onFab_chk : (s.onFab f).chk = s.chk := rfl
@[simp] theorem State.onFab_cores : (s.onFab f).cores = s.cores := rfl
@[simp] theorem State.onFab_pcie : (s.onFab f).pcie = s.pcie := rfl
@[simp] theorem State.onFab_sec : (s.onFab f).sec = s.sec := rfl
@[simp] theorem State.onFab_nor : (s.onFab f).nor = s.nor := rfl
@[simp] theorem State.onFab_wear : (s.onFab f).wear = s.wear := rfl
@[simp] theorem State.onFab_diag : (s.onFab f).diag = s.diag := rfl
@[simp] theorem State.onFab_prt : (s.onFab f).prt = s.prt := rfl
@[simp] theorem State.onFab_mtr : (s.onFab f).mtr = s.mtr := rfl
@[simp] theorem State.onFab_send : (s.onFab f).send = s.send := rfl
@[simp] theorem State.onFab_lk : (s.onFab f).lk = s.lk := rfl
@[simp] theorem State.onFab_board : (s.onFab f).board = s.board := rfl
end onFab

/-! ### onDir -/
section onDir
variable (s : State) (f : Directory → Directory)
@[simp] theorem State.onDir_now : (s.onDir f).now = s.now := rfl
@[simp] theorem State.onDir_pending : (s.onDir f).pending = s.pending := rfl
@[simp] theorem State.onDir_free : (s.onDir f).free = s.free := rfl
@[simp] theorem State.onDir_regs : (s.onDir f).regs = s.regs := rfl
@[simp] theorem State.onDir_comp : (s.onDir f).comp = s.comp := rfl
@[simp] theorem State.onDir_deal : (s.onDir f).deal = s.deal := rfl
@[simp] theorem State.onDir_fab : (s.onDir f).fab = s.fab := rfl
@[simp] theorem State.onDir_dir : (s.onDir f).dir = f s.dir := rfl
@[simp] theorem State.onDir_links : (s.onDir f).links = s.links := rfl
@[simp] theorem State.onDir_rt : (s.onDir f).rt = s.rt := rfl
@[simp] theorem State.onDir_egr : (s.onDir f).egr = s.egr := rfl
@[simp] theorem State.onDir_groupMap : (s.onDir f).groupMap = s.groupMap := rfl
@[simp] theorem State.onDir_pols : (s.onDir f).pols = s.pols := rfl
@[simp] theorem State.onDir_arbs : (s.onDir f).arbs = s.arbs := rfl
@[simp] theorem State.onDir_arbSel : (s.onDir f).arbSel = s.arbSel := rfl
@[simp] theorem State.onDir_mem : (s.onDir f).mem = s.mem := rfl
@[simp] theorem State.onDir_ptns : (s.onDir f).ptns = s.ptns := rfl
@[simp] theorem State.onDir_exts : (s.onDir f).exts = s.exts := rfl
@[simp] theorem State.onDir_freed : (s.onDir f).freed = s.freed := rfl
@[simp] theorem State.onDir_mbx : (s.onDir f).mbx = s.mbx := rfl
@[simp] theorem State.onDir_chk : (s.onDir f).chk = s.chk := rfl
@[simp] theorem State.onDir_cores : (s.onDir f).cores = s.cores := rfl
@[simp] theorem State.onDir_pcie : (s.onDir f).pcie = s.pcie := rfl
@[simp] theorem State.onDir_sec : (s.onDir f).sec = s.sec := rfl
@[simp] theorem State.onDir_nor : (s.onDir f).nor = s.nor := rfl
@[simp] theorem State.onDir_wear : (s.onDir f).wear = s.wear := rfl
@[simp] theorem State.onDir_diag : (s.onDir f).diag = s.diag := rfl
@[simp] theorem State.onDir_prt : (s.onDir f).prt = s.prt := rfl
@[simp] theorem State.onDir_mtr : (s.onDir f).mtr = s.mtr := rfl
@[simp] theorem State.onDir_send : (s.onDir f).send = s.send := rfl
@[simp] theorem State.onDir_lk : (s.onDir f).lk = s.lk := rfl
@[simp] theorem State.onDir_board : (s.onDir f).board = s.board := rfl
end onDir

/-! ### onRt -/
section onRt
variable (s : State) (f : Routing → Routing)
@[simp] theorem State.onRt_now : (s.onRt f).now = s.now := rfl
@[simp] theorem State.onRt_pending : (s.onRt f).pending = s.pending := rfl
@[simp] theorem State.onRt_free : (s.onRt f).free = s.free := rfl
@[simp] theorem State.onRt_regs : (s.onRt f).regs = s.regs := rfl
@[simp] theorem State.onRt_comp : (s.onRt f).comp = s.comp := rfl
@[simp] theorem State.onRt_deal : (s.onRt f).deal = s.deal := rfl
@[simp] theorem State.onRt_fab : (s.onRt f).fab = s.fab := rfl
@[simp] theorem State.onRt_dir : (s.onRt f).dir = s.dir := rfl
@[simp] theorem State.onRt_links : (s.onRt f).links = s.links := rfl
@[simp] theorem State.onRt_rt : (s.onRt f).rt = f s.rt := rfl
@[simp] theorem State.onRt_egr : (s.onRt f).egr = s.egr := rfl
@[simp] theorem State.onRt_groupMap : (s.onRt f).groupMap = s.groupMap := rfl
@[simp] theorem State.onRt_pols : (s.onRt f).pols = s.pols := rfl
@[simp] theorem State.onRt_arbs : (s.onRt f).arbs = s.arbs := rfl
@[simp] theorem State.onRt_arbSel : (s.onRt f).arbSel = s.arbSel := rfl
@[simp] theorem State.onRt_mem : (s.onRt f).mem = s.mem := rfl
@[simp] theorem State.onRt_ptns : (s.onRt f).ptns = s.ptns := rfl
@[simp] theorem State.onRt_exts : (s.onRt f).exts = s.exts := rfl
@[simp] theorem State.onRt_freed : (s.onRt f).freed = s.freed := rfl
@[simp] theorem State.onRt_mbx : (s.onRt f).mbx = s.mbx := rfl
@[simp] theorem State.onRt_chk : (s.onRt f).chk = s.chk := rfl
@[simp] theorem State.onRt_cores : (s.onRt f).cores = s.cores := rfl
@[simp] theorem State.onRt_pcie : (s.onRt f).pcie = s.pcie := rfl
@[simp] theorem State.onRt_sec : (s.onRt f).sec = s.sec := rfl
@[simp] theorem State.onRt_nor : (s.onRt f).nor = s.nor := rfl
@[simp] theorem State.onRt_wear : (s.onRt f).wear = s.wear := rfl
@[simp] theorem State.onRt_diag : (s.onRt f).diag = s.diag := rfl
@[simp] theorem State.onRt_prt : (s.onRt f).prt = s.prt := rfl
@[simp] theorem State.onRt_mtr : (s.onRt f).mtr = s.mtr := rfl
@[simp] theorem State.onRt_send : (s.onRt f).send = s.send := rfl
@[simp] theorem State.onRt_lk : (s.onRt f).lk = s.lk := rfl
@[simp] theorem State.onRt_board : (s.onRt f).board = s.board := rfl
end onRt

/-! ### onPrt -/
section onPrt
variable (s : State) (f : Partner → Partner)
@[simp] theorem State.onPrt_now : (s.onPrt f).now = s.now := rfl
@[simp] theorem State.onPrt_pending : (s.onPrt f).pending = s.pending := rfl
@[simp] theorem State.onPrt_free : (s.onPrt f).free = s.free := rfl
@[simp] theorem State.onPrt_regs : (s.onPrt f).regs = s.regs := rfl
@[simp] theorem State.onPrt_comp : (s.onPrt f).comp = s.comp := rfl
@[simp] theorem State.onPrt_deal : (s.onPrt f).deal = s.deal := rfl
@[simp] theorem State.onPrt_fab : (s.onPrt f).fab = s.fab := rfl
@[simp] theorem State.onPrt_dir : (s.onPrt f).dir = s.dir := rfl
@[simp] theorem State.onPrt_links : (s.onPrt f).links = s.links := rfl
@[simp] theorem State.onPrt_rt : (s.onPrt f).rt = s.rt := rfl
@[simp] theorem State.onPrt_egr : (s.onPrt f).egr = s.egr := rfl
@[simp] theorem State.onPrt_groupMap : (s.onPrt f).groupMap = s.groupMap := rfl
@[simp] theorem State.onPrt_pols : (s.onPrt f).pols = s.pols := rfl
@[simp] theorem State.onPrt_arbs : (s.onPrt f).arbs = s.arbs := rfl
@[simp] theorem State.onPrt_arbSel : (s.onPrt f).arbSel = s.arbSel := rfl
@[simp] theorem State.onPrt_mem : (s.onPrt f).mem = s.mem := rfl
@[simp] theorem State.onPrt_ptns : (s.onPrt f).ptns = s.ptns := rfl
@[simp] theorem State.onPrt_exts : (s.onPrt f).exts = s.exts := rfl
@[simp] theorem State.onPrt_freed : (s.onPrt f).freed = s.freed := rfl
@[simp] theorem State.onPrt_mbx : (s.onPrt f).mbx = s.mbx := rfl
@[simp] theorem State.onPrt_chk : (s.onPrt f).chk = s.chk := rfl
@[simp] theorem State.onPrt_cores : (s.onPrt f).cores = s.cores := rfl
@[simp] theorem State.onPrt_pcie : (s.onPrt f).pcie = s.pcie := rfl
@[simp] theorem State.onPrt_sec : (s.onPrt f).sec = s.sec := rfl
@[simp] theorem State.onPrt_nor : (s.onPrt f).nor = s.nor := rfl
@[simp] theorem State.onPrt_wear : (s.onPrt f).wear = s.wear := rfl
@[simp] theorem State.onPrt_diag : (s.onPrt f).diag = s.diag := rfl
@[simp] theorem State.onPrt_prt : (s.onPrt f).prt = f s.prt := rfl
@[simp] theorem State.onPrt_mtr : (s.onPrt f).mtr = s.mtr := rfl
@[simp] theorem State.onPrt_send : (s.onPrt f).send = s.send := rfl
@[simp] theorem State.onPrt_lk : (s.onPrt f).lk = s.lk := rfl
@[simp] theorem State.onPrt_board : (s.onPrt f).board = s.board := rfl
end onPrt

/-! ### onLk -/
section onLk
variable (s : State) (f : Lookout → Lookout)
@[simp] theorem State.onLk_now : (s.onLk f).now = s.now := rfl
@[simp] theorem State.onLk_pending : (s.onLk f).pending = s.pending := rfl
@[simp] theorem State.onLk_free : (s.onLk f).free = s.free := rfl
@[simp] theorem State.onLk_regs : (s.onLk f).regs = s.regs := rfl
@[simp] theorem State.onLk_comp : (s.onLk f).comp = s.comp := rfl
@[simp] theorem State.onLk_deal : (s.onLk f).deal = s.deal := rfl
@[simp] theorem State.onLk_fab : (s.onLk f).fab = s.fab := rfl
@[simp] theorem State.onLk_dir : (s.onLk f).dir = s.dir := rfl
@[simp] theorem State.onLk_links : (s.onLk f).links = s.links := rfl
@[simp] theorem State.onLk_rt : (s.onLk f).rt = s.rt := rfl
@[simp] theorem State.onLk_egr : (s.onLk f).egr = s.egr := rfl
@[simp] theorem State.onLk_groupMap : (s.onLk f).groupMap = s.groupMap := rfl
@[simp] theorem State.onLk_pols : (s.onLk f).pols = s.pols := rfl
@[simp] theorem State.onLk_arbs : (s.onLk f).arbs = s.arbs := rfl
@[simp] theorem State.onLk_arbSel : (s.onLk f).arbSel = s.arbSel := rfl
@[simp] theorem State.onLk_mem : (s.onLk f).mem = s.mem := rfl
@[simp] theorem State.onLk_ptns : (s.onLk f).ptns = s.ptns := rfl
@[simp] theorem State.onLk_exts : (s.onLk f).exts = s.exts := rfl
@[simp] theorem State.onLk_freed : (s.onLk f).freed = s.freed := rfl
@[simp] theorem State.onLk_mbx : (s.onLk f).mbx = s.mbx := rfl
@[simp] theorem State.onLk_chk : (s.onLk f).chk = s.chk := rfl
@[simp] theorem State.onLk_cores : (s.onLk f).cores = s.cores := rfl
@[simp] theorem State.onLk_pcie : (s.onLk f).pcie = s.pcie := rfl
@[simp] theorem State.onLk_sec : (s.onLk f).sec = s.sec := rfl
@[simp] theorem State.onLk_nor : (s.onLk f).nor = s.nor := rfl
@[simp] theorem State.onLk_wear : (s.onLk f).wear = s.wear := rfl
@[simp] theorem State.onLk_diag : (s.onLk f).diag = s.diag := rfl
@[simp] theorem State.onLk_prt : (s.onLk f).prt = s.prt := rfl
@[simp] theorem State.onLk_mtr : (s.onLk f).mtr = s.mtr := rfl
@[simp] theorem State.onLk_send : (s.onLk f).send = s.send := rfl
@[simp] theorem State.onLk_lk : (s.onLk f).lk = f s.lk := rfl
@[simp] theorem State.onLk_board : (s.onLk f).board = s.board := rfl
end onLk

/-! ### onBoard -/
section onBoard
variable (s : State) (f : Board → Board)
@[simp] theorem State.onBoard_now : (s.onBoard f).now = s.now := rfl
@[simp] theorem State.onBoard_pending : (s.onBoard f).pending = s.pending := rfl
@[simp] theorem State.onBoard_free : (s.onBoard f).free = s.free := rfl
@[simp] theorem State.onBoard_regs : (s.onBoard f).regs = s.regs := rfl
@[simp] theorem State.onBoard_comp : (s.onBoard f).comp = s.comp := rfl
@[simp] theorem State.onBoard_deal : (s.onBoard f).deal = s.deal := rfl
@[simp] theorem State.onBoard_fab : (s.onBoard f).fab = s.fab := rfl
@[simp] theorem State.onBoard_dir : (s.onBoard f).dir = s.dir := rfl
@[simp] theorem State.onBoard_links : (s.onBoard f).links = s.links := rfl
@[simp] theorem State.onBoard_rt : (s.onBoard f).rt = s.rt := rfl
@[simp] theorem State.onBoard_egr : (s.onBoard f).egr = s.egr := rfl
@[simp] theorem State.onBoard_groupMap : (s.onBoard f).groupMap = s.groupMap := rfl
@[simp] theorem State.onBoard_pols : (s.onBoard f).pols = s.pols := rfl
@[simp] theorem State.onBoard_arbs : (s.onBoard f).arbs = s.arbs := rfl
@[simp] theorem State.onBoard_arbSel : (s.onBoard f).arbSel = s.arbSel := rfl
@[simp] theorem State.onBoard_mem : (s.onBoard f).mem = s.mem := rfl
@[simp] theorem State.onBoard_ptns : (s.onBoard f).ptns = s.ptns := rfl
@[simp] theorem State.onBoard_exts : (s.onBoard f).exts = s.exts := rfl
@[simp] theorem State.onBoard_freed : (s.onBoard f).freed = s.freed := rfl
@[simp] theorem State.onBoard_mbx : (s.onBoard f).mbx = s.mbx := rfl
@[simp] theorem State.onBoard_chk : (s.onBoard f).chk = s.chk := rfl
@[simp] theorem State.onBoard_cores : (s.onBoard f).cores = s.cores := rfl
@[simp] theorem State.onBoard_pcie : (s.onBoard f).pcie = s.pcie := rfl
@[simp] theorem State.onBoard_sec : (s.onBoard f).sec = s.sec := rfl
@[simp] theorem State.onBoard_nor : (s.onBoard f).nor = s.nor := rfl
@[simp] theorem State.onBoard_wear : (s.onBoard f).wear = s.wear := rfl
@[simp] theorem State.onBoard_diag : (s.onBoard f).diag = s.diag := rfl
@[simp] theorem State.onBoard_prt : (s.onBoard f).prt = s.prt := rfl
@[simp] theorem State.onBoard_mtr : (s.onBoard f).mtr = s.mtr := rfl
@[simp] theorem State.onBoard_send : (s.onBoard f).send = s.send := rfl
@[simp] theorem State.onBoard_lk : (s.onBoard f).lk = s.lk := rfl
@[simp] theorem State.onBoard_board : (s.onBoard f).board = f s.board := rfl
end onBoard

/-! ### onSec -/
section onSec
variable (s : State) (f : Sec → Sec)
@[simp] theorem State.onSec_now : (s.onSec f).now = s.now := rfl
@[simp] theorem State.onSec_pending : (s.onSec f).pending = s.pending := rfl
@[simp] theorem State.onSec_free : (s.onSec f).free = s.free := rfl
@[simp] theorem State.onSec_regs : (s.onSec f).regs = s.regs := rfl
@[simp] theorem State.onSec_comp : (s.onSec f).comp = s.comp := rfl
@[simp] theorem State.onSec_deal : (s.onSec f).deal = s.deal := rfl
@[simp] theorem State.onSec_fab : (s.onSec f).fab = s.fab := rfl
@[simp] theorem State.onSec_dir : (s.onSec f).dir = s.dir := rfl
@[simp] theorem State.onSec_links : (s.onSec f).links = s.links := rfl
@[simp] theorem State.onSec_rt : (s.onSec f).rt = s.rt := rfl
@[simp] theorem State.onSec_egr : (s.onSec f).egr = s.egr := rfl
@[simp] theorem State.onSec_groupMap : (s.onSec f).groupMap = s.groupMap := rfl
@[simp] theorem State.onSec_pols : (s.onSec f).pols = s.pols := rfl
@[simp] theorem State.onSec_arbs : (s.onSec f).arbs = s.arbs := rfl
@[simp] theorem State.onSec_arbSel : (s.onSec f).arbSel = s.arbSel := rfl
@[simp] theorem State.onSec_mem : (s.onSec f).mem = s.mem := rfl
@[simp] theorem State.onSec_ptns : (s.onSec f).ptns = s.ptns := rfl
@[simp] theorem State.onSec_exts : (s.onSec f).exts = s.exts := rfl
@[simp] theorem State.onSec_freed : (s.onSec f).freed = s.freed := rfl
@[simp] theorem State.onSec_mbx : (s.onSec f).mbx = s.mbx := rfl
@[simp] theorem State.onSec_chk : (s.onSec f).chk = s.chk := rfl
@[simp] theorem State.onSec_cores : (s.onSec f).cores = s.cores := rfl
@[simp] theorem State.onSec_pcie : (s.onSec f).pcie = s.pcie := rfl
@[simp] theorem State.onSec_sec : (s.onSec f).sec = f s.sec := rfl
@[simp] theorem State.onSec_nor : (s.onSec f).nor = s.nor := rfl
@[simp] theorem State.onSec_wear : (s.onSec f).wear = s.wear := rfl
@[simp] theorem State.onSec_diag : (s.onSec f).diag = s.diag := rfl
@[simp] theorem State.onSec_prt : (s.onSec f).prt = s.prt := rfl
@[simp] theorem State.onSec_mtr : (s.onSec f).mtr = s.mtr := rfl
@[simp] theorem State.onSec_send : (s.onSec f).send = s.send := rfl
@[simp] theorem State.onSec_lk : (s.onSec f).lk = s.lk := rfl
@[simp] theorem State.onSec_board : (s.onSec f).board = s.board := rfl
end onSec

/-! ### onMtr -/
section onMtr
variable (s : State) (f : Meter → Meter)
@[simp] theorem State.onMtr_now : (s.onMtr f).now = s.now := rfl
@[simp] theorem State.onMtr_pending : (s.onMtr f).pending = s.pending := rfl
@[simp] theorem State.onMtr_free : (s.onMtr f).free = s.free := rfl
@[simp] theorem State.onMtr_regs : (s.onMtr f).regs = s.regs := rfl
@[simp] theorem State.onMtr_comp : (s.onMtr f).comp = s.comp := rfl
@[simp] theorem State.onMtr_deal : (s.onMtr f).deal = s.deal := rfl
@[simp] theorem State.onMtr_fab : (s.onMtr f).fab = s.fab := rfl
@[simp] theorem State.onMtr_dir : (s.onMtr f).dir = s.dir := rfl
@[simp] theorem State.onMtr_links : (s.onMtr f).links = s.links := rfl
@[simp] theorem State.onMtr_rt : (s.onMtr f).rt = s.rt := rfl
@[simp] theorem State.onMtr_egr : (s.onMtr f).egr = s.egr := rfl
@[simp] theorem State.onMtr_groupMap : (s.onMtr f).groupMap = s.groupMap := rfl
@[simp] theorem State.onMtr_pols : (s.onMtr f).pols = s.pols := rfl
@[simp] theorem State.onMtr_arbs : (s.onMtr f).arbs = s.arbs := rfl
@[simp] theorem State.onMtr_arbSel : (s.onMtr f).arbSel = s.arbSel := rfl
@[simp] theorem State.onMtr_mem : (s.onMtr f).mem = s.mem := rfl
@[simp] theorem State.onMtr_ptns : (s.onMtr f).ptns = s.ptns := rfl
@[simp] theorem State.onMtr_exts : (s.onMtr f).exts = s.exts := rfl
@[simp] theorem State.onMtr_freed : (s.onMtr f).freed = s.freed := rfl
@[simp] theorem State.onMtr_mbx : (s.onMtr f).mbx = s.mbx := rfl
@[simp] theorem State.onMtr_chk : (s.onMtr f).chk = s.chk := rfl
@[simp] theorem State.onMtr_cores : (s.onMtr f).cores = s.cores := rfl
@[simp] theorem State.onMtr_pcie : (s.onMtr f).pcie = s.pcie := rfl
@[simp] theorem State.onMtr_sec : (s.onMtr f).sec = s.sec := rfl
@[simp] theorem State.onMtr_nor : (s.onMtr f).nor = s.nor := rfl
@[simp] theorem State.onMtr_wear : (s.onMtr f).wear = s.wear := rfl
@[simp] theorem State.onMtr_diag : (s.onMtr f).diag = s.diag := rfl
@[simp] theorem State.onMtr_prt : (s.onMtr f).prt = s.prt := rfl
@[simp] theorem State.onMtr_mtr : (s.onMtr f).mtr = f s.mtr := rfl
@[simp] theorem State.onMtr_send : (s.onMtr f).send = s.send := rfl
@[simp] theorem State.onMtr_lk : (s.onMtr f).lk = s.lk := rfl
@[simp] theorem State.onMtr_board : (s.onMtr f).board = s.board := rfl
end onMtr

/-! ### onPcie -/
section onPcie
variable (s : State) (f : Pcie → Pcie)
@[simp] theorem State.onPcie_now : (s.onPcie f).now = s.now := rfl
@[simp] theorem State.onPcie_pending : (s.onPcie f).pending = s.pending := rfl
@[simp] theorem State.onPcie_free : (s.onPcie f).free = s.free := rfl
@[simp] theorem State.onPcie_regs : (s.onPcie f).regs = s.regs := rfl
@[simp] theorem State.onPcie_comp : (s.onPcie f).comp = s.comp := rfl
@[simp] theorem State.onPcie_deal : (s.onPcie f).deal = s.deal := rfl
@[simp] theorem State.onPcie_fab : (s.onPcie f).fab = s.fab := rfl
@[simp] theorem State.onPcie_dir : (s.onPcie f).dir = s.dir := rfl
@[simp] theorem State.onPcie_links : (s.onPcie f).links = s.links := rfl
@[simp] theorem State.onPcie_rt : (s.onPcie f).rt = s.rt := rfl
@[simp] theorem State.onPcie_egr : (s.onPcie f).egr = s.egr := rfl
@[simp] theorem State.onPcie_groupMap : (s.onPcie f).groupMap = s.groupMap := rfl
@[simp] theorem State.onPcie_pols : (s.onPcie f).pols = s.pols := rfl
@[simp] theorem State.onPcie_arbs : (s.onPcie f).arbs = s.arbs := rfl
@[simp] theorem State.onPcie_arbSel : (s.onPcie f).arbSel = s.arbSel := rfl
@[simp] theorem State.onPcie_mem : (s.onPcie f).mem = s.mem := rfl
@[simp] theorem State.onPcie_ptns : (s.onPcie f).ptns = s.ptns := rfl
@[simp] theorem State.onPcie_exts : (s.onPcie f).exts = s.exts := rfl
@[simp] theorem State.onPcie_freed : (s.onPcie f).freed = s.freed := rfl
@[simp] theorem State.onPcie_mbx : (s.onPcie f).mbx = s.mbx := rfl
@[simp] theorem State.onPcie_chk : (s.onPcie f).chk = s.chk := rfl
@[simp] theorem State.onPcie_cores : (s.onPcie f).cores = s.cores := rfl
@[simp] theorem State.onPcie_pcie : (s.onPcie f).pcie = f s.pcie := rfl
@[simp] theorem State.onPcie_sec : (s.onPcie f).sec = s.sec := rfl
@[simp] theorem State.onPcie_nor : (s.onPcie f).nor = s.nor := rfl
@[simp] theorem State.onPcie_wear : (s.onPcie f).wear = s.wear := rfl
@[simp] theorem State.onPcie_diag : (s.onPcie f).diag = s.diag := rfl
@[simp] theorem State.onPcie_prt : (s.onPcie f).prt = s.prt := rfl
@[simp] theorem State.onPcie_mtr : (s.onPcie f).mtr = s.mtr := rfl
@[simp] theorem State.onPcie_send : (s.onPcie f).send = s.send := rfl
@[simp] theorem State.onPcie_lk : (s.onPcie f).lk = s.lk := rfl
@[simp] theorem State.onPcie_board : (s.onPcie f).board = s.board := rfl
end onPcie

/-! ### lead -/
section lead
variable (s : State) (r : Nat)
@[simp] theorem State.lead_now : (s.lead r).now = s.now := rfl
@[simp] theorem State.lead_pending : (s.lead r).pending = s.pending := rfl
@[simp] theorem State.lead_free : (s.lead r).free = s.free := rfl
@[simp] theorem State.lead_regs : (s.lead r).regs = s.regs := rfl
@[simp] theorem State.lead_comp : (s.lead r).comp = s.comp := rfl
@[simp] theorem State.lead_deal : (s.lead r).deal = s.deal := rfl
@[simp] theorem State.lead_fab : (s.lead r).fab = s.fab := rfl
@[simp] theorem State.lead_dir : (s.lead r).dir = s.dir := rfl
@[simp] theorem State.lead_links : (s.lead r).links = s.links := rfl
@[simp] theorem State.lead_rt : (s.lead r).rt = s.rt := rfl
@[simp] theorem State.lead_egr : (s.lead r).egr = s.egr := rfl
@[simp] theorem State.lead_groupMap : (s.lead r).groupMap = s.groupMap := rfl
@[simp] theorem State.lead_pols : (s.lead r).pols = s.pols := rfl
@[simp] theorem State.lead_arbs : (s.lead r).arbs = s.arbs := rfl
@[simp] theorem State.lead_arbSel : (s.lead r).arbSel = s.arbSel := rfl
@[simp] theorem State.lead_mem : (s.lead r).mem = s.mem := rfl
@[simp] theorem State.lead_ptns : (s.lead r).ptns = s.ptns := rfl
@[simp] theorem State.lead_exts : (s.lead r).exts = s.exts := rfl
@[simp] theorem State.lead_freed : (s.lead r).freed = s.freed := rfl
@[simp] theorem State.lead_mbx : (s.lead r).mbx = s.mbx := rfl
@[simp] theorem State.lead_chk : (s.lead r).chk = s.chk := rfl
@[simp] theorem State.lead_cores : (s.lead r).cores = s.cores := rfl
@[simp] theorem State.lead_pcie : (s.lead r).pcie = s.pcie := rfl
@[simp] theorem State.lead_sec : (s.lead r).sec = s.sec := rfl
@[simp] theorem State.lead_nor : (s.lead r).nor = s.nor := rfl
@[simp] theorem State.lead_wear : (s.lead r).wear = s.wear := rfl
@[simp] theorem State.lead_diag : (s.lead r).diag = s.diag := rfl
@[simp] theorem State.lead_prt : (s.lead r).prt = s.prt := rfl
@[simp] theorem State.lead_mtr : (s.lead r).mtr = s.mtr := rfl
@[simp] theorem State.lead_send : (s.lead r).send = s.send := rfl
@[simp] theorem State.lead_board : (s.lead r).board = s.board := rfl
end lead

/-! ### complete -/
section complete
variable (s : State) (op obj st : Nat) (b : List Byte)
@[simp] theorem State.complete_now : (s.complete op obj st b).now = s.now := rfl
@[simp] theorem State.complete_pending : (s.complete op obj st b).pending = s.pending := rfl
@[simp] theorem State.complete_free : (s.complete op obj st b).free = s.free := rfl
@[simp] theorem State.complete_regs : (s.complete op obj st b).regs = s.regs := rfl
@[simp] theorem State.complete_comp : (s.complete op obj st b).comp = s.comp := rfl
@[simp] theorem State.complete_deal : (s.complete op obj st b).deal = s.deal := rfl
@[simp] theorem State.complete_fab : (s.complete op obj st b).fab = s.fab := rfl
@[simp] theorem State.complete_dir : (s.complete op obj st b).dir = s.dir := rfl
@[simp] theorem State.complete_links : (s.complete op obj st b).links = s.links := rfl
@[simp] theorem State.complete_rt : (s.complete op obj st b).rt = s.rt := rfl
@[simp] theorem State.complete_egr : (s.complete op obj st b).egr = s.egr := rfl
@[simp] theorem State.complete_groupMap : (s.complete op obj st b).groupMap = s.groupMap := rfl
@[simp] theorem State.complete_pols : (s.complete op obj st b).pols = s.pols := rfl
@[simp] theorem State.complete_arbs : (s.complete op obj st b).arbs = s.arbs := rfl
@[simp] theorem State.complete_arbSel : (s.complete op obj st b).arbSel = s.arbSel := rfl
@[simp] theorem State.complete_mem : (s.complete op obj st b).mem = s.mem := rfl
@[simp] theorem State.complete_ptns : (s.complete op obj st b).ptns = s.ptns := rfl
@[simp] theorem State.complete_exts : (s.complete op obj st b).exts = s.exts := rfl
@[simp] theorem State.complete_freed : (s.complete op obj st b).freed = s.freed := rfl
@[simp] theorem State.complete_chk : (s.complete op obj st b).chk = s.chk := rfl
@[simp] theorem State.complete_cores : (s.complete op obj st b).cores = s.cores := rfl
@[simp] theorem State.complete_pcie : (s.complete op obj st b).pcie = s.pcie := rfl
@[simp] theorem State.complete_sec : (s.complete op obj st b).sec = s.sec := rfl
@[simp] theorem State.complete_nor : (s.complete op obj st b).nor = s.nor := rfl
@[simp] theorem State.complete_wear : (s.complete op obj st b).wear = s.wear := rfl
@[simp] theorem State.complete_diag : (s.complete op obj st b).diag = s.diag := rfl
@[simp] theorem State.complete_prt : (s.complete op obj st b).prt = s.prt := rfl
@[simp] theorem State.complete_mtr : (s.complete op obj st b).mtr = s.mtr := rfl
@[simp] theorem State.complete_send : (s.complete op obj st b).send = s.send := rfl
@[simp] theorem State.complete_lk : (s.complete op obj st b).lk = s.lk := rfl
@[simp] theorem State.complete_board : (s.complete op obj st b).board = s.board := rfl
end complete

/-! ### wearOut -/
section wearOut
variable (s : State) (e : WearEnt) (x : Option Nat)
@[simp] theorem State.wearOut_now : (s.wearOut e x).now = s.now := rfl
@[simp] theorem State.wearOut_pending : (s.wearOut e x).pending = s.pending := rfl
@[simp] theorem State.wearOut_free : (s.wearOut e x).free = s.free := rfl
@[simp] theorem State.wearOut_regs : (s.wearOut e x).regs = s.regs := rfl
@[simp] theorem State.wearOut_comp : (s.wearOut e x).comp = s.comp := rfl
@[simp] theorem State.wearOut_deal : (s.wearOut e x).deal = s.deal := rfl
@[simp] theorem State.wearOut_fab : (s.wearOut e x).fab = s.fab := rfl
@[simp] theorem State.wearOut_dir : (s.wearOut e x).dir = s.dir := rfl
@[simp] theorem State.wearOut_links : (s.wearOut e x).links = s.links := rfl
@[simp] theorem State.wearOut_rt : (s.wearOut e x).rt = s.rt := rfl
@[simp] theorem State.wearOut_egr : (s.wearOut e x).egr = s.egr := rfl
@[simp] theorem State.wearOut_groupMap : (s.wearOut e x).groupMap = s.groupMap := rfl
@[simp] theorem State.wearOut_pols : (s.wearOut e x).pols = s.pols := rfl
@[simp] theorem State.wearOut_arbs : (s.wearOut e x).arbs = s.arbs := rfl
@[simp] theorem State.wearOut_arbSel : (s.wearOut e x).arbSel = s.arbSel := rfl
@[simp] theorem State.wearOut_mem : (s.wearOut e x).mem = s.mem := rfl
@[simp] theorem State.wearOut_ptns : (s.wearOut e x).ptns = s.ptns := rfl
@[simp] theorem State.wearOut_exts : (s.wearOut e x).exts = s.exts := rfl
@[simp] theorem State.wearOut_freed : (s.wearOut e x).freed = s.freed := rfl
@[simp] theorem State.wearOut_mbx : (s.wearOut e x).mbx = s.mbx := rfl
@[simp] theorem State.wearOut_chk : (s.wearOut e x).chk = s.chk := rfl
@[simp] theorem State.wearOut_cores : (s.wearOut e x).cores = s.cores := rfl
@[simp] theorem State.wearOut_pcie : (s.wearOut e x).pcie = s.pcie := rfl
@[simp] theorem State.wearOut_sec : (s.wearOut e x).sec = s.sec := rfl
@[simp] theorem State.wearOut_nor : (s.wearOut e x).nor = s.nor := rfl
@[simp] theorem State.wearOut_diag : (s.wearOut e x).diag = s.diag := rfl
@[simp] theorem State.wearOut_prt : (s.wearOut e x).prt = s.prt := rfl
@[simp] theorem State.wearOut_mtr : (s.wearOut e x).mtr = s.mtr := rfl
@[simp] theorem State.wearOut_send : (s.wearOut e x).send = s.send := rfl
@[simp] theorem State.wearOut_lk : (s.wearOut e x).lk = s.lk := rfl
@[simp] theorem State.wearOut_board : (s.wearOut e x).board = s.board := rfl
end wearOut

end Sys2Proof.Machine
end

