-- ==== Sys2Proof/Laws/Tab.lean ====
section
/-! SUPPORT. What reading a sparse table gives after each change of it, and that each change keeps the keys rising. -/
namespace Sys2Proof.Machine

variable {α : Type}

@[simp] theorem Tab.get?_nil (k : Nat) : Tab.get? ([] : Tab α) k = none := rfl
@[simp] theorem Tab.getD_nil (k : Nat) (d : α) : Tab.getD [] k d = d := rfl

theorem Tab.get?_put (t : Tab α) (k : Nat) (v : α) (j : Nat) :
    Tab.get? (Tab.put t k v) j = if j = k then some v else Tab.get? t j := by
  induction t with
  | nil => simp [Tab.put, Tab.get?]
  | cons e t ih =>
    obtain ⟨a, b⟩ := e
    simp only [Tab.put]
    split
    · simp [Tab.get?]
    · split
      · subst k; simp only [Tab.get?]; split <;> rfl
      · simp only [Tab.get?, ih]
        by_cases hj : j = a
        · subst j; simp [*]; omega
        · simp [hj]

@[simp] theorem Tab.get?_put_same (t : Tab α) (k : Nat) (v : α) : Tab.get? (Tab.put t k v) k = some v := by
  simp [Tab.get?_put]
theorem Tab.get?_put_other (t : Tab α) {j k : Nat} (v : α) (h : j ≠ k) : Tab.get? (Tab.put t k v) j = Tab.get? t j := by
  simp [Tab.get?_put, h]

theorem Tab.get?_del_other (t : Tab α) {j k : Nat} (h : j ≠ k) : Tab.get? (Tab.del t k) j = Tab.get? t j := by
  induction t with
  | nil => rfl
  | cons e t ih =>
    obtain ⟨a, b⟩ := e
    simp only [Tab.del]
    split
    · subst k; simp [Tab.get?, h]
    · simp only [Tab.get?, ih]

/-- Every key of a table is above `n`. -/
def Tab.above (n : Nat) (t : Tab α) : Prop := ∀ e ∈ t, n < e.1

theorem Tab.wf_cons (a : Nat) (b : α) (t : Tab α) : Tab.wf ((a, b) :: t) = true ↔ Tab.above a t ∧ Tab.wf t = true := by
  induction t generalizing a b with
  | nil => simp [Tab.wf, Tab.above]
  | cons e t ih =>
    obtain ⟨a', b'⟩ := e
    simp only [Tab.wf, Bool.and_eq_true, decide_eq_true_eq, Tab.above, List.mem_cons, forall_eq_or_imp]
    constructor
    · rintro ⟨h, w⟩
      exact ⟨⟨h, fun e he => Nat.lt_trans h (((ih a' b').mp w).1 e he)⟩, w⟩
    · rintro ⟨⟨h, -⟩, w⟩
      exact ⟨h, w⟩

theorem Tab.get?_above {t : Tab α} {n k : Nat} (h : Tab.above n t) (hk : k ≤ n) : Tab.get? t k = none := by
  induction t with
  | nil => rfl
  | cons e t ih =>
    have he := h e (by simp)
    simp only [Tab.get?]
    rw [if_neg (by omega)]
    exact ih fun x hx => h x (by simp [hx])

theorem Tab.get?_del_same {t : Tab α} (h : Tab.wf t = true) (k : Nat) : Tab.get? (Tab.del t k) k = none := by
  induction t with
  | nil => rfl
  | cons e t ih =>
    obtain ⟨a, b⟩ := e
    obtain ⟨ha, hw⟩ := (Tab.wf_cons a b t).mp h
    simp only [Tab.del]
    split
    · subst k; exact Tab.get?_above ha (Nat.le_refl _)
    · rename_i hk; simp [Tab.get?, hk, ih hw]

theorem Tab.mem_put {t : Tab α} {k : Nat} {v : α} {e : Nat × α} (h : e ∈ Tab.put t k v) : e = (k, v) ∨ e ∈ t := by
  induction t with
  | nil => simpa [Tab.put] using h
  | cons x t ih =>
    obtain ⟨a, b⟩ := x
    simp only [Tab.put] at h
    split at h
    · simpa using h
    · split at h
      · simp only [List.mem_cons] at h ⊢; rcases h with h | h <;> simp [h]
      · simp only [List.mem_cons] at h ⊢
        rcases h with h | h
        · simp [h]
        · rcases ih h with h | h <;> simp [h]

theorem Tab.mem_del {t : Tab α} {k : Nat} {e : Nat × α} (h : e ∈ Tab.del t k) : e ∈ t := by
  induction t with
  | nil => simp [Tab.del] at h
  | cons x t ih =>
    obtain ⟨a, b⟩ := x
    simp only [Tab.del] at h
    split at h
    · simp [h]
    · simp only [List.mem_cons] at h ⊢; rcases h with h | h
      · simp [h]
      · simp [ih h]

theorem Tab.wf_put {t : Tab α} (h : Tab.wf t = true) (k : Nat) (v : α) : Tab.wf (Tab.put t k v) = true := by
  induction t with
  | nil => rfl
  | cons e t ih =>
    obtain ⟨a, b⟩ := e
    obtain ⟨ha, hw⟩ := (Tab.wf_cons a b t).mp h
    simp only [Tab.put]
    split
    · rename_i hk; simp [Tab.wf, hk]; exact h
    · split
      · subst k; exact (Tab.wf_cons a v t).mpr ⟨ha, hw⟩
      · refine (Tab.wf_cons _ _ _).mpr ⟨fun e he => ?_, ih hw⟩
        rcases Tab.mem_put he with rfl | he
        · simp; omega
        · exact ha e he

theorem Tab.wf_del {t : Tab α} (h : Tab.wf t = true) (k : Nat) : Tab.wf (Tab.del t k) = true := by
  induction t with
  | nil => rfl
  | cons e t ih =>
    obtain ⟨a, b⟩ := e
    obtain ⟨ha, hw⟩ := (Tab.wf_cons a b t).mp h
    simp only [Tab.del]
    split
    · exact hw
    · exact (Tab.wf_cons _ _ _).mpr ⟨fun e he => ha e (Tab.mem_del he), ih hw⟩

variable [DecidableEq α]

theorem Tab.wf_set {d : α} {t : Tab α} (h : Tab.wf t = true) (k : Nat) (v : α) : Tab.wf (Tab.set d t k v) = true := by
  unfold Tab.set; split
  · exact Tab.wf_del h k
  · exact Tab.wf_put h k v

/-- Writing an entry other than the default: it reads back, whatever the table. -/
theorem Tab.getD_set_ne {d : α} (t : Tab α) (k : Nat) {v : α} (h : v ≠ d) : Tab.getD (Tab.set d t k v) k d = v := by
  simp [Tab.set, h, Tab.getD]
/-- Writing any entry of a table in form: it reads back. -/
theorem Tab.getD_set_same {d : α} {t : Tab α} (h : Tab.wf t = true) (k : Nat) (v : α) :
    Tab.getD (Tab.set d t k v) k d = v := by
  unfold Tab.set; split
  · rename_i e; simp [Tab.getD, Tab.get?_del_same h, e]
  · simp [Tab.getD]
/-- Writing one entry leaves every other as it reads. -/
theorem Tab.getD_set_other {d : α} (t : Tab α) {j k : Nat} (v : α) (h : j ≠ k) (d' : α) :
    Tab.getD (Tab.set d t k v) j d' = Tab.getD t j d' := by
  unfold Tab.set Tab.getD; split
  · rw [Tab.get?_del_other t h]
  · rw [Tab.get?_put_other t v h]

end Sys2Proof.Machine
end

