-- ==== Sys2Proof/Laws/Issue.lean ====
section
/-! SUPPORT. What issuing a tile instruction word can do: one lemma per outcome, for the words of every class. -/
namespace Sys2Proof.Machine

/-- The counters and lead events an issue leaves behind touch neither tiles nor anything but the senders and Lookout. -/
theorem OnlyCompute.count {s u : State} (h : OnlyCompute s u) (l q k n : Nat) : OnlyCompute s (u.count l q k n) := by
  unfold State.count; split
  · exact h
  · exact h
theorem OnlyCompute.lead {s u : State} (h : OnlyCompute s u) (r : Nat) : OnlyCompute s (u.lead r) := h
@[simp] theorem State.count_comp (s : State) (l q k n : Nat) : (s.count l q k n).comp = s.comp := by
  unfold State.count; split <;> rfl
theorem OnlyCompute.countOps {s u : State} (h : OnlyCompute s u) (g q a w n : Nat) : OnlyCompute s (u.countOps g q a w n) :=
  OnlyCompute.count h _ _ _ _
@[simp] theorem State.countOps_comp (s : State) (g q a w n : Nat) : (s.countOps g q a w n).comp = s.comp :=
  State.count_comp _ _ _ _ _

/-- What `issued` does with a result that is no fault. -/
theorem issued_ok (s : State) (g t cls func : Nat) (w : TileWord) (c : Comp) :
    (s.issued g t cls func w (c, none)).comp = c ∧ OnlyCompute s (s.issued g t cls func w (c, none)) := by
  unfold State.issued
  dsimp only
  have h0 : OnlyCompute s { s with comp := c } := rfl
  constructor
  · split <;> split <;> simp
  · split <;> split
    all_goals
      first
      | exact OnlyCompute.lead (OnlyCompute.count (OnlyCompute.countOps h0 ..) ..) _
      | exact OnlyCompute.lead (OnlyCompute.countOps h0 ..) _
      | exact OnlyCompute.count (OnlyCompute.countOps h0 ..) ..
      | exact OnlyCompute.countOps h0 ..

/-- What `issued` does with a tile fault. -/
theorem issued_fault (s : State) (g t cls func : Nat) (w : TileWord) (c : Comp) (f : TileFault) :
    s.issued g t cls func w (c, some f) =
      { s with comp := c }.onTile (s.comp.key g t) fun x => { x with report := some f, faultAt := s.now } :=
  rfl

/-- A ready tile whose effect answers a tile and a cluster. -/
theorem issueRaw_ok {s : State} {g : Clu} {t : Til} {cls func : Nat} {w : TileWord} (h : TileReady s g t cls func w)
    {k : TileFn} {y : Tile} {z : Cluster} (hk : k (s.comp.tile g t) (s.comp.clu g) = .ok (y, z)) :
    (s.issueRaw g t cls func w k).comp = (s.comp.setClu g z).setTile g t y ∧ OnlyCompute s (s.issueRaw g t cls func w k) := by
  obtain ⟨h1, h2, h3, h4, h5⟩ := h
  have : s.comp.issueRaw g t cls func w k = ((s.comp.setClu g z).setTile g t y, none) := by
    simp [Comp.issueRaw, h1, h2, h3, h4, h5, hk]
  unfold State.issueRaw
  rw [this]
  exact issued_ok ..

theorem issue_ok {s : State} {g : Clu} {t : Til} {cls func : Nat} {w : TileWord} (h : TileReady s g t cls func w)
    {k : TileFn} {y : Tile} {z : Cluster} (hk : k (s.comp.tile g t) (s.comp.clu g) = .ok (y, z)) :
    (s.issue g t cls func w k).comp = (s.comp.setClu g z).setTile g t y.next ∧ OnlyCompute s (s.issue g t cls func w k) :=
  issueRaw_ok h (k := andNext k) (by simp [andNext, hk])

/-- A ready tile whose effect is a tile fault. -/
theorem issueRaw_fault {s : State} {g : Clu} {t : Til} {cls func : Nat} {w : TileWord} (h : TileReady s g t cls func w)
    {k : TileFn} {f : TileFault} (hk : k (s.comp.tile g t) (s.comp.clu g) = .error f) (hc : f.code ≠ 0) :
    OnlyCompute s (s.issueRaw g t cls func w k) ∧ (s.issueRaw g t cls func w k).tile (s.comp.key g t) =
      { (s.comp.tile g t).faulted (wordOf cls func w) f with report := some f, faultAt := s.now } := by
  obtain ⟨h1, h2, h3, h4, h5⟩ := h
  have : s.comp.issueRaw g t cls func w k = (s.comp.setTile g t ((s.comp.tile g t).faulted (wordOf cls func w) f), some f) := by
    simp [Comp.issueRaw, h1, h2, h3, h4, h5, hk, hc]
  unfold State.issueRaw
  rw [this, issued_fault]
  refine ⟨rfl, ?_⟩
  have hne : ∀ x : Tile, x.faulted (wordOf cls func w) f ≠ {} := fun x h => by
    have := congrArg Tile.st h; simp [Tile.faulted] at this
  have hne' : ∀ x : Tile, ({ x.faulted (wordOf cls func w) f with report := some f, faultAt := s.now } : Tile) ≠ {} :=
    fun x h => by have := congrArg Tile.st h; simp [Tile.faulted] at this
  simp only [State.onTile, State.tile, Comp.setTile, Tab.getD_set_ne _ _ (hne _), Tab.getD_set_ne _ _ (hne' _)]

theorem issue_fault {s : State} {g : Clu} {t : Til} {cls func : Nat} {w : TileWord} (h : TileReady s g t cls func w)
    {k : TileFn} {f : TileFault} (hk : k (s.comp.tile g t) (s.comp.clu g) = .error f) (hc : f.code ≠ 0) :
    OnlyCompute s (s.issue g t cls func w k) ∧ (s.issue g t cls func w k).tile (s.comp.key g t) =
      { (s.comp.tile g t).faulted (wordOf cls func w) f with report := some f, faultAt := s.now } :=
  issueRaw_fault h (k := andNext k) (by simp [andNext, hk]) hc

theorem tileDoes {i : Instr} {cls func : Nat} {s : State} {g : Clu} {t : Til} {w : TileWord} {k : TileFn} {y : Tile}
    {z : Cluster} (hi : exec i s = .next (s.issue g t cls func w k))
    (hk : k (s.comp.tile g t) (s.comp.clu g) = .ok (y, z)) : TileDoes i cls func s g t w y z :=
  fun h => ⟨_, hi, issue_ok h hk⟩
theorem tileFaults {i : Instr} {cls func : Nat} {s : State} {g : Clu} {t : Til} {w : TileWord} {k : TileFn} {f : TileFault}
    (hi : exec i s = .next (s.issue g t cls func w k)) (hk : k (s.comp.tile g t) (s.comp.clu g) = .error f)
    (hc : f.code ≠ 0) : TileFaults i cls func s g t w f :=
  fun h => ⟨_, hi, issue_fault h hk hc⟩

end Sys2Proof.Machine
end

