-- ==== Sys2Proof/Laws/Memory.lean ====
section
/-! SUPPORT. The canonical form of memories: every operation keeps it; what a byte reads as after a write. -/
namespace Sys2Proof.Machine

/-- The canonical form, unfolded: the addresses after the first are above it, and no entry is an unlisted byte. -/
theorem Mem.wf_cons (d : Nat → Byte) (a : Nat) (b : Byte) (m : Mem) :
    Mem.wf d ((a, b) :: m) = true ↔ b ≠ d a ∧ (∀ e ∈ m, a < e.1) ∧ Mem.wf d m = true := by
  induction m generalizing a b with
  | nil => simp [Mem.wf]
  | cons e m ih =>
    obtain ⟨a', b'⟩ := e
    simp only [Mem.wf, Bool.and_eq_true, decide_eq_true_eq, List.mem_cons, forall_eq_or_imp]
    constructor
    · rintro ⟨⟨h, hb⟩, w⟩
      exact ⟨hb, ⟨h, fun e he => Nat.lt_trans h (((ih a' b').mp w).2.1 e he)⟩, w⟩
    · rintro ⟨hb, ⟨h, -⟩, w⟩
      exact ⟨⟨h, hb⟩, w⟩

theorem Mem.wf_nil (d : Nat → Byte) : Mem.wf d [] = true := rfl

/-- Appending memories in form whose addresses do not interleave. -/
theorem Mem.wf_append {d : Nat → Byte} {m n : Mem} (hm : Mem.wf d m = true) (hn : Mem.wf d n = true)
    (h : ∀ x ∈ m, ∀ y ∈ n, x.1 < y.1) : Mem.wf d (m ++ n) = true := by
  induction m with
  | nil => exact hn
  | cons e m ih =>
    obtain ⟨a, b⟩ := e
    obtain ⟨hb, ha, hw⟩ := (Mem.wf_cons d a b m).mp hm
    refine (Mem.wf_cons d a b _).mpr ⟨hb, fun e he => ?_, ih hw fun x hx y hy => h x (by simp [hx]) y hy⟩
    rcases List.mem_append.mp he with he | he
    · exact ha e he
    · exact h (a, b) (by simp) e he

theorem Mem.wf_below {d : Nat → Byte} {m : Mem} (h : Mem.wf d m = true) (a : Nat) : Mem.wf d (Mem.below m a) = true := by
  induction m with
  | nil => rfl
  | cons e m ih =>
    obtain ⟨k, v⟩ := e
    obtain ⟨hb, ha, hw⟩ := (Mem.wf_cons d k v m).mp h
    unfold Mem.below at *
    rw [List.takeWhile_cons]
    split
    · exact (Mem.wf_cons _ _ _ _).mpr ⟨hb, fun e he => ha e (List.takeWhile_subset _ he), ih hw⟩
    · rfl

theorem Mem.below_lt {m : Mem} {a : Nat} {e : Host.Cell} (h : e ∈ Mem.below m a) : e.1 < a := by
  induction m with
  | nil => simp [Mem.below] at h
  | cons x m ih =>
    unfold Mem.below at *
    rw [List.takeWhile_cons] at h
    split at h
    · rename_i hx
      rcases List.mem_cons.mp h with rfl | h
      · simpa using hx
      · exact ih h
    · simp at h

theorem Mem.wf_above {d : Nat → Byte} {m : Mem} (h : Mem.wf d m = true) (a : Nat) : Mem.wf d (Mem.above m a) = true := by
  induction m with
  | nil => rfl
  | cons e m ih =>
    obtain ⟨k, v⟩ := e
    obtain ⟨-, -, hw⟩ := (Mem.wf_cons d k v m).mp h
    unfold Mem.above at *
    rw [List.dropWhile_cons]
    split
    · exact ih hw
    · exact h

theorem Mem.above_ge {d : Nat → Byte} {m : Mem} (h : Mem.wf d m = true) {a : Nat} {e : Host.Cell}
    (he : e ∈ Mem.above m a) : a ≤ e.1 := by
  induction m with
  | nil => simp [Mem.above] at he
  | cons x m ih =>
    obtain ⟨k, v⟩ := x
    obtain ⟨-, ha, hw⟩ := (Mem.wf_cons d k v m).mp h
    unfold Mem.above at *
    rw [List.dropWhile_cons] at he
    split at he
    · exact ih hw he
    · rename_i hk
      simp only [decide_eq_true_eq] at hk
      rcases List.mem_cons.mp he with rfl | he
      · simp; omega
      · have := ha e he; omega

theorem Mem.cells_bounds (d : Nat → Byte) (bs : List Byte) (a : Nat) :
    ∀ e ∈ Mem.cells d a bs, a ≤ e.1 ∧ e.1 < a + bs.length := by
  induction bs generalizing a with
  | nil => simp [Mem.cells]
  | cons b bs ih =>
    intro e he
    simp only [Mem.cells] at he
    split at he
    · have := ih (a + 1) e he; simp only [List.length_cons]; omega
    · rcases List.mem_cons.mp he with rfl | he
      · simp
      · have := ih (a + 1) e he; simp only [List.length_cons]; omega

theorem Mem.wf_cells (d : Nat → Byte) (bs : List Byte) (a : Nat) : Mem.wf d (Mem.cells d a bs) = true := by
  induction bs generalizing a with
  | nil => rfl
  | cons b bs ih =>
    simp only [Mem.cells]
    split
    · exact ih (a + 1)
    · rename_i hb
      exact (Mem.wf_cons _ _ _ _).mpr ⟨hb, fun e he => by have := Mem.cells_bounds d bs (a + 1) e he; omega, ih (a + 1)⟩

/-- Writing keeps the canonical form. -/
theorem Mem.wf_writes {d : Nat → Byte} {m : Mem} (h : Mem.wf d m = true) (a : Nat) (bs : List Byte) :
    Mem.wf d (Mem.writes d m a bs) = true := by
  unfold Mem.writes
  refine Mem.wf_append (Mem.wf_below h a) (Mem.wf_append (Mem.wf_cells d bs a) (Mem.wf_above h _) ?_) ?_
  · intro x hx y hy
    have := Mem.cells_bounds d bs a x hx; have := Mem.above_ge h hy; omega
  · intro x hx y hy
    have hx := Mem.below_lt hx
    rcases List.mem_append.mp hy with hy | hy
    · have := Mem.cells_bounds d bs a y hy; omega
    · have := Mem.above_ge h hy; omega
theorem Mem.wf_write {d : Nat → Byte} {m : Mem} (h : Mem.wf d m = true) (a : Nat) (b : Byte) :
    Mem.wf d (Mem.write d m a b) = true := Mem.wf_writes h a [b]
/-- Forgetting a range keeps the canonical form. -/
theorem Mem.wf_clear {d : Nat → Byte} {m : Mem} (h : Mem.wf d m = true) (a n : Nat) :
    Mem.wf d (Mem.clear m a n) = true := by
  refine Mem.wf_append (Mem.wf_below h a) (Mem.wf_above h _) fun x hx y hy => ?_
  have := Mem.below_lt hx; have := Mem.above_ge h hy; omega

/-! ### Reading a byte -/

/-- In a memory in form, the byte found at an address is the entry under it. -/
theorem Mem.find?_eq_some {d : Nat → Byte} {m : Mem} (h : Mem.wf d m = true) (a : Nat) (v : Byte) :
    Mem.find? m a = some v ↔ (a, v) ∈ m := by
  induction m with
  | nil => simp [Mem.find?]
  | cons e m ih =>
    obtain ⟨k, w⟩ := e
    obtain ⟨-, hk, hw⟩ := (Mem.wf_cons d k w m).mp h
    simp only [Mem.find?, List.mem_cons, Prod.mk.injEq]
    split
    · subst k
      constructor
      · rintro ⟨⟩; exact .inl ⟨rfl, rfl⟩
      · rintro (⟨-, rfl⟩ | hm)
        · rfl
        · have := hk _ hm; simp at this
    · rename_i hne
      split
      · rename_i hlt
        refine ⟨fun h => (by cases h), ?_⟩
        rintro (⟨h, -⟩ | hm)
        · exact absurd h hne
        · have := hk _ hm; simp at this; omega
      · rw [ih hw]; simp [hne]

/-- A byte that a memory in form lists differs from what its address reads as unlisted. -/
theorem Mem.listed_ne {d : Nat → Byte} {m : Mem} (h : Mem.wf d m = true) {a : Nat} {v : Byte} (hm : (a, v) ∈ m) : v ≠ d a := by
  induction m with
  | nil => simp at hm
  | cons e m ih =>
    obtain ⟨k, w⟩ := e
    obtain ⟨hb, -, hw⟩ := (Mem.wf_cons d k w m).mp h
    rcases List.mem_cons.mp hm with he | hm
    · cases he; exact hb
    · exact ih hw hm

theorem Mem.mem_below {d : Nat → Byte} {m : Mem} (h : Mem.wf d m = true) (a x : Nat) (v : Byte) :
    (x, v) ∈ Mem.below m a ↔ x < a ∧ (x, v) ∈ m := by
  refine ⟨fun hx => ⟨Mem.below_lt hx, List.takeWhile_subset _ hx⟩, ?_⟩
  rintro ⟨hx, hm⟩
  induction m with
  | nil => simp at hm
  | cons e m ih =>
    obtain ⟨k, w⟩ := e
    obtain ⟨-, hk, hw⟩ := (Mem.wf_cons d k w m).mp h
    unfold Mem.below at *
    rw [List.takeWhile_cons]
    have hka : k < a := by
      rcases List.mem_cons.mp hm with he | hm
      · cases he; exact hx
      · have := hk _ hm; simp at this; omega
    simp only [hka, decide_true, if_true]
    rcases List.mem_cons.mp hm with he | hm
    · simp [he]
    · exact List.mem_cons_of_mem _ (ih hw hm)

theorem Mem.mem_above {d : Nat → Byte} {m : Mem} (h : Mem.wf d m = true) (a x : Nat) (v : Byte) :
    (x, v) ∈ Mem.above m a ↔ a ≤ x ∧ (x, v) ∈ m := by
  refine ⟨fun hx => ⟨Mem.above_ge h hx, (List.dropWhile_sublist _).subset hx⟩, ?_⟩
  rintro ⟨hx, hm⟩
  induction m with
  | nil => simp at hm
  | cons e m ih =>
    obtain ⟨k, w⟩ := e
    obtain ⟨-, -, hw⟩ := (Mem.wf_cons d k w m).mp h
    unfold Mem.above at *
    rw [List.dropWhile_cons]
    split
    · rename_i hk
      rcases List.mem_cons.mp hm with he | hm
      · cases he; simp at hk; omega
      · exact ih hw hm
    · exact hm

theorem Mem.mem_cells (d : Nat → Byte) (bs : List Byte) (a x : Nat) (v : Byte) :
    (x, v) ∈ Mem.cells d a bs ↔ a ≤ x ∧ bs[x - a]? = some v ∧ v ≠ d x := by
  induction bs generalizing a with
  | nil => simp [Mem.cells]
  | cons b bs ih =>
    have tail : ∀ y, a + 1 ≤ y → (b :: bs)[y - a]? = bs[y - (a + 1)]? := by
      intro y hy
      have : y - a = (y - (a + 1)) + 1 := by omega
      rw [this]; rfl
    simp only [Mem.cells]
    split
    · rename_i hb
      rw [ih]
      constructor
      · rintro ⟨h1, h2, h3⟩; exact ⟨by omega, by rw [tail x h1]; exact h2, h3⟩
      · rintro ⟨h1, h2, h3⟩
        by_cases e : x = a
        · subst e; simp at h2; exact absurd (by rw [← h2, hb]) h3
        · exact ⟨by omega, by rw [← tail x (by omega)]; exact h2, h3⟩
    · rename_i hb
      rw [List.mem_cons, ih]
      constructor
      · rintro (h | ⟨h1, h2, h3⟩)
        · cases h; exact ⟨Nat.le_refl _, by simp, hb⟩
        · exact ⟨by omega, by rw [tail x h1]; exact h2, h3⟩
      · rintro ⟨h1, h2, h3⟩
        by_cases e : x = a
        · subst e; simp at h2; exact .inl (by rw [h2])
        · exact .inr ⟨by omega, by rw [← tail x (by omega)]; exact h2, h3⟩

theorem Mem.mem_writes {d : Nat → Byte} {m : Mem} (h : Mem.wf d m = true) (a : Nat) (bs : List Byte) (x : Nat) (v : Byte) :
    (x, v) ∈ Mem.writes d m a bs ↔ (if a ≤ x ∧ x < a + bs.length then bs[x - a]? = some v ∧ v ≠ d x else (x, v) ∈ m) := by
  unfold Mem.writes
  rw [List.mem_append, List.mem_append, Mem.mem_below h, Mem.mem_above h, Mem.mem_cells]
  split
  · rename_i hx
    constructor
    · rintro (h | h | h)
      · omega
      · exact h.2
      · omega
    · exact fun h => .inr (.inl ⟨hx.1, h⟩)
  · rename_i hx
    constructor
    · rintro (h | ⟨h1, h2, -⟩ | h)
      · exact h.2
      · have := (List.getElem?_eq_some_iff.mp h2).1; omega
      · exact h.2
    · intro h
      by_cases hl : x < a
      · exact .inl ⟨hl, h⟩
      · exact .inr (.inr ⟨by omega, h⟩)

/-- What a byte reads as after a write: the byte written there, else what it read as before. -/
theorem Mem.read_writes {d : Nat → Byte} {m : Mem} (h : Mem.wf d m = true) (a : Nat) (bs : List Byte) (x : Nat) :
    Mem.read d (Mem.writes d m a bs) x =
      if a ≤ x ∧ x < a + bs.length then (bs[x - a]?).getD 0#8 else Mem.read d m x := by
  have hw := Mem.wf_writes h a bs
  have key := fun v => (Mem.find?_eq_some hw x v).trans (Mem.mem_writes h a bs x v)
  unfold Mem.read
  cases hf : Mem.find? (Mem.writes d m a bs) x with
  | some v =>
    have := (key v).mp hf
    split
    · rename_i hx; rw [if_pos hx] at this; simp [this.1]
    · rename_i hx
      rw [if_neg hx] at this
      rw [(Mem.find?_eq_some h x v).mpr this]
  | none =>
    split
    · rename_i hx
      have hlt : x - a < bs.length := by omega
      have hg : bs[x - a]? = some bs[x - a] := List.getElem?_eq_getElem hlt
      rw [hg]
      by_cases hv : bs[x - a] = d x
      · simp [hv]
      · have := (key bs[x - a]).mpr (by rw [if_pos hx]; exact ⟨hg, hv⟩)
        rw [hf] at this; cases this
    · rename_i hx
      cases hm : Mem.find? m x with
      | none => rfl
      | some v =>
        have := (key v).mpr (by rw [if_neg hx]; exact (Mem.find?_eq_some h x v).mp hm)
        rw [hf] at this; cases this

/-- A byte of a range a write does not touch. -/
theorem Mem.read_writes_other {d : Nat → Byte} {m : Mem} (h : Mem.wf d m = true) {a : Nat} {bs : List Byte} {x : Nat}
    (hx : x < a ∨ a + bs.length ≤ x) : Mem.read d (Mem.writes d m a bs) x = Mem.read d m x := by
  rw [Mem.read_writes h, if_neg (by omega)]
theorem Mem.read_write_same {d : Nat → Byte} {m : Mem} (h : Mem.wf d m = true) (a : Nat) (b : Byte) :
    Mem.read d (Mem.write d m a b) a = b := by
  simp [Mem.write, Mem.read_writes h]

end Sys2Proof.Machine
end

