-- ==== Sys2Proof/Tests/Slice0.lean ====
section
/-! SUPPORT. Tests: ill-formed terms that the check refuses, states that meet the hypotheses of the statements, and a few
results with their source in the manual. -/
set_option exponentiation.threshold 500
set_option linter.unusedVariables false
set_option maxRecDepth 8000
namespace Sys2Proof.Tests
open Sys2Proof Sys2Proof.Machine

/-! ### Helpers -/

/-- A word without guard whose bits [49:0] are `b`. -/
def word (b : Nat) : TileWord := { pred := 0#3, pneg := false, body := BitVec.ofNat 50 b }
/-- Fields D, A, B, C, VL of the common layout (R164). -/
def op (d a b c vl : Nat) : TileWord := word (d * 2 ^ 44 + a * 2 ^ 38 + b * 2 ^ 32 + c * 2 ^ 26 + vl * 2 ^ 24)
/-- Tile 0 of cluster 0, as given, in a cluster as given. -/
def one (x : Tile) (c : Cluster := {}) : State := { comp := { tiles := [(0, x)], clus := [(0, c)] } }
/-- A running tile that holds no image limits. -/
def busy : Tile := { st := .running }
/-- A running tile with scratch and cluster store of 64 KiB and 1,024 scorecards. -/
def roomy : Tile := { st := .running, scratchBytes := 65536, csBytes := 65536, cards := 1024 }
/-- A mailbox that firmware has opened. -/
def open' (m : Nat) (b : Mailbox := { ready := true }) : State :=
  { mbx := [(m, b)], board := { phase := .ready } }

/-! ### Well-formedness: one ill-formed term for each check -/

def longPkt : Packet := { payload := List.replicate 63 0#8 }
def hdr : MbxHdr := { mbx := 0, alive := 1#16, reqId := 7#32 }
theorem test_wf_packet : (Instr.put 0 0 longPkt).wellFormed = false := by decide
theorem test_wf_packet_ok : (Instr.put 0 0 {}).wellFormed = true := by decide
theorem test_wf_group : (Instr.flitGroupReceive 0 [] ⟨0, 0, 0, 0, 0, 0, 0⟩ ⟨0, 0, []⟩).wellFormed = false := by decide
theorem test_wf_grant_repeat : (Instr.arbiterGrant 0 0 [1, 1] []).wellFormed = false := by decide
theorem test_wf_grant_eligible : (Instr.arbiterGrant 0 0 [1] [2]).wellFormed = false := by decide
theorem test_wf_row : (Instr.hbmColumnRead 0 0 49156#16 0 []).wellFormed = false := by decide
theorem test_wf_symbols : (Instr.hbmColumnRead 0 0 0 0 [(3, 1), (3, 2)]).wellFormed = false := by decide
theorem test_wf_boot : (Instr.hbmBootTrainingDone [0, 384]).wellFormed = false := by decide
theorem test_wf_sensors : (Instr.sensorRead [0#8]).wellFormed = false := by decide
theorem test_wf_telemetry : (Instr.telemetryRead (List.replicate 17 none)).wellFormed = false := by decide
theorem test_wf_acl : (Instr.extSetAcl hdr 0 (List.replicate 65 ⟨0, 0⟩)).wellFormed = false := by decide
theorem test_wf_slots : (Instr.schSlotWrite hdr 0 []).wellFormed = false := by decide
theorem test_wf_flash : (Instr.flashBusTrainingDone 0 [] [] [] []).wellFormed = false := by decide
theorem test_wf_signature : (Instr.secSign hdr 0 0 []).wellFormed = false := by decide

/-! ### The queue and reset -/

theorem test_idle_step : step State.reset = .next { State.reset with now := 50 } := by rfl
theorem test_front : step { State.reset with pending := [.chkInit 3] } = exec (.chkInit 3) State.reset := by rfl
/-- The worked example of the mailbox chapter's frame: SEQ and MBX_OWN after reset. -/
theorem test_canonical : Mem.wf dramByte State.reset.mem.dram = true := by decide

/-! ### Tiles: states that meet the conditions -/

/-- A legal word of a row. -/
def wordFor (cls func : Nat) : TileWord :=
  match cls, func with
  | 2, 0x20 => op 0 32 0 0 0
  | 2, 0x21 => op 0 32 0 0 0
  | 2, 0x22 => op 0 32 0 0 3
  | 2, 0x23 => op 0 32 0 0 3
  | 4, _ => op 32 32 0 0 0
  | 6, 7 => op 41 0 0 0 0
  | 6, 8 => op 41 0 0 0 0
  | 7, 1 => word (2 ^ 14)
  | _, _ => word 0
theorem test_every_row_ready : ∀ r ∈ tileRows, TileReady (one busy) 0 0 r.2.1 r.2.2 (wordFor r.2.1 r.2.2) := by
  unfold TileReady; decide
theorem wit_float : (∀ c ∈ [0, 5], TileReady (one busy) 0 0 2 5 (op 0 0 0 c 0) ∧ vC (op 0 0 0 c 0) ≤ 5) ∧
    TileReady (one busy) 0 0 2 5 (op 0 0 0 6 0) ∧ 5 < vC (op 0 0 0 6 0) := by unfold TileReady; decide
theorem wit_half : (∀ c ∈ [0x10, 0x11], vC (op 0 0 0 c 1) = c ∧ (fmtOf c).isSome = true ∧
    TileReady (one busy) 0 0 2 6 (op 0 0 0 c 1) ∧ TileReady (one busy) 0 0 2 7 (op 0 0 0 c 1)) ∧
    TileReady (one busy) 0 0 2 6 (op 0 0 0 0x12 0) ∧ TileReady (one busy) 0 0 2 7 (op 0 0 0 0x12 0) ∧
    vC (op 0 0 0 0x12 0) = 0x12 := by unfold TileReady; decide
theorem wit_integer : (∀ f ∈ [0x10, 0x1A, 0x1B, 0x1D], ∀ vl ∈ [0, 1, 2], vVL (op 0 0 0 5 vl) ≠ 3 ∧
      TileReady (one busy) 0 0 2 f (op 0 0 0 5 vl)) ∧
    (∀ f ∈ [0x10, 0x1A, 0x1D], vVL (op 39 51 47 0 3) = 3 ∧ TileReady (one busy) 0 0 2 f (op 39 51 47 0 3)) ∧
    (∀ c ∈ [0, 5, 6], TileReady (one busy) 0 0 2 0x1B (op 47 0 0 c 3) ∧ vC (op 47 0 0 c 3) = c) := by
  unfold TileReady; decide
theorem wit_registers : Tab.wf busy.s = true ∧ Tab.wf busy.a = true := by decide
theorem wit_memory_clauses :
    (memAddr busy (op 0 32 0 0 0) 64 % 64 = 0 ∧ memAddr busy (op 0 32 0 0 3) 8 % 8 = 0) ∧
    (let x := { busy with a := [(0, 1#32)] }
     memAddr x (op 0 32 0 0 0) 64 % 64 ≠ 0 ∧ memAddr x (op 0 32 0 0 3) 8 % 8 ≠ 0 ∧
     TileReady (one x) 0 0 2 0x20 (op 0 32 0 0 0) ∧ TileReady (one x) 0 0 2 0x23 (op 0 32 0 0 3)) := by
  unfold TileReady; decide
theorem wit_loads : ∃ l, tread roomy {} 65280 256 = .ok l := ⟨_, rfl⟩
theorem wit_stores : ∃ y z, twrite roomy {} 0x400000 (le 8 5) = .ok (y, z) := ⟨_, _, rfl⟩
/-- The four ranges of the tile memory map, at their last bytes. -/
theorem wit_memory_map : roomy.scratchBytes ≤ 0x1FF000 ∧ Mem.wf zeroByte roomy.scratch = true ∧ 65535 + 1 ≤ roomy.scratchBytes ∧
    ¬(65535 + 2 ≤ roomy.scratchBytes) ∧ (0x1FF000 ≤ 0x1FFFFF ∧ 0x1FFFFF + 1 ≤ 0x200000) ∧
    (0x400000 ≤ 0x40FFFF ∧ 0x40FFFF + 1 ≤ 0x400000 + roomy.csBytes) := by decide
def topkTile (n k : Nat) : Tile :=
  { roomy with s := [(1, BitVec.ofNat 64 n), (2, BitVec.ofNat 64 k)], a := [(1, 0x400000#32)] }
theorem wit_topk :
    (∀ p ∈ [(1, 1), (4096, 16), (0, 1), (4097, 1), (16, 17), (20, 0), (3, 4)],
      ((topkTile p.1 p.2).sreg (vB (op 33 32 1 2 0))).toNat = p.1 ∧ ((topkTile p.1 p.2).sreg (vC (op 33 32 1 2 0))).toNat = p.2 ∧
      ∀ f ∈ [0, 1], TileReady (one (topkTile p.1 p.2)) 0 0 4 f (op 33 32 1 2 0)) ∧
    (fmtOf 0x10).isSome = true := by unfold TileReady; decide
theorem wit_topk_memory : (∃ l, tread (topkTile 2 1) {} 0 8 = .ok l) ∧ (∃ l, tread (topkTile 2 1) {} 0 4 = .ok l) ∧
    ∃ y z, twrite (topkTile 2 1) {} 0x400000 (zeros 8) = .ok (y, z) := ⟨⟨_, rfl⟩, ⟨_, rfl⟩, _, _, rfl⟩
theorem wit_topk_order : 2 ≤ [FVal.inf false, .inf true, .nan].length := by decide
/-- The last row, and one row past it. -/
def rowsTo128 : TileWord := word (120 * 2 ^ 24 + 7 * 2 ^ 17)
def rowsTo129 : TileWord := word (120 * 2 ^ 24 + 8 * 2 ^ 17)
theorem wit_windows : mRow rowsTo128 + mRows rowsTo128 = 128 ∧ mRow rowsTo129 + mRows rowsTo129 = 129 ∧
    (∀ f ∈ [1, 2, 3, 4, 5, 6], TileReady (one roomy) 0 0 1 f rowsTo128 ∧ TileReady (one roomy) 0 0 1 f rowsTo129) ∧
    Tab.wf roomy.win = true ∧ (roomy.areg (mX rowsTo128)).toNat % 16 = 0 ∧
    (({ roomy with a := [(0, 8#32)] } : Tile).areg (mX rowsTo128)).toNat % 16 ≠ 0 := by unfold TileReady; decide
theorem wit_setfmt : ∃ l, tread roomy {} 0 16 = .ok l := ⟨_, rfl⟩
set_option maxRecDepth 60000 in
theorem wit_spill : ∃ y z, spillRows (word 0) (mRows (word 0)) 0 roomy {} = .ok (y, z) := ⟨_, _, rfl⟩
set_option maxRecDepth 60000 in
theorem wit_restore : ∃ y, restRows (word 0) (mRows (word 0)) 0 roomy {} = .ok y := ⟨_, rfl⟩
theorem wit_record : ∃ x : Window, -32768 ≤ x.emax ∧ x.emax < 32768 ∧ -32768 ≤ x.emin ∧ x.emin < 32768 ∧ x.n ≤ 65537 :=
  ⟨{}, by decide⟩
/-- A weight tile of 128 empty columns, and the tile that holds it as CURRENT or STANDBY. -/
def wt0 : WTile := { fmt := 8, sparsity := 0, k := 128, cols := [], scales := [] }
def int4 : Settings := { aFmt := 8, wFmt := 8, outFmt := 0x12 }
theorem wit_matrix : pairOf 8 8 ≠ none ∧ pairOf 8 0x10 = none ∧ int4.sparsity ≠ 3 ∧ Settings.sparsity { mode := 255 } = 3 ∧
    roundOk int4 int4.outFmt = true ∧ roundOk int4 0x30 = false ∧ mRow (word 0) + mRows (word 0) ≤ 128 ∧
    (∀ f ∈ [0, 1, 3], TileReady (one { roomy with aset := int4, standby := some wt0 }) 0 0 1 f (word 0) ∧
      TileReady (one { roomy with aset := int4, current := some wt0 }) 0 0 1 f (word 0)) := by unfold TileReady; decide
theorem wit_run : ∃ y, runRows (word 0) wt0 false (mRows (word 0)) 0 { roomy with aset := int4, current := some wt0 } {} = .ok y :=
  ⟨_, rfl⟩
theorem wit_round_scales : ∃ sc, tread roomy {} 0 1536 = .ok sc := ⟨_, rfl⟩
theorem wit_round : ∃ y z, rndRows (word 0) [] (mRows (word 0)) 0 { roomy with aset := { outFmt := 0x12 } } {} = .ok (y, z) :=
  ⟨_, _, rfl⟩
def scoreWord (rank row rows : Nat) : TileWord := word (rank * 2 ^ 30 + row * 2 ^ 23 + (rows - 1) * 2 ^ 16)
theorem wit_scores : rankCluster roomy 0 (scRank (scoreWord 32 0 1)) = .ok 0 ∧
    rankCluster { roomy with ranks := [5, 0] } 5 (scRank (scoreWord 1 0 1)) = .ok 0 ∧
    scRow (scoreWord 32 127 1) + scRows (scoreWord 32 127 1) = 128 ∧ 960 + 64 ≤ roomy.cards ∧ Tab.wf ({} : Cluster).cards = true ∧
    (∀ f ∈ [0, 1, 2, 3, 4, 5, 6], TileReady (one roomy) 0 0 5 f (scoreWord 32 0 1) ∧
      TileReady (one roomy) 0 0 5 f (scoreWord 31 0 1) ∧ scRank (scoreWord 31 0 1) ≠ 32) := by
  unfold TileReady; refine ⟨rfl, rfl, ?_⟩; decide
set_option maxRecDepth 60000 in
theorem wit_scores_memory : ∃ y z, twrite roomy {} 0
      ((List.range 64).flatMap fun i => (({} : Cluster).card (0 + i)).image) = .ok (y, z) := ⟨_, _, rfl⟩
theorem wit_scores_read : ∃ l, tread roomy {} 0 3072 = .ok l := ⟨_, rfl⟩
def d0 : StreamDesc := (0, [])
def lvl : LoopLvl := { start := 0, stop := 9, count := 1, lc := 0 }
theorem wit_streams :
    (Tab.getD roomy.streams 3 []).length < 4 ∧ 4 ≤ (Tab.getD (([(0, [d0, d0, d0, d0])] : Tab (List StreamDesc))) 0 []).length ∧
    roomy.drained 15 = true ∧ ({ roomy with streams := [(3, [d0])] } : Tile).drained 15 = false ∧
    (∀ f ∈ [0, 1], TileReady (one { roomy with streams := [(0, [d0, d0, d0, d0])] }) 0 0 0 f (word 0)) := by
  unfold TileReady; decide
/-- LOOP with END = 9 - (pc + 1) at the bound, four levels, and counts 1 and 0. -/
theorem wit_loops : (let x := { roomy with loops := [lvl, lvl, lvl] }
      x.loops.length < 4 ∧ (∀ v ∈ x.loops.head?, x.pc + 1 + wfld (word (8 * 2 ^ 14)) 14 14 ≤ v.stop)) ∧
    4 ≤ [lvl, lvl, lvl, lvl].length ∧ wfld (word (2 ^ 44 + 2 ^ 28)) 44 1 = 1 ∧ wfld (word (2 ^ 44 + 2 ^ 28)) 28 16 = 1 ∧
    TileReady (one { roomy with loops := [lvl, lvl, lvl, lvl] }) 0 0 7 1 (word (2 ^ 44 + 2 ^ 28 + 8 * 2 ^ 14)) ∧
    TileReady (one roomy) 0 0 7 1 (word (2 ^ 44 + 8 * 2 ^ 14)) := by unfold TileReady; decide
/-- An invocation of a loaded image on cluster 0, two tiles. -/
def inv0 : Inv :=
  { ptn := 0, req := {}, port := 0, x := 0, kernel := 0x8000, inputWin := 0xFF, outputWin := 0xFF, clusters := 1, inputBytes := 0,
    outputBytes := 0, settings := [], wins := [], args := [], acceptedAt := 0, st := .running, reserved := [0], tiles := 2 }
def pair (x y : Tile) : State :=
  { comp := { tiles := [(0, x), (1, y)], clus := [(0, { clockRun := true })] }, deal := { invs := [(7, inv0)] } }
def mine : Tile := { busy with invKey := some 7 }
theorem wit_halt :
    (let s := pair mine mine
     Tab.wf s.comp.clus = true ∧ (s.comp.tile 0 0).invKey = some 7 ∧ (s.inv 7).isSome = true ∧ (s.comp.tile 0 0).drained 15 = true ∧
     TileReady s 0 0 7 2 (word 0) ∧ ∃ y ∈ s.tilesOf inv0, y.1 ≠ s.comp.key 0 0 ∧ (s.tile y.1).st = .running) ∧
    (let s := pair mine { mine with st := .idle }
     TileReady s 0 0 7 2 (word 0) ∧ (∀ y ∈ s.tilesOf inv0, y.1 ≠ s.comp.key 0 0 → (s.tile y.1).st ≠ .running) ∧
     inv0.st = .running ∧ inv0.prep = []) := by unfold TileReady; decide
theorem wit_barrier :
    (let s := pair mine { mine with wait := .bar 0 0 }
     TileReady s 0 0 8 0 (word 0) ∧ s.scopeOf inv0 0 (wfld (word 0) 48 2) = [0, 1]) ∧
    (let s := pair mine { mine with st := .idle }
     TileReady s 0 0 8 0 (word 0) ∧ (s.tile 1).st = .idle ∧ (s.tile 1).invKey = some 7) := by unfold TileReady; decide
theorem wit_guard : (∀ r ∈ tileRows, legalWord r.2.1 r.2.2 { wordFor r.2.1 r.2.2 with pneg := true } = true) ∧
    busy.guard { word 0 with pneg := true } = false ∧ legalWord 2 0x10 (op 0 0 0 0 0) = true ∧
    legalWord 7 2 (word 1) = false ∧ ({} : Tile).st ≠ .running := by decide

/-! ### Mailboxes: states that meet the conditions -/

/-- A mounted die with one LUN of 100 block groups. -/
def die1 : FlashDie := { mounted := true, luns := [7], groups := [(7, 100)], kitties := [(7, 28)] }
/-- Partition 5 with two channels, two clusters and mailbox 7. -/
def ptn5 : PtnRec :=
  { st := .active, channels := [0, 96], clusters := [0, 1], mailboxes := [7], flashGib := 1024, trackedUnits := 64, admission := [9, 10] }
/-- A device in service, mailboxes 0 and 7 ready, with extent 3 as given. -/
def pool (es : Tab ExtRec) : State :=
  { mbx := [(0, { ready := true }), (7, { ready := true })], board := { phase := .ready }, ptns := [(5, ptn5)], exts := es,
    mem := { dies := [(0, die1), (1, die1), (2, die1), (3, die1)] } }
/-- The same device without partitions. -/
def bare : State := { pool [] with ptns := [] }
def extP : ExtRec :=
  { ptn := 5, length := 2097152, tracked := false, policy := 0, mirrored := false, acl := [⟨9, true, true, some 0⟩], controlDie := 0,
    chans := [0, 96] }
def extT : ExtRec := { extP with policy := 1, init := true }
def extK : ExtRec := { extT with tracked := true }

/-- Firmware takes and executes a frame of a length its command takes. -/
theorem ready_of {s : State} {h : MbxHdr} {op : Nat} {body : List Byte} {r : CmdRow} (ho : MailOpen s h.mbx)
    (ha : (s.box h.mbx).alive = none) (h1 : cmdRow op = some r) (h2 : r.len body = body.length) (h3 : body.length ≤ 4076)
    (h4 : s.mayIssue h.mbx r body = true) (h5 : s.readyFor op = true) : MailReady s h op body :=
  ⟨ho, Or.inl ha, h3, ⟨r, h1, h2, h4⟩, h5⟩
theorem open_bare : MailOpen bare hdr.mbx := by unfold MailOpen; decide
theorem open_pool (e : Tab ExtRec) : MailOpen (pool e) hdr.mbx := ⟨rfl, rfl, rfl, rfl, rfl, rfl, rfl⟩
/-- Every command of fixed length is ready with a body of that length, from mailbox 0 of a device in service. -/
theorem wit_commands : ∀ e : Tab ExtRec,
    MailReady (pool e) hdr 0x0101 [] ∧ MailReady (pool e) hdr 0x0102 (zeros 1) ∧ MailReady (pool e) hdr 0x0103 (zeros 8) ∧
    MailReady (pool e) hdr 0x0104 (zeros 3) ∧ MailReady (pool e) hdr 0x0105 (zeros 1) ∧ MailReady (pool e) hdr 0x0106 (zeros 1) ∧
    MailReady (pool e) hdr 0x0201 (zeros 1) ∧ MailReady (pool e) hdr 0x0202 (zeros 1) ∧ MailReady (pool e) hdr 0x0203 (zeros 1) ∧
    MailReady (pool e) hdr 0x0302 (zeros 4) ∧ MailReady (pool e) hdr 0x0303 (zeros 5) ∧ MailReady (pool e) hdr 0x0305 (zeros 8) ∧
    MailReady (pool e) hdr 0x0306 (zeros 4) ∧ MailReady (pool e) hdr 0x0307 (zeros 4) ∧ MailReady (pool e) hdr 0x0308 (zeros 4) ∧
    MailReady (pool e) hdr 0x0309 (zeros 12) ∧ MailReady (pool e) hdr 0x0401 (zeros 20) ∧ MailReady (pool e) hdr 0x0402 (zeros 4) ∧
    MailReady (pool e) hdr 0x0403 (zeros 24) ∧ MailReady (pool e) hdr 0x0404 (zeros 4) ∧ MailReady (pool e) hdr 0x0405 (zeros 7) ∧
    MailReady (pool e) hdr 0x0406 (zeros 8) ∧ MailReady (pool e) hdr 0x0501 [] ∧ MailReady (pool e) hdr 0x0502 (zeros 2) ∧
    MailReady (pool e) hdr 0x0504 (zeros 6) ∧ MailReady (pool e) hdr 0x0505 [] ∧ MailReady (pool e) hdr 0x0506 (zeros 4) ∧
    MailReady (pool e) hdr 0x0507 (zeros 1) ∧ MailReady (pool e) hdr 0x0508 (zeros 1) ∧ MailReady (pool e) hdr 0x0601 (zeros 1) ∧
    MailReady (pool e) hdr 0x0701 (zeros 6) ∧ MailReady (pool e) hdr 0x0702 (zeros 24) ∧ MailReady (pool e) hdr 0x0703 (zeros 1) ∧
    MailReady (pool e) hdr 0x0704 (zeros 2) ∧ MailReady (pool e) hdr 0x0801 [] ∧ MailReady (pool e) hdr 0x0802 (zeros 1) ∧
    MailReady (pool e) hdr 0x0803 (zeros 4) ∧ MailReady (pool e) hdr 0x0804 (zeros 1) ∧ MailReady (pool e) hdr 0x0901 [] ∧
    MailReady (pool e) hdr 0x0902 (zeros 32) ∧ MailReady (pool e) hdr 0x0906 [] ∧ MailReady (pool e) hdr 0x0907 (zeros 4) ∧
    MailReady (pool e) hdr 0x0A01 [] ∧ MailReady (pool e) hdr 0x0A02 (zeros 36) ∧ MailReady (pool e) hdr 0x0A03 (zeros 8) ∧
    MailReady (pool e) hdr 0x0A04 (zeros 4) ∧ MailReady (pool e) hdr 0x0B01 [] ∧ MailReady (pool e) hdr 0x0B02 (zeros 1) ∧
    MailReady (pool e) hdr 0x0B03 (zeros 6) ∧ MailReady (pool e) hdr 0x0B04 [] ∧ MailReady (pool e) hdr 0x0F01 (zeros 6) ∧
    MailReady (pool e) hdr 0x0F02 (zeros 12) := by
  intro e
  refine ⟨?_, ?_, ?_, ?_, ?_, ?_, ?_, ?_, ?_, ?_, ?_, ?_, ?_, ?_, ?_, ?_, ?_, ?_, ?_, ?_, ?_, ?_, ?_, ?_, ?_, ?_, ?_, ?_, ?_, ?_,
    ?_, ?_, ?_, ?_, ?_, ?_, ?_, ?_, ?_, ?_, ?_, ?_, ?_, ?_, ?_, ?_, ?_, ?_, ?_, ?_, ?_, ?_⟩ <;>
    exact ready_of (open_pool e) rfl rfl rfl (by decide) rfl rfl
/-- Commands of variable length: an access list of one entry, one group, one byte of a change, one table entry. -/
theorem wit_commands_long : ∀ e : Tab ExtRec,
    MailReady (pool e) hdr 0x0301 (zeros 12 ++ le 1 1 ++ zeros 3 ++ zeros 4) ∧
    MailReady (pool e) hdr 0x0304 (zeros 4 ++ le 1 1 ++ zeros 3 ++ zeros 4) ∧
    MailReady (pool e) hdr 0x0503 (zeros 4 ++ le 2 1 ++ zeros 2 ++ zeros 4) ∧ MailReady (pool e) hdr 0x0509 (zeros 2 ++ le 2 1 ++ zeros 1) ∧
    MailReady (pool e) hdr 0x0903 (zeros 4 ++ le 4 1 ++ zeros 1) := by
  intro e
  refine ⟨?_, ?_, ?_, ?_, ?_⟩ <;>
    exact ready_of (open_pool e) rfl rfl (by decide) (by decide) rfl rfl
/-- A slot image of 1,024 bytes, and a signature of 2,820. -/
theorem wit_commands_fixed : ∀ e : Tab ExtRec, MailReady (pool e) hdr 0x050A (zeros 1028) ∧
    MailReady (pool e) hdr 0x0904 (zeros 2828) ∧ MailReady (pool e) hdr 0x0905 (zeros 2828) := by
  have hl (n : Nat) : (zeros n).length = n := List.length_replicate
  intro e
  refine ⟨?_, ?_, ?_⟩ <;>
    exact ready_of (open_pool e) rfl rfl (hl _).symm (by rw [hl]; decide) rfl rfl
theorem wit_refusals :
    (let s := { pool [] with mbx := [(0, { ready := true, alive := some 2 })] }
     MailOpen s 0 ∧ (s.box 0).alive = some 2 ∧ (2 : Nat) ≠ hdr.alive.toNat) ∧
    MailOpen (pool []) 7 ∧ (pool []).mayIssue 7 { cmd := cmdDevReset, len := fixed 1 } (zeros 1) = false ∧
    (pool []).mayIssue 7 { cmd := cmdDevInfo, len := fixed 0, shared := true } [] = true ∧
    (let s := { pool [] with mem := {} }; MailOpen s 0 ∧ s.readyFor 0x0201 = false) := by unfold MailOpen; decide

/-! Device and partition commands -/

theorem wit_device : (pool []).board.resetDue = none ∧ bare.transitOnly = true ∧ bare.board.phase ≠ .recovery ∧
    (pool []).board.upd = none ∧ (pool []).sec.pset.pairing = none ∧ (pool []).prt.st = .unpaired ∧ 5 ∉ (pool []).dir.dead ∧
    (pool []).dir.dead.length < 256 ∧ (pool []).isDeferred 0x0105 17 = false ∧ (pool []).isDeferred 0x0106 31 = false ∧
    (let s := { pool [] with dir := { dead := [0xBFFF] } }; 0xBFFF ∈ s.dir.dead ∧ ∀ x ∈ s.dir.scans, x.2 ≠ 0xBFFF) ∧
    ((pool []).box 0).openCount < 8 := by decide
theorem wit_partitions : ((pool []).ptn 5).st = .active ∧ ((pool []).ptn 63).st = .unused ∧
    (let s (x : PtnState) := { pool [] with ptns := [(5, { ptn5 with st := x })] }
     ((s .faulted).ptn 5).st = .faulted ∧ ((s .resetting).ptn 5).st = .resetting ∧ (s .resetting).isDeferred 0x0202 69 = false) := by
  decide

/-! Extent commands -/

def zeroTo (n : Nat) : List AclArg := List.replicate n ⟨9#16, 3#8⟩
theorem wit_extents : ∀ e ∈ [extP, extT, extK], (pool [(3, e)]).extFor 0 3 = some e ∧ e.mirrored = false ∧ e.st = .active ∧
    e.zeroing = false ∧ (pool [(3, e)]).closed e = false ∧ e.policyPending = false ∧ e.aclStage = 0 ∧
    (pool [(3, e)]).sec.debugOn = false ∧ (pool [(3, e)]).aclFault e.ptn [] (aclOf (zeros 8 ++ aclBytes (zeroTo 1)) 8 1) = none := by
  decide
theorem wit_extent_policy :
    (let s := pool [(3, extP)]; s.quotaFault 5 (s.pinned 5 + pagesOf extP.length) (s.flashUsed 5) (s.trackedUsed 5) false = none) ∧
    (let s := pool [(3, extP)]; s.quotaFault 5 (s.pinned 5 - pagesOf extP.length) (s.flashUsed 5 + extP.length) (s.trackedUsed 5) true = none) ∧
    extP.init = false ∧ extT.init = true ∧ extP.policy = 0 ∧ extT.policy ≠ 0 ∧ extK.tracked = true ∧
    0 % 128 = 0 ∧ 2097024 % 128 = 0 ∧ 2097024 < extK.length := by decide
/-- A list that is in force at once, and one that waits for a recall. -/
theorem wit_acl : (let s := pool [(3, extP)]
      s.aclRecalls 3 extP.acl (s.assignIdx 3 extP.acl [⟨9, true, false, none⟩]) = [] ∧
      ∀ a ∈ s.assignIdx 3 extP.acl [⟨9, true, false, none⟩], a.idx.isSome = true) ∧
    (let s := { pool [(3, extK)] with dir := { ents := [(0, { ext := 3, line := 4, st := .m, owner := 0 })] } }
     s.aclRecalls 3 extK.acl (s.assignIdx 3 extK.acl []) = [(4, 0)] ∧ (s.dirEnt 3 4).isSome = true ∧ (s.dirEnt 3 5) = none) := by
  decide
theorem wit_create : (pool []).freeHandle = some 1 ∧ ((pool []).ptn 5).st ≠ .unused ∧
    (pool []).quotaFault 5 ((pool []).pinned 5 + 2097152 / 65536) ((pool []).flashUsed 5 + 0) ((pool []).trackedUsed 5 + 2097152)
      ((pool []).hasTiered 5) = none ∧ ¬(1 = 1 ∧ 1 = 2) ∧ 2097152 % 2097152 = 0 := by decide

/-! Kernels and models -/

def img0 : Image :=
  { ptn := 5, handle := 0x8000, flags := 0, entry := 0, scratchBytes := 0, csBytes := 0, cards := 0, constAddr := 0, timeLimit := 0,
    code := [], consts := [], digest := [], sign := [], pages := 1 }
def mdl0 : Model := { ptn := 5, handle := 0x100, hdr := ModelHdr.ofBytes (zeros 6 ++ le 2 4), slots := [(2, [0]), (3, [0, 1])] }
def loaded : State := { pool [] with deal := { images := [(5 * 65536 + 0x8000, img0)], models := [(5 * 65536 + 0x100, mdl0)] } }
theorem wit_kernels : (loaded.image 5 0x8000) = some img0 ∧ img0.unloading = false ∧ loaded.deal.invs = [] ∧
    (let s := { loaded with deal := { loaded.deal with invs := [(7, { inv0 with ptn := 5, kernel := 0x8000 })] } }
     (s.image 5 0x8000).isSome = true ∧ ∃ v ∈ s.deal.invs, v.2.ptn = 5 ∧ v.2.kernel = 0x8000) := by decide
theorem wit_models : loaded.model 5 0x100 = some mdl0 ∧ mdl0.unloading = false ∧ loaded.deal.baskets = [] ∧ 3 < mdl0.hdr.experts ∧
    1 ∈ (loaded.ptn 5).clusters ∧ 1 ∉ Tab.getD mdl0.slots 2 [] ∧ (Tab.getD mdl0.slots 2 []).length < 4 ∧
    1 ∈ Tab.getD mdl0.slots 3 [] ∧ 1 < (Tab.getD mdl0.slots 3 []).length := by decide
theorem wit_staging : (loaded.poolOf 5 < 65536 → 65536 - loaded.poolOf 5 + (if loaded.hasTiered 5 then 1024 else 0) ≤
      loaded.dramQuota 5 - loaded.pinned 5) ∧ loaded.poolUsed 5 ≤ 0 ∧ ¬(loaded.poolOf 5 < 1024) := by decide

/-! Routing and expert registers -/

theorem wit_routing : entryOk bare.shadowSeen.dir 17 1 = true ∧ entryOk bare.shadowSeen.dir 18 15 = true ∧
    bare.shadowSeen.dirOk 0x3FFFF = true ∧ bare.rt.swap = none ∧ bare.swapSet = [] ∧
    (let s := bare.onRt fun r => { r with dirty := [4] }; s.swapSet = [4] ∧ s.rt.swap = none) ∧
    0 + 1016 ≤ 0xC000 ∧ 0xBFFF + 1 ≤ 0xC000 ∧ bit 7 0 = true ∧ bit 6 0 = false := by decide
/-- A port as it stands after reset with an endpoint ID, and one whose ENABLE is 0. -/
def off (l : Link) : State := { pool [] with links := [(17, l)], regs := [(Reg.glCtrlEnable.key 17, 0)], board := { phase := .ready, strap := 1 } }
theorem wit_enable : (pool []).ownId ≠ 0xFFFF ∧ (pool []).reg .glCtrlEnable 17 = 1 ∧ (off {}).ownId ≠ 0xFFFF ∧
    (off {}).reg .glCtrlEnable 17 ≠ 1 ∧ ((off {}).link 17).shutting = false ∧ ((off {}).link 17).enableDeferred = false ∧
    ((off { shutting := true }).link 17).shutting = true ∧ ((off { shutting := true }).link 17).enableDeferred = false ∧
    ((off { st := .active }).link 17).st ≠ .disabled := by decide
theorem wit_expert_writes : hdr.mbx.val < 2 ∧ (pool []).reg .polCir 255 ≤ (pool []).reg .polPir 255 ∧
    0 ≤ (pool []).reg .polPir 255 ∧ (pool []).reg .polCir 255 ≤ 2000000 ∧
    ((pool []).arb (arbKey ((pool []).sel 0).1 ((pool []).sel 0).2)).fwHold = false ∧ (pool []).rt.swap = none ∧
    ((pool []).chan 383).frames = [] := by decide
/-- ARB_TRUMP_LIMIT exists and may be reached, a word past the ARB block does not exist, and SEC_AGREE_WINDOW is the one field
that takes an agreement (R448). -/
theorem wit_expert : wordsExist 0x01000000 1 = true ∧ wordsExist 0x01000004 2 = true ∧ wordsExist 0x0100FFFC 1 = false ∧
    (pool []).mayReach 0 false 0 0x01000000 = true ∧ (pool []).mayReach 0 true 0xFF 0x01000000 = true ∧
    (pool []).mayReach 7 false 0 0x01000000 = false ∧
    (let w := (pool []).merge 0 0x01000000 0xFF 0; w.inRange = false ∧ ∀ x ∈ w.fields, x.1.acc = .rwl → w.sel x = false) ∧
    (let w := (pool []).merge 0 0x01000000 0xFF 255; w.inRange = true) := by decide

/-! Scheduling, flash, integrity, partner -/

theorem wit_group : [0#8] ≠ [] ∧ 49151 + [0#8].length ≤ 49152 := by decide
theorem runsOf_flat (n v : Nat) : runsOf (List.replicate n v) = [] := by
  have h : (List.range n).filter (fun i => (List.replicate n v)[i]? != (List.replicate n v)[(i + n - 1) % n]?) = [] := by
    rw [List.filter_eq_nil_iff]
    intro i hi
    have hi := List.mem_range.1 hi
    simp [hi, Nat.mod_lt _ (Nat.lt_of_le_of_lt (Nat.zero_le i) hi)]
  simp [runsOf, h]
theorem badWindow_flat (n v g : Nat) : badWindow (List.replicate (n + 1) v) g = if 0x40 < v then some 0 else none := by
  have h : (List.range (n + 1)).filter (fun i => ((List.replicate (n + 1) v)[i]?).elim false fun v => decide (0x40 < v)) =
      (List.range (n + 1)).filter fun _ => decide (0x40 < v) := by
    apply List.filter_congr
    intro i hi
    rw [List.getElem?_replicate, if_pos (List.mem_range.1 hi)]; rfl
  simp only [badWindow, runsOf_flat, List.length_replicate, h]
  by_cases hv : 0x40 < v
  · simp [hv, List.range_succ_eq_map]
  · simp [hv]
/-- An image that no slot of is reserved, and one of reserved slots only. -/
theorem wit_slots (g : Nat) : badWindow (List.replicate 1024 0x40) g = none ∧ badWindow (List.replicate 1024 0x41) g = some 0 :=
  ⟨badWindow_flat 1023 0x40 g, badWindow_flat 1023 0x41 g⟩
theorem wit_slots_free : ((pool []).eg 17).swapPending = false := by decide
theorem wit_remap : ((pool []).chan 383).copying 31 49151 = false ∧ (pool []).isDeferred 0x0701 (remapKey 383 31 49151) = false ∧
    ((pool []).startRemap 383 31 49151 2 0).isSome = true ∧
    (let s := (pool []).onChan 383 fun x => { x with spareUsed := [(31, 15)] }; s.startRemap 383 31 49151 2 0 = none) := by decide
theorem wit_scrub_command : (pool [(3, extT)]).extFor 0 3 = some extT ∧ 2097024 + 128 ≤ extT.length ∧ extT.st = .active ∧
    extT.init = true ∧ (pool [(3, extT)]).closed extT = false ∧ (pool [(3, extT)]).mem.scrubs = [] := by decide
theorem wit_scrub_last : Tab.get? ({ (pool []).mem with lastPass := [(63, { ptn := 63, demand := false, startAt := 0 })] } : MemSide).lastPass
    63 = some { ptn := 63, demand := false, startAt := 0 } := by decide
theorem wit_partner : (pool []).isDeferred 0x0804 31 = false ∧ (0 < (pool []).wear.ents.length ∨ (0 : Nat) = 0) := by decide

/-! Security, meter, power -/

def chg (signed : Option Nat) : Change := { id := 1, kind := 8, body := [], digest := [], agree := 0, signed := signed, until' := 1 }
def withChange (c : Change) : State := (pool []).onSec fun x => { x with changes := [c] }
theorem wit_attest : (pool []).attestWaits = false ∧
    (let k : XmssKey := { leaf := 1023, blockEnd := 1024 }; k.fault = false ∧ k.leaf < k.blockEnd) := by decide
theorem wit_attest_signed : ∃ b u, (pool []).signed 0 ((pool []).attestBody (zeros 32)) = .ok (b, u) := ⟨_, _, rfl⟩
theorem wit_propose : (pool []).changeOk 2 (zeros 1) = true ∧ (pool []).sec.changes.length < 8 := by decide
theorem wit_sign : (withChange (chg none)).change? 1 = some (chg none) ∧ (withChange (chg (some 1))).change? 1 = some (chg (some 1)) ∧
    (chg (some 1)).agree = (withChange (chg (some 1))).sec.agree ∧ (withChange (chg (some 1))).mtr.st ≠ 2 ∧
    (withChange (chg (some 1))).vaultOk = true ∧ (withChange (chg none)).roleSigned 0 [] (zeros 2820) = false := by decide
/-- A role's signature counts where it verifies under the role's key; whether a signature verifies is left open (log 33). -/
theorem wit_signed (d sig : List Byte) (h : Config.verify [1#8] d sig = true) :
    ((withChange (chg (some 1))).onSec fun x => { x with pset := { opKey := [1#8], custKey := [1#8] } }).roleSigned 0 d sig = true ∧
    ((withChange (chg (some 1))).onSec fun x => { x with pset := { opKey := [1#8], custKey := [1#8] } }).roleSigned 1 d sig = true :=
  ⟨h, h⟩
theorem wit_certs : (∃ c, ((pool []).certs 0)[0]? = some c) ∧ ∃ c, ((pool []).certs 1)[0]? = some c := ⟨⟨_, rfl⟩, _, rfl⟩
theorem wit_meter_commands : (pool []).mtr.st = 0 ∧ (pool []).mtr.queue.length < 17 ∧ (pool []).mtr.key.fault = false := by decide
theorem wit_power : (pool []).lk.state ≠ 2 ∧ (∀ e ∈ (pool [(3, extT)]).exts, e.2.policy ≠ 0 ∧ e.2.tracked = false) ∧
    (pool []).sec.pset.pairing = none ∧ (∃ e ∈ (pool [(3, extP)]).exts, e.2.policy = 0 ∨ e.2.tracked = true) := by decide

/-! ### HBM -/

/-- A device at time `t` whose channel 0 is as given. -/
def ch0 (x : Channel) (t : Nat := 0) : State := { now := t, mem := { chans := [(0, x)] } }
def rd : ChanReq := { kind := .read, bank := 31, row := 49151, slot := 14, tag := 5 }
def wr : ChanReq := { kind := .write (zeros 128) 0, bank := 31, row := 49151, slot := 14, tag := 5 }
theorem wit_activation : (let s := ch0 { bankQ := [(31, [rd])] }
      Tab.getD (s.chan 0).bankQ 31 [] = [rd] ∧ Tab.get? (s.chan 0).openRow 31 = none ∧ (s.stack 0).selfRefresh = false ∧
      (s.chan 0).failed = false ∧ s.reg .mcRhThresh 0 = 1024) := by decide
theorem wit_bank : (let s := ch0 { bankQ := [(31, [rd])], openRow := [(31, 5)], checkDirty := [31] }
      Tab.get? (s.chan 0).openRow 31 = some 5 ∧ (s.chan 0).rowOf 31 rd.row ≠ 5 ∧ 31 ∈ (s.chan 0).checkDirty) ∧
    (let s := ch0 { openRow := [(31, 5)] } 1280
     Tab.getD (s.chan 0).bankQ 31 [] = [] ∧ Tab.getD (s.chan 0).idleSince 31 0 + s.reg .mcChCfgIdleClose 0 * 80 ≤ s.now) ∧
    (let s := ch0 { bankQ := [(31, [wr])], openRow := [(31, 49151)] }
     (s.chan 0).rowOf 31 wr.row = 49151 ∧ (s.chan 0).pausedTo ≤ s.now ∧ wr.kind = .write (zeros 128) 0) := by decide
theorem wit_column : (49151#16).toNat < 49152 ∧ 49152 ≤ (49152#16).toNat ∧ (ch0 {}).chan 0 = {} ∧
    ((ch0 {}).chan 0).queued 31 49151 14 51 = none ∧ ((ch0 {}).chan 0).pausedTo ≤ (ch0 {}).now := by decide
/-- Every outcome of a line occurs: data, poison and the data-error marker, the same with a symbol wrong, and four wrong symbols
of no pattern. -/
theorem wit_outcomes :
    (decodeLine (zeros 128) (zeros 8)).1 = .data ∧ (decodeLine (zeros 128) (markPattern 1)).1 = .poison ∧
    (decodeLine (zeros 128) (markPattern 2)).1 = .marked ∧ (decodeLine (1#8 :: zeros 127) (zeros 8)).1 = .corrected 1 ∧
    (decodeLine (1#8 :: zeros 127) (markPattern 1)).1 = .poisonRepaired 1 ∧
    (decodeLine (1#8 :: zeros 127) (markPattern 2)).1 = .markedRepaired 1 := by decide +kernel
theorem wit_uncorrectable : (decodeLine ([1#8, 2#8, 3#8, 4#8, 5#8, 6#8, 7#8] ++ zeros 121) (zeros 8)).1 = .uncorrectable := by
  decide +kernel
theorem wit_refresh : (let s := ch0 {} 12160
     (s.stack 0).selfRefresh = false ∧ (s.chan 0).refAt + s.refInterval 0 ≤ s.now ∧ s.reg .mcChCfgRefMode 0 = 1 ∧ (s.chan 0).busy 0 = false) ∧
    (let s (n : Nat) := ch0 { bankQ := [(0, [rd])], postponed := [(0, n)] } 12160
     ((s 7).chan 0).busy 0 = true ∧ Tab.getD ((s 7).chan 0).postponed 0 0 < 8 ∧ 8 ≤ Tab.getD ((s 8).chan 0).postponed 0 0) := by decide
theorem wit_upkeep : (let s := ch0 {} (32 * msec)
      (s.stack 11).epochAt + 32 * msec ≤ s.now ∧ Tab.getD (s.chan 0).levelAt 63 0 + 32 * msec ≤ s.now) ∧
    (let s := ch0 {} 10240
     s.reg .mcChCfgPdIdle 0 ≠ 0 ∧ (s.chan 0).quiet = true ∧ (s.chan 0).pwr = 0 ∧
     (s.chan 0).emptySince + s.reg .mcChCfgPdIdle 0 * 16 * 80 ≤ s.now) ∧
    (let s := ch0 {} (256 * msec); Tab.getD (s.stack 11).zqAt 31 0 + s.reg .mcStkZqPeriod 11 * msec ≤ s.now ∧
     s.stackPauses 11 = false) ∧
    (let s := ch0 {} (1000 * msec); s.retrainDue 0 = true ∧ s.stackPauses 0 = false ∧ (s.chan 0).trainFails + 1 < 3) ∧
    (let s := ch0 { trainFails := 2 }; s.retrainDue 0 = true ∧ s.stackPauses 0 = false ∧ 3 ≤ (s.chan 0).trainFails + 1) ∧
    (let s : State := { board := { phase := .stage1, linkOpen := true } }; s.board.phase = .stage1 ∧ s.board.linkOpen = true) := by
  decide
theorem wit_copy : ∃ j js, ((ch0 { copies := [⟨31, 49151, 3, 2, 0, 0⟩] }).chan 0).copies = j :: js := ⟨_, _, rfl⟩
theorem wit_admit : (let s := ch0 { tagQ := [(52, [wr])] }
      s.tagsOf 0 = ([52], [52]) ∧ Tab.getD (s.chan 0).tagQ 52 [] = [wr] ∧ (s.arb 0).frozen = false ∧ (s.arb 0).fwHold = false) := by
  decide

/-! ### Scrubbing -/

def walk5 : ScrubPass := { ptn := 5, demand := false, startAt := 0, gap := [(0, usec)] }
def onDemand (cur : Nat) : ScrubPass := { ptn := 5, ext := 3, demand := true, startAt := 0, off := 0, len := 128, cur := cur }
/-- Extent 3 with one page in frame 0 of channel 0. -/
def framed (ps : List ScrubPass) : State :=
  { pool [(3, extT)] with
    now := 24 * 3600 * oneSec,
    mem := { (pool []).mem with chans := [(0, { frames := [(0, pageKey 3 0)] })], scrubs := ps,
                                pages := [(pageKey 3 0, { home := 0, st := .dirty, frame := some 0 })] } }
theorem wit_scrub_start : (framed []).walkOf 5 = none ∧ (framed []).reg .scbPtnCfgMode 5 = 0 ∧ ((framed []).ptn 5).st = .active ∧
    walk5.startAt + (framed []).reg .scbPtnPeriod 5 * 3600 * oneSec ≤ (framed []).now ∧ (framed [walk5]).walkOf 5 = some walk5 := by decide
/-- A walk past its last frame of channel 0, of two channels: the other is done, or not. -/
theorem wit_scrub_end : ∀ d ∈ [true, false], (let p := { walk5 with pos := (0, 512) :: if d then [(96, 23592960)] else [] }
      (framed [p]).walkOf 5 = some p ∧
      (Tab.keys ((framed [p]).chan 0).frames).filter (fun f => Tab.getD p.pos 0 0 / 512 ≤ f && (framed [p]).qualifies 0 f) = [] ∧
      ((∀ x ∈ ((framed [p]).ptn 5).channels, Tab.getD (Tab.put p.pos 0 23592960) x 0 = 23592960) ↔ d = true)) := by decide
theorem wit_scrub_walk : (framed [walk5]).walkOf 5 = some walk5 ∧ 0 ∈ ((framed [walk5]).ptn 5).channels ∧
    (∀ x ∈ (framed [walk5, { onDemand 128 with ext := 9 }]).mem.scrubs, x.demand = true → x.ptn = 5 →
      (framed [walk5, { onDemand 128 with ext := 9 }]).demandsOn x 0 = false) ∧ ((framed [walk5]).stack 0).selfRefresh = false ∧
    Tab.get? walk5.readAt 0 = none ∧
    (Tab.keys ((framed [walk5]).chan 0).frames).filter (fun f => Tab.getD walk5.pos 0 0 / 512 ≤ f && (framed [walk5]).qualifies 0 f) = [0] := by
  decide
theorem wit_scrub_demand : (∀ c ∈ [0, 128], (framed [onDemand c]).mem.scrubs.find? (fun x => x.demand && x.ext == 3) = some (onDemand c)) ∧
    (onDemand 128).len ≤ (onDemand 128).cur ∧ (onDemand 0).cur < (onDemand 0).len ∧
    ((framed [onDemand 0]).pageOr 3 0).st = .dirty ∧ ((framed [onDemand 0]).pageOr 3 0).frame = some 0 ∧
    Tab.get? (onDemand 0).readAt 0 = none ∧ ((framed []).stack 0).selfRefresh = false ∧
    ({ (framed []) with mem := { (framed []).mem with stks := [(0, { selfRefresh := true })] } }.stack 0).selfRefresh = true := by decide
/-- Pages without a frame: one without contents, one on its way, and one in flash before and after it has been read. -/
theorem wit_scrub_pages : (∀ st ∈ [PageSt.unwritten, .zero, .promoting, .flash],
      (let r : PageRec := { home := 0, st := st, loc := some 7 }
       let s := { framed [onDemand 0] with mem := { (framed [onDemand 0]).mem with pages := [(pageKey 3 0, r)] } }
       s.pageOr 3 0 = r ∧ r.frame = none ∧ locChan (dieOf r.home) (r.loc.getD 0) = 7 ∧ (s.fch 7).queue = [])) ∧
    (∀ bad ∈ [[], [3]], (let x : FlReq := { op := .scrub (pageKey 3 0), ptn := 5, prio := 4, since := 0, started := true, bad := bad }
      let s : State := { mem := { fch := [(7, { queue := [x] })] } }
      (s.fch 7).queue.find? (fun r => r.started && r.op == .scrub (pageKey 3 0)) = some x)) := by decide

/-! ### Check-value units, arbiters and mailboxes -/

theorem wit_alive :
    (let c : Checker := {}; c.expValid = false) ∧
    (let c : Checker := { expValid := true, expValue := 0#16 }
     c.expValue = 0#16 ∧ c.expValue = 0xFFFF#16 + 1#16 ∧ c.expValue ≠ 1#16 ∧ c.expValue ≠ 1#16 + 1#16) := by decide
/-- The worked example: an accepted ALIVE 0x01F3 leaves 0x01F4 expected, and its repetition sets REPEAT (R432). -/
theorem test_alive : (let c : Checker := { expValid := true, expValue := 0x01F3#16 }
      exec (.chkAliveIn 2 0x01F3#16) { chk := [(2, c)] } = .next { chk := [(2, { c with expValue := 0x01F4#16 })] }) := by rfl
def arbS (a : Arb) : State := { arbs := [(arbKey 2 47, a)] }
theorem wit_arbiter : arbInstances 2 ≤ 48 ∧ 47 < arbInstances 2 ∧ arbInstances 7 ≤ 2048 ∧
    (let s := arbS { pointer := 23, waits := [(3, 31)] }
     let a := s.arb (arbKey 2 47)
     a.frozen = false ∧ a.fwHold = false ∧ (∀ r ∈ [3], r ∈ [3, 4] ∧ r < arbRequesters 2 47) ∧ Tab.wf a.waits = true ∧
     (∀ x, x < 24 → x ∈ [3, 4] → Tab.getD a.waits x 0 < s.reg .arbTrumpLimit 0) ∧ 0 < s.reg .arbTrumpLimit 0 ∧ a.pointer < 24 ∧
     bit (s.reg .rtFreeze 0) 18 = false) ∧
    (let s := arbS { waits := [(3, 32)], trumps := [3] }
     let a := s.arb (arbKey 2 47)
     arbTrumps (s.reg .arbTrumpLimit 0) 24 (Tab.keep a.waits fun x _ => [3, 4].contains x) a.trumps = [3]) := by decide
theorem wit_handshake : (pool []).pcie.d3 = false ∧ ((pool []).box 7).ready = true ∧ ((pool []).box 7).owner = false ∧
    ((pool []).box 7).unread = false ∧ bit 1 2 = false ∧ bit 1 3 = false ∧
    (let s := { pool [] with mbx := [(7, { ready := true, owner := true })] }; (s.box 7).owner = true) ∧
    (let s := { pool [] with now := 2 * usec }; s.service = true ∧ s.cores.pollAt + 2 * usec ≤ s.now) ∧
    (let s := { pool [] with now := oneSec, board := { phase := .ready, vaultAsk := [(7, 0)] } }
     s.board.phase = .ready ∧ s.board.vaultAsk = [(7, 0)] ∧ 0 + oneSec ≤ s.now) := by decide
theorem wit_moves : (∃ d rest, ({ moves := [⟨2, 3, 0⟩] } : Cores).moves = d :: rest ∧ d.duty ≠ 1) ∧
    ∃ d rest, ({ moves := [⟨1, 3, 0⟩] } : Cores).moves = d :: rest ∧ d.duty = 1 := ⟨⟨_, _, rfl, by decide⟩, _, _, rfl, rfl⟩

/-! ### The flash tier -/

def fp0 : FlashPage := { ext := 3, page := 0, wseq := 1, data := [], poison := 0, uncorr := 0 }
def prom : FlReq := { op := .promote (pageKey 3 0), ptn := 5, prio := 0, since := 0, started := true }
def dest : FlReq := { op := .destage (pageKey 3 0) [] 0 0, ptn := 5, prio := 1, since := 0, started := true }
/-- Extent 3, its page as given, and the queue of flash channel 7. -/
def tier (p : PageRec) (q : List FlReq) (t : Nat := 0) : State :=
  { pool [(3, extT)] with
    now := t,
    mem := { (pool []).mem with pages := [(pageKey 3 0, p)], fch := [(7, { queue := q })], dies := [(0, { die1 with pages := [(0, fp0)] })] } }
theorem wit_promotion : (let s := tier { home := 0, st := .promoting, frame := some 0, loc := some 0 } [prom]
      (s.ext 3).isSome = true ∧ (s.page (pageKey 3 0)).isSome = true ∧ (∀ j, j < 7 → (s.fch j).queue = []) ∧
      (s.fch 7).queue.find? (fun x => x.started && x.op == .promote (pageKey 3 0)) = some prom ∧
      Tab.get? (s.fdie 0).pages prom.loc = some fp0) := by decide
def dirtyP : PageRec := { home := 0, st := .dirty, frame := some 0 }
/-- A partition that drains, and one whose page an open PERSIST names. -/
theorem wit_destage : (∀ p ∈ [{ dirtyP with prio := 1 }, { dirtyP with zeroPending := true, st := .zero, frame := none, prio := 4 }],
      let u := (tier p []).noteShare 5
      extT.pinned = false ∧ u.chanAwake p.home = true ∧ extT.policy ≠ 0 ∧ p.destaging = false ∧ u.destageLevel 5 (pageKey 3 0, p) < 18 ∧
      ∀ x ∈ u.dirtyPages 5, x.2.destaging = false → u.destageLevel 5 (pageKey 3 0, p) ≤ u.destageLevel 5 x ∧
        (u.destageLevel 5 (pageKey 3 0, p) / 2 = 3 → u.destageLevel 5 x = u.destageLevel 5 (pageKey 3 0, p) → p.dirtyAt ≤ x.2.dirtyAt)) ∧
    ((tier dirtyP []).flashSlot 0).isSome = true := by decide
theorem wit_age : (let s := tier dirtyP [] (1000 * msec)
      dirtyP.prio = 0 ∧ dirtyP.dirtyAt + s.reg .flPtnDestageAge 5 * msec ≤ s.now) := by decide
theorem wit_program_done : (let s := tier dirtyP [dest]; (s.fch 7).queue = [] ++ dest :: [] ∧ dest.started = true ∧
      dest.op = .destage (pageKey 3 0) [] 0 0 ∧ ∀ j, j < 7 → (s.fch j).queue = []) := by decide
def jr : JRec := { seq := 1, kind := 1, ext := 3, page := 0, loc := 0, version := 0, publisher := 0 }
def dieS (d : FlashDie) (t : Nat := 0) : State := { pool [] with now := t, mem := { dies := [(3, d)] }, board := { phase := .ready } }
def jrun : FlReq := { op := .journal, ptn := 65, prio := 0, since := 0, started := true }
theorem wit_journal :
    (let s := dieS { die1 with pend := [jr] } (100 * usec)
     (s.fdie 3).pend ≠ [] ∧ (s.fdie 3).commitOpen = none ∧
     (s.fdie 3).firstUncommitted + s.reg .flDieJrnlCommitUs 3 * usec ≤ s.now) ∧
    (let s := dieS { die1 with pend := [jr], commitOpen := some 2, seq := 3 }
     (s.fdie 3).commitOpen = some 2 ∧ (s.fdie 3).commitAsked = false ∧ (∀ r ∈ (s.fdie 3).pend, r.kind ≠ 5) ∧
     ∃ c ∈ (s.fdie 3).chans, ∀ r ∈ (s.fch (24 + c)).queue, r.started = true → r.op ≠ .journal) ∧
    (let s := dieS { die1 with pend := [jr], commitOpen := some 2, seq := 3 }
     let s := { s with mem := { s.mem with fch := [(24, { queue := [jrun] }), (28, { queue := [jrun] })] } }
     ∀ c ∈ (s.fdie 3).chans, ∃ r ∈ (s.fch (24 + c)).queue, r.started = true ∧ r.op = .journal) ∧
    (let s := dieS die1 (10 * oneSec); (s.fdie 3).mounted = true ∧ (s.fdie 3).ckAt + 10 * oneSec ≤ s.now) ∧
    (let s := dieS {}
     (s.fdie 3).mounted = false ∧ s.sec.debugOn = false ∧ s.board.phase = .ready ∧ ∃ i : MDie, i ≠ 3 ∧ (s.fdie i).mounted = false) ∧
    (let s := { pool [] with mem := { dies := [(0, die1), (1, die1), (2, die1)] } }
     (s.fdie 3).mounted = false ∧ ∀ i : MDie, i ≠ 3 → (s.fdie i).mounted = true) := by decide
def fchS (q : List FlReq) : State := { pool [] with mem := { fch := [(31, { queue := q })], dies := [(3, die1)] } }
def jop : FlReq := { op := .journal, ptn := 64, prio := 0, since := 0 }
def eop (g : Nat) : FlReq := { op := .erase g, ptn := 64, prio := 0, since := 0, loc := g, started := true }
theorem wit_flash_ops :
    ((fchS []).fch 31).parked = false ∧ (((fchS [jop]).fch 31).queue.find? fun r => !r.started && r.op == .journal) = some jop ∧
    (let q := ((fchS [{ prom with started := false }]).fch 31).queue
     (∀ r ∈ q, r.started = false → r.op ≠ .journal) ∧ firstOp q 5 = some { prom with started := false } ∧
     (List.range 65).filter (fun r => (firstOp q r).isSome) = [5] ∧
     (drrPick (fun r => (fchS q).flQuantum 31 r [5]) (fun r => (firstOp q r).elim 0 FlReq.cost) [5] 400 64 []).isSome = true) ∧
    (((fchS [dest]).fch 31).queue.find? fun r => r.started && (match r.op with | .destage .. => true | _ => false)) = some dest ∧
    (((fchS [eop 0]).fch 31).queue.find? fun r => r.started && (match r.op with | .erase _ => true | _ => false)) = some (eop 0) ∧
    (((fchS [prom]).fch 31).queue.find? fun r => r.started && (match r.op with
      | .promote _ => true | .expert _ _ => true | .scrub _ => true | _ => false)) = some prom ∧
    ((fchS []).flashSlot 3).isSome = true ∧ (eop 0).op = .erase 0 ∧ (fchS [eop 0]).groupHeld 3 0 = false := by decide
/-- A die with less than 4 % of its groups free, and one group that holds pages. -/
theorem wit_gc : (let s : State := { mem := { dies := [(3, { die1 with groups := [(7, 1)], used := [7], pages := [(7, fp0)] })] } }
      100 * (s.fdie 3).freeGroups < s.reg .flDieGcStart 3 * (s.fdie 3).goodGroups ∧
      (s.fdie 3).gcQueue = [] ∧ s.gcGroups 3 = [] ++ 7 :: []) := by decide

/-! ### Extents and the directory -/

def extIn (st : ExtState) (san : Bool := false) : ExtRec := { extT with st := st, sanitised := san }
def at' (e : ExtRec) (t : Nat) : State := { pool [(3, e)] with now := t }
theorem wit_revoke : (extIn .revoking).st = .revoking ∧ (extIn .revoking).revokeAt + (extIn .revoking).drainMs * msec ≤ 1000 * msec ∧
    (extIn .revoked).st = .revoked ∧ (extIn .revoked).sanitised = false ∧ (extIn .revoked true).sanitised = true ∧
    (extIn .revoked true).revokedAt + 60 * oneSec ≤ (at' (extIn .revoked true) (60 * oneSec)).now := by decide
theorem wit_drain : ∃ x, ((at' (extIn .revoking) (1000 * msec)).cutExtent 3).ext 3 = some x := ⟨_, rfl⟩
theorem wit_revoke_complete : (let u := ((at' (extIn .revoking) 0).recallLines 3 .revoke DirEnt.holders).dirRun
      u.ext 3 = some (extIn .revoking) ∧ (extIn .revoking).inflight = 0 ∧ (∀ y ∈ u.dir.ents, y.2.ext ≠ 3) ∧
      ∀ t ∈ u.dir.txns, t.ext ≠ 3) := by decide
def rec0 : Recall := { ext := 3, line := 4, idx := 0, ep := 9, kind := 1, tag := 0, seq := 0, sentAt := 0 }
theorem wit_home : (let s := { at' extK (10000 * usec) with dir := { recalls := [rec0] } }
      ∃ r ∈ s.dir.recalls, r.ext = 3 ∧ r.line = 4 ∧ r.forRevoke = false ∧
        r.sentAt + s.reg .dirPtnTimeout extK.ptn * usec ≤ s.now ∧ r.answered = false) ∧
    (let s := at' extK 0; (∀ r ∈ s.dir.recalls, r.ext ≠ 3 ∨ r.line ≠ 4) ∧ s.txn 3 4 = none) ∧
    (let s := { at' extK 0 with dir := { scans := [(15, 9)] } }; (15, 9) ∈ s.dir.scans) := by decide
def pub (v : Nat) : WaitReq :=
  { kind := .cover, pkt := { opcode := 0x10#8, src := 9#16, extent := 3#32, arg0 := BitVec.ofNat 64 v }, port := 0 }
theorem wit_publish : ∀ v ∈ [4, 5, 6],
    (let s := { pool [(3, { extT with version := 5, publisher := 9 })] with fab := { waits := [pub v] } }
     s.fab.waits.find? (fun r => r.kind == .cover && r.pkt.opcode == 0x10#8 && r.pkt.src == 9#16 && r.pkt.tg == 0
        && s.coverDone r && !(s.writing r.pkt.ext 9 && (s.ext r.pkt.ext).elim false (·.tracked))) = some (pub v) ∧
     (pub v).pkt.ext = 3 ∧ (pub v).pkt.arg0.toNat = v) := by decide
theorem wit_publish_order : [(1, 2), (1, 1)].Perm [(1, 1), (1, 2)] := by decide

/-! ### The dealer and the clusters -/

def ready5 (k : Nat) : Inv := { inv0 with ptn := 5, kernel := k, st := .ready, clusters := 1, reserved := [], tiles := 16 }
def cluOn : Cluster := { clockRun := true }
def dealS (invs : Tab Inv) (t : Nat := 0) : State :=
  { loaded with now := t, deal := { loaded.deal with invs := invs }, comp := { clus := [(0, cluOn), (1, cluOn)] } }
theorem wit_deal : ∀ k ∈ [0x8000, 2], ∃ v, (let u := (dealS [(7, ready5 k)]).reserveAll 5
      (u.readyInvs 5).find? (fun x => u.startable x.2) = some (7, v)) ∧ v.kernel = k := by
  intro k hk
  simp only [List.mem_cons, List.not_mem_nil, or_false] at hk
  rcases hk with rfl | rfl
  · exact ⟨_, rfl, rfl⟩
  · exact ⟨_, rfl, rfl⟩
theorem wit_stock_copies : ∃ x, (dealS []).homeCopies ((dealS []).kernelStale (ready5 2)) = (x, true) := ⟨_, rfl⟩
theorem wit_prepare : (let s := dealS [(7, { ready5 0x8000 with st := .running, prep := [0], reserved := [0] })]
      (s.deal.invs.find? (fun e => e.2.prep.contains 0)).isSome = true ∧ (s.image 5 0x8000).isSome = true ∧
      (s.clu 0).clockRun = true ∧ (s.clu 0).clearing = false) := by decide
def bas (cl : Option Nat) (e : Nat) : Basket :=
  { ptn := 5, model := 0x100, expert := e, entries := [(7, 0)], weights := [0], openedAt := 0, deadline := 200, target := 384,
    closed := cl.isSome, cluster := cl.bind fun n => if n = 99 then none else some n }
def basS (b : Basket) (res : List Nat) : State :=
  { dealS [] 200 with deal := { models := [(5 * 65536 + 0x100, { mdl0 with resident := res })], baskets := [(4, b)] } }
theorem wit_basket : (let s := basS (bas none 3) []
      let u := s.dealStep 5
      Tab.get? s.deal.baskets 4 = some (bas none 3) ∧ Tab.get? u.deal.baskets 4 = some (bas none 3) ∧ (bas none 3).closed = false ∧
      (bas none 3).deadline ≤ u.now ∧ u.queuedBaskets 5 < 1024) ∧
    (∀ res ∈ [[3], []], let u := (basS (bas (some 99) 3) res).dealStep 5
      let slots (b : Basket) : List Nat := ((u.model b.ptn b.model).elim [] fun m => Tab.getD m.slots b.expert []).filter fun g =>
        !(u.clu g).lost && !(u.isDeferred 0x0106 g)
      firstClosed (u.deal.baskets.filter fun b => b.2.ptn == 5 && b.2.closed && b.2.cluster.isNone && !(slots b.2).isEmpty) =
        some (4, bas (some 99) 3) ∧ ((u.model 5 0x100).elim false fun m => m.hasExpert 3 == !res.isEmpty) = true ∧
      (u.owned 5).filter (fun g => (slots (bas (some 99) 3)).contains g) = [] ++ 0 :: [1] ∧ u.queuedTokens 0 ≤ u.queuedTokens 1) ∧
    (∀ res ∈ [[3], []], let s := basS (bas (some 0) 3) res
     firstClosed (s.deal.baskets.filter fun b => b.2.cluster == some 0) = some (4, bas (some 0) 3) ∧ s.idleClu 0 = true ∧
     (s.clu 0).clockRun = true ∧ ((s.model 5 0x100).elim false fun m => m.hasExpert 3 == !res.isEmpty) = true) := by decide
/-- A basket that starts, none of whose invocations is late, and one that holds a late invocation. -/
theorem wit_basket_late : ∀ t ∈ [0, 1], (let s := basS (bas (some 0) 3) [3]
      let u := { s with now := 100001 * usec, deal := { s.deal with invs := [(7, { ready5 1 with startedAt := t })] } }
      (u.inv 7).elim false (fun v => decide (v.startedAt ≠ 0 ∧ v.startedAt + u.limitUs v * usec ≤ u.now)) = (t == 1)) := by decide
theorem wit_promoted : (({ mdl0 with cache := [1, 2] } : Model).cache = [1, 2]) ∧ (1 : Nat) ≠ 2 := by decide
def expOp : FlReq := { op := .expert 0x100 3, ptn := 5, prio := 0, since := 0, started := true }
theorem wit_expert_promotion : (let s := { loaded with mem := { fch := [(31, { queue := [expOp] })] } }
      (∀ j, j < 31 → (s.fch j).queue = []) ∧ (s.fch 31).queue = [expOp] ∧ expOp.op = .expert 0x100 3) := by decide
theorem wit_limits : (let s := dealS [(7, { ready5 2 with st := .input })] (100000 * usec)
      ((s.inv 7).elim false fun v => decide (v.st = .input ∧ v.acceptedAt + s.limitUs v * usec ≤ s.now)) = true) ∧
    (let s : State := { dealS [(7, { inv0 with ptn := 5, startedAt := 1 })] 1 with comp := { tiles := [(0, mine)] } }
     ((s.inv 7).elim false fun v => decide (v.st = .running ∧ v.startedAt ≠ 0 ∧ v.startedAt + s.limitUs v * usec ≤ s.now ∧
       ((s.tilesOf v).filter (fun x => (s.tile x.1).st == .running && (s.tile x.1).invKey == some 7)).length = 1)) = true) := by decide
def coll0 : Coll :=
  { ptn := 5, id := 1, parties := 2, elems := 64, inFmt := 0x12, mode := 0, settings := [], clusters := [0], opener := 7, openedAt := 0,
    ranks := [(0, 7)] }
theorem wit_collective : (let s : State := { now := 100000 * usec, deal := { colls := [(2, coll0)] } }
      Tab.get? s.deal.colls 2 = some coll0 ∧ coll0.openedAt + s.reg .dealTlimit 5 * usec ≤ s.now) := by decide
theorem wit_fault_stop : (let s := pair { mine with st := .faulted, report := some { code := 0x0B } } mine
      (s.tile 0).report = some { code := 0x0B } ∧ (s.tile 0).invKey = some 7 ∧ s.inv 7 = some inv0 ∧
      (s.tilesOf inv0).find? (fun y => (s.tile y.1).report.isSome && (s.tile y.1).invKey == some 7
        && decide ((s.tile y.1).faultAt / 40 = (s.tile 0).faultAt / 40)) = some (0, 0, 0)) := by decide
/-- A descriptor of one row of 64 bytes within scratch. -/
def desc0 : List Byte := le 1 0 ++ le 1 0 ++ zeros 2 ++ le 4 64 ++ le 4 1 ++ le 4 1 ++ zeros 48
def streaming (l : List Byte) : State := pair { mine with scratchBytes := 64, csBytes := 64, streams := [(3, [(5, l)])] } mine
theorem wit_stream_start : (let s := streaming desc0
      (s.tile 0).st = .running ∧ Tab.getD (s.tile 0).streams 3 [] = [(5, desc0)] ∧ (s.tile 0).invKey = some 7 ∧
      (Stream.ofBytes desc0).ok = true ∧ (Stream.ofBytes (zeros 64)).ok = false) := by decide
theorem wit_stream : ∃ u w, (streaming desc0).homeCopies ((streaming desc0).modified inv0 ((Stream.ofBytes desc0).touches [])) = (u, true) ∧
    streamRows inv0 7 0 0 (Stream.ofBytes desc0) 1 0 u = (w, none) ∧ (w.tile 0).wait = .none := by
  refine ⟨streaming desc0, (streamRows inv0 7 0 0 (Stream.ofBytes desc0) 1 0 (streaming desc0)).1, rfl, ?_, rfl⟩
  exact Prod.ext rfl (by decide)
theorem wit_stream_fault : ∃ w f, streamRows inv0 7 0 0 (Stream.ofBytes desc0) 1 0 (pair mine mine) = (w, some f) := ⟨_, _, rfl⟩
theorem wit_clusters :
    (let s := pair { mine with wait := .bar 0 5 } { mine with wait := .bar 0 5 }
     (s.deal.invs.find? (fun e => e.2.st == .running && e.2.reserved.contains 0)).isSome = true ∧ inv0.prep = [] ∧
     s.scopeOf inv0 0 0 = [0, 1] ∧ [0, 1].Nodup ∧ ∀ x ∈ [0, 1], (s.tile x).st = .running ∧ (s.tile x).wait = .bar 0 5) ∧
    (let s : State := { now := 81920, comp := { clus := [(31, { clearing := true })] } }
     (s.clu 31).clearing = true ∧ (s.clu 31).clearStart + 81920 ≤ s.now) ∧ (bare.clu 31).clockRun = false ∧
    (pool []).cluPtn 1 = some 5 ∧ ((pool []).ptn 5).st = .active ∧
    (let s := { pool [] with ptns := [(5, { ptn5 with st := .resetting })] }
     (s.ptn 5).st = .resetting ∧ (s.ptn 5).clearing = [] ∧ s.isDeferred 0x0202 69 = false) := by decide

/-! ### Packets -/

/-- A packet from endpoint 9 for the device, with its check value. -/
def crcd (p : Packet) : Packet := { p with e2eCrc := p.crcOf }
def reqP (op : BitVec 8) (len : Nat) : Packet :=
  crcd { opcode := op, ptn := 5#8, src := 9#16, extent := 3#32, length := BitVec.ofNat 64 len }
def dataP (op : BitVec 8) (len : Nat) (l : List Byte) : Packet :=
  crcd { opcode := op, ptn := 5#8, src := 9#16, extent := 3#32, length := BitVec.ofNat 64 len, payload := l,
         payloadLen := BitVec.ofNat 16 l.length }
/-- Requests of one packet to an untracked and to a tracked extent pass every check. -/
theorem wit_requests : (∀ p ∈ [reqP 0x01#8 4096, reqP 0x04#8 65536, reqP 0x10#8 0, reqP 0x11#8 0, reqP 0x12#8 0, reqP 0x13#8 0],
      Granted (pool [(3, extT)]) 17 0 p) ∧
    (∀ p ∈ [reqP 0x20#8 128, reqP 0x21#8 128, { reqP 0x24#8 8 with subop := 1#8 }],
      (let p := crcd p; Granted (pool [(3, extK)]) 17 0 p)) := by
  unfold Granted Arrives; decide +kernel
theorem wit_writes : Granted (pool [(3, extT)]) 17 0 (dataP 0x02#8 128 (zeros 128)) ∧
    (let p := crcd { dataP 0x03#8 4096 (zeros 128) with arg1 := 0x80000000#64 }; Granted (pool [(3, extT)]) 17 0 p) ∧
    Granted (pool [(3, extK)]) 17 0 (dataP 0x23#8 128 (zeros 128)) ∧
    (let s := pool [(3, extK)]
     let p := reqP 0x22#8 128
     Arrives s 17 1 p ∧ p.rsp = false ∧ (s.fresh 17 1 p).check6 p = none) := by
  unfold Granted Arrives; decide +kernel
theorem wit_versions : (pool [(3, extT)]).ext 3 = some extT ∧ extT.policy ≠ 0 ∧ extP.policy = 0 ∧
    Granted (pool [(3, extP)]) 17 0 (reqP 0x13#8 0) := by
  unfold Granted Arrives; decide +kernel
/-- ATOMIC at the last four bytes of a line: an addition that wraps, an exchange, and a comparison either way. -/
theorem test_atomic : ∀ x ∈ [(1, 0xFFFFFFFF#64, 0#64), (2, 0x11223344#64, 0#64), (3, 9#64, 0#64), (3, 9#64, 1#64)],
    (let p : Packet := { subop := BitVec.ofNat 8 x.1, offset := 124#64, length := 4#64, arg0 := x.2.1, arg1 := x.2.2 }
     (zeros 128).length = 128 ∧ p.len = 4 ∧ p.off % p.len = 0 ∧
     (atomicOp p (zeros 128)).2 = zeros 124 ++ (match x.1, x.2.2 == 0#64 with
       | 1, _ => le 4 0xFFFFFFFF | 2, _ => le 4 0x11223344 | _, true => le 4 9 | _, _ => zeros 4)) := by decide +kernel
theorem wit_roundtrip : (dataP 0x02#8 128 (zeros 128)).payload.length % 64 = 0 := by decide
theorem wit_transit : (∀ h ∈ [31#8, 32#8], (let p : Packet := { dst := 8#16, hops := h }
      (pool []).isLocal p.dst.toNat = false ∧ (p.hops.toNat < 32 ∨ 32 ≤ p.hops.toNat) ∧ (pool []).overrun 17 0 p = false ∧
      ({ pool [] with links := [(17, { rxUsed := [(0, 3071)] })] } : State).overrun 17 0 p = true)) := by decide
def invBody : List Byte := le 2 0x8000 ++ zeros 1 ++ le 1 0xFF ++ le 1 0xFF ++ le 1 1 ++ zeros 26
def invP : Packet := dataP 0x30#8 0 (invBody ++ zeros 32)
/-- A device with an image under handle 0x8000 in partition 5. -/
def withKernel : State := { loaded with board := { phase := .ready }, mem := { dies := (pool []).mem.dies } }
theorem wit_invoke : (let s := withKernel
      let q := crcd { invP with payloadLen := 32#16, extent := 0#32 }
      let u := s.fresh 17 0 q
      let c := u.police (4 * q.q + q.svc) q.colour (chargeOf q)
      Arrives s 17 0 q ∧ q.rsp = false ∧ q.pktCount.toNat = 1 ∧ u.trick q = none ∧ u.lk.state ≠ 2 ∧ c.1 = 0 ∧
      c.2.checkInvoke q (invOf q (17 : Port) s.now) = none ∧ (c.2.passed6 (17 : Port) q).checkInvoke q (invOf q (17 : Port) s.now) = none ∧
      (invOf q (17 : Port) s.now).kernel ≠ 1) := by
  unfold Arrives; decide +kernel
theorem wit_invoke_data : (let s := { pool [] with
        deal := { invs := [(7, { inv0 with ptn := 5, st := .input, req := { src := 9#16, tag := 77#32 }, inputBytes := 128 })] } }
      let q := crcd { dataP 0x31#8 128 (zeros 128) with extent := 0#32, arg0 := 77#64 }
      let u := s.fresh 17 0 q
      let c := u.police (4 * q.q + q.svc) q.colour (chargeOf q)
      Arrives s 17 0 q ∧ q.rsp = false ∧ q.pktCount.toNat = 1 ∧ u.trick q = none ∧ u.lk.state ≠ 2 ∧ c.1 = 0 ∧
      c.2.checkData q = none ∧ ((c.2.passed6 (17 : Port) q).fedBy q).isSome = true) := by
  unfold Arrives; decide +kernel
theorem wit_recall_ack : Arrives (pool []) 17 1 { reqP 0x26#8 0 with flags := 1#8, e2eCrc := { reqP 0x26#8 0 with flags := 1#8 }.crcOf } := by
  unfold Arrives; decide +kernel
/-- Endpoint 9 is the fourth manager. -/
def managed : State := ((pool []).setReg .rtMgrIdValid 3 1).setReg .rtMgrIdId 3 9
theorem wit_mgmt : (let s := managed
      let q := crcd { dataP 0x40#8 0 (le 2 1 ++ zeros 62) with payloadLen := 8#16 }
      let u := s.fresh 17 4 q
      Arrives s 17 4 q ∧ q.rsp = false ∧ (∃ m : Fin 4, u.reg .rtMgrIdValid m = 1 ∧ u.reg .rtMgrIdId m = q.src.toNat) ∧
      u.fab.mgmtQ.length < 256 ∧ (mgmtCmd (mgmtParse q).1 (mgmtParse q).2.length).isSome = true ∧
      8 + field q.payload 6 2 ≤ q.payloadLen.toNat) := by
  unfold Arrives; decide +kernel
/-- Packets that are dropped: a wrong check value, an unknown opcode, a number seen before, a number far behind. -/
theorem wit_dropped : (let s : State := { pool [] with fab := { filters := [(9, ⟨2000#32, 1#1024⟩)] } }
      let p := crcd { src := 9#16, opcode := 0x12#8, seq := 2000#32 }
      let old := crcd { src := 9#16, opcode := 0x12#8, seq := 976#32 }
      p.dst.toNat = s.ownId ∧ s.board.phase = .ready ∧ ({ p with e2eCrc := ~~~p.crcOf } : Packet).e2eCrc ≠ p.crcOf ∧
      (crcd { opcode := 0x7F#8 }).formOk 0 = false ∧ p.formOk 0 = true ∧ ((s.received 17 0 p).filter 0 p).1 = .dup ∧
      ((s.received 17 0 old).filter 0 old).1 = .stale ∧ State.reset.board.phase ≠ .ready) := by decide +kernel
/-- A second packet of a trick that names another opcode than the first. -/
def trick0 (p : Packet) : TrickRec :=
  { src := 9, dst := p.dst.toNat, tag := 0, s0 := 0#32, opcode := 0x11, count := 1, length := 0, ext := 3, ptn := 5, seen := 1, refused := false,
    req := {}, port := 0 }
theorem wit_disagrees : (let p := reqP 0x12#8 0
      let s : State := { pool [(3, extT)] with fab := { table := [(5 * 512, trick0 p)] } }
      Arrives s 17 0 p ∧ p.rsp = false ∧ (s.fresh 17 0 p).trick p = some (5 * 512, trick0 p) ∧ (trick0 p).agrees p = false) := by
  unfold Arrives; decide +kernel
def mgmtOf (c : Nat) (b : List Byte) : Packet :=
  { opcode := 0x40#8, src := 9#16, payload := le 2 c ++ zeros 4 ++ le 2 b.length ++ b, payloadLen := BitVec.ofNat 16 (8 + b.length) }
theorem wit_management : ∀ x ∈ [(1, zeros 0), (2, zeros 2), (3, zeros 8), (4, zeros 6), (5, zeros 0), (6, zeros 4), (7, zeros 1), (8, zeros 1)],
    (let s : State := { managed with fab := { mgmtQ := [(17, mgmtOf x.1 x.2)] } }
     s.mounted = true ∧ ({ s with mem := {} } : State).mounted = false ∧ s.cores.duty.contains 3 = true ∧ s.fab.mgmtQ = (17, mgmtOf x.1 x.2) :: [] ∧ (mgmtParse (mgmtOf x.1 x.2)) = x) := by decide
/-- Each management command answers. -/
theorem wit_management_runs : let s := managed
    (∃ v st r, cmdRtIdent 0 [] s = (v, .now st r)) ∧ (∃ v st r, cmdRtPort 0 (zeros 2) s = (v, .now st r)) ∧
    (∃ v st r, cmdRtTblWrite 0 (zeros 8) s = (v, .now st r)) ∧ (∃ v st r, cmdRtTblRead 0 (zeros 6) s = (v, .now st r)) ∧
    (∃ v st r, cmdRtTblClear 0 [] s = (v, .now st r)) ∧ (∃ v st r, cmdRtDirWrite 0 (zeros 4) s = (v, .now st r)) ∧
    (∃ v st r, cmdRtSwap 0 (zeros 1) s = (v, .now st r)) ∧ (∃ v st r, cmdRtCounters 0 (zeros 1) s = (v, .now st r)) :=
  ⟨⟨_, _, _, rfl⟩, ⟨_, _, _, rfl⟩, ⟨_, _, _, rfl⟩, ⟨_, _, _, rfl⟩, ⟨_, _, _, rfl⟩, ⟨_, _, _, rfl⟩, ⟨_, _, _, rfl⟩, ⟨_, _, _, rfl⟩⟩

/-! ### The partner -/

def pairing0 : Pairing :=
  { takeover := true, portA := 16, portB := 17, peer := 9, sharedId := 100, silenceMs := 5, ueLimit := 1, peerDev := zeros 32 }
def paired (p : Partner) (t : Nat := 0) : State := { pool [] with now := t, sec := { pset := { pairing := some pairing0 } }, prt := p }
/-- A mirror frame as the partner sends it. -/
def frameP (f : List Byte) : Packet :=
  crcd { opcode := 0x50#8, flags := 2#8, sclass := 2#8, src := 9#16, payloadLen := BitVec.ofNat 16 f.length,
         payload := padTo (roundUp f.length 64) f }
def helloB (act : Nat) : List Byte := le 2 9 ++ le 2 100 ++ zeros 2 ++ le 1 act ++ zeros 1 ++ zeros 32
theorem wit_hello : ∀ act ∈ [true, false], (let f := mirrorFrame 1 0 0 0 (helloB (b2n (!act)))
      let s := paired { st := .waiting, roleActive := act }
      Framed s 17 3 (withType 1 (frameP f)) pairing0 f ∧ helloMatches pairing0 ((f.drop 32).take (field f 12 4)) = true ∧
      s.prt.st = .waiting ∧ s.sec.debugOn = false ∧ s.prt.roleActive = act ∧ (field ((f.drop 32).take (field f 12 4)) 6 1 = 1 ↔ act = false)) := by
  unfold Framed Arrives; decide +kernel
theorem wit_heartbeat : (let f := mirrorFrame 2 0 0 0 (le 1 1)
      let s := paired { st := .active, peerSt := 4 }
      let b := (f.drop 32).take (field f 12 4)
      Framed s 17 3 (withType 2 (frameP f)) pairing0 f ∧ s.prt.st = .active ∧ b ≠ [] ∧ field b 0 1 = 1 ∧ s.prt.peerSt = 4) := by
  unfold Framed Arrives; decide +kernel
/-- A frame of the sequence, next in order or already applied, and the frames 7 and 8. -/
theorem wit_frames : (∀ t ∈ [3, 4, 5, 6, 9, 10], ∀ m ∈ [0, 1, 257], (let f := mirrorFrame t m 3 0 (zeros 0)
      let s := paired { st := .standby }
      Framed s 17 3 (withType t (frameP f)) pairing0 f ∧ s.prt.st = .standby ∧
      ((s.prt.applied < field f 4 4 ∧ field f 4 4 - s.prt.applied ≤ 257) ∨
       (field f 4 4 ≤ s.prt.applied ∧ ((s.framed 17 3 (withType t (frameP f)) f).aliveIn 3 (field f 4 4)).mirrorBusy = false)))) ∧
    (let f := mirrorFrame 8 0 0 0 []
     Framed (paired { st := .standby }) 17 3 (withType 8 (frameP f)) pairing0 f) := by
  unfold Framed Arrives; decide +kernel
/-- The response to the frame whose tag is 6 and whose number was 12. -/
def ackP : Packet := crcd { frameP (mirrorFrame 7 0 0 0 []) with flags := 3#8, reqSeq0 := 12#32, tag := 6#32 }
theorem wit_ack : Framed (paired { st := .active, openTags := [(6, 12)] }) 17 3 (withType 7 ackP) pairing0 (mirrorFrame 7 0 0 0 []) ∧
    ackP.rsp = true := by
  unfold Framed Arrives; decide +kernel
def sent0 : SentFrame := { mseq := 4, frame := [], sentAt := 0 }
theorem wit_partner_timers :
    (let s := paired { st := .active, sent := [sent0], yieldDue := true, peerSt := 4 } (5 * msec)
     s.sec.pset.pairing = some pairing0 ∧ s.prt.sent.find? (fun f => f.mseq == (4#32).toNat) = some sent0 ∧
     sent0.sentAt + 20 * usec ≤ s.now ∧ s.prt.helloAt + msec ≤ s.now ∧ s.prt.silent = false ∧
     s.prt.heard + pairing0.silenceMs * msec ≤ s.now ∧ s.prt.st = .active ∧ s.prt.yieldDue = true ∧ s.prt.peerSt = 4 ∧
     s.prt.yielding = false) ∧
    pairing0.takeover = true ∧ (paired { st := .standby }).prt.st = .standby ∧
    ((paired { yielding := true }).prt.yielding = true ∧ (paired { yielding := true }).prt.acked = (paired { yielding := true }).prt.mseq) ∧
    ((paired { st := .takingOver }).prt.st = .takingOver ∧ (paired { st := .takingOver }).prt.lines = []) := by decide

/-! ### Links -/

def linked (l : Link) (t : Nat := 0) : State := { pool [] with now := t, links := [(17, l)] }
def trailer0 (b : List Byte) (ctl : Nat) : GroupTrailer :=
  { crc := crc32c (b ++ trailerTail 0 0 ctl 0 0 0), firstLseq := 0, ackLseq := 0, ctl := BitVec.ofNat 8 ctl, credFreed := 0, cmd := 0, arg := 0 }
def flit0 : Flit := { bytes := zeros 64, first := true }
/-- A group whose check value is right, without new slots, with old ones, and with slots past a gap. -/
theorem wit_groups : ∀ x ∈ [(0, 0#16), (8, 0#16), (8, 65535#16)], (let l : Link := { st := .active, expected := x.2 }
      let b := padTo 4096 (([] : List Byte).take 4096)
      let tr := trailer0 b x.1
      ((linked l).link 17).listening = true ∧
      crc32c (b ++ trailerTail tr.firstLseq.toNat tr.ackLseq.toNat tr.ctl.toNat tr.credFreed.toNat tr.cmd.toNat tr.arg.toNat) = tr.crc ∧
      (bit tr.ctl.toNat 3 = true ↔ x.1 = 8)) := by
  intro x hx
  simp only [List.mem_cons, List.not_mem_nil, or_false] at hx
  rcases hx with rfl | rfl | rfl <;>
    exact ⟨rfl, congrArg (fun t => crc32c (padTo 4096 (([] : List Byte).take 4096) ++ t)) (by decide), by decide⟩
def replaying : State := linked { st := .active, hamper := [flit0], timerAt := some 0, timerPer := 40, replaysSince := 16 } (1000 * msec)
theorem wit_replay : (replaying.link 17).st = .active ∧ (replaying.link 17).timerAt = some 0 ∧ (replaying.link 17).hamper = [flit0] ∧
    ((linked { st := .param }).link 17).st = .param := ⟨rfl, rfl, rfl, rfl⟩
theorem wit_replay_limit : 0 + (replaying.link 17).timerPer * 10000 ≤ replaying.now := by decide
theorem wit_replay_limit2 : replaying.reg .glReplayLimit 17 ≤ (replaying.link 17).replaysSince := by decide
theorem wit_swap : (let l : Link := { st := .active }; l.txSpare ≠ 7 ∧ l.rxSpare ≠ 7 ∧ (3#16).toNat ∈ l.txLanes ∧ (3#16).toNat ∈ l.rxLanes) ∧
    (∀ x ∈ [[(true, 3)], [(false, 3)], [(true, 3), (false, 0)]], let l := (linked { st := .swap, swapLane := x }).link 17
      l.st = .swap ∧ l.rxSpare ≠ 7 ∧ l.swapLane = x) ∧
    (let s := linked { st := .swap } (20 * usec); (s.link 17).st = .swap ∧ (s.link 17).stSince + 20 * usec ≤ s.now) := by decide
theorem wit_low_power : (let s := (linked { st := .active, lpiSent := some 0 } usec).setReg .glCtrlLpiAllow 17 1
      (s.link 17).st = .active ∧ s.reg .glCtrlLpiAllow 17 = 1 ∧ s.quiet 17 = true ∧ (s.link 17).lpiSent = some 0 ∧
      s.now ≤ 0 + usec ∧ 0 + usec ≤ s.now ∧ (s.eg 17).queues = [] ∧ (s.link 17).hamper = [] ∧ (s.link 17).sending = [] ∧
      (s.link 17).requeue = []) ∧
    (let l : Link := { st := .active, lpiSent := some 0, sending := [flit0] }
     (linked l usec).link 17 = l ∧ l.sending ≠ [] ∧ (linked l usec).now ≤ 0 + usec) ∧
    (let s := { linked { st := .lpIdle } with lk := { waking := [(61, 0)] } }
     (s.link 17).st = .lpIdle ∧ Tab.has s.lk.waking (44 + 17) = true ∧ (s.link 17).swapReq = none) := by decide
theorem wit_symbols : (let s := linked { st := .active } msec
      (s.link 17).symAt + msec ≤ s.now ∧ ∀ i, i < 5 → i ∈ (s.link 17).rxLanes → ((s.link 17).symerr[i]?).getD 0 ≤ s.reg .glLaneThresh 17) ∧
    (let s := linked { st := .active, symerr := [0, 0, 0, 2 ^ 32, 0] } msec
     (s.link 17).st = .active ∧ (s.link 17).rxSpare ≠ 7 ∧ s.reg .glCtrlSpareAuto 17 = 1 ∧ 3 ∈ (s.link 17).rxLanes ∧
     s.reg .glLaneThresh 17 < ((s.link 17).symerr[3]?).getD 0 ∧
     ∀ j, j < 5 → j ≠ 3 → ((s.link 17).symerr[j]?).getD 0 < ((s.link 17).symerr[3]?).getD 0) ∧
    (let s := linked { st := .active, symerr := [0, 0, 0, 16385, 0], rxSpare := 7 } msec
     (s.link 17).st = .active ∧ (s.link 17).rxSpare = 7 ∧ 3 ∈ (s.link 17).rxLanes ∧
     s.reg .glLaneThresh 17 < ((s.link 17).symerr[3]?).getD 0 ∧
     ∀ j, j < 5 → j ≠ 3 → j ∈ (s.link 17).rxLanes → ((s.link 17).symerr[j]?).getD 0 ≤ s.reg .glLaneThresh 17) := by decide
/-- The nine items of PARAM. -/
def items : Tab Nat := (List.range 9).map fun i => (0x10 + i, 1)
theorem wit_param : (let s := linked { st := .param, got := items }
      let l := s.link 17
      l.st = .param ∧ (∀ i, 0x10 ≤ i → i ≤ 0x18 → Tab.has l.got i = true) ∧ Tab.has l.got 0x19 = false ∧ l.firstParam = true) ∧
    (let s := ((linked { st := .param, got := items, firstParam := false }).setReg .glPeerId 17 1).setReg .glPeerEpoch 17 65537
     let l := s.link 17
     l.firstParam = false ∧ s.reg .glPeerId 17 = Tab.getD l.got 0x10 0 ∧
     s.reg .glPeerEpoch 17 = Tab.getD l.got 0x11 0 + 65536 * Tab.getD l.got 0x12 0) := by
  refine ⟨⟨rfl, ?_, rfl, rfl⟩, rfl, rfl, rfl⟩
  intro i h1 h2
  have : i = 16 ∨ i = 17 ∨ i = 18 ∨ i = 19 ∨ i = 20 ∨ i = 21 ∨ i = 22 ∨ i = 23 ∨ i = 24 := by omega
  rcases this with rfl | rfl | rfl | rfl | rfl | rfl | rfl | rfl | rfl <;> rfl
theorem wit_training : (let s := linked { st := .training } (300 * msec)
      (s.link 17).st = .training ∧ (s.link 17).noLane = false ∧ (s.link 17).stSince + 300 * msec ≤ s.now) ∧
    (let s := linked { st := .training, noLane := true }; (s.link 17).st = .training ∧ (s.link 17).noLane = true) ∧
    (let l : Link := { shutting := true }; l.shutting = true ∧ l.enableDeferred = false ∧ l.resetting = false) := by decide

/-! ### Routing and egress -/

def swap0 (st : Nat) (f : Bool) : Swap := { stage := st, affected := [0], force := f, startedAt := 0, froze := 1 }
def swapping (w : Swap) : State := { pool [] with now := 1000 * msec, rt := { swap := some w } }
theorem wit_drain_tables : (∀ f : Bool, (swapping (swap0 2 f)).rt.swap = some (swap0 2 f) ∧ (swapping (swap0 2 f)).rt.tkReset = false ∧
      (∀ t ∈ (swap0 2 f).affected, (swapping (swap0 2 f)).reg .rtOutstanding t = 0) ∧
      (swap0 2 f).startedAt + (swapping (swap0 2 f)).reg .rtDrainLimit 0 * usec ≤ (swapping (swap0 2 f)).now) ∧
    (let s := (swapping (swap0 2 false)).setReg .rtOutstanding 0 1
     ∃ t ∈ (swap0 2 false).affected, s.reg .rtOutstanding t ≠ 0) ∧
    (swap0 5 false).startedAt + 384000 ≤ (swapping (swap0 5 false)).now := by decide
def out0 (v : Nat) : OutPkt :=
  { pkt := { dst := 9#16 }, vc := v, flits := 2, table := 18, ingress := none, since := 0, ptn := none }
/-- Port 17 in ACTIVE, its peer's credit known, with queues as given. -/
def port17 (q : Tab (List OutPkt)) (rq : List (List Flit) := []) : State :=
  let s : State := { pool [] with links := [(17, { st := .active, requeue := rq })], egr := [(17, { queues := q })] }
  (List.range 5).foldl (fun s v => s.setReg .glBufVc (5 * 17 + v) 100) s
theorem wit_egress : (∀ v ∈ [(2050, 2), (2052, 4)], let s := port17 [(v.1, [out0 v.2])]
      (s.link 17).requeue = [] ∧ s.headOf 17 v.1 = some (out0 v.2) ∧ s.canStart 17 v.2 2 = true) ∧
    (port17 []).headOf 17 2050 = none ∧ (port17 []).headOf 17 2052 = none ∧
    ((port17 []).countSkips 17).choose 17 = none ∧
    (let s := port17 [] [[flit0]]
     (s.link 17).requeue.find? (fun fs => s.canStart 17 ((fs.head?).elim 0 fun f => hdrVc f.bytes) fs.length) = some [flit0]) := by
  decide
theorem wit_choose : ∃ r, ((port17 [(4 * 511 + 1, [out0 0])]).countSkips 17).choose 17 = some r := ⟨_, rfl⟩
theorem wit_slot_wrap : (let s : State := { State.reset with now := 26214400, egr := [(17, { swapPending := true })] }
      (s.eg 17).swapPending = true ∧ (s.eg 17).shadowAt / 26214400 < s.now / 26214400) ∧
    (let s := at' extT usec
     (s.eg 17).sampleAt + usec ≤ s.now ∧ (s.eg 17).queues = [] ∧ s.ingress 17 = []) ∧
    (let s := { port17 [(2047, [out0 0])] with now := usec }
     (s.eg 17).sampleAt + usec ≤ s.now ∧ (s.eg 17).queues = [(2047, [out0 0])] ∧ s.ingress 17 = []) := by decide

/-! ### Lookout, power and meter -/

theorem wit_lookout : (let s := at' extT 256000; s.lk.sampleAt + 256000 ≤ s.now) ∧
    (let s := { at' extT 32000 with lk := { sampled := true } }; s.lk.sampled = true ∧ s.lk.sampleAt + 32000 ≤ s.now) ∧
    (∀ r ∈ [0, 32, 61, 93], let s := { linked { st := .lpIdle } oneSec with lk := { waking := [(r, 0)] } }
      Tab.get? s.lk.waking r = some 0 ∧ 0 + wakeCost r ≤ s.now ∧ (s.link 17).st = .lpIdle) ∧
    (let s := at' extT (10 * msec)
     s.lk.evalAt + msec ≤ s.now ∧ s.lk.tripped = false ∧ s.lk.sensorAt + 2048000 ≤ s.now ∧ s.lk.telemAt + msec ≤ s.now ∧
     s.board.phase = .ready) ∧
    (let s := { at' extT (10 * msec) with lk := { tripped := true, belowSince := some 0 } }
     s.lk.tripped = true ∧ s.lk.belowSince = some 0 ∧ 0 + 10 * msec ≤ s.now) ∧
    (let s := { at' extT oneSec with lk := { state := 2, dormantAt := some 0 } }
     s.lk.dormantAt = some 0 ∧ s.lk.state = 2 ∧ 0 + s.reg .rtDrainLimit 0 * usec ≤ s.now) := by decide
/-- Readings below the trip level, and one at it. -/
theorem wit_sensors : (∀ i, i < 64 → State.reset.temp i < 26880) ∧
    (let s : State := { lk := { filt := [(63, 26880)] } }; ∃ i, i < 64 ∧ 26880 ≤ s.temp i) :=
  ⟨fun i _ => by show (0 : Nat) < 26880; decide, 63, by decide, by decide⟩
def frame0 (exp alive : Nat) (rst : Bool) : BitVec 128 :=
  let b := le 1 (8 * b2n rst) ++ le 1 0 ++ le 2 0 ++ le 2 exp ++ zeros 6
  BitVec.ofNat 128 (ofLe (b ++ le 4 (crc32c b).toNat))
theorem wit_meter : (let s : State := { State.reset with now := msec * 1000, send := [(7, { deltas := [(255 * 16 + 8, 5)] })] }
      (s.sender 7).lastAt + msec ≤ s.now ∧ min (Tab.getD (s.sender 7).deltas (255 * 16 + 8) 0) (2 ^ 48 - 1) ≠ 0 ∧ s.mtr.st = 0 ∧
      s.mtr.lastSnap < s.meterTime / 1000000 * 1000000 ∧ 7 ∉ s.mtr.silent ∧
      Tab.getD s.mtr.heard 7 0 + s.mtr.silenceMs * msec ≤ s.now) ∧
    ({ st := 1 } : Meter).run = 0 := by decide
/-- Frames with the restart flag, in order, repeated, past a gap, and with a wrong check value. -/
theorem wit_frames_of_counters : (∀ x ∈ [(0, true), (0, false), (65535, false), (5, false)],
      (let f := le 16 (frame0 x.1 0 x.2).toNat
       (crc32c (f.take 12)).toNat = field f 12 4 ∧ bit (field f 0 1) 3 = x.2 ∧ (field f 4 2 + 65536 - 0) % 65536 = x.1)) ∧
    (let f := le 16 (1#128).toNat; (crc32c (f.take 12)).toNat ≠ field f 12 4) := by decide +kernel
theorem wit_sign_done : (let s : State := { State.reset with mtr := { State.reset.mtr with queue := [{ report := true, no := 1, mbx := 0, first := 0, ptn := 5, nonce := [] }] } }
      s.mtr.st = 0 ∧ ∃ r rest, s.mtr.queue = r :: rest ∧ r.report = true) := ⟨rfl, _, _, rfl, rfl⟩

/-! ### Resets, start-up, upkeep -/

theorem wit_resets : (let s := { pool [] with now := 1000 * msec, board := { phase := .ready, resetDue := some (1, 0), warmLow := true },
                                              sec := { debugOn := true } }
      s.board.phase ≠ .lost ∧ s.board.porLow = false ∧ s.lk.state ≠ 3 ∧ s.board.warmLow = true ∧ s.board.resetDue = some (1, 0) ∧
      0 + 100 * usec ≤ s.now ∧ s.sec.debugOn = true ∧ s.sec.debugEnd ≤ s.now) ∧
    (let s := { pool [] with now := 1000 * msec, lk := { state := 3, railAt := some 0 } }
     s.lk.railAt = some 0 ∧ s.lk.state = 3 ∧ 0 + s.reg .lkRailWait 0 * msec ≤ s.now) ∧
    State.reset.sec.unlockDue = false := by decide
/-- Out of a power-on reset the mask ROM finds both stages in the slots the board ships. -/
theorem wit_boot : State.reset.board.phase = .rom ∧ ({} : State).imageSlot 0 = none ∧
    (let s : State := { board := { phase := .stage1, linkOpen := true }, now := msec }
     s.board.kind ≠ 2 ∧ s.board.vidAt + 100 * usec ≤ s.now ∧ s.imageSlot 1 = none ∧ 3 ∉ s.board.flashDone) ∧
    (let s : State := { board := { phase := .main } }; s.board.phase = .main) := by decide
theorem wit_boot_images : (∃ x, State.reset.imageSlot 0 = some x) ∧ ∃ x, State.reset.imageSlot 1 = some x := ⟨⟨_, rfl⟩, _, rfl⟩
theorem wit_cores : (∀ c ∈ [3, 4], let s := State.reset
      s.cores.moves = [] ∧ ∃ d ∈ List.range 9, s.cores.duty[c]? = some d ∧ d ≠ 0xFF) ∧
    (let s := State.reset; s.diag.recs.length < 64 ∧ s.prt.st = .unpaired ∧ s.sec.debugOn = false) := by decide
theorem wit_upkeep_records : (let s : State := { wear := { pend := [⟨{ kind := 1, unit := 0, a := 0, b := 0 }, 0, none⟩] } }
      s.wear.pend ≠ [] ∧ s.vaultOk = true) ∧
    (let s : State := { board := { upd := some (2, 128) } }; s.board.upd = some (2, 128)) ∧ 3 ∉ State.reset.board.clocksLost := by decide

/-! ### Loads: an image and a model whose digests are right -/

theorem slice_length (l : List Byte) (o n : Nat) : (slice l o n).length = n := by
  simp [slice] <;> omega
/-- 32 bytes, written out. -/
def bytes32 (l : List Byte) : List Byte := (List.range 32).map fun i => (l[i]?).getD 0#8
theorem bytes32_eq (l : List Byte) (h : l.length = 32) : bytes32 l = l := by
  apply List.ext_getElem
  · simp [bytes32, h]
  · intro i h1 h2
    simp [bytes32, h2]
def imgHdr : List Byte := le 4 0x314B5A46 ++ le 2 1 ++ zeros 2 ++ le 4 1 ++ zeros 52
/-- An image of one word. -/
def imgOf : List Byte := imgHdr ++ bytes32 (slice (Config.shake256 (imgHdr ++ zeros 8)) 0 32) ++ zeros 40
def lineAt (i : Nat) (d : List Byte) : WaitReq :=
  { kind := .homeLine 0, pkt := { extent := 3#32, offset := BitVec.ofNat 64 (128 * i), payload := d }, port := 0, reply := false }
def imgS : State := { pool [(3, extT)] with fab := { waits := [lineAt 0 (imgOf.take 128), lineAt 1 (zeros 128)] } }
theorem wit_image : imgS.sourceOk 5 3 0 136 = true ∧ imgS.readRange 3 0 136 = .ok imgOf ∧ 128 ≤ imgOf.length ∧ imageHdrBad imgOf = none ∧
    imageSize imgOf = 136 ∧
    slice (Config.shake256 (imgOf.take 64 ++ slice imgOf 128 (8 * field imgOf 8 4 + field imgOf 28 4))) 0 32 = slice imgOf 64 32 := by
  refine ⟨by decide, ?_, ?_, by rfl, by rfl, ?_⟩
  · rfl
  · decide +kernel
  · exact (bytes32_eq _ (slice_length _ _ _)).symm
/-- The image is placed: nothing is short, no signature is required, and the first handle is free. -/
theorem wit_image_placed : (let b := le 1 5 ++ zeros 3 ++ le 4 3 ++ le 8 0 ++ le 4 136
      let v := (imgS.taken hdr 0x0401 b).rangeFx 3 0 136
      field imgOf 8 4 = 1 ∧ field imgOf 16 4 = 0 ∧ field imgOf 20 4 = 0 ∧ field imgOf 24 4 = 0 ∧ bit (field imgOf 6 2) 0 = false ∧
      (v.ptn 5).keyRequired = false ∧ codeWordOk 1 0 (field imgOf 128 8) = true ∧ v.image 5 0x8000 = none ∧
      ceilDiv imgOf.length 65536 = 1 ∧ decide (1 ≤ v.dramQuota 5 - v.pinned 5) = true) := by
  refine ⟨rfl, rfl, rfl, rfl, rfl, ?_, rfl, ?_, ?_, ?_⟩ <;> decide +kernel
def mdlBytes : Nat := 16384
/-- A model of one expert of 128 by 128 in a format of 4 bits: its record is the header and zeros. -/
def mdlHdr : List Byte := le 4 0x4C444D46 ++ le 2 1 ++ le 2 1 ++ le 4 128 ++ le 4 128 ++ le 1 0 ++ le 1 0 ++ le 1 0x08 ++ le 1 0 ++ le 1 0x12 ++
  zeros 3 ++ le 8 mdlBytes
def mdlDigest : List Byte := bytes32 (slice (Config.shake256 (mdlHdr ++ zeros mdlBytes)) 0 32)
def mdlOf : List Byte := mdlHdr ++ mdlDigest ++ zeros mdlBytes
def mdlS : State :=
  { pool [(3, extT)] with fab := { waits := [lineAt 0 (mdlHdr ++ mdlDigest ++ zeros 64)] },
                          mem := { (pool []).mem with pages := [(pageKey 3 0, { home := 0, st := .zero })] } }
theorem mdl_line (i : Nat) (h0 : 0 < i) (h : i < 512) : mdlS.lineVal 3 i = (0, zeros 128) := by
  have hw : mdlS.waitingStore 3 i = none := by
    simp [State.waitingStore, mdlS, pool, lineAt, Packet.off]; omega
  have hp : i / 512 = 0 := by omega
  simp only [State.lineVal, hw, State.peekLine, hp]
  rfl
theorem flat_zeros (k : Nat) : ((List.range k).flatMap fun _ => zeros 128) = zeros (128 * k) := by
  induction k with
  | zero => rfl
  | succ k ih => rw [List.range_succ, List.flatMap_append, ih, List.flatMap_cons, List.flatMap_nil, List.append_nil, zeros, zeros, zeros,
      List.replicate_append_replicate, Nat.mul_succ]
theorem mdl_read : mdlS.readRange 3 0 16448 = .ok mdlOf := by
  have hl : ((List.range ((0 + 16448 - 1) / 128 - 0 / 128 + 1)).map fun i => (0 / 128 + i, mdlS.lineVal 3 (0 / 128 + i))) =
      (0, (0, mdlHdr ++ mdlDigest ++ zeros 64)) :: (List.range 128).map fun i => (i + 1, (0, zeros 128)) := by
    rw [show (0 + 16448 - 1) / 128 - 0 / 128 + 1 = 128 + 1 from rfl, List.range_succ_eq_map, List.map_cons, List.map_map]
    refine congrArg _ ?_
    apply List.map_congr_left
    intro i hi
    have hi := List.mem_range.1 hi
    have := mdl_line (i + 1) (by omega) (by omega)
    simp [this]
  have hf : ((0, (0, mdlHdr ++ mdlDigest ++ zeros 64)) :: (List.range 128).map fun i => (i + 1, (0, zeros 128))).find?
      (fun x : Nat × Nat × List Byte => x.2.1 != 0) = none := by
    simp
  have hd : (mdlHdr ++ mdlDigest).length = 64 := by decide +kernel
  have hz : zeros 64 ++ zeros (128 * 128) = zeros mdlBytes ++ zeros 64 := by
    unfold zeros mdlBytes; rw [List.replicate_append_replicate, List.replicate_append_replicate]
  unfold State.readRange
  have h0 : ¬(16448 = 0) := by omega
  dsimp only
  rw [if_neg h0, hl, hf]
  have hm : ((0, (0, mdlHdr ++ mdlDigest ++ zeros 64)) :: (List.range 128).map fun i => (i + 1, (0, zeros 128))).flatMap
      (fun x : Nat × Nat × List Byte => x.2.2) = mdlOf ++ zeros 64 := by
    rw [List.flatMap_cons, List.flatMap_map]
    dsimp only
    rw [flat_zeros, List.append_assoc, List.append_assoc, hz, mdlOf]
    simp only [List.append_assoc]
  have hn : mdlOf.length = 16448 := by
    rw [mdlOf, List.length_append, hd]; unfold zeros mdlBytes; rw [List.length_replicate]
  dsimp only
  rw [hm, show 0 % 128 = 0 from rfl, List.drop_zero, ← hn, List.take_left]
theorem wit_model : mdlS.sourceOk 5 3 0 16448 = true ∧ mdlS.readRange 3 0 16448 = .ok mdlOf ∧ 64 ≤ mdlOf.length ∧
    modelHdrBad mdlOf = none ∧ modelSize (ModelHdr.ofBytes mdlOf) = 16448 ∧
    slice (Config.shake256 (mdlOf.take 32 ++ mdlOf.drop 64)) 0 32 = slice mdlOf 32 32 := by
  refine ⟨by decide, mdl_read, ?_, by rfl, by rfl, ?_⟩
  · rw [mdlOf, List.length_append]; exact Nat.le_add_right_of_le (by decide +kernel)
  · exact (bytes32_eq _ (slice_length _ _ _)).symm
/-- The model is placed: its one expert fits, and the first handle is free. -/
theorem wit_model_placed : (let b := le 1 5 ++ zeros 3 ++ le 4 3 ++ le 8 0 ++ le 8 16448
      let v := (mdlS.taken hdr 0x0403 b).rangeFx 3 0 16448
      (ModelHdr.ofBytes mdlOf).experts = 1 ∧ (ModelHdr.ofBytes mdlOf).expertBytes = mdlBytes ∧ v.model 5 0x0100 = none ∧
      decide (3 * mdlBytes ≤ (v.dramQuota 5 - v.pinned 5) * 65536 - 67108864) = true) := by
  refine ⟨rfl, rfl, ?_, ?_⟩ <;> decide +kernel
/-- A page whose 512 lines wait as writes of zeros. -/
def zeroQ : State :=
  let w (b t : Nat) : ChanReq := { kind := .write (zeros 128) 0, bank := b, row := t / 15, slot := t % 15, tag := 50 }
  (tier dirtyP []).onChan 0 fun x => { x with bankQ := (List.range 32).map fun b => (b, (List.range 16).map (w b)) }
theorem wit_zero_page : ((List.range 512).foldl (fun (acc : List (Nat × List Byte) × State) n =>
         let r := acc.2.readExt 3 (0 * 512 + n) 50
         (acc.1 ++ [r.1], r.2)) ([], zeroQ)).1.all (fun l => l.1 == 0 && l.2 == zeros 128) = true := by
  decide +kernel

/-! ### Results of the manual's worked examples -/

/-- One line under each map (spec/11_hbm_tier.md, R339). -/
theorem test_maps : mapLine 0 632108 = (28, 1316, 8) ∧ mapLine 1 632108 = (12, 1316, 13) ∧ mapLine 2 632108 = (0, 1316, 13) := by decide
/-- The filter rises at two samples and falls for ten (spec/18_lookout_and_power.md). -/
theorem test_lookout_filter : lkFilter 2 0 65535 = 16383 ∧ lkFilter 2 16383 65535 = 28671 ∧
    (List.range 10).foldl (fun y _ => lkFilter 2 y 0) 65535 = 3690 := by decide
def credit (c : Nat) (h : List Flit) : State :=
  let s := (linked { st := .active, hamper := h }).setReg .glBufVc (5 * 17 + 1) 3072
  (s.setReg .glConsumedVc (5 * 17 + 1) c).setReg .glPeerFreedVc (5 * 17 + 1) 0xFFFFFA20
/-- 1,536 flits are available at t = 0 of the replay (spec/08_gleodlink.md), and with 166 of them in the hamper 1,370. -/
theorem test_credit : (credit 0x20 []).canStart 17 1 1536 = true ∧ (credit 0x20 []).canStart 17 1 1537 = false ∧
    (credit 0xC6 (List.replicate 166 flit0)).canStart 17 1 1370 = true ∧
    (credit 0xC6 (List.replicate 166 flit0)).canStart 17 1 1371 = false := by decide
/-- The check value that the definition of CRC-32C publishes for the nine digits. -/
theorem test_crc : crc32c ([0x31, 0x32, 0x33, 0x34, 0x35, 0x36, 0x37, 0x38, 0x39].map (BitVec.ofNat 8)) = 0xE3069283#32 := by decide +kernel

end Sys2Proof.Tests
end

section
/-! PROOFS. Bytes and memories: what a little-endian field holds, and what a range reads as after it was written. -/
namespace Sys2Proof.Machine

/-! ### Little-endian fields (R9) -/

@[simp] theorem le_length (n x : Nat) : (le n x).length = n := by
  induction n generalizing x with
  | zero => rfl
  | succ n ih => simp [le, ih]

@[simp] theorem zeros_length (n : Nat) : (zeros n).length = n := List.length_replicate

theorem ofLe_le (n x : Nat) : ofLe (le n x) = x % 256 ^ n := by
  induction n generalizing x with
  | zero => simp [le, ofLe, Nat.mod_one]
  | succ n ih => rw [le, ofLe, ih, BitVec.toNat_ofNat, Nat.pow_succ' (n := n)]; exact Nat.mod_mul.symm

/-- A slice inside the list pads nothing. -/
theorem slice_eq_of_window {l w : List Byte} {off n : Nat} (h : (l.drop off).take n = w) (hn : w.length = n) :
    slice l off n = w := by
  simp [slice, h, hn]

theorem field_le_append (n x : Nat) (l : List Byte) : field (le n x ++ l) 0 n = x % 256 ^ n := by
  rw [field, slice_eq_of_window (List.take_left' (le_length n x)) (le_length n x), ofLe_le]

theorem field_le (n x : Nat) : field (le n x) 0 n = x % 256 ^ n := by
  simpa using field_le_append n x []

theorem field_append_right {a : List Byte} {off : Nat} (h : a.length ≤ off) (l : List Byte) (n : Nat) :
    field (a ++ l) off n = field l (off - a.length) n := by
  rw [field, field, slice, slice, List.drop_append, List.drop_eq_nil_of_le h, List.nil_append]

theorem slice_take {off n k : Nat} (h : off + n ≤ k) (l : List Byte) : slice (l.take k) off n = slice l off n := by
  rw [slice, slice, List.drop_take, List.take_take, Nat.min_eq_left (by omega)]

theorem field_take {off n k : Nat} (h : off + n ≤ k) (l : List Byte) : field (l.take k) off n = field l off n := by
  rw [field, field, slice_take h]

/-! ### Reading a range -/

/-- A memory none of whose entries lies below the start of the range. -/
theorem Mem.getElem?_readsAt {d : Nat → Byte} {m : Mem} (hw : Mem.wf d m = true) {a n i : Nat} (hm : ∀ e ∈ m, a ≤ e.1)
    (hi : i < n) : (Mem.readsAt d m a n)[i]? = some (Mem.read d m (a + i)) := by
  induction n generalizing m a i with
  | zero => omega
  | succ n ih =>
    cases m with
    | nil =>
      cases i with
      | zero => simp [Mem.readsAt, Mem.read, Mem.find?]
      | succ i =>
        simp only [Mem.readsAt, List.getElem?_cons_succ]
        rw [ih hw (by simp) (by omega), Nat.add_right_comm]; rfl
    | cons e t =>
      obtain ⟨k, v⟩ := e
      obtain ⟨-, hk, ht⟩ := (Mem.wf_cons d k v t).mp hw
      have hak : a ≤ k := hm (k, v) (by simp)
      simp only [Mem.readsAt]
      split
      case isTrue heq =>
        subst heq
        cases i with
        | zero => simp [Mem.read, Mem.find?]
        | succ i =>
          rw [List.getElem?_cons_succ, ih ht (fun e he => hk e he) (by omega)]
          simp only [Mem.read, Mem.find?]
          rw [if_neg (by omega), if_neg (by omega), show a + 1 + i = a + (i + 1) by omega]
      case isFalse hne =>
        cases i with
        | zero => simp [Mem.read, Mem.find?, hne, show a < k by omega]
        | succ i =>
          have hm' : ∀ e ∈ (k, v) :: t, a + 1 ≤ e.1 := fun e he => by
            rcases List.mem_cons.mp he with rfl | he
            · simp; omega
            · have := hk e he; omega
          rw [List.getElem?_cons_succ, ih hw hm' (by omega), Nat.add_right_comm, Nat.add_assoc]

theorem Mem.read_above {d : Nat → Byte} {m : Mem} (h : Mem.wf d m = true) {a x : Nat} (hx : a ≤ x) :
    Mem.read d (Mem.above m a) x = Mem.read d m x := by
  have hfind : Mem.find? (Mem.above m a) x = Mem.find? m x := by
    ext v
    rw [Mem.find?_eq_some (Mem.wf_above h a), Mem.find?_eq_some h, Mem.mem_above h]
    exact and_iff_right hx
  rw [Mem.read, hfind, Mem.read]

theorem Mem.getElem?_reads {d : Nat → Byte} {m : Mem} (h : Mem.wf d m = true) (a : Nat) {n i : Nat} (hi : i < n) :
    (Mem.reads d m a n)[i]? = some (Mem.read d m (a + i)) := by
  rw [Mem.reads, Mem.getElem?_readsAt (Mem.wf_above h a) (fun _ he => Mem.above_ge h he) hi,
    Mem.read_above h (Nat.le_add_right a i)]

/-- A range read from where bytes were written begins with those bytes. -/
theorem Mem.take_reads_writes {d : Nat → Byte} {m : Mem} (h : Mem.wf d m = true) (a : Nat) {bs : List Byte} {n : Nat}
    (hn : bs.length ≤ n) : (Mem.reads d (Mem.writes d m a bs) a n).take bs.length = bs := by
  ext1 i
  rw [List.getElem?_take]
  split
  case isTrue hi =>
    rw [Mem.getElem?_reads (Mem.wf_writes h a bs) a (by omega), Mem.read_writes h, if_pos ⟨by omega, by omega⟩,
      Nat.add_sub_cancel_left, List.getElem?_eq_getElem hi, Option.getD_some]
  case isFalse hi => rw [List.getElem?_eq_none (by omega)]

end Sys2Proof.Machine
end

section
/-! PROOFS. The hand-over of a command row: the frame firmware reads is the row's, and what it checks of it in turn
(R413 to R417). -/
namespace Sys2Proof.Machine

section HandOver
variable {s : State} {h : MbxHdr} {op : Nat} {body : List Byte} {r : CmdRow}

/-! ### The request frame (R413) -/

/-- The header and the body of a request frame: what its check value covers. -/
def coveredOf (h : MbxHdr) (op : Nat) (body : List Byte) : List Byte :=
  le 2 op ++ le 2 body.length ++ le 2 h.alive.toNat ++ zeros 2 ++ le 4 h.reqId.toNat ++ zeros 4 ++ body

theorem requestOf_eq (h : MbxHdr) (op : Nat) (body : List Byte) :
    requestOf h op body = coveredOf h op body ++ le 4 (crc32c (coveredOf h op body)).toNat := rfl

@[simp] theorem coveredOf_length (h : MbxHdr) (op : Nat) (body : List Byte) :
    (coveredOf h op body).length = 16 + body.length := by
  simp [coveredOf]; omega

@[simp] theorem requestOf_length (h : MbxHdr) (op : Nat) (body : List Byte) :
    (requestOf h op body).length = 20 + body.length := by
  simp [requestOf_eq]; omega

theorem take_requestOf (h : MbxHdr) (op : Nat) (body : List Byte) :
    (requestOf h op body).take (16 + body.length) = coveredOf h op body := by
  rw [requestOf_eq]; exact List.take_left' (coveredOf_length h op body)

theorem field_requestOf_opcode (hop : op < 65536) : field (requestOf h op body) 0 2 = op := by
  simp only [requestOf_eq, coveredOf, List.append_assoc, field_le_append]; omega

theorem field_requestOf_length (hb : body.length ≤ 4076) : field (requestOf h op body) 2 2 = body.length := by
  simp only [requestOf_eq, coveredOf, List.append_assoc]
  rw [field_append_right (by simp), le_length, field_le_append]; omega

theorem field_requestOf_alive : field (requestOf h op body) 4 2 = h.alive.toNat := by
  simp only [requestOf_eq, coveredOf, List.append_assoc]
  rw [field_append_right (by simp), field_append_right (by simp), le_length, le_length, field_le_append]
  exact Nat.mod_eq_of_lt h.alive.isLt

theorem field_requestOf_reqId : field (requestOf h op body) 8 4 = h.reqId.toNat := by
  rw [requestOf_eq, coveredOf, List.append_assoc, List.append_assoc, List.append_assoc,
    field_append_right (by simp), show 8 - _ = 0 by simp, field_le_append]
  exact Nat.mod_eq_of_lt h.reqId.isLt

theorem field_requestOf_crc :
    field (requestOf h op body) (16 + body.length) 4 = (crc32c (coveredOf h op body)).toNat := by
  rw [requestOf_eq, field_append_right (by simp), coveredOf_length, Nat.sub_self, field_le]
  exact Nat.mod_eq_of_lt (crc32c _).isLt

theorem slice_requestOf_body : slice (requestOf h op body) 16 body.length = body := by
  refine slice_eq_of_window ?_ rfl
  rw [requestOf_eq, coveredOf, List.append_assoc, List.drop_left' (by simp), List.take_left]

/-! ### The mailbox a frame is handed over in (R410, R412, R414, R415) -/

/-- A mailbox that is set to a ready one reads back: its record is not the default one. -/
theorem State.box_onBox {m : Nat} {f : Mailbox → Mailbox} (hf : (f (s.box m)).ready = true) :
    (s.onBox m f).box m = f (s.box m) :=
  Tab.getD_set_ne _ _ fun e => by rw [e] at hf; cases hf

/-- What the host's two writes of a hand-over make of an open mailbox. -/
theorem MailOpen.box_handOver {m : Nat} (ho : MailOpen s m) {f : List Byte} (hf : f.length ≤ 4096) :
    ((s.writeReq m f).writeOwn m 1).box m =
      { s.box m with req := Mem.writes zeroByte (s.box m).req 0 f, hostDone := true } := by
  obtain ⟨-, -, hd3, hready, howner, hunread, -⟩ := ho
  have hwrite : (s.writeReq m f).box m = { s.box m with req := Mem.writes zeroByte (s.box m).req 0 f } := by
    rw [State.writeReq, if_neg (by simp [howner, hready, hd3]), State.box_onBox (by exact hready),
      List.take_of_length_le hf]
  have hd3' : (s.writeReq m f).pcie.d3 = false := by
    rw [← hd3, State.writeReq]; split <;> rfl
  have hready' : ((s.writeReq m f).box m).ready = true := by rw [hwrite]; exact hready
  rw [State.writeOwn, if_neg (by simp [hd3', hready']), State.box_onBox (by exact hready')]
  simp [hwrite, howner, hunread, show bit 1 0 = true from rfl, show bit 1 2 = false from rfl, show bit 1 3 = false from rfl]

/-- The state in which firmware has taken the mailbox of a row and has yet to read the frame (R414 step 3). -/
def State.handed (s : State) (h : MbxHdr) (op : Nat) (body : List Byte) : State :=
  ((s.writeReq h.mbx (requestOf h op body)).writeOwn h.mbx 1).onBox h.mbx fun b => { b with owner := true, hostDone := false }

theorem taken_eq (s : State) (h : MbxHdr) (op : Nat) (body : List Byte) :
    s.taken h op body =
      (((s.handed h op body).chkFrame 0 (coveredOf h op body)).checkAlive h.mbx h.alive.toNat).1 := by
  rw [← take_requestOf]; rfl

theorem MailOpen.box_handed (ho : MailOpen s h.mbx) (hb : body.length ≤ 4076) :
    (s.handed h op body).box h.mbx =
      { s.box h.mbx with
        req := Mem.writes zeroByte (s.box h.mbx).req 0 (requestOf h op body), owner := true, hostDone := false } := by
  have hbox := ho.box_handOver (f := requestOf h op body) (by rw [requestOf_length]; omega)
  obtain ⟨-, -, -, hready, -⟩ := ho
  rw [State.handed, State.box_onBox (by rw [hbox]; exact hready), hbox]

/-! ### What a hand-over leaves alone -/

/-- Only mailboxes and check-value units differ. -/
def OnlyMail (s u : State) : Prop := u = { s with mbx := u.mbx, chk := u.chk }

theorem OnlyMail.refl (s : State) : OnlyMail s s := rfl
theorem OnlyMail.trans {s u v : State} (h : OnlyMail s u) (h' : OnlyMail u v) : OnlyMail s v := by
  unfold OnlyMail at *; rw [h', h]
theorem OnlyMail.onBox (s : State) (m : Nat) (f : Mailbox → Mailbox) : OnlyMail s (s.onBox m f) := rfl
theorem OnlyMail.onChk (s : State) (i : Nat) (f : Checker → Checker) : OnlyMail s (s.onChk i f) := rfl

theorem onlyMail_writeReq (s : State) (m : Nat) (f : List Byte) : OnlyMail s (s.writeReq m f) := by
  unfold State.writeReq; split
  · exact .refl s
  · exact .onBox s m _
theorem onlyMail_writeOwn (s : State) (m w : Nat) : OnlyMail s (s.writeOwn m w) := by
  unfold State.writeOwn; split
  · exact .refl s
  · exact .onBox s m _
theorem onlyMail_checkAlive (s : State) (m a : Nat) : OnlyMail s (s.checkAlive m a).1 := by
  unfold State.checkAlive; split
  · rfl
  · dsimp only; split <;> rfl

theorem onlyMail_handOver (s : State) (m : Nat) (f : List Byte) : OnlyMail s ((s.writeReq m f).writeOwn m 1) :=
  (onlyMail_writeReq s m f).trans (onlyMail_writeOwn _ m 1)
/-- Taking a row's frame changes mailboxes and check-value units only. -/
theorem onlyMail_taken (s : State) (h : MbxHdr) (op : Nat) (body : List Byte) : OnlyMail s (s.taken h op body) :=
  (onlyMail_handOver s _ _).trans <| (OnlyMail.onBox _ _ _).trans <| (OnlyMail.onChk _ _ _).trans <|
    onlyMail_checkAlive _ _ _

theorem OnlyMail.mayIssue {s u : State} (hu : OnlyMail s u) (m : Nat) (r : CmdRow) (body : List Byte) :
    u.mayIssue m r body = s.mayIssue m r body := by
  rw [hu]; rfl
theorem OnlyMail.readyFor {s u : State} (hu : OnlyMail s u) (op : Nat) : u.readyFor op = s.readyFor op := by
  rw [hu]; rfl
theorem OnlyMail.mayReach {s u : State} (hu : OnlyMail s u) (m : Nat) (write : Bool) (mask a : Nat) :
    u.mayReach m write mask a = s.mayReach m write mask a := by
  rw [hu]; rfl

/-! ### Taking the frame (R414 to R417) -/

/-- An ALIVE count is accepted when none is expected or it is the expected one (R416). -/
theorem checkAlive_snd (s : State) (m a : Nat) :
    (s.checkAlive m a).2 = (s.box m).alive.elim true fun e => decide (a = e) := by
  unfold State.checkAlive
  cases (s.box m).alive with
  | none => rfl
  | some e => dsimp only [Option.elim]; split <;> simp [*]

/-- Firmware's checks of a frame that stands whole in the request area, is of the length its command takes, and bears the
right check value: ALIVE, permission, readiness (R417). -/
theorem runFrame_request (hop : op < 65536) (hb : body.length ≤ 4076) (hrow : cmdRow op = some r)
    (hlen : r.len body = body.length)
    (hreq : (s.reqFrame h.mbx).take (requestOf h op body).length = requestOf h op body) :
    s.runFrame h.mbx =
      let c := s.chkFrame 0 (coveredOf h op body)
      let a := c.checkAlive h.mbx h.alive.toNat
      if !a.2 then a.1.putResp h.mbx false op h.alive.toNat h.reqId.toNat 2 (le 2 ((c.box h.mbx).alive.getD 0))
      else if !(a.1.mayIssue h.mbx r body) then a.1.putResp h.mbx false op h.alive.toNat h.reqId.toNat 4 []
      else if !(a.1.readyFor op) then
        a.1.draw.2.putResp h.mbx false op h.alive.toNat h.reqId.toNat 14 (le 4 a.1.draw.1)
      else a.1.execute h.mbx op h.alive.toNat h.reqId.toNat r body := by
  rw [requestOf_length] at hreq
  have field_eq {off n : Nat} (hn : off + n ≤ 20 + body.length) :
      field (s.reqFrame h.mbx) off n = field (requestOf h op body) off n := by rw [← hreq, field_take hn]
  have hopc : field (s.reqFrame h.mbx) 0 2 = op := by rw [field_eq (by omega), field_requestOf_opcode hop]
  have hlenf : field (s.reqFrame h.mbx) 2 2 = body.length := by rw [field_eq (by omega), field_requestOf_length hb]
  have halive : field (s.reqFrame h.mbx) 4 2 = h.alive.toNat := by rw [field_eq (by omega), field_requestOf_alive]
  have hid : field (s.reqFrame h.mbx) 8 4 = h.reqId.toNat := by rw [field_eq (by omega), field_requestOf_reqId]
  have hcrc : field (s.reqFrame h.mbx) (16 + body.length) 4 = (crc32c (coveredOf h op body)).toNat := by
    rw [field_eq (by omega), field_requestOf_crc]
  have hbody : slice (s.reqFrame h.mbx) 16 body.length = body := by
    rw [← slice_take (by omega : 16 + body.length ≤ 20 + body.length), hreq, slice_requestOf_body]
  have hcov : (s.reqFrame h.mbx).take (16 + body.length) = coveredOf h op body := by
    rw [← take_requestOf, ← hreq, List.take_take, Nat.min_eq_left (by omega)]
  unfold State.runFrame
  dsimp only
  rw [hopc, hlenf, halive, hid, if_neg (by omega), hcov, hcrc, if_neg (fun hne => hne rfl), hbody, hrow]
  dsimp only
  simp only [hlen, ne_eq, not_true_eq_false, if_false]

/-- Firmware takes an open mailbox that is handed over (R415; log 69). -/
theorem MailOpen.mail_eq_runFrame (ho : MailOpen s h.mbx) (hb : body.length ≤ 4076) :
    s.mail h op body = (s.handed h op body).runFrame h.mbx := by
  have hbox := ho.box_handOver (f := requestOf h op body) (by rw [requestOf_length]; omega)
  have honly := onlyMail_handOver s h.mbx (requestOf h op body)
  obtain ⟨hserv, hask, -, -, howner, hunread, -⟩ := ho
  have hserv' : ((s.writeReq h.mbx (requestOf h op body)).writeOwn h.mbx 1).service = true := by rw [honly]; exact hserv
  have hask' : ((s.writeReq h.mbx (requestOf h op body)).writeOwn h.mbx 1).board.vaultAsk = [] := by rw [honly]; exact hask
  rw [State.mail, State.takeBox, hserv', hask', hbox, howner, hunread]
  rfl

/-- The frame that firmware reads begins with the row's request frame, whatever the request area held before (R410). -/
theorem MailOpen.take_reqFrame_handed (ho : MailOpen s h.mbx) (hb : body.length ≤ 4076) :
    ((s.handed h op body).reqFrame h.mbx).take (requestOf h op body).length = requestOf h op body := by
  rw [State.reqFrame, ho.box_handed hb]
  obtain ⟨-, -, -, -, -, -, hwf⟩ := ho
  exact Mem.take_reads_writes hwf 0 (by rw [requestOf_length]; omega)

/-- The checks a command row passes on the way to its execution (R414 to R417). -/
theorem MailOpen.mail_eq (ho : MailOpen s h.mbx) (hop : op < 65536) (hb : body.length ≤ 4076) (hrow : cmdRow op = some r)
    (hlen : r.len body = body.length) :
    s.mail h op body =
      let t := s.taken h op body
      if !((s.box h.mbx).alive.elim true fun e => decide (h.alive.toNat = e)) then
        t.putResp h.mbx false op h.alive.toNat h.reqId.toNat 2 (le 2 ((s.box h.mbx).alive.getD 0))
      else if !(s.mayIssue h.mbx r body) then t.putResp h.mbx false op h.alive.toNat h.reqId.toNat 4 []
      else if !(s.readyFor op) then t.draw.2.putResp h.mbx false op h.alive.toNat h.reqId.toNat 14 (le 4 t.draw.1)
      else t.execute h.mbx op h.alive.toNat h.reqId.toNat r body := by
  have ht := onlyMail_taken s h op body
  have halive : (((s.handed h op body).chkFrame 0 (coveredOf h op body)).box h.mbx).alive = (s.box h.mbx).alive := by
    change ((s.handed h op body).box h.mbx).alive = _
    rw [ho.box_handed hb]
  rw [ho.mail_eq_runFrame hb, runFrame_request hop hb hrow hlen (ho.take_reqFrame_handed hb)]
  dsimp only
  rw [checkAlive_snd, ← taken_eq, halive, ht.mayIssue, ht.readyFor]

/-- Under MailReady a command row executes its command in the state `taken` (R414, R417). -/
theorem MailReady.mail_eq_execute (hm : MailReady s h op body) (hop : op < 65536) (hrow : cmdRow op = some r) :
    s.mail h op body = (s.taken h op body).execute h.mbx op h.alive.toNat h.reqId.toNat r body := by
  obtain ⟨ho, halive, hb, ⟨r', hrow', hlen, hissue⟩, hready⟩ := hm
  obtain rfl : r' = r := Option.some.inj (hrow'.symm.trans hrow)
  have hacc : ((s.box h.mbx).alive.elim true fun e => decide (h.alive.toNat = e)) = true := by
    rcases halive with e | e <;> simp [e]
  rw [ho.mail_eq hop hb hrow hlen]
  simp [hacc, hissue, hready]

/-- A command row is answered as its command answers in the state `taken` (R414, R418). -/
theorem answers_of_cmd {c : Instr} {u : State} {status : Nat} {reply : List Byte} {cmd : Cmd} {len : List Byte → Nat}
    {shared ptn : Bool} (hexec : exec c s = .next (s.mail h op body)) (hop : op < 65536)
    (hrow : cmdRow op = some { cmd := cmd, len := len, shared := shared, ptn := ptn })
    (hcmd : cmd h.mbx body (s.taken h op body) = (u, .now status reply)) :
    Answers c s h op body u status reply := by
  intro hm
  rw [hexec, hm.mail_eq_execute hop hrow, State.execute]
  dsimp only
  rw [hcmd]
  rfl

end HandOver

end Sys2Proof.Machine
end

section
/-! PROOFS. EXP_READ and EXP_WRITE: reach, range, agreement (R15, R16, R425 to R427). -/
namespace Sys2Proof.Machine

section Commands
variable {s t u : State} {h : MbxHdr} {m a count mask value : Nat}

/-! ### EXP_READ (R425, R426) -/

/-- The body of an EXP_READ (R426). -/
def readBody (a count : Nat) : List Byte := le 4 a ++ le 2 count
/-- The body of an EXP_WRITE (R427). -/
def writeBody (a mask value : Nat) : List Byte := le 4 a ++ le 4 mask ++ le 4 value

theorem cmdExpRead_readBody (ha : a < 2 ^ 32) (h1 : 1 ≤ count) (hn : count ≤ 1017) :
    cmdExpRead m (readBody a count) t =
      if !(wordsExist a count) then (t, rRange)
      else if !((List.range count).all fun i => t.mayReach m false 0 (a + 4 * i)) then (t, rDenied)
      else (t, .now 0 ((List.range count).flatMap fun i => le 4 (t.readWord m (a + 4 * i)))) := by
  have haddr : field (readBody a count) 0 4 = a := by
    rw [readBody, field_le_append]; exact Nat.mod_eq_of_lt ha
  have hcount : field (readBody a count) 4 2 = count := by
    rw [readBody, field_append_right (by simp), le_length, field_le]; exact Nat.mod_eq_of_lt (by omega)
  have hin : (decide (count < 1) || decide (1017 < count)) = false := by simp; omega
  simp only [cmdExpRead, haddr, hcount, hin, Bool.false_or]

theorem cmdExpRead_absent (ha : a < 2 ^ 32) (h1 : 1 ≤ count) (hn : count ≤ 1017) (hex : wordsExist a count = false) :
    cmdExpRead m (readBody a count) t = (t, .now 5 []) := by
  rw [cmdExpRead_readBody ha h1 hn, hex]; rfl

theorem cmdExpRead_denied (ha : a < 2 ^ 32) (h1 : 1 ≤ count) (hn : count ≤ 1017) (hex : wordsExist a count = true)
    (hreach : ∃ i, i < count ∧ t.mayReach m false 0 (a + 4 * i) = false) :
    cmdExpRead m (readBody a count) t = (t, .now 4 []) := by
  have hall : ((List.range count).all fun i => t.mayReach m false 0 (a + 4 * i)) = false := by simpa using hreach
  rw [cmdExpRead_readBody ha h1 hn, hex, hall]; rfl

theorem cmdExpRead_words (ha : a < 2 ^ 32) (h1 : 1 ≤ count) (hn : count ≤ 1017) (hex : wordsExist a count = true)
    (hreach : ∀ i, i < count → t.mayReach m false 0 (a + 4 * i) = true) :
    cmdExpRead m (readBody a count) t =
      (t, .now 0 ((List.range count).flatMap fun i => le 4 (t.readWord m (a + 4 * i)))) := by
  have hall : ((List.range count).all fun i => t.mayReach m false 0 (a + 4 * i)) = true := by simpa using hreach
  rw [cmdExpRead_readBody ha h1 hn, hex, hall]; rfl

theorem exec_expRead (addr : BitVec 32) (n : BitVec 16) :
    exec (.expRead h addr n) s = .next (s.mail h 0x0F01 (readBody addr.toNat n.toNat)) := rfl

theorem cmdRow_expRead : cmdRow 0x0F01 = some { cmd := cmdExpRead, len := fixed 6, shared := true } := rfl

theorem answers_expRead {addr : BitVec 32} {n : BitVec 16} {status : Nat} {reply : List Byte}
    (hcmd : cmdExpRead h.mbx (readBody addr.toNat n.toNat) (s.taken h 0x0F01 (readBody addr.toNat n.toNat)) =
      (u, .now status reply)) :
    Answers (.expRead h addr n) s h 0x0F01 (readBody addr.toNat n.toNat) u status reply :=
  answers_of_cmd (exec_expRead _ _) (by decide) cmdRow_expRead hcmd

/-! ### EXP_WRITE (R15, R16, R425, R427) -/

/-- A write of a word that exists and that the mailbox may reach: agreement before range, range before effect
(log 138). -/
theorem cmdExpWrite_writeBody (hb : a < 2 ^ 32 ∧ mask < 2 ^ 32 ∧ value < 2 ^ 32) (hex : wordsExist a 1 = true)
    (hreach : t.mayReach m true mask a = true) :
    cmdExpWrite m (writeBody a mask value) t =
      let w := t.merge m a mask value
      if w.fields.any fun x => x.1.acc == .rwl && w.sel x then (t, .now 9 [])
      else if !w.inRange then (t, rRange)
      else t.writeWord m w := by
  obtain ⟨ha, hm, hv⟩ := hb
  have haddr : field (writeBody a mask value) 0 4 = a := by
    rw [writeBody, List.append_assoc, field_le_append]; exact Nat.mod_eq_of_lt ha
  have hmask : field (writeBody a mask value) 4 4 = mask := by
    rw [writeBody, List.append_assoc, field_append_right (by simp), le_length, field_le_append]
    exact Nat.mod_eq_of_lt hm
  have hvalue : field (writeBody a mask value) 8 4 = value := by
    rw [writeBody, field_append_right (by simp), List.length_append, le_length, le_length, field_le]
    exact Nat.mod_eq_of_lt hv
  simp only [cmdExpWrite, haddr, hmask, hvalue, hex, hreach, Bool.not_true, Bool.false_eq_true, if_false]

theorem cmdExpWrite_agreement (hb : a < 2 ^ 32 ∧ mask < 2 ^ 32 ∧ value < 2 ^ 32) (hex : wordsExist a 1 = true)
    (hreach : t.mayReach m true mask a = true)
    (hagree : ∃ x ∈ (t.merge m a mask value).fields, x.1.acc = .rwl ∧ (t.merge m a mask value).sel x = true) :
    cmdExpWrite m (writeBody a mask value) t = (t, .now 9 []) := by
  rw [cmdExpWrite_writeBody hb hex hreach]
  exact if_pos (by simpa using hagree)

/-- A write that selects no field that takes an agreement. -/
theorem cmdExpWrite_free (hb : a < 2 ^ 32 ∧ mask < 2 ^ 32 ∧ value < 2 ^ 32) (hex : wordsExist a 1 = true)
    (hreach : t.mayReach m true mask a = true)
    (hfree : ∀ x ∈ (t.merge m a mask value).fields, x.1.acc = .rwl → (t.merge m a mask value).sel x = false) :
    cmdExpWrite m (writeBody a mask value) t =
      if (t.merge m a mask value).inRange then t.writeWord m (t.merge m a mask value) else (t, .now 5 []) := by
  rw [cmdExpWrite_writeBody hb hex hreach]
  dsimp only
  rw [if_neg (by simpa using hfree)]
  cases (t.merge m a mask value).inRange <;> rfl

theorem exec_expWrite (addr mask value : BitVec 32) :
    exec (.expWrite h addr mask value) s = .next (s.mail h 0x0F02 (writeBody addr.toNat mask.toNat value.toNat)) := rfl

theorem cmdRow_expWrite : cmdRow 0x0F02 = some { cmd := cmdExpWrite, len := fixed 12, shared := true } := rfl

theorem answers_expWrite {addr mask value : BitVec 32} {status : Nat} {reply : List Byte}
    (hcmd : cmdExpWrite h.mbx (writeBody addr.toNat mask.toNat value.toNat)
      (s.taken h 0x0F02 (writeBody addr.toNat mask.toNat value.toNat)) = (u, .now status reply)) :
    Answers (.expWrite h addr mask value) s h 0x0F02 (writeBody addr.toNat mask.toNat value.toNat) u status reply :=
  answers_of_cmd (exec_expWrite _ _ _) (by decide) cmdRow_expWrite hcmd

/-- A word that begins with a field of a block without effects of its own takes the plain write. -/
theorem writeWord_plain {w : WordWrite} {x : RegRow × Nat} {rest : List (RegRow × Nat)} (hw : w.fields = x :: rest)
    (hblk : x.1.reg.blk ∈ [Blk.dir, .ecc, .scb, .deal, .pwr, .ptn, .sec]) :
    t.writeWord m w = (t.plainWrite w, .now 0 []) := by
  simp only [List.mem_cons, List.not_mem_nil, or_false] at hblk
  unfold State.writeWord
  rw [hw]
  rcases hblk with e | e | e | e | e | e | e <;> simp only [List.head?_cons, e] <;> rfl

/-- The agreement clause is met: any write of SEC_AGREE_WINDOW whose mask has its lowest bit selects a field that takes an
agreement (R448). -/
theorem merge_secAgreeWindow (t : State) (m value : Nat) :
    ∃ x ∈ (t.merge m 0x0E000020 1 value).fields, x.1.acc = .rwl ∧ (t.merge m 0x0E000020 1 value).sel x = true :=
  have hmem : (⟨.secAgreeWindow, 0x0E000020, [], 1, 0, 0, 17, .rwl, 60, 86400⟩, 0) ∈ fieldsAt 0x0E000020 := by decide
  ⟨_, hmem, rfl, rfl⟩

end Commands

/-! ### The obligation -/

/-- Settles O26: the frame of each row reaches its command unchanged (`answers_of_cmd`), and the command's checks are
those of R15, R16 and R425 to R427 in the order of log 138. -/
theorem expertAccess : Obligations.ExpertAccess := by
  unfold Obligations.ExpertAccess
  intro s h addr a
  constructor
  · -- EXP_READ
    intro count h1 hn b t
    have hreach (i : Nat) : t.mayReach h.mbx false 0 (a + 4 * i) = s.mayReach h.mbx false 0 (a + 4 * i) :=
      (onlyMail_taken s h 0x0F01 b).mayReach _ _ _ _
    refine ⟨fun hno => ?_, fun hex => ⟨fun ⟨i, hi, hdenied⟩ => ?_, fun hall => ?_⟩⟩
    · exact answers_expRead (cmdExpRead_absent addr.isLt h1 hn hno)
    · exact answers_expRead (cmdExpRead_denied addr.isLt h1 hn hex ⟨i, hi, (hreach i).trans hdenied⟩)
    · exact answers_expRead (cmdExpRead_words addr.isLt h1 hn hex fun i hi => (hreach i).trans (hall i hi))
  · -- EXP_WRITE
    intro mask value b t w hex hreach
    have hb : a < 2 ^ 32 ∧ mask.toNat < 2 ^ 32 ∧ value.toNat < 2 ^ 32 := ⟨addr.isLt, mask.isLt, value.isLt⟩
    replace hreach : t.mayReach h.mbx true mask.toNat a = true :=
      ((onlyMail_taken s h 0x0F02 b).mayReach _ _ _ _).trans hreach
    refine ⟨fun hagree => answers_expWrite (cmdExpWrite_agreement hb hex hreach hagree), fun hfree => ?_⟩
    have hcmd := cmdExpWrite_free hb hex hreach hfree
    refine ⟨fun hrange => ?_, fun hrange => ⟨fun x rest hw hblk => ?_, fun u st r hu => ?_⟩⟩
    · exact answers_expWrite (hcmd.trans (if_neg (Bool.eq_false_iff.mp hrange)))
    · exact answers_expWrite ((hcmd.trans (if_pos hrange)).trans (writeWord_plain hw hblk))
    · exact answers_expWrite ((hcmd.trans (if_pos hrange)).trans hu)

end Sys2Proof.Machine
end

section
/-! PROOFS. Arrival of a packet: what reaching its consumer leaves of the device, and the forwarding of transit packets
(R23 case 1, R90, R276). -/
namespace Sys2Proof.Machine

section Arrival
variable {s : State} {n vc : Nat} {p : Packet}

/-! ### Leaving the receive buffer (R276) -/

/-- A packet that leaves the receive buffer changes its port's link and nothing else. -/
theorem State.takeRx_eq_onLink (s : State) (n vc : Nat) (p : Packet) : ∃ f, s.takeRx n vc p = s.onLink n f := by
  unfold State.takeRx
  split
  · exact ⟨_, rfl⟩
  · exact ⟨_, rfl⟩

@[simp] theorem State.isLocal_onLink (f : Link → Link) (dst : Nat) : (s.onLink n f).isLocal dst = s.isLocal dst := rfl

@[simp] theorem State.isLocal_lead (r dst : Nat) : (s.lead r).isLocal dst = s.isLocal dst := rfl

@[simp] theorem State.isLocal_takeRx (dst : Nat) : (s.takeRx n vc p).isLocal dst = s.isLocal dst := by
  obtain ⟨f, hf⟩ := s.takeRx_eq_onLink n vc p
  rw [hf, State.isLocal_onLink]

/-! ### Case 1: transit (R23, R90) -/

theorem State.transit_of_lt (h : p.hops.toNat < 32) :
    s.transit n vc p = s.route n vc true .any { p with hops := p.hops + 1#8 } :=
  if_neg (by omega)

theorem State.transit_of_le (h : 32 ≤ p.hops.toNat) :
    s.transit n vc p = (s.bump .rtDropHops 0).freeCredit n vc p.flits :=
  if_pos h

theorem State.fabricIn_of_overrun (h : s.overrun n vc p = true) :
    s.fabricIn n vc p = s.bumpN .glCreditOverrun n p.flits :=
  if_pos h

/-- A packet for another endpoint meets none of the checks of the local cases. -/
theorem State.fabricIn_of_not_isLocal (ho : s.overrun n vc p = false) (hl : s.isLocal p.dst.toNat = false) :
    s.fabricIn n vc p = ((s.takeRx n vc p).lead (44 + n)).transit n vc p := by
  have hl' : ((s.takeRx n vc p).lead (44 + n)).isLocal p.dst.toNat = false := by simpa using hl
  unfold State.fabricIn
  rw [if_neg (by simp [ho])]
  exact if_pos (by simp [hl'])

theorem exec_transitForward (n : Port) (vc : Fin 5) (p : Packet) (s : State) :
    exec (.transitForward n vc p) s = .next (s.fabricIn n vc p) := rfl

/-- HOPS stands in the trailer, which the check value does not cover (R89, R90). -/
theorem crcOf_with_hops (p : Packet) (h : BitVec 8) : { p with hops := h }.crcOf = p.crcOf := rfl

end Arrival

/-! ### The obligation -/

/-- Settles O49: what reaching its consumer changes leaves the destination's test as it was, so arrival takes case 1
(`State.fabricIn_of_not_isLocal`), which splits at the hop limit alone. -/
theorem transitForwarding : Obligations.TransitForwarding := by
  unfold Obligations.TransitForwarding
  intro s n vc p
  refine ⟨fun ho hl => ⟨fun hlt => ?_, fun hle => ?_⟩, fun ho => ?_, crcOf_with_hops p⟩
  · rw [exec_transitForward, State.fabricIn_of_not_isLocal ho hl, State.transit_of_lt hlt]
  · rw [exec_transitForward, State.fabricIn_of_not_isLocal ho hl, State.transit_of_le hle]
  · rw [exec_transitForward, State.fabricIn_of_overrun ho]

end Sys2Proof.Machine
end

section
/-! PROOFS. What becomes of a tile instruction word before its effect: the tile does not issue, the word is illegal, its
guard does not hold, its operands are out of range (R165, R168, R190, R191; log 128, 131). -/
namespace Sys2Proof.Machine

section Gate
variable {c : Comp} {s : State} {g t cls func : Nat} {w : TileWord} {p : Comp × Option TileFault}

/-- The checks before a word's effect, in their order: each stops the issue with the compute state and the fault it ends
with, and a word that meets them all goes through to its effect. -/
def Comp.checks {α : Type} (c : Comp) (g t cls func : Nat) (w : TileWord) (stop : Comp × Option TileFault → α)
    (through : α) : α :=
  let x := c.tile g t
  if x.st ≠ .running ∨ x.wait ≠ .none then stop (c, none)
  else if legalWord cls func w = false then
    stop (c.setTile g t (x.faulted (wordOf cls func w) { code := fIllegal }), some { code := fIllegal })
  else if x.guard w = false then stop (c.setTile g t x.next, none)
  else if formOk cls func w = false then
    stop (c.setTile g t (x.faulted (wordOf cls func w) { code := fParam }), some { code := fParam })
  else through

/-- What the checks before a word's effect answer, if they stop it. -/
def Comp.gate (c : Comp) (g t cls func : Nat) (w : TileWord) : Option (Comp × Option TileFault) :=
  c.checks g t cls func w some none

/-! ### The step to the next word (R180) -/

/-- Ending loop bodies leaves the run state and the wait of a tile as they were. -/
theorem Tile.loopEnd_frame (x : Tile) (n : Nat) : (x.loopEnd n).st = x.st ∧ (x.loopEnd n).wait = x.wait := by
  induction n generalizing x with
  | zero => exact ⟨rfl, rfl⟩
  | succ n ih =>
    unfold Tile.loopEnd
    split
    · exact ⟨rfl, rfl⟩
    · split
      · split
        · exact ⟨rfl, rfl⟩
        · exact ih _
      · exact ⟨rfl, rfl⟩

@[simp] theorem Tile.next_st (x : Tile) : x.next.st = x.st := (Tile.loopEnd_frame _ _).1
@[simp] theorem Tile.next_wait (x : Tile) : x.next.wait = x.wait := (Tile.loopEnd_frame _ _).2

/-! ### The gate's answers -/

theorem Comp.gate_idle (h : (c.tile g t).st ≠ .running ∨ (c.tile g t).wait ≠ .none) :
    c.gate g t cls func w = some (c, none) :=
  if_pos h

section Running
variable (hst : (c.tile g t).st = .running) (hwait : (c.tile g t).wait = .none)
include hst hwait

theorem Comp.gate_illegal (hl : legalWord cls func w = false) : c.gate g t cls func w =
    some (c.setTile g t ((c.tile g t).faulted (wordOf cls func w) { code := 0x01 }), some { code := 0x01 }) := by
  simp [Comp.gate, Comp.checks, hst, hwait, hl, fIllegal]

theorem Comp.gate_unguarded (hl : legalWord cls func w = true) (hg : (c.tile g t).guard w = false) :
    c.gate g t cls func w = some (c.setTile g t (c.tile g t).next, none) := by
  simp [Comp.gate, Comp.checks, hst, hwait, hl, hg]

theorem Comp.gate_param (hl : legalWord cls func w = true) (hg : (c.tile g t).guard w = true)
    (hf : formOk cls func w = false) : c.gate g t cls func w =
    some (c.setTile g t ((c.tile g t).faulted (wordOf cls func w) { code := 0x03 }), some { code := 0x03 }) := by
  simp [Comp.gate, Comp.checks, hst, hwait, hl, hg, hf, fParam]

end Running

/-- What a word that does not reach its effect can do to its tile: nothing, when the tile does not issue; on a tile that
issues, the step to the next word or a fault. -/
theorem Comp.gate_cases (h : c.gate g t cls func w = some p) :
    p = (c, none) ∨
    ((c.tile g t).st = .running ∧ p = (c.setTile g t (c.tile g t).next, none)) ∨
    ∃ f, p = (c.setTile g t ((c.tile g t).faulted (wordOf cls func w) f), some f) := by
  unfold Comp.gate Comp.checks at h
  dsimp only at h
  split at h
  · exact .inl (Option.some.inj h).symm
  next hissues =>
  split at h
  · exact .inr (.inr ⟨_, (Option.some.inj h).symm⟩)
  split at h
  · exact .inr (.inl ⟨Classical.not_not.mp (not_or.mp hissues).1, (Option.some.inj h).symm⟩)
  split at h
  · exact .inr (.inr ⟨_, (Option.some.inj h).symm⟩)
  · cases h

/-! ### Both forms of issue pass the gate first -/

theorem Comp.checks_eq_gate (e : Comp × Option TileFault) :
    c.checks g t cls func w id e = (c.gate g t cls func w).getD e := by
  unfold Comp.gate Comp.checks
  dsimp only
  split
  · rfl
  split
  · rfl
  split
  · rfl
  split
  · rfl
  · rfl

theorem Comp.checks_of_gate (h : c.gate g t cls func w = some p) (e : Comp × Option TileFault) :
    c.checks g t cls func w id e = p := by
  rw [Comp.checks_eq_gate, h, Option.getD_some]

theorem Comp.issueRaw_of_gate (h : c.gate g t cls func w = some p) (k : TileFn) :
    c.issueRaw g t cls func w k = p :=
  Comp.checks_of_gate h _

theorem Comp.score_of_gate (h : c.gate g t 5 func w = some p) (k : Tile → TRes (Tile × Nat × List (Card → Card))) :
    c.score g t func w k = p :=
  Comp.checks_of_gate h _

/-! ### The tile after the gate's answer -/

/-- A tile that is not STOPPED is not the default tile, so the tables of tiles read it back (R159). -/
theorem Tile.ne_default_of_st {x : Tile} {r : TileRun} (hr : r ≠ .stopped) (h : x.st = r) : x ≠ {} :=
  fun e => hr (h.symm.trans (congrArg Tile.st e))

theorem Comp.getD_setTile {y : Tile} (hy : y ≠ {}) : Tab.getD (c.setTile g t y).tiles (c.key g t) {} = y :=
  Tab.getD_set_ne _ _ hy

theorem State.tile_onTile {k : Nat} {y : Tile} {e : Tile → Tile} (hk : s.tile k = y) (he : e y ≠ {}) :
    (s.onTile k e).tile k = e y :=
  (Tab.getD_set_ne _ _ (hk ▸ he)).trans (congrArg e hk)

/-- An issue without fault leaves the tile as its answer has it. -/
theorem issued_ok_tile : (s.issued g t cls func w (c, none)).tile (s.comp.key g t) = Tab.getD c.tiles (s.comp.key g t) {} := by
  rw [State.tile, (issued_ok s g t cls func w c).1]

/-- A tile fault stops its tile, keeps its report for the dealer, and changes no other part of the device (R190). -/
theorem issued_faulted (s : State) (g t cls func : Nat) (w : TileWord) (f : TileFault) (word : Nat) :
    let u := s.issued g t cls func w (s.comp.setTile g t ((s.comp.tile g t).faulted word f), some f)
    OnlyCompute s u ∧ u.tile (s.comp.key g t) =
      { (s.comp.tile g t).faulted word f with report := some f, faultAt := s.now } := by
  have hne {y : Tile} (hy : y.st = .faulted) : y ≠ {} := Tile.ne_default_of_st (by decide) hy
  have hread : Tab.getD (s.comp.setTile g t ((s.comp.tile g t).faulted word f)).tiles (s.comp.key g t) {} =
      (s.comp.tile g t).faulted word f := Comp.getD_setTile (hne rfl)
  rw [issued_fault]
  exact ⟨rfl, State.tile_onTile hread (hne rfl)⟩

/-- A word that does not reach its effect neither halts its tile nor makes it wait. -/
theorem gate_tile (h : s.comp.gate g t cls func w = some p) :
    ((s.issued g t cls func w p).tile (s.comp.key g t)).wait = (s.comp.tile g t).wait ∧
    ((s.comp.tile g t).st = .running → ((s.issued g t cls func w p).tile (s.comp.key g t)).st ≠ .idle) := by
  rcases Comp.gate_cases h with rfl | ⟨hst, rfl⟩ | ⟨f, rfl⟩
  · rw [issued_ok_tile]
    exact ⟨rfl, fun hst hidle => TileRun.noConfusion (hst.symm.trans hidle)⟩
  · have hnext : (s.comp.tile g t).next.st = .running := by rw [Tile.next_st, hst]
    rw [issued_ok_tile, Comp.getD_setTile (Tile.ne_default_of_st (by decide) hnext), hnext]
    exact ⟨Tile.next_wait _, fun _ => nofun⟩
  · obtain ⟨-, htile⟩ := issued_faulted s g t cls func w f (wordOf cls func w)
    rw [htile]
    exact ⟨rfl, fun _ => nofun⟩

end Gate

/-! ### The rows -/

/-- A row whose word, when it does not reach its effect, does what the gate answers and nothing more. -/
def Gated (row : Clu → Til → TileWord → Instr) (cls func : Nat) : Prop :=
  ∀ (s : State) (g : Clu) (t : Til) (w : TileWord) (p : Comp × Option TileFault),
    s.comp.gate g t cls func w = some p → exec (row g t w) s = .next (s.issued g t cls func w p)

section Rows
variable {row : Clu → Til → TileWord → Instr} {cls func : Nat}

theorem gated_of_issueRaw {k : TileWord → TileFn}
    (hexec : ∀ g t w s, exec (row g t w) s = .next (s.issueRaw g t cls func w (k w))) : Gated row cls func := by
  intro s g t w p h
  rw [hexec, State.issueRaw, Comp.issueRaw_of_gate h]

theorem gated_of_issue {k : TileWord → TileFn}
    (hexec : ∀ g t w s, exec (row g t w) s = .next (s.issue g t cls func w (k w))) : Gated row cls func :=
  gated_of_issueRaw (k := fun w => andNext (k w)) hexec

theorem gated_of_issueScore {k : TileWord → Tile → TRes (Tile × Nat × List (Card → Card))}
    (hexec : ∀ g t w s, exec (row g t w) s = .next (s.issueScore g t func w (k w))) : Gated row 5 func := by
  intro s g t w p h
  rw [hexec, State.issueScore, Comp.score_of_gate h]

theorem gated_addw : Gated .addw 5 0 := gated_of_issueScore fun _ _ _ _ => rfl
theorem gated_addvf : Gated .addvf 5 1 := gated_of_issueScore fun _ _ _ _ => rfl
theorem gated_addvi : Gated .addvi 5 2 := gated_of_issueScore fun _ _ _ _ => rfl
theorem gated_br : Gated .br 7 0 := gated_of_issueRaw fun _ _ _ _ => rfl
theorem gated_loop : Gated .loop 7 1 := gated_of_issueRaw fun _ _ _ _ => rfl

theorem exec_halt (g : Clu) (t : Til) (w : TileWord) (s : State) : exec (.halt g t w) s = execHalt g t w s := rfl
theorem exec_bar (g : Clu) (t : Til) (w : TileWord) (s : State) : exec (.bar g t w) s = execBar g t w s := rfl

/-- Only a HALT that takes effect makes a running tile idle, so only that one ends an invocation (R189). -/
theorem gated_halt : Gated .halt 7 2 := by
  intro s g t w p h
  obtain ⟨-, hidle⟩ := gate_tile h
  rw [exec_halt, execHalt, State.issueRaw, Comp.issueRaw_of_gate h]
  refine if_neg fun hhalts => ?_
  obtain ⟨hst, hnow⟩ := Bool.and_eq_true_iff.mp hhalts
  exact hidle (beq_iff_eq.mp hst) (beq_iff_eq.mp hnow)

/-- A tile that stands at a barrier after a BAR without effect stood there before it, and is not judged again (R187). -/
theorem gated_bar : Gated .bar 8 0 := by
  intro s g t w p h
  obtain ⟨hwait, -⟩ := gate_tile h
  rw [exec_bar, execBar, State.issueRaw, Comp.issueRaw_of_gate h]
  dsimp only
  split
  · next hbar _ =>
    rw [hwait] at hbar
    exact if_pos (bne_iff_ne.mpr fun hnone => TileWait.noConfusion (hbar.symm.trans hnone))
  · rfl

end Rows

/-- Every tile row passes the gate: the rows named here issue in a form of their own, every other through `State.issue`. -/
theorem gated_of_mem_tileRows : ∀ r ∈ tileRows, Gated r.1 r.2.1 r.2.2 := by
  simp only [tileRows, List.cons_append, List.nil_append, List.forall_mem_cons, List.not_mem_nil, false_implies, implies_true,
    and_true, gated_addw, gated_addvf, gated_addvi, gated_br, gated_loop, gated_halt, gated_bar, true_and]
  and_intros <;> exact gated_of_issue fun _ _ _ _ => rfl

/-! ### The obligation -/

/-- PRED 0 names p0, which reads 1: its complement never holds (R168). -/
theorem guard_pred_zero_pneg (x : Tile) {w : TileWord} (hp : w.pred = 0) (hn : w.pneg = true) : x.guard w = false := by
  simp [Tile.guard, Tile.preg, hp, hn]

/-- The PARAM clause is met: a LOOP whose body has no words is legal, and out of range (R179). -/
theorem formOk_loop_of_empty_body (x : Tile) :
    let w : TileWord := { pred := 0, pneg := false, body := 0 }
    legalWord 7 1 w = true ∧ x.guard w = true ∧ formOk 7 1 w = false :=
  ⟨by decide, rfl, by decide⟩

/-- Settles O19: every row does what the gate answers (`gated_of_mem_tileRows`), and each clause names one answer of the
gate. -/
theorem guardAndLegality : Obligations.GuardAndLegality := by
  unfold Obligations.GuardAndLegality
  intro r hr s g t w x
  have hrow := gated_of_mem_tileRows r hr s g t w
  refine ⟨fun hst hwait hl hg => ?_, fun hst hwait hl => ?_, fun hst hwait hl hg hf => ?_, fun hidle => ?_,
    guard_pred_zero_pneg x⟩
  · obtain ⟨hcomp, honly⟩ := issued_ok s g t r.2.1 r.2.2 w (s.comp.setTile g t x.next)
    exact ⟨_, hrow _ (Comp.gate_unguarded hst hwait hl hg), honly, hcomp⟩
  · exact ⟨_, hrow _ (Comp.gate_illegal hst hwait hl), issued_faulted ..⟩
  · exact ⟨_, hrow _ (Comp.gate_param hst hwait hl hg hf), issued_faulted ..⟩
  · obtain ⟨hcomp, honly⟩ := issued_ok s g t r.2.1 r.2.2 w s.comp
    exact ⟨_, hrow _ (Comp.gate_idle hidle), honly, hcomp⟩

end Sys2Proof.Machine
end

section
/-! PROOFS. The address maps of the HBM tier: a line index and its place under a map name each other, and a line stored at its
place stands in the slot's two data columns (R327, R329, R339). -/
namespace Sys2Proof.Machine

/-! ### The maps as arithmetic (R339) -/

/-- What a map XORs into the bank of a row: HASHED the row's bits folded to five, the other maps nothing (R339). -/
def bankFold (map row : Nat) : Nat :=
  if map = 2 then row % 32 ^^^ (row / 32 % 32 ^^^ (row / 1024 % 32 ^^^ row / 32768)) else 0

theorem bankFold_lt {row : Nat} (hrow : row < 49152) (map : Nat) : bankFold map row < 2 ^ 5 := by
  unfold bankFold
  split
  · refine Nat.xor_lt_two_pow ?_ (Nat.xor_lt_two_pow ?_ (Nat.xor_lt_two_pow ?_ ?_)) <;> omega
  · decide

theorem mapLine_linear (li : Nat) : mapLine 0 li = (li / 15 % 32, li / 15 / 32, li % 15) := rfl

theorem mapLine_interleaved (li : Nat) : mapLine 1 li = (li % 32, li / 32 / 15, li / 32 % 15) := rfl

/-- INTERLEAVED and HASHED differ in the fold alone. -/
theorem mapLine_banked {map : Nat} (h : map ≠ 0) (li : Nat) :
    mapLine map li = (li % 32 ^^^ bankFold map (li / 32 / 15), li / 32 / 15, li / 32 % 15) := by
  by_cases hmap : map = 2 <;> simp [mapLine, bankFold, h, hmap, Nat.xor_assoc]

theorem lineOf_linear (b row slot : Nat) : lineOf 0 b row slot = (row * 32 + b) * 15 + slot := rfl

theorem lineOf_banked {map : Nat} (h : map ≠ 0) (b row slot : Nat) :
    lineOf map b row slot = (row * 15 + slot) * 32 + (b ^^^ bankFold map row) := by
  by_cases hmap : map = 2 <;> simp [lineOf, bankFold, h, hmap, Nat.xor_assoc]

/-- A bank with the fold of an existing row is a bank. -/
theorem xor_bankFold_lt {b row : Nat} (hb : b < 32) (hrow : row < 49152) (map : Nat) : b ^^^ bankFold map row < 32 :=
  Nat.xor_lt_two_pow (n := 5) hb (bankFold_lt hrow map)

/-! ### The maps as bijections (R339) -/

/-- Every line of the channel lies in one of the data slots of R327. -/
theorem mapLine_lt {li : Nat} (hli : li < 23592960) (map : Nat) :
    (mapLine map li).1 < 32 ∧ (mapLine map li).2.1 < 49152 ∧ (mapLine map li).2.2 < 15 := by
  by_cases hmap : map = 0
  · subst hmap
    rw [mapLine_linear]
    dsimp only
    omega
  · have hrow : li / 32 / 15 < 49152 := by omega
    rw [mapLine_banked hmap]
    exact ⟨xor_bankFold_lt (Nat.mod_lt _ (by decide)) hrow map, hrow, Nat.mod_lt _ (by decide)⟩

/-- Every data slot of R327 holds one of the channel's lines. -/
theorem lineOf_lt {b row slot : Nat} (hb : b < 32) (hrow : row < 49152) (hslot : slot < 15) (map : Nat) :
    lineOf map b row slot < 23592960 := by
  by_cases hmap : map = 0
  · subst hmap
    rw [lineOf_linear]
    omega
  · have hbank := xor_bankFold_lt hb hrow map
    rw [lineOf_banked hmap]
    omega

theorem mapLine_lineOf {b row slot : Nat} (hb : b < 32) (hrow : row < 49152) (hslot : slot < 15) (map : Nat) :
    mapLine map (lineOf map b row slot) = (b, row, slot) := by
  by_cases hmap : map = 0
  · subst hmap
    rw [lineOf_linear, mapLine_linear, Prod.mk.injEq, Prod.mk.injEq]
    omega
  · have hbank := xor_bankFold_lt hb hrow map
    have hline : ((row * 15 + slot) * 32 + (b ^^^ bankFold map row)) / 32 = row * 15 + slot := by omega
    have hbankAt : ((row * 15 + slot) * 32 + (b ^^^ bankFold map row)) % 32 = b ^^^ bankFold map row := by omega
    have hrowAt : (row * 15 + slot) / 15 = row := by omega
    have hslotAt : (row * 15 + slot) % 15 = slot := by omega
    rw [lineOf_banked hmap, mapLine_banked hmap, hline, hbankAt, hrowAt, hslotAt, Nat.xor_assoc, Nat.xor_self, Nat.xor_zero]

theorem lineOf_mapLine (map li : Nat) : lineOf map (mapLine map li).1 (mapLine map li).2.1 (mapLine map li).2.2 = li := by
  by_cases hmap : map = 0
  · subst hmap
    rw [mapLine_linear, lineOf_linear]
    dsimp only
    omega
  · rw [mapLine_banked hmap, lineOf_banked hmap]
    dsimp only
    rw [Nat.xor_assoc, Nat.xor_self, Nat.xor_zero]
    omega

/-- Two lines of a channel never share a place. -/
theorem eq_lineOf_of_mapLine {map li b row slot : Nat} (h : mapLine map li = (b, row, slot)) : li = lineOf map b row slot := by
  rw [← lineOf_mapLine map li, h]

/-! ### The line's bytes in its slot (R327, R329) -/

/-- A byte of the data columns keeps its value when the check columns are written, in the check buffer or in the array. -/
theorem State.read_setCheck_data {s : State} (h : Mem.wf dramByte s.mem.dram = true) (c b row off : Nat) (v : List Byte) {i : Nat}
    (hi : i < 1920) : Mem.read dramByte (s.setCheck c b row off v).mem.dram (dramAddr c b row i) =
      Mem.read dramByte s.mem.dram (dramAddr c b row i) := by
  unfold State.setCheck
  dsimp only
  split
  · rfl
  · exact Mem.read_writes_other h (.inl (by simp only [dramAddr]; omega))

theorem State.read_storeLine {s : State} (h : Mem.wf dramByte s.mem.dram = true) (c b row : Nat) {slot j : Nat} {d : List Byte}
    (hslot : slot < 15) (hd : d.length = 128) (hj : j < 128) :
    Mem.read dramByte (s.storeLine c b row slot 0 d).mem.dram (dramAddr c b row (128 * slot + j)) = (d[j]?).getD 0#8 := by
  have haddr : dramAddr c b row (128 * slot + j) = dramAddr c b row (128 * slot) + j := (Nat.add_assoc ..).symm
  rw [State.storeLine, State.read_setCheck_data (Mem.wf_writes h _ _) _ _ _ _ _ (by omega), State.onMem_mem, if_pos rfl,
    Mem.read_writes h, haddr, hd, if_pos (by omega), Nat.add_sub_cancel_left]

theorem State.readExt_of_frame {s : State} {h line f : Nat} (hf : (s.pageOr h (line / 512)).frame = some f) (tag : Nat) :
    let p := s.pageOr h (line / 512)
    let m := mapLine (s.reg .mcChCfgMap p.home) (f * 512 + line % 512)
    (s.readExt h line tag).1 = ((s.demandChan p.home).readLine p.home m.1 m.2.1 m.2.2 tag).1 := by
  simp only [State.readExt, hf]

/-! ### The obligation -/

theorem and_31_eq_mod (x : Nat) : x &&& 31 = x % 32 := Nat.and_two_pow_sub_one_eq_mod x 5

/-- Settles O35: `lineOf` is the inverse of `mapLine` on the data slots, under every map. -/
theorem addressMaps : Obligations.AddressMaps := by
  unfold Obligations.AddressMaps
  refine ⟨?_, fun s c b row slot d j hwf hslot hd hj => State.read_storeLine hwf c b row hslot hd hj, fun li => ?_, fun li => ?_,
    fun li => ?_, fun k j hj => ?_, fun k j hj => ?_, fun map _ => ⟨fun li hli => mapLine_lt hli map, ?_⟩⟩
  · rintro s h line tag p f rfl hf
    exact State.readExt_of_frame hf tag
  · rw [mapLine_linear, and_31_eq_mod, Nat.shiftRight_eq_div_pow]
  · rw [mapLine_interleaved, and_31_eq_mod, Nat.shiftRight_eq_div_pow]
  · rw [mapLine_banked (by decide)]
    simp only [bankFold, if_true, and_31_eq_mod, Nat.shiftRight_eq_div_pow, Nat.xor_assoc, Nat.reducePow]
  · rw [mapLine_linear, Prod.mk.injEq, Prod.mk.injEq]
    omega
  · rw [mapLine_interleaved, Prod.mk.injEq, Prod.mk.injEq]
    omega
  · intro b row slot hb hrow hslot
    exact ⟨lineOf map b row slot, lineOf_lt hb hrow hslot map, mapLine_lineOf hb hrow hslot map,
      fun k _ hk => eq_lineOf_of_mapLine hk⟩

end Sys2Proof.Machine
end
section
/-! PROOFS. What every command keeps: it passes no time, leaves the queue alone and keeps the HBM arrays in canonical form. One
lemma for each change of the state, in the order of the model; each follows the branches of its definition. The changes that serve
the directory also leave the role in a pair alone: their lemmas are for either `pair`. -/
namespace Sys2Proof.Machine

/-- `t` is `s` after changes that pass no time, leave the queue alone and keep the HBM arrays in canonical form; with `pair`,
they leave the role in a pair alone too. -/
structure Kept (pair : Bool) (s t : State) : Prop where
  pending : t.pending = s.pending
  now : t.now = s.now
  dram : Mem.wf dramByte s.mem.dram = true → Mem.wf dramByte t.mem.dram = true
  role : pair = true → t.prt.st = s.prt.st

/-- Every state the command answers keeps those of `s`. -/
def KeptBy (s : State) (o : Host.Outcome State Fault Refusal) : Prop := ∀ t, o = .next t → Kept false s t

section Kept
variable {pair : Bool} {s t u : State}

theorem Kept.refl (s : State) : Kept pair s s := ⟨rfl, rfl, id, fun _ => rfl⟩
theorem Kept.trans (h : Kept pair s t) (h' : Kept pair t u) : Kept pair s u :=
  ⟨h'.pending.trans h.pending, h'.now.trans h.now, fun hw => h'.dram (h.dram hw), fun hp => (h'.role hp).trans (h.role hp)⟩

/-- An update of any fields but the clock, the queue, the HBM arrays and, with `pair`, the role. -/
theorem Kept.updateRole {a b c d e f g i j k l m n o p q r v w x y z aa bb cc dd ee ff gg hh} (h : Kept pair s t)
    (hm : m.dram = t.mem.dram) (hp : pair = true → dd.st = t.prt.st) :
    Kept pair s ⟨t.now, t.pending, a, b, c, d, e, f, g, i, j, k, l, o, p, m, n, q, r, v, w, x, y, z, aa, bb, cc, dd, ee, ff, gg, hh⟩ :=
  ⟨h.pending, h.now, fun hw => by simpa [hm] using h.dram hw, fun h' => (hp h').trans (h.role h')⟩
/-- An update that may change the role. -/
theorem Kept.update {a b c d e f g i j k l m n o p q r v w x y z aa bb cc dd ee ff gg hh} (h : Kept false s t)
    (hm : m.dram = t.mem.dram) :
    Kept false s ⟨t.now, t.pending, a, b, c, d, e, f, g, i, j, k, l, o, p, m, n, q, r, v, w, x, y, z, aa, bb, cc, dd, ee, ff, gg, hh⟩ :=
  h.updateRole hm fun h' => nomatch h'

theorem Kept.ite {c : Prop} [Decidable c] (h : Kept pair s t) (h' : Kept pair s u) : Kept pair s (if c then t else u) := by
  split
  · exact h
  · exact h'
theorem Kept.getD {o : Option State} (h : ∀ u, o = some u → Kept pair s u) (h' : Kept pair s t) : Kept pair s (o.getD t) := by
  cases o with
  | none => exact h'
  | some u => exact h u rfl
theorem Kept.elim {α : Type} {o : Option α} {f : α → State} (h : Kept pair s t) (hf : ∀ a, Kept pair s (f a)) :
    Kept pair s (o.elim t f) := by
  cases o with
  | none => exact h
  | some a => exact hf a
/-- The state in a pair is kept, so the state of the pair it equals is. -/
theorem Kept.of_snd {α : Type} {p : α × State} {a : α} (h : Kept pair s p.2) (e : p = (a, u)) : Kept pair s u := by subst e; exact h
theorem Kept.of_fst {α : Type} {p : State × α} {a : α} (h : Kept pair s p.1) (e : p = (u, a)) : Kept pair s u := by subst e; exact h

theorem KeptBy.ite {c : Prop} [Decidable c] {o o' : Host.Outcome State Fault Refusal} (h : KeptBy s o) (h' : KeptBy s o') :
    KeptBy s (if c then o else o') := by
  split
  · exact h
  · exact h'
theorem KeptBy.next (h : Kept false s t) : KeptBy s (.next t) := fun _ e => Host.Outcome.next.inj e ▸ h
theorem KeptBy.fault (s : State) (f : Fault) : KeptBy s (.fault f) := fun _ e => nomatch e

/-! ### Runs of a change over a list -/

theorem Kept.each {α : Type} {l : List α} {f : State → α → State} (h : Kept pair s t)
    (hf : ∀ u, Kept pair s u → ∀ a, Kept pair s (f u a)) : Kept pair s (t.each l f) := by
  induction l generalizing t with
  | nil => exact h
  | cons a l ih => exact ih (hf t h a)
theorem Kept.foldl {α : Type} {l : List α} {f : State → α → State} (h : Kept pair s t)
    (hf : ∀ u, Kept pair s u → ∀ a, Kept pair s (f u a)) : Kept pair s (l.foldl f t) := h.each hf
theorem Kept.foldl_snd {α β : Type} {l : List α} {f : β × State → α → β × State} {p : β × State} (h : Kept pair s p.2)
    (hf : ∀ p, Kept pair s p.2 → ∀ a, Kept pair s (f p a).2) : Kept pair s (l.foldl f p).2 := by
  induction l generalizing p with
  | nil => exact h
  | cons a l ih => exact ih (hf p h a)
theorem Kept.foldl_fst {α β : Type} {l : List α} {f : State × β → α → State × β} {p : State × β} (h : Kept pair s p.1)
    (hf : ∀ p, Kept pair s p.1 → ∀ a, Kept pair s (f p a).1) : Kept pair s (l.foldl f p).1 := by
  induction l generalizing p with
  | nil => exact h
  | cons a l ih => exact ih (hf p h a)

/-! ### The HBM arrays -/

theorem Kept.onMem (h : Kept pair s t) {f : MemSide → MemSide} (hf : (f t.mem).dram = t.mem.dram) : Kept pair s (t.onMem f) :=
  h.updateRole hf fun _ => rfl
theorem Kept.writeDram (h : Kept pair s t) {a : Nat} {bs : List Byte} :
    Kept pair s (t.onMem fun m => { m with dram := Mem.writes dramByte m.dram a bs }) :=
  ⟨h.pending, h.now, fun hw => Mem.wf_writes (h.dram hw) a bs, h.role⟩
theorem Kept.clearDram (h : Kept pair s t) {a n : Nat} : Kept pair s (t.onMem fun m => { m with dram := Mem.clear m.dram a n }) :=
  ⟨h.pending, h.now, fun hw => Mem.wf_clear (h.dram hw) a n, h.role⟩

/-! ### Each change of the state -/

/-! ### Operations over the state -/

theorem Kept.draw (h : Kept false s t) : Kept false s t.draw.2 := h.update rfl
theorem Kept.setReg (h : Kept pair s t) {r : Reg} {i v : Nat} : Kept pair s (t.setReg r i v) := h.updateRole rfl fun _ => rfl
theorem Kept.bumpN (h : Kept false s t) {r : Reg} {i n : Nat} : Kept false s (t.bumpN r i n) := h.update rfl
theorem Kept.bump (h : Kept pair s t) {r : Reg} {i : Nat} : Kept pair s (t.bump r i) := h.updateRole rfl fun _ => rfl
theorem Kept.onLink (h : Kept pair s t) {n : Nat} {f : Link → Link} : Kept pair s (t.onLink n f) := h.updateRole rfl fun _ => rfl
theorem Kept.onEg (h : Kept pair s t) {n : Nat} {f : Egress → Egress} : Kept pair s (t.onEg n f) := h.updateRole rfl fun _ => rfl
theorem Kept.onChan (h : Kept pair s t) {c : Nat} {f : Channel → Channel} : Kept pair s (t.onChan c f) := h.updateRole rfl fun _ => rfl
theorem Kept.onStack (h : Kept false s t) {k : Nat} {f : Stack → Stack} : Kept false s (t.onStack k f) := h.update rfl
theorem Kept.onFch (h : Kept pair s t) {c : Nat} {f : FlashCh → FlashCh} : Kept pair s (t.onFch c f) := h.updateRole rfl fun _ => rfl
theorem Kept.onFdie (h : Kept false s t) {d : Nat} {f : FlashDie → FlashDie} : Kept false s (t.onFdie d f) := h.update rfl
theorem Kept.setPage (h : Kept pair s t) {k : Nat} {p : PageRec} : Kept pair s (t.setPage k p) := h.updateRole rfl fun _ => rfl
theorem Kept.onPage (h : Kept pair s t) {k : Nat} {f : PageRec → PageRec} : Kept pair s (t.onPage k f) := h.updateRole rfl fun _ => rfl
theorem Kept.onPtn (h : Kept false s t) {q : Nat} {f : PtnRec → PtnRec} : Kept false s (t.onPtn q f) := h.update rfl
theorem Kept.onExt (h : Kept pair s t) {hd : Nat} {f : ExtRec → ExtRec} : Kept pair s (t.onExt hd f) := h.updateRole rfl fun _ => rfl
theorem Kept.onBox (h : Kept false s t) {m : Nat} {f : Mailbox → Mailbox} : Kept false s (t.onBox m f) := h.update rfl
theorem Kept.onClu (h : Kept false s t) {g : Nat} {f : Cluster → Cluster} : Kept false s (t.onClu g f) := h.update rfl
theorem Kept.onTile (h : Kept false s t) {k : Nat} {f : Tile → Tile} : Kept false s (t.onTile k f) := h.update rfl
theorem Kept.onChk (h : Kept pair s t) {i : Nat} {f : Checker → Checker} : Kept pair s (t.onChk i f) := h.updateRole rfl fun _ => rfl
theorem Kept.onArb (h : Kept false s t) {k : Nat} {f : Arb → Arb} : Kept false s (t.onArb k f) := h.update rfl
theorem Kept.onSender (h : Kept pair s t) {l : Nat} {f : Sender → Sender} : Kept pair s (t.onSender l f) := h.updateRole rfl fun _ => rfl
theorem Kept.onDeal (h : Kept false s t) {f : Dealer → Dealer} : Kept false s (t.onDeal f) := h.update rfl
theorem Kept.onInv (h : Kept false s t) {k : Nat} {f : Inv → Inv} : Kept false s (t.onInv k f) := h.update rfl
theorem Kept.onFab (h : Kept pair s t) {f : Fabric → Fabric} : Kept pair s (t.onFab f) := h.updateRole rfl fun _ => rfl
theorem Kept.onDir (h : Kept pair s t) {f : Directory → Directory} : Kept pair s (t.onDir f) := h.updateRole rfl fun _ => rfl
theorem Kept.onRt (h : Kept pair s t) {f : Routing → Routing} : Kept pair s (t.onRt f) := h.updateRole rfl fun _ => rfl
theorem Kept.onPrt (h : Kept false s t) {f : Partner → Partner} : Kept false s (t.onPrt f) := h.update rfl
/-- A change of the pair that leaves the role alone. -/
theorem Kept.onPrtRole (h : Kept pair s t) {f : Partner → Partner} (hf : ∀ x, (f x).st = x.st) :
    Kept pair s (t.onPrt f) :=
  h.updateRole rfl fun _ => hf _
theorem Kept.onLk (h : Kept pair s t) {f : Lookout → Lookout} : Kept pair s (t.onLk f) := h.updateRole rfl fun _ => rfl
theorem Kept.onBoard (h : Kept false s t) {f : Board → Board} : Kept false s (t.onBoard f) := h.update rfl
theorem Kept.onSec (h : Kept false s t) {f : Sec → Sec} : Kept false s (t.onSec f) := h.update rfl
theorem Kept.onMtr (h : Kept false s t) {f : Meter → Meter} : Kept false s (t.onMtr f) := h.update rfl
theorem Kept.onPcie (h : Kept false s t) {f : Pcie → Pcie} : Kept false s (t.onPcie f) := h.update rfl
theorem Kept.finding (h : Kept pair s t) {code unit detail : Nat} : Kept pair s (t.finding code unit detail) := by
  unfold State.finding; exact .ite (.onPrtRole (h.updateRole rfl fun _ => rfl) fun _ => by rfl) (h.updateRole rfl fun _ => rfl)
theorem Kept.count (h : Kept pair s t) {link q qty n : Nat} : Kept pair s (t.count link q qty n) := by
  unfold State.count; exact .ite h h.onSender
theorem Kept.lead (h : Kept pair s t) {r : Nat} : Kept pair s (t.lead r) := h.updateRole rfl fun _ => rfl
theorem Kept.complete (h : Kept false s t) {opcode obj status : Nat} {body : List Byte} :
    Kept false s (t.complete opcode obj status body) := h.update rfl
theorem Kept.wearOut (h : Kept false s t) {e : WearEnt} {remap : Option Nat} : Kept false s (t.wearOut e remap) := h.update rfl

/-! ### Arbiters -/

theorem Kept.arbDecide (h : Kept false s t) {cls inst : Nat} {asserting eligible : List Nat} :
    Kept false s (t.arbDecide cls inst asserting eligible).2 := by
  unfold State.arbDecide; dsimp only; split
  · exact h
  · dsimp only
    exact h.onArb
theorem Kept.stalls (h : Kept false s t) {cls inst n : Nat} : Kept false s (t.stalls cls inst n) := by
  unfold State.stalls; split
  · exact h.onTile
  · exact h.onClu
  · exact h.onClu
  · exact h
theorem KeptBy.execArbiterGrant (h : Kept false s t) {cls : Fin 8} {inst : BitVec 16} {asserting eligible : List Nat} :
    KeptBy s (execArbiterGrant cls inst asserting eligible t) := by
  unfold Machine.execArbiterGrant
  refine .ite ?_ (.fault _ _)
  split
  · exact .next (h.arbDecide.of_snd ‹_›)
  · exact .next (h.arbDecide.of_snd ‹_›).stalls
theorem Kept.fwHold (h : Kept false s t) {key : Nat} {v : Bool} : Kept false s (t.fwHold key v) := by
  unfold State.fwHold; exact h.onArb

/-! ### Boot images -/

theorem Kept.loadRemaps (h : Kept false s t) : Kept false s t.loadRemaps := by
  unfold State.loadRemaps; exact .ite h (h.each fun _ hu _ => hu.onChan)
theorem Kept.restoreMaps (h : Kept false s t) : Kept false s t.restoreMaps := by
  unfold State.restoreMaps; exact h.each fun _ hu _ => hu.setReg
theorem Kept.restoreRoutes (h : Kept false s t) : Kept false s t.restoreRoutes := by
  unfold State.restoreRoutes; exact h.onRt.setReg
theorem Kept.advance (h : Kept false s t) : Kept false s t.advance := by
  unfold State.advance; exact .ite h (.ite h.onBoard.loadRemaps h.onBoard.loadRemaps.restoreMaps.restoreRoutes)

/-! ### HBM channels -/

theorem Kept.errLog (h : Kept pair s t) {c bank row slot kind tag symbols : Nat} :
    Kept pair s (t.errLog c bank row slot kind tag symbols) := by
  unfold State.errLog; exact .ite (.bump (h.onMem rfl)) (h.onMem rfl)
theorem Kept.setCheck (h : Kept pair s t) {c bank row off : Nat} {v : List Byte} : Kept pair s (t.setCheck c bank row off v) := by
  unfold State.setCheck; exact .ite h.onChan h.writeDram
theorem Kept.storeLine (h : Kept pair s t) {c bank row slot mark : Nat} {data : List Byte} :
    Kept pair s (t.storeLine c bank row slot mark data) := h.writeDram.setCheck
theorem Kept.remapRefused (h : Kept pair s t) {c bank row slot tag : Nat} :
    Kept pair s (t.remapRefused c bank row slot tag) := by
  unfold State.remapRefused; exact h.setReg.bump.errLog.finding
theorem Kept.startRemap (h : Kept pair s t) {c bank row cause fails : Nat} (hu : t.startRemap c bank row cause fails = some u) :
    Kept pair s u := by
  unfold State.startRemap at hu
  dsimp only at hu
  split at hu
  · exact Option.some.inj hu ▸ h.onChan
  · split at hu
    · cases hu
    · exact Option.some.inj hu ▸ h.onChan
  · cases hu
theorem Kept.repeatFail (h : Kept pair s t) {c bank row slot tag : Nat} : Kept pair s (t.repeatFail c bank row slot tag) := by
  unfold State.repeatFail; dsimp only; split
  · exact .ite h.onChan (.ite (.getD (fun _ e => h.onChan.startRemap e) h.onChan.remapRefused) h.onChan.errLog)
  · exact h.onChan
theorem Kept.outcome (h : Kept pair s t) {c bank row slot tag : Nat} {o : LineOut} {d : List Byte} :
    Kept pair s (t.outcome c bank row slot tag o d) := by
  unfold State.outcome
  extract_lets s₁
  have h₁ : Kept pair s s₁ := by
    unfold s₁; split
    · exact h.bump
    · exact h.bump
    · exact h.bump.bump
    · exact h.bump
    · exact h.bump.bump
    · exact h.bump
    · exact h
  exact .ite h₁ h₁.onChan.errLog.repeatFail
theorem Kept.readLine (h : Kept pair s t) {c bank row slot tag : Nat} : Kept pair s (t.readLine c bank row slot tag).2 := by
  unfold State.readLine; dsimp only; split
  · exact h
  · split
    · dsimp only
      exact .outcome (.ite h.bump.bump h.bump)
    · dsimp only
      exact h.bump.outcome
theorem Kept.performed (h : Kept pair s t) {wr : Option Nat} : Kept pair s (t.performed wr) := by
  unfold State.performed; split
  · exact h
  · exact h.onFab
theorem Kept.wakeRes (h : Kept pair s t) {r : Nat} : Kept pair s (t.wakeRes r) := by
  unfold State.wakeRes; exact .ite h h.onLk.bump
theorem Kept.demandChan (h : Kept pair s t) {c : Nat} : Kept pair s (t.demandChan c) := by
  unfold State.demandChan; exact .ite (.ite h.onChan.onChan.bump h.onChan) (.wakeRes (.ite h.onChan.onChan.bump
      h.onChan))
theorem Kept.takeIn (h : Kept pair s t) {c : Nat} {r : ChanReq} : Kept pair s (t.takeIn c r) := by
  unfold State.takeIn; exact .ite h.performed.bump h.performed.onChan
theorem Kept.writeLine (h : Kept pair s t) {c li tag mark : Nat} {data : List Byte} {wr : Option Nat} :
    Kept pair s (t.writeLine c li tag mark data wr) := by
  unfold State.writeLine; exact .ite h.demandChan.takeIn h.demandChan.onChan
theorem Kept.admitOne (h : Kept false s t) {c : Nat} : Kept false s (t.admitOne c) := by
  unfold State.admitOne; dsimp only; split
  · exact h.arbDecide.of_snd ‹_›
  · split
    · exact h.arbDecide.of_snd ‹_›
    · exact (h.arbDecide.of_snd ‹_›).onChan.takeIn
theorem Kept.actCount (h : Kept false s t) {c bank row : Nat} : Kept false s (t.actCount c bank row).2 := by
  unfold State.actCount; exact h.setCheck
theorem Kept.rowTrigger (h : Kept false s t) {c bank row : Nat} : Kept false s (t.rowTrigger c bank row) := by
  unfold State.rowTrigger; exact h.setCheck.onChan.setReg.setReg.setReg.bump.bump
theorem Kept.activate (h : Kept false s t) {c bank : Nat} : Kept false s (t.activate c bank) := by
  unfold State.activate; dsimp only; split
  · exact h
  · exact .ite h (.ite h.onChan.bump.actCount.rowTrigger h.onChan.bump.actCount)
theorem Kept.precharge (h : Kept false s t) {c bank : Nat} : Kept false s (t.precharge c bank) := by
  unfold State.precharge; dsimp only; split
  · exact h
  · exact .onChan (.ite h.writeDram h)
theorem KeptBy.execAct (h : Kept false s t) {c : Chan} {b : Fin 32} : KeptBy s (execAct c b t) := by
  unfold Machine.execAct; exact .next h.activate
theorem KeptBy.execPre (h : Kept false s t) {c : Chan} {b : Fin 32} : KeptBy s (execPre c b t) := by
  unfold Machine.execPre; dsimp only; split
  · exact .next (.ite h h.precharge)
  · exact .next h.precharge
theorem KeptBy.execIdleCloseExpiry (h : Kept false s t) {c : Chan} {b : Fin 32} : KeptBy s (execIdleCloseExpiry c b t) := by
  unfold Machine.execIdleCloseExpiry; exact .next (.ite h.precharge h)
theorem Kept.columnWrite (h : Kept false s t) {c bank : Nat} : Kept false s (t.columnWrite c bank) := by
  unfold State.columnWrite; dsimp only; split
  · exact h
  · refine .ite h (.onChan ?_)
    split
    · exact h.storeLine.bump
    · exact h
theorem KeptBy.execHbmColumnWrite (h : Kept false s t) {c : Chan} {b : Fin 32} : KeptBy s (execHbmColumnWrite c b t) := by
  unfold Machine.execHbmColumnWrite; exact .next h.columnWrite
theorem Kept.strike (h : Kept false s t) {c bank row slot : Nat} {errs : List (Fin 136 × Byte)} :
    Kept false s (t.strike c bank row slot errs) := by
  unfold State.strike; exact h.each fun _ hu _ => .ite hu.writeDram hu.setCheck
theorem KeptBy.execHbmColumnRead (h : Kept false s t) {c : Chan} {b : Fin 32} {row : BitVec 16} {slot : Fin 15}
    {errs : List (Fin 136 × Byte)} : KeptBy s (execHbmColumnRead c b row slot errs t) := by
  unfold Machine.execHbmColumnRead; exact .ite (.ite (.next h) (.next h.strike.readLine)) (.fault _ _)
theorem KeptBy.execRefreshDue (h : Kept false s t) {c : Chan} : KeptBy s (execRefreshDue c t) := by
  unfold Machine.execRefreshDue; exact .ite (.next h) (.ite (.next h.onChan.onChan) (.ite (.next h.onChan.onChan)
      (.next h.onChan.bumpN.onChan)))
theorem KeptBy.execRefreshWindowEnd (h : Kept false s t) {k : Stk} : KeptBy s (execRefreshWindowEnd k t) := by
  unfold Machine.execRefreshWindowEnd; exact .ite (.next (h.onStack.onMem rfl)) (.next h)
theorem KeptBy.execThrottleHoldEnd (h : Kept false s t) {c : Chan} {tag : Ptn} :
    KeptBy s (execThrottleHoldEnd c tag t) := by
  unfold Machine.execThrottleHoldEnd; exact .ite (.next h.onChan) (.next h)
theorem KeptBy.execPowerDownEntry (h : Kept false s t) {c : Chan} : KeptBy s (execPowerDownEntry c t) := by
  unfold Machine.execPowerDownEntry; exact .next (.ite h.onChan h)
theorem KeptBy.execStackTempRead (h : Kept false s t) {k : Stk} {temp : BitVec 8} :
    KeptBy s (execStackTempRead k temp t) := by
  unfold Machine.execStackTempRead; exact .ite (.next h) (.next h.onStack)
theorem KeptBy.execZqCalibration (h : Kept false s t) {k : Stk} {i : Fin 32} : KeptBy s (execZqCalibration k i t) := by
  unfold Machine.execZqCalibration; exact .ite (.next h.onStack.onChan) (.next h)
theorem Kept.chanFailed (h : Kept false s t) {c : Nat} : Kept false s (t.chanFailed c) := by
  unfold State.chanFailed; exact h.bumpN.onChan.finding
theorem Kept.leaveSelfRefresh (h : Kept false s t) {k : Nat} : Kept false s (t.leaveSelfRefresh k) := by
  unfold State.leaveSelfRefresh; exact .onStack (h.each fun _ hu _ => hu.onChan)
theorem KeptBy.execRetraining (h : Kept false s t) {c : Chan} {ok : Bool} : KeptBy s (execRetraining c ok t) := by
  unfold Machine.execRetraining; exact .ite (.next h) (.ite (.next h.onChan.onStack.onChan) (.next (.ite
      h.onChan.bump.chanFailed h.onChan.bump)))
theorem Kept.copyRow (h : Kept false s t) {c bank old spare : Nat} : Kept false s (t.copyRow c bank old spare) := by
  unfold State.copyRow; dsimp only
  refine .setCheck (.each (.onChan (h.precharge.each fun _ hu _ => ?_)) fun _ hu _ => hu.storeLine)
  split
  · exact hu.storeLine.bump
  · exact hu
theorem KeptBy.execRemapCopyDone (h : Kept false s t) {c : Chan} : KeptBy s (execRemapCopyDone c t) := by
  unfold Machine.execRemapCopyDone; dsimp only; split
  · exact .next h
  · exact .next h.copyRow.onChan.wearOut
theorem KeptBy.execHbmBootTrainingDone (h : Kept false s t) {failed : List Nat} :
    KeptBy s (execHbmBootTrainingDone failed t) := by
  unfold Machine.execHbmBootTrainingDone; exact .ite (.next h) (.next (.advance (.onBoard (.each (h.each fun _ hu _
      => hu.onStack.each fun _ hu' _ => hu'.onChan) fun _ hu _ => hu.bumpN.chanFailed))))

/-! ### Pages and tiers -/

theorem Kept.drainFrame (h : Kept false s t) {c f : Nat} : Kept false s (t.drainFrame c f) := by
  unfold State.drainFrame; dsimp only
  refine .onChan (.each (h.each fun _ hu _ => ?_) fun _ hu _ => .performed ?_)
  · split
    · exact hu.storeLine.bump
    · exact hu
  · split
    · exact hu.storeLine.bump
    · exact hu
theorem Kept.poisonLine (h : Kept pair s t) {c li : Nat} : Kept pair s (t.poisonLine c li) := h.clearDram.setCheck
theorem Kept.poisonFrame (h : Kept pair s t) {c f : Nat} : Kept pair s (t.poisonFrame c f) := by
  unfold State.poisonFrame; exact h.each fun _ hu _ => hu.poisonLine
theorem Kept.fillLine (h : Kept pair s t) {c li mark : Nat} {d : List Byte} : Kept pair s (t.fillLine c li mark d) := by
  unfold State.fillLine; exact h.storeLine
theorem Kept.zeroFrame (h : Kept pair s t) {c f : Nat} : Kept pair s (t.zeroFrame c f) := by
  unfold State.zeroFrame; exact h.each fun _ hu _ => hu.fillLine
theorem Kept.freeFrame (h : Kept pair s t) {k : Nat} : Kept pair s (t.freeFrame k) := by
  unfold State.freeFrame; split
  · split
    · exact h.onChan.onPage
    · exact h
  · exact h
theorem Kept.takeFrame (h : Kept pair s t) {q k home : Nat} {pinned : Bool} {x : Nat}
    (hu : t.takeFrame q k home pinned = some (x, u)) : Kept pair s u := by
  unfold State.takeFrame at hu
  dsimp only at hu
  split at hu
  · obtain ⟨f, -, e⟩ := Option.map_eq_some_iff.mp hu
    cases e; exact h.onChan
  · split at hu
    · obtain ⟨f, -, e⟩ := Option.map_eq_some_iff.mp hu
      cases e; exact h.freeFrame.onPage.onChan
    · cases hu
theorem Kept.flashOp (h : Kept pair s t) {f : Nat} {r : FlReq} : Kept pair s (t.flashOp f r) := by
  unfold State.flashOp
  extract_lets s₁ s₂
  have h₁ : Kept pair s s₁ := h.onFch.lead
  have h₂ : Kept pair s s₂ := by
    unfold s₂; split
    · exact h₁.each fun _ hu _ => hu.lead
    · exact h₁.each fun _ hu _ => hu.lead
    · exact h₁
  exact .ite h₂.wakeRes h₂
theorem Kept.promote (h : Kept pair s t) {q hd page : Nat} (hu : t.promote q hd page = some u) : Kept pair s u := by
  unfold State.promote at hu
  dsimp only at hu
  split at hu
  · split at hu
    · next e _ => exact Option.some.inj hu ▸ (h.takeFrame e).demandChan.onPage.flashOp
    · cases hu
  · cases hu
theorem Kept.askFrame (h : Kept pair s t) {q : Nat} : Kept pair s (t.askFrame q) := by
  unfold State.askFrame; dsimp only
  refine .ite h ?_
  split
  · exact h.onPage
  · exact h
/-- The state in which a page is ready or waits. -/
def PageNeed.state : PageNeed → State
  | .ready s => s
  | .wait s => s
theorem Kept.of_ready {n : PageNeed} (h : Kept pair s n.state) (e : n = .ready u) : Kept pair s u := by subst e; exact h
theorem Kept.of_wait {n : PageNeed} (h : Kept pair s n.state) (e : n = .wait u) : Kept pair s u := by subst e; exact h
theorem Kept.promoteOr (h : Kept pair s t) {q hd page : Nat} : Kept pair s ((t.promote q hd page).getD (t.askFrame q)) :=
  .getD (fun _ hu => h.promote hu) h.askFrame
theorem Kept.pageForWrite (h : Kept pair s t) {hd page : Nat} : Kept pair s (t.pageForWrite hd page).state := by
  unfold State.pageForWrite
  split
  · exact h
  · extract_lets k p p'
    split
    · exact h
    · exact h.onPage
    · exact h.onPage
    · exact h.promoteOr
    · split
      · exact h.demandChan
      · split
        · exact h.askFrame
        · next e => exact .setPage (.ite (h.takeFrame e).zeroFrame (h.takeFrame e).poisonFrame)
theorem Kept.noteShare (h : Kept pair s t) {q : Nat} : Kept pair s (t.noteShare q) := by
  unfold State.noteShare; exact h.onMem rfl
theorem Kept.dirtied (h : Kept pair s t) {hd page : Nat} : Kept pair s (t.dirtied hd page) := by
  unfold State.dirtied; dsimp only; split
  · exact .ite h.onPage h.onPage.noteShare
  · exact h.onPage
theorem Kept.pageForRead (h : Kept pair s t) {hd page : Nat} : Kept pair s (t.pageForRead hd page).state := by
  unfold State.pageForRead; dsimp only; split
  · exact h
  · split
    · exact h
    · exact h.promoteOr
    · split
      · exact h.demandChan
      · exact h.onPage
theorem Kept.noteUe (h : Kept pair s t) {hd : Nat} : Kept pair s (t.noteUe hd) := by
  unfold State.noteUe; exact .ite (.ite (h.onPrtRole fun _ => by rfl).finding (h.onPrtRole fun _ => by rfl)) h
theorem Kept.readExt (h : Kept pair s t) {hd line tag : Nat} : Kept pair s (t.readExt hd line tag).2 := by
  unfold State.readExt; dsimp only; split
  · dsimp only
    exact .ite h.demandChan.readLine.noteUe h.demandChan.readLine
  · exact h
theorem Kept.writeExt (h : Kept pair s t) {hd line tag mark : Nat} {data : List Byte} {wr : Option Nat} :
    Kept pair s (t.writeExt hd line tag mark data wr) := by
  unfold State.writeExt; dsimp only; split
  · exact h.writeLine.dirtied
  · exact h.performed
theorem Kept.fillFromFlash (h : Kept false s t) {k : Nat} {fp : FlashPage} {bad : List Nat} :
    Kept false s (t.fillFromFlash k fp bad) := by
  unfold State.fillFromFlash; dsimp only; split
  · split
    · exact h.each fun _ hu _ => .ite hu.poisonLine hu.fillLine
    · exact h
  · exact h
theorem Kept.openCommit (h : Kept false s t) {m : Nat} : Kept false s (t.openCommit m) := by
  unfold State.openCommit; exact h.onFdie.each fun _ hu _ => hu.flashOp
theorem Kept.journal (h : Kept false s t) {m : Nat} {rs : List JRec} {now : Bool} : Kept false s (t.journal m rs now) := by
  unfold State.journal; exact .ite h.onFdie (.ite h.onFdie.openCommit h.onFdie.onFdie)
theorem Kept.extRecord (h : Kept false s t) {hd : Nat} {act : ExtAct} : Kept false s (t.extRecord hd act) := by
  unfold State.extRecord; dsimp only; split
  · exact h
  · exact h.journal
theorem Kept.noteKitty (h : Kept false s t) {m : Nat} : Kept false s (t.noteKitty m) := by
  unfold State.noteKitty; exact .ite h.setReg.finding h
theorem Kept.flashSlot (h : Kept false s t) {m x : Nat} (hu : t.flashSlot m = some (x, u)) : Kept false s u := by
  obtain ⟨_, -, e⟩ := Option.map_eq_some_iff.mp hu
  cases e; exact h.onFdie.noteKitty
theorem Kept.readPage (h : Kept false s t) {hd page : Nat} {ls : List Nat} {d : List (Nat × List Byte)} :
    Kept false s (ls.foldl (fun (acc : List (Nat × List Byte) × State) n =>
      let r := acc.2.readExt hd (page * 512 + n) 50
      (acc.1 ++ [r.1], r.2)) (d, t)).2 :=
  .foldl_snd h fun _ hu _ => hu.readExt
theorem Kept.destage (h : Kept false s t) {hd page : Nat} : Kept false s (t.destage hd page) := by
  rw [State.destage]
  cases t.ext hd with
  | none => exact h
  | some e =>
    cases t.page (pageKey hd page) with
    | none => exact h
    | some p =>
      have h₁ : Kept false s (t.noteShare e.ptn) := h.noteShare
      refine .ite h₁ (.ite h₁.onPage.journal (.ite h₁ (.ite h₁.demandChan (.ite h₁.readPage.onPage.bump.journal ?_))))
      split
      · exact h₁.readPage.onFdie
      · exact (h₁.readPage.flashSlot ‹_›).onPage.flashOp
theorem KeptBy.execDestageStart (h : Kept false s t) {ext : BitVec 20} {page : BitVec 28} :
    KeptBy s (execDestageStart ext page t) := by
  unfold Machine.execDestageStart; exact .next h.destage
theorem KeptBy.execDestageAgeExpiry (h : Kept false s t) {ext : BitVec 20} {page : BitVec 28} :
    KeptBy s (execDestageAgeExpiry ext page t) := by
  unfold Machine.execDestageAgeExpiry; dsimp only; split
  · exact .ite (.next h.onPage) (.next h)
  · exact .next h
theorem Kept.takeOp (h : Kept false s t) {f : Nat} {hit : FlReq → Bool} {x : FlReq} (hu : t.takeOp f hit = some (x, u)) :
    Kept false s u := by
  unfold State.takeOp at hu
  split at hu
  · cases hu
  · cases hu; exact h.onFch
theorem KeptBy.execDestageProgramDone (h : Kept false s t) {ext : BitVec 20} {page : BitVec 28} :
    KeptBy s (execDestageProgramDone ext page t) := by
  unfold Machine.execDestageProgramDone; dsimp only; split
  · exact .next h
  · split
    · exact .next h
    · next hf =>
      obtain ⟨c, -, hc⟩ := List.exists_of_findSome?_eq_some hf
      obtain ⟨x, hx, e⟩ := Option.map_eq_some_iff.mp hc
      cases e
      split
      · exact .next (h.takeOp hx).onFdie.bump.journal
      · exact .next (h.takeOp hx)
theorem Kept.pairDurable (h : Kept false s t) {r : JRec} : Kept false s (t.pairDurable r) := by
  unfold State.pairDurable; exact h.onExt
theorem Kept.pageCommitted (h : Kept false s t) {m : Nat} {r : JRec} : Kept false s (t.pageCommitted m r) := by
  unfold State.pageCommitted
  extract_lets k
  split
  · extract_lets s₁ s₂ s₃
    have h₁ : Kept false s s₁ := by
      unfold s₁; split
      · exact .ite h h.onFdie
      · exact h
    have h₃ : Kept false s s₃ := h₁.onPage.bump
    refine .ite h₁.onPage (.ite h₁.onPage ?_)
    split
    · exact .ite h₃.freeFrame.onPage h₃
    · exact h₃
  · exact h
theorem Kept.aclInForce (h : Kept false s t) {hd : Nat} {l : List AclEntry} : Kept false s (t.aclInForce hd l) := by
  unfold State.aclInForce; exact h.onExt
theorem Kept.putAcl (h : Kept false s t) {hd : Nat} {l : List AclEntry} : Kept false s (t.putAcl hd l) := by
  unfold State.putAcl; exact h.aclInForce.onExt
theorem Kept.extCommitted (h : Kept false s t) {r : JRec} : Kept false s (t.extCommitted r) := by
  unfold State.extCommitted; dsimp only; split
  · exact h
  · exact h
  · exact h.onExt.complete
  · exact h.onExt.complete
  · exact h.putAcl.complete
  · exact h.onExt.complete
  · exact h.onExt.complete.complete
theorem Kept.committed (h : Kept false s t) {m : Nat} : Kept false s (t.committed m) := by
  unfold State.committed
  split
  · exact h
  · refine .ite h ?_
    extract_lets s₁ again done s₂ s₃ s₄ s₅
    have h₂ : Kept false s s₂ := .onFdie (h.each fun _ hu _ => hu.onFch)
    have h₄ : Kept false s s₄ := .setReg (.setReg (.ite h₂.openCommit h₂))
    exact .each (.ite h₄.onFdie h₄) fun _ hu _ => .ite hu.pairDurable.extCommitted (.ite hu.pairDurable.pageCommitted hu)
theorem KeptBy.execJournalCommitTimer (h : Kept false s t) {m : MDie} : KeptBy s (execJournalCommitTimer m t) := by
  unfold Machine.execJournalCommitTimer; exact .ite (.next h.openCommit) (.next h)
theorem KeptBy.execCheckpoint (h : Kept false s t) {m : MDie} : KeptBy s (execCheckpoint m t) := by
  unfold Machine.execCheckpoint; exact .ite (.next h.journal.onFdie) (.next h)
theorem KeptBy.execFlashOpStart (h : Kept false s t) {f : FCh} : KeptBy s (execFlashOpStart f t) := by
  unfold Machine.execFlashOpStart; dsimp only
  refine .ite (.next h.wakeRes) ?_
  split
  · exact .next h.onFch
  · refine .ite (.next h) ?_
    split
    · exact .next h
    · exact .next (h.onArb.onFch.lead.elim fun _ => h.onArb.onFch.lead.onFch)
theorem Kept.retireBlock (h : Kept false s t) {f loc : Nat} : Kept false s (t.retireBlock f loc) := by
  unfold State.retireBlock; exact h.bump.onFdie.noteKitty
theorem KeptBy.execFlashProgramFail (h : Kept false s t) {f : FCh} {erase : Bool} :
    KeptBy s (execFlashProgramFail f erase t) := by
  unfold Machine.execFlashProgramFail; dsimp only; split
  · exact .next h
  · refine .ite (.next (.retireBlock (h.takeOp ‹_›))) ?_
    split
    · refine .next (.onFdie ?_)
      split
      · exact .onPage (.retireBlock (h.takeOp ‹_›))
      · exact .retireBlock (h.takeOp ‹_›)
    · exact .next (.flashOp (.flashSlot (.retireBlock (h.takeOp ‹_›)) ‹_›))
theorem KeptBy.execFlashReadRetry (h : Kept false s t) {f : FCh} {cw : Fin 16} {tries : Fin 11} {ok : Bool} :
    KeptBy s (execFlashReadRetry f cw tries ok t) := by
  unfold Machine.execFlashReadRetry; dsimp only; split
  · exact .next h
  · exact .ite (.ite (.next h.bumpN.onFdie) (.next h.bumpN)) (.next h.bumpN.bump.retireBlock.onFch)
theorem Kept.gcMove (h : Kept false s t) {m : Nat} {e : Nat × FlashPage} : Kept false s (t.gcMove m e) := by
  unfold State.gcMove; dsimp only
  refine .ite h ?_
  split
  · exact h
  · exact .journal (.bump (.bump (.onFdie (h.flashSlot ‹_›))))
theorem KeptBy.execGarbageCollection (h : Kept false s t) {m : MDie} : KeptBy s (execGarbageCollection m t) := by
  unfold Machine.execGarbageCollection; dsimp only; split
  · exact .next h.onFdie
  · exact .next (.ite (h.onFdie.each fun _ hu _ => hu.gcMove) (.flashOp (h.onFdie.each fun _ hu _ => hu.gcMove)))
theorem KeptBy.execFlashEraseDone (h : Kept false s t) {f : FCh} : KeptBy s (execFlashEraseDone f t) := by
  unfold Machine.execFlashEraseDone; dsimp only; split
  · exact .next h
  · exact .next (.onFdie (.bump (h.takeOp ‹_›)))

/-! ### Packets sent -/

theorem Kept.outAdd (h : Kept pair s t) {ti : Nat} : Kept pair s (t.outAdd ti) := by
  unfold State.outAdd; exact h.setReg
theorem Kept.outSub (h : Kept false s t) {ti : Nat} : Kept false s (t.outSub ti) := by
  unfold State.outSub; exact h.setReg
theorem Kept.freeCredit (h : Kept pair s t) {n vc flits : Nat} : Kept pair s (t.freeCredit n vc flits) := by
  unfold State.freeCredit; exact h.onLink.setReg
theorem Kept.enqueue (h : Kept pair s t) {n table vc : Nat} {ingress : Option Nat} {transit : Bool} {p : Packet} :
    Kept pair s (t.enqueue n table vc ingress transit p) := by
  unfold State.enqueue; exact .ite (.wakeRes (.ite h.onEg.onRt.outAdd.lead.count h.onEg.onRt.outAdd.lead)) (.ite
      h.onEg.onRt.outAdd.lead.count h.onEg.onRt.outAdd.lead)
theorem Kept.route (h : Kept pair s t) {table vc : Nat} {transit : Bool} {via : Via} {p : Packet} :
    Kept pair s (t.route table vc transit via p) := by
  unfold State.route; dsimp only
  refine .ite h.onRt (.ite ?_ ?_)
  · split
    · exact h.bump.freeCredit
    · exact h.bump
  · split
    · exact h.onRt
    · exact h.enqueue
theorem Kept.stamp (h : Kept pair s t) {p : Packet} : Kept pair s (t.stamp p).2 := by
  unfold State.stamp; dsimp only; exact h.onFab
theorem Kept.emit (h : Kept pair s t) {port : Nat} {p : Packet} : Kept pair s (t.emit port p) := by
  unfold State.emit; exact h.stamp.route
theorem Kept.respond (h : Kept false s t) {port : Nat} {p : Packet} {status : Nat} : Kept false s (t.respond port p status) := by
  unfold State.respond; exact h.emit
theorem Kept.retryAfter (h : Kept false s t) {port : Nat} {p : Packet} {hint : Nat} :
    Kept false s (t.retryAfter port p hint) := by
  unfold State.retryAfter; exact h.emit
theorem Kept.emitHeld (h : Kept pair s t) {mirrored : Bool} {port : Nat} {p : Packet} :
    Kept pair s (t.emitHeld mirrored port p) := by
  unfold State.emitHeld; exact .ite (h.onPrtRole fun _ => by rfl) h.emit
theorem Kept.rerouteAll (h : Kept false s t) {f : Held → Bool} : Kept false s (t.rerouteAll f) := by
  unfold State.rerouteAll; exact h.onRt.each fun _ hu _ => hu.route
theorem KeptBy.execWaitingPacketRoute (h : Kept false s t) {tb : Fin 19} {vc : Fin 5} :
    KeptBy s (execWaitingPacketRoute tb vc t) := by
  unfold Machine.execWaitingPacketRoute; exact .next h.rerouteAll
theorem Kept.chkFrame (h : Kept pair s t) {i : Nat} {l : List Byte} : Kept pair s (t.chkFrame i l) := by
  unfold State.chkFrame; exact h.onChk
theorem Kept.sendFrame (h : Kept pair s t) {g : Pairing} {port : Nat} {req : Option Packet} {frame : List Byte} :
    Kept pair s (t.sendFrame g port req frame) := by
  unfold State.sendFrame; exact .ite h.chkFrame (.route (.ite h.chkFrame.stamp (h.chkFrame.stamp.onPrtRole fun _ => by rfl)))
theorem Kept.sendSeq (h : Kept pair s t) {type ext arg : Nat} {body : List Byte} :
    Kept pair s (t.sendSeq type ext arg body) := by
  unfold State.sendSeq; dsimp only; split
  · exact h
  · exact (h.onPrtRole fun _ => by rfl).sendFrame
theorem Kept.mirror (h : Kept pair s t) {type ext arg : Nat} {body : List Byte} : Kept pair s (t.mirror type ext arg body) := by
  unfold State.mirror; exact .ite h.sendSeq h

/-! ### The directory -/

theorem Kept.ended (h : Kept pair s t) {hd : Nat} {cut : Bool} : Kept pair s (t.ended hd cut) := by
  unfold State.ended; exact h.onExt
theorem Kept.gone (h : Kept pair s t) {hd : Nat} : Kept pair s (t.gone hd) := by
  unfold State.gone; exact h.onExt
theorem Kept.endedBy (h : Kept false s t) {hd status : Nat} : Kept false s (t.endedBy hd status) := by
  unfold State.endedBy; exact .ite h.ended h.gone
theorem Kept.accepted (h : Kept pair s t) {hd : Nat} : Kept pair s (t.accepted hd) := by
  unfold State.accepted; exact h.onExt
theorem Kept.answer (h : Kept pair s t) {r : WaitReq} {framed : Bool} {p : Packet} : Kept pair s (t.answer r framed p) := by
  unfold State.answer; exact .ite h h.emitHeld.ended
theorem Kept.mirrorWrite (h : Kept pair s t) {hd off : Nat} {data : List Byte} : Kept pair s (t.mirrorWrite hd off data) := by
  unfold State.mirrorWrite; exact .ite (h.each fun _ hu _ => hu.mirror) h
theorem Kept.newWrite (h : Kept pair s t) {host hd : Nat} {ok : Bool} {lines : Nat} :
    Kept pair s (t.newWrite host hd ok lines).2 := by
  unfold State.newWrite; dsimp only; exact h.onFab
theorem Kept.homeWrite (h : Kept pair s t) {w hd line port mark : Nat} {data : List Byte} :
    Kept pair s (t.homeWrite w hd line port mark data).1 := by
  unfold State.homeWrite; dsimp only; split
  · dsimp only
    exact h.performed
  · split
    · dsimp only
      exact h.pageForWrite.of_wait ‹_›
    · dsimp only
      exact .ite (h.pageForWrite.of_ready ‹_›).writeExt.mirrorWrite (h.pageForWrite.of_ready ‹_›).writeExt
theorem Kept.homeStore (h : Kept pair s t) {r : WaitReq} {hd line : Nat} {data : List Byte} :
    Kept pair s (t.homeStore r hd line data).1 := by
  unfold State.homeStore; dsimp only; split
  · exact h.homeWrite
  · split
    · dsimp only
      exact h.newWrite.homeWrite.of_fst ‹_›
    · dsimp only
      exact (h.newWrite.homeWrite.of_fst ‹_›).performed
theorem Kept.homePutFor (h : Kept pair s t) {w port mark : Nat} {p : Packet} {reply : Bool} :
    Kept pair s (t.homePutFor w port mark p reply) := by
  unfold State.homePutFor; dsimp only
  refine .ite h.onFab ?_
  split
  · exact .ite (h.homeWrite.of_fst ‹_›).answer (h.homeWrite.of_fst ‹_›)
  · exact (h.homeWrite.of_fst ‹_›).onFab
theorem Kept.homePut (h : Kept pair s t) {port mark : Nat} {p : Packet} {reply : Bool} :
    Kept pair s (t.homePut port mark p reply) := by
  unfold State.homePut; exact h.newWrite.homePutFor
theorem Kept.cutWrites (h : Kept pair s t) {f : OpenWrite → Bool} : Kept pair s (t.cutWrites f) := by
  unfold State.cutWrites; exact h.onDir.onFab
theorem Kept.poisonHome (h : Kept pair s t) {hd line : Nat} : Kept pair s (t.poisonHome hd line) := by
  unfold State.poisonHome; exact h.homePut
theorem Kept.onTxn (h : Kept pair s t) {hd line : Nat} {f : Txn → Txn} : Kept pair s (t.onTxn hd line f) := by
  unfold State.onTxn; exact h.onDir
theorem Kept.dirFrame (h : Kept pair s t) {hd line : Nat} : Kept pair s (t.dirFrame hd line) := by
  unfold State.dirFrame; exact .ite h.mirror h
theorem Kept.putEnt (h : Kept pair s t) {k : Nat} {e : DirEnt} : Kept pair s (t.putEnt k e) := by
  unfold State.putEnt; exact h.onDir.dirFrame
theorem Kept.freeEnt (h : Kept pair s t) {hd line : Nat} : Kept pair s (t.freeEnt hd line) := by
  unfold State.freeEnt; split
  · exact h.onDir.dirFrame
  · exact h
theorem Kept.sendRecall (h : Kept pair s t) {ti : Txn} {q i ep : Nat} : Kept pair s (t.sendRecall ti q i ep) := by
  unfold State.sendRecall; exact .route (.bump (.ite h.stamp.onDir.onFab.accepted h.stamp.onDir.onFab))
theorem Kept.poisonEnds (h : Kept pair s t) {hd line : Nat} : Kept pair s (t.poisonEnds hd line) := by
  unfold State.poisonEnds; dsimp only; split
  · exact .onDir (h.poisonHome.freeEnt.each fun _ hu _ => hu.gone)
  · exact .onDir (.onDir (h.poisonHome.freeEnt.each fun _ hu _ => hu.gone))
theorem Kept.sendNeeded (h : Kept pair s t) {hd line : Nat} : Kept pair s (t.sendNeeded hd line) := by
  unfold State.sendNeeded; dsimp only; split
  · refine h.each fun _ hu _ => ?_
    split
    · exact .ite (.ite hu.bump.poisonEnds hu.putEnt.onTxn) (.ite hu.onTxn.sendRecall hu)
    · exact hu
  · exact h
theorem Kept.openTxn (h : Kept pair s t) {ti : Txn} : Kept pair s (t.openTxn ti) := by
  unfold State.openTxn; exact h.onDir.dirFrame.sendNeeded
theorem Kept.startLine (h : Kept pair s t) {r : WaitReq} : Kept pair s (t.startLine r) := by
  unfold State.startLine; dsimp only; split
  · exact h
  · split
    · exact .ite h.putEnt.openTxn (.ite h.putEnt.openTxn (.ite h.putEnt.openTxn h.putEnt.openTxn))
    · refine .ite h.openTxn ?_
      split
      · exact h.answer
      · split
        · exact h.putEnt.openTxn
        · exact h.openTxn.openTxn
        · exact h.bump.answer
theorem Kept.closeTxn (h : Kept pair s t) {hd line : Nat} : Kept pair s (t.closeTxn hd line) := by
  unfold State.closeTxn; exact h.onDir.dirFrame
theorem Kept.dropEnt (h : Kept pair s t) {hd line : Nat} :
    Kept pair s (match t.dirEnt hd line with
      | some (_, d) => if d.holders.isEmpty then t.freeEnt hd line else t
      | none => t) := by
  split
  · exact .ite h.freeEnt h
  · exact h
theorem Kept.finishTxn (h : Kept pair s t) {x : Txn} : Kept pair s (t.finishTxn x).1 := by
  unfold State.finishTxn; dsimp only; split
  · split
    · exact h.freeEnt.bump.putEnt.onTxn.closeTxn
    · exact h.onTxn.closeTxn
  · split
    · exact h
    · split
      · exact h.homeStore.of_fst ‹_›
      · exact (h.homeStore.of_fst ‹_›).dropEnt.closeTxn.answer
  · split
    · exact h
    · split
      · exact h.pageForRead.of_wait ‹_›
      · have hr (tag : Nat) := (h.pageForRead.of_ready ‹_›).readExt (hd := x.ext) (line := x.line) (tag := tag)
        split
        · exact (hr _).dropEnt.closeTxn.answer
        · split
          · split
            · exact (hr _).homeStore.of_fst ‹_›
            · exact ((hr _).homeStore.of_fst ‹_›).dropEnt.closeTxn.answer
          · split
            · exact hr _
            · exact (hr _).putEnt.closeTxn.answer
  · exact h.dropEnt.closeTxn
theorem Kept.dirRound (h : Kept pair s t) : Kept pair s t.dirRound := by
  unfold State.dirRound; dsimp only
  refine .each (h.each fun _ hu _ => ?_) fun _ hu _ => .ite hu hu.onDir.startLine
  split
  · exact .ite hu.sendNeeded.finishTxn hu.sendNeeded
  · exact hu.sendNeeded
theorem Kept.dirRun (h : Kept pair s t) : Kept pair s t.dirRun := by
  unfold State.dirRun; exact h.each fun _ hu _ => hu.dirRound
theorem Kept.lineRequest (h : Kept false s t) {r : WaitReq} : Kept false s (t.lineRequest r) := by
  unfold State.lineRequest; exact .ite (.ite h.onDir h.answer) h.startLine.dirRun
theorem Kept.hostReturn (h : Kept false s t) {r : WaitReq} : Kept false s (t.hostReturn r) := by
  unfold State.hostReturn; dsimp only; split
  · exact .ite h.bump.answer (.ite (.dirRun (.homePut (.ite (.freeEnt (.ite (.bump (.onTxn (.ite h.onDir.gone
        h.onDir))) (.onTxn (.ite h.onDir.gone h.onDir)))) (.putEnt (.ite (.bump (.onTxn (.ite h.onDir.gone h.onDir)))
        (.onTxn (.ite h.onDir.gone h.onDir))))))) (.dirRun (.answer (.ite (.freeEnt (.ite (.bump (.onTxn (.ite
        h.onDir.gone h.onDir))) (.onTxn (.ite h.onDir.gone h.onDir)))) (.putEnt (.ite (.bump (.onTxn (.ite
        h.onDir.gone h.onDir))) (.onTxn (.ite h.onDir.gone h.onDir))))))))
  · exact h.bump.answer
theorem Kept.hostAck (h : Kept false s t) {port : Nat} {p : Packet} : Kept false s (t.hostAck port p) := by
  unfold State.hostAck; dsimp only; split
  · split
    · exact h.bump
    · exact h.bump
  · refine .ite h.onDir.dirRun ?_
    split
    · exact .dirRun (.ite h.onDir.gone h.onDir)
    · exact .ite (.ite (.dirRun (.onTxn (.ite h.onDir.gone h.onDir))) (.dirRun (.ite (.homePut (.ite (.putEnt (.ite
          h.onDir.gone h.onDir)) (.putEnt (.ite h.onDir.gone h.onDir)))) (.ite (.putEnt (.ite h.onDir.gone h.onDir))
          (.putEnt (.ite h.onDir.gone h.onDir)))))) (.dirRun (.putEnt (.ite (.bump (.ite h.onDir.gone h.onDir)) (.ite
          h.onDir.gone h.onDir))))
theorem Kept.deadScan (h : Kept false s t) {sl ep : Nat} : Kept false s (t.deadScan sl ep) := by
  unfold State.deadScan; dsimp only
  refine h.each fun _ hu _ => ?_
  split
  · exact .ite hu (.ite hu.bump.poisonEnds (.ite hu.freeEnt hu.putEnt))
  · exact hu
theorem Kept.hostDies (h : Kept pair s t) {ep : Nat} : Kept pair s (t.hostDies ep) := by
  unfold State.hostDies; dsimp only
  refine .ite h (.dirRun (.onFab (.each (.cutWrites (.each (.onDir (h.onDir.each fun _ hu _ => hu.gone)) fun _ hu _
      => ?_)) fun _ hu _ => .ite hu hu.gone)))
  split
  · exact .ite hu.bump.poisonEnds (.putEnt (.onDir (.ite hu.gone hu)))
  · exact hu
theorem Kept.dirReset (h : Kept false s t) {q : Nat} : Kept false s (t.dirReset q) := by
  unfold State.dirReset; exact .each (.each (h.onDir.cutWrites.each fun _ hu _ => hu.gone) fun _ hu _ =>
      hu.bump.poisonHome) fun _ hu _ => hu.emit.gone
theorem Kept.recallLines (h : Kept false s t) {hd : Nat} {act : TxnAct} {pick : DirEnt → List Nat} :
    Kept false s (t.recallLines hd act pick) := by
  unfold State.recallLines; exact h.each fun _ hu _ => .ite hu hu.openTxn

/-! ### Requests served -/

theorem Kept.replayHint (h : Kept false s t) : Kept false s t.replayHint.2 := by
  unfold State.replayHint; dsimp only; split
  · exact h
  · dsimp only
    exact h.draw
theorem Kept.refuse (h : Kept false s t) {port : Nat} {p : Packet} {status : Nat} {hint : Option Nat} :
    Kept false s (t.refuse port p status hint) := by
  unfold State.refuse; dsimp only
  refine .ite ?_ h.respond
  split
  · exact h.retryAfter
  · exact h.replayHint.retryAfter
theorem Kept.pagesReady (h : Kept false s t) {hd : Nat} {write : Bool} {pages : List Nat} :
    Kept false s (t.pagesReady hd write pages).1 := by
  refine .foldl_fst h fun p hu page => ?_
  have hn : Kept false s (if write then p.1.pageForWrite hd page else p.1.pageForRead hd page).state := by
    split
    · exact hu.pageForWrite
    · exact hu.pageForRead
  split
  · exact hn.of_ready ‹_›
  · exact hn.of_wait ‹_›
theorem Kept.readLines (h : Kept false s t) {hd line0 n tag : Nat} : Kept false s (t.readLines hd line0 n tag).2 := by
  unfold State.readLines; dsimp only; exact h.foldl_snd fun _ hu _ => hu.readExt
theorem Kept.tryGet (h : Kept false s t) {r : WaitReq} : Kept false s (t.tryGet r).1 := by
  unfold State.tryGet; dsimp only; split
  · dsimp only
    refine .ended (h.foldl_fst fun _ hu _ => ?_)
    split
    · dsimp only
      exact hu.pagesReady.of_fst ‹_›
    · dsimp only
      exact (hu.pagesReady.of_fst ‹_›).readLines.route
  · dsimp only
    refine h.foldl_fst fun _ hu _ => ?_
    split
    · dsimp only
      exact hu.pagesReady.of_fst ‹_›
    · dsimp only
      exact (hu.pagesReady.of_fst ‹_›).readLines.route
theorem Kept.tryPut (h : Kept false s t) {r : WaitReq} : Kept false s (t.tryPut r).1 := by
  unfold State.tryPut; dsimp only; split
  · dsimp only
    exact h.pagesReady.of_fst ‹_›
  · dsimp only
    exact .mirrorWrite ((h.pagesReady.of_fst ‹_›).each fun _ hu _ => hu.writeExt)
theorem Kept.zeroPage (h : Kept false s t) {hd page : Nat} {asked : Bool} (hu : t.zeroPage hd page asked = some u) : Kept false s u := by
  unfold State.zeroPage at hu
  dsimp only at hu
  split at hu
  · obtain rfl := Option.some.inj hu; exact h
  · split at hu
    · split at hu
      · cases hu
      · obtain rfl := Option.some.inj hu
        exact (h.setPage.pageForWrite.of_ready ‹_›).drainFrame.zeroFrame.onPage
    · split at hu
      · cases hu
      · obtain rfl := Option.some.inj hu
        refine .onPage ?_
        split
        · exact h.setPage.drainFrame.freeFrame
        · exact h.setPage
theorem Kept.initByZero (h : Kept false s t) {hd : Nat} : Kept false s (t.initByZero hd) := by
  unfold State.initByZero; split
  · exact h
  · exact .ite (.ite h.onExt (.ite h h.extRecord)) h
theorem Kept.tryZero (h : Kept false s t) {r : WaitReq} : Kept false s (t.tryZero r).1 := by
  unfold State.tryZero; dsimp only; split
  · dsimp only
    refine h.foldl_fst fun _ hu _ => ?_
    split
    · exact hu
    · split
      · split
        · dsimp only
          exact hu.pagesReady
        · dsimp only
          exact .initByZero (.mirrorWrite (.performed (hu.zeroPage ‹_›)))
      · split
        · dsimp only
          exact hu.pagesReady.of_fst ‹_›
        · dsimp only
          exact .mirrorWrite ((hu.pagesReady.of_fst ‹_›).each fun _ hu' _ => hu'.writeExt)
  · dsimp only
    refine h.foldl_fst fun _ hu _ => ?_
    split
    · exact hu
    · split
      · split
        · dsimp only
          exact hu.pagesReady
        · dsimp only
          exact .initByZero (.mirrorWrite (.performed (hu.zeroPage ‹_›)))
      · split
        · dsimp only
          exact hu.pagesReady.of_fst ‹_›
        · dsimp only
          exact .mirrorWrite ((hu.pagesReady.of_fst ‹_›).each fun _ hu' _ => hu'.writeExt)
theorem Kept.compare (h : Kept false s t) {r : WaitReq} : Kept false s (t.compare r) := by
  unfold State.compare; dsimp only; split
  · exact h
  · exact .answer (.ite (.mirror (.ite h.onExt h)) (.ite h.onExt h))
theorem Kept.persistStart (h : Kept false s t) {r : WaitReq} : Kept false s (t.persistStart r).1 := by
  unfold State.persistStart; dsimp only; split
  · exact h
  · dsimp only
    exact .each (.journal (.ite (.mirror (h.each fun _ hu _ => hu.onPage)) (h.each fun _ hu _ => hu.onPage))) fun _
        hu _ => .ite hu hu.journal
theorem Kept.tryPersist (h : Kept false s t) {r : WaitReq} : Kept false s (t.tryPersist r).1 := by
  unfold State.tryPersist; dsimp only; split
  · split
    · split
      · split
        · dsimp only
          exact h.persistStart
        · split
          · dsimp only
            exact h.persistStart.answer
          · dsimp only
            exact h.persistStart
      · exact h
    · split
      · dsimp only
        exact h.answer
      · exact h
  · split
    · split
      · split
        · dsimp only
          exact h.persistStart
        · split
          · dsimp only
            exact h.persistStart.answer
          · dsimp only
            exact h.persistStart
      · exact h
    · split
      · dsimp only
        exact h.answer
      · exact h
theorem Kept.tryReq (h : Kept false s t) {r : WaitReq} : Kept false s (t.tryReq r).1 := by
  unfold State.tryReq; split
  · split
    · exact h
    · split
      · exact h.tryGet
      · split
        · exact h.tryZero
        · exact h.tryPut
  · split
    · dsimp only
      exact h.homeWrite.of_fst ‹_›
    · dsimp only
      exact .ite (h.homeWrite.of_fst ‹_›).answer (h.homeWrite.of_fst ‹_›)
  · split
    · dsimp only
      exact h.answer
    · exact h
  · exact h.tryPersist
  · exact h
theorem Kept.goOn (h : Kept false s t) {r : WaitReq} : Kept false s (t.goOn r) := by
  unfold State.goOn; split
  · exact (h.tryReq.of_fst ‹_›).onFab
  · exact (h.tryReq.of_fst ‹_›).onFab
theorem Kept.settle (h : Kept false s t) : Kept false s t.settle := by
  unfold State.settle; exact .dirRun (h.each fun _ hu _ => hu.goOn)
theorem Kept.serveOr (h : Kept false s t) {r : WaitReq} : Kept false s (t.serveOr r) := by
  unfold State.serveOr; exact h.onFab.goOn
theorem Kept.serveGet (h : Kept false s t) {r : WaitReq} : Kept false s (t.serveGet r) := by
  unfold State.serveGet; exact .ite h.draw.answer h.onFab.serveOr
theorem Kept.serveZero (h : Kept false s t) {r : WaitReq} : Kept false s (t.serveZero r) := by
  unfold State.serveZero; exact .ite h.draw.answer h.newWrite.serveOr.answer
theorem Kept.serveReadVersion (h : Kept false s t) {r : WaitReq} : Kept false s (t.serveReadVersion r) := by
  unfold State.serveReadVersion; exact h.answer
theorem Kept.serveFlush (h : Kept false s t) {r : WaitReq} : Kept false s (t.serveFlush r) := by
  unfold State.serveFlush; exact h.serveOr
theorem Kept.servePublish (h : Kept false s t) {r : WaitReq} : Kept false s (t.servePublish r) := by
  unfold State.servePublish; exact h.onFab
theorem Kept.servePersist (h : Kept false s t) {r : WaitReq} : Kept false s (t.servePersist r) := by
  unfold State.servePersist; split
  · exact h
  · exact .ite h.answer h.serveOr
theorem Kept.serveLine (h : Kept false s t) {r : WaitReq} : Kept false s (t.serveLine r) := by
  unfold State.serveLine; exact .ite h.draw.answer h.lineRequest
theorem KeptBy.execPublishCompare (h : Kept false s t) {src : BitVec 16} {tag : BitVec 32} :
    KeptBy s (execPublishCompare src tag t) := by
  unfold Machine.execPublishCompare; dsimp only; split
  · exact .next h.onFab.compare
  · exact .next h

/-! ### Scrubbing -/

theorem Kept.scrubRead (h : Kept false s t) {p : ScrubPass} {c li off : Nat} : Kept false s (t.scrubRead p c li off).2 := by
  unfold State.scrubRead; dsimp only; exact .readLine (.ite h.onChan.bump h)
theorem Kept.setPass (h : Kept false s t) {old new : ScrubPass} : Kept false s (t.setPass old new) := by
  unfold State.setPass; exact h.onMem rfl
theorem Kept.dropPass (h : Kept false s t) {old : ScrubPass} : Kept false s (t.dropPass old) := by
  unfold State.dropPass; exact h.onMem rfl
theorem KeptBy.execScrubPassStart (h : Kept false s t) {q : Ptn} : KeptBy s (execScrubPassStart q t) := by
  unfold Machine.execScrubPassStart; dsimp only; split
  · exact .next (.ite h.setPass.setReg h)
  · exact .ite (.next (.setReg (h.onMem rfl))) (.next h)
theorem KeptBy.execScrubWalkRead (h : Kept false s t) {q : Ptn} {c : Chan} : KeptBy s (execScrubWalkRead q c t) := by
  unfold Machine.execScrubWalkRead; dsimp only; split
  · exact .next h
  · refine .ite (.next h) (.ite (.next h) ?_)
    split
    · exact .next h.scrubRead.setPass.bump
    · exact .ite (.next (.bump (h.dropPass.onMem rfl))) (.next h.setPass)
theorem Kept.endScrub (h : Kept false s t) {p : ScrubPass} {status : Nat} : Kept false s (t.endScrub p status) := by
  unfold State.endScrub; exact h.dropPass.complete
theorem Kept.scrubRevoked (h : Kept false s t) {hd : Nat} : Kept false s (t.scrubRevoked hd) := by
  unfold State.scrubRevoked; split
  · exact h.endScrub.dropPass
  · exact h
theorem KeptBy.execScrubDemandRead (h : Kept false s t) {ext : BitVec 20} : KeptBy s (execScrubDemandRead ext t) := by
  unfold Machine.execScrubDemandRead; dsimp only; split
  · exact .next h
  · refine .ite (.next h.endScrub) ?_
    split
    · exact .next h
    · split
      · refine .ite (.next (.setPass (.bump (h.takeOp ‹_›)))) ?_
        split
        · exact .next (.onFch (.promote (.setPass (.bump (h.takeOp ‹_›))) ‹_›))
        · exact .next (.setPass (.bump (h.takeOp ‹_›)))
      · exact .ite (.next h) (.next h.flashOp)
    · exact .ite (.next h.wakeRes) (.ite (.next h) (.next h.scrubRead.setPass))
    · exact .next h.setPass

/-! ### Dealing -/

theorem Kept.onModel (h : Kept false s t) {q hd : Nat} {f : Model → Model} : Kept false s (t.onModel q hd f) := by
  unfold State.onModel; exact h.onDeal
theorem Kept.readFx (h : Kept false s t) {tag hd line : Nat} : Kept false s (t.readFx tag hd line) := by
  unfold State.readFx; split
  · exact (h.pageForRead.of_ready ‹_›).readExt
  · exact h.pageForRead.of_wait ‹_›
theorem Kept.readWinFx (h : Kept false s t) {v : Inv} {g i off n : Nat} : Kept false s (t.readWinFx v g i off n) := by
  unfold State.readWinFx; dsimp only
  refine .ite h ?_
  split
  · exact h
  · exact h.each fun _ hu _ => .ite hu hu.readFx
theorem Kept.faultFx (h : Kept false s t) {v : Inv} {g : Nat} {f : TileFault} : Kept false s (t.faultFx v g f) := by
  unfold State.faultFx; exact .ite h.readWinFx h
theorem Kept.storeLine' (h : Kept false s t) {v : Inv} {k g hd line : Nat} {data : List Byte} :
    Kept false s (t.storeLine' v k g hd line data) := by
  unfold State.storeLine'; dsimp only; split
  · exact h
  · exact .ite h.onFab.lineRequest h.onFab.homePutFor
theorem Kept.storeWin (h : Kept false s t) {k g i off : Nat} {data : List Byte} : Kept false s (t.storeWin k g i off data) := by
  unfold State.storeWin; split
  · exact h
  · refine .ite h.onInv ?_
    split
    · exact h
    · exact h.each fun _ hu _ => hu.storeLine'
theorem Kept.storeAll (h : Kept false s t) {k g : Nat} {ws : List (Nat × Nat × List Byte)} :
    Kept false s (t.storeAll k g ws) := by
  unfold State.storeAll; dsimp only
  refine h.each fun _ hu _ => ?_
  split
  · exact hu
  · refine .ite hu.onInv ?_
    split
    · exact hu
    · exact hu.each fun _ hu' _ => hu'.storeLine'
theorem Kept.homeCopies (h : Kept false s t) {ls : List (Nat × Nat × Nat)} : Kept false s (t.homeCopies ls).1 := by
  unfold State.homeCopies; split
  · exact h
  · dsimp only
    exact h.each fun _ hu _ => .ite hu hu.openTxn
theorem Kept.kernelReport (h : Kept false s t) {f : TileFault} {kernel : Nat} {gs : List (Nat × Nat)} :
    Kept false s (t.kernelReport f kernel gs).2 := by
  unfold State.kernelReport; dsimp only; split
  · exact h
  · dsimp only
    exact h.draw.onTile
theorem Kept.sendResult (h : Kept false s t) {k sub arg0 arg1 : Nat} {data : List Byte} :
    Kept false s (t.sendResult k sub arg0 arg1 data) := by
  unfold State.sendResult; dsimp only; split
  · exact h
  · exact .onInv (h.each fun _ hu _ => hu.emitHeld)
theorem Kept.refuseInvoke (h : Kept false s t) {port : Nat} {p : Packet} {status hint : Nat} :
    Kept false s (t.refuseInvoke port p status hint) := by
  unfold State.refuseInvoke; exact h.emit
theorem Kept.stopTiles (h : Kept false s t) {k : Nat} : Kept false s (t.stopTiles k) := by
  unfold State.stopTiles; exact h.update rfl
theorem Kept.clearCluster (h : Kept false s t) {g : Nat} : Kept false s (t.clearCluster g) := by
  unfold State.clearCluster; exact h.onClu.each fun _ hu _ => hu.onTile
theorem Kept.clusterResets (h : Kept false s t) : Kept false s t.clusterResets := by
  unfold State.clusterResets; exact h.each fun _ hu _ => .ite hu.clearCluster (.update (hu.clearCluster.onClu.each
      fun _ hu' _ => hu'.onTile) rfl)
theorem Kept.unloads (h : Kept false s t) {q : Nat} : Kept false s (t.unloads q) := by
  unfold State.unloads; exact .each (h.each fun _ hu _ => hu.onDeal.complete) fun _ hu _ => hu.onDeal.complete
theorem Kept.endInv (h : Kept false s t) {k status : Nat} {report : Option (List Byte)} :
    Kept false s (t.endInv k status report) := by
  unfold State.endInv; dsimp only; split
  · exact h
  · exact .clusterResets (.unloads (.onDeal (.each (.emitHeld (.onFab (.each (.onFab (.ite h.stopTiles
        h.stopTiles.cutWrites)) fun _ hu _ => .ite hu.retryAfter hu.respond))) fun _ hu _ => .ite hu.gone hu.ended)))
theorem Kept.faultInv (h : Kept false s t) {k : Nat} {report : List Byte} : Kept false s (t.faultInv k report) := by
  unfold State.faultInv; exact h.endInv
theorem Kept.finishInv (h : Kept false s t) {k : Nat} : Kept false s (t.finishInv k) := by
  unfold State.finishInv; dsimp only; split
  · exact h
  · exact .endInv (.ite h h.sendResult)
theorem Kept.countOps (h : Kept false s t) {g q a w n : Nat} : Kept false s (t.countOps g q a w n) := by
  unfold State.countOps; exact h.count
theorem Kept.closeBasket (h : Kept false s t) {k : Nat} : Kept false s (t.closeBasket k) := by
  unfold State.closeBasket; exact h.onDeal
theorem Kept.closeDue (h : Kept false s t) {q : Nat} : Kept false s (t.closeDue q) := by
  unfold State.closeDue; exact h.each fun _ hu _ => .ite hu hu.closeBasket
theorem Kept.enterBasket (h : Kept false s t) {k tok q model expert weight : Nat} :
    Kept false s (t.enterBasket k tok q model expert weight) := by
  unfold State.enterBasket; exact .ite h.onDeal.bump.closeBasket.bump h.onDeal.bump
theorem Kept.enterEntries (h : Kept false s t) {k q model : Nat} {l : List (Nat × Nat × Nat)} :
    Kept false s (t.enterEntries k q model l) := by
  induction l generalizing t with
  | nil => exact h.onInv
  | cons x xs ih => rw [State.enterEntries]; exact .ite h.onInv (ih h.enterBasket)
theorem Kept.moeReady (h : Kept false s t) {k : Nat} : Kept false s (t.moeReady k) := by
  unfold State.moeReady; dsimp only; split
  · exact h
  · split
    · exact h.kernelReport.faultInv
    · exact .ite h.onInv h.onInv.bump
theorem Kept.ready (h : Kept false s t) {k : Nat} : Kept false s (t.ready k) := by
  unfold State.ready; exact .ite h.onInv.moeReady h.onInv
theorem Kept.admitInvoke (h : Kept false s t) {p : Packet} {v : Inv} {counted : Bool} :
    Kept false s (t.admitInvoke p v counted) := by
  unfold State.admitInvoke; exact .ite (.refuseInvoke (.ite (h.each fun _ hu _ => hu.ended) h)) (.ite (.refuseInvoke
      (.ite (h.each fun _ hu _ => hu.ended) h)) (.ite (.refuseInvoke (.ite (h.draw.each fun _ hu _ => hu.ended)
      h.draw)) (.ite (.ready (.ite h.onDeal (h.onDeal.each fun _ hu _ => hu.accepted))) (.emit (.ite h.onDeal
      (h.onDeal.each fun _ hu _ => hu.accepted))))))
theorem Kept.dealerHint (h : Kept false s t) {port : Nat} {p : Packet} : Kept false s (t.dealerHint port p) := by
  unfold State.dealerHint; exact h.draw.refuseInvoke
theorem Kept.serveInvoke (h : Kept false s t) {r : WaitReq} : Kept false s (t.serveInvoke r).1 := by
  unfold State.serveInvoke; dsimp only; split
  · dsimp only
    exact h.replayHint.refuseInvoke
  · dsimp only
    exact h.refuseInvoke
  · split
    · split
      · dsimp only
        exact h.dealerHint
      · dsimp only
        exact .onFab (h.each fun _ hu _ => hu.accepted)
    · dsimp only
      exact h.admitInvoke
theorem Kept.retryInvokes (h : Kept false s t) {q : Nat} : Kept false s (t.retryInvokes q) := by
  unfold State.retryInvokes; exact h.each fun _ hu _ => .ite hu hu.onFab.freeCredit.admitInvoke
theorem Kept.invokeData (h : Kept false s t) {k : Nat} {p : Packet} : Kept false s (t.invokeData k p) := by
  unfold State.invokeData; dsimp only; split
  · exact h
  · exact .ite h (.ite h.onInv.ready h.onInv)

/-! ### Invocations that run -/

theorem Kept.wakeClus (h : Kept false s t) {gs : List Nat} : Kept false s (t.wakeClus gs) := by
  unfold State.wakeClus; exact h.each fun _ hu _ => .ite hu hu.wakeRes
theorem Kept.spreadBits {f : State → Nat → Nat → State}
    (hf : ∀ u, Kept false s u → ∀ k own, Kept false s (f u k own)) (h : Kept false s t)
    {m got : Nat} {ks : List Nat} : Kept false s (spreadBits f m ks got t) := by
  induction ks generalizing t got with
  | nil => exact h
  | cons k ks ih => exact ih (hf _ h.draw _ _)
theorem Kept.spreadCount (h : Kept false s t) {ks : List Nat} {n : Nat} : Kept false s (spreadCount ks n t) := by
  induction ks generalizing t n with
  | nil => exact h
  | cons k ks ih => exact ih h.draw.onTile
theorem Kept.tilesRan (h : Kept false s t) {gs : List Nat} {flags flagged : Nat} {mma : Bool} :
    Kept false s (t.tilesRan gs flags flagged mma) := by
  unfold State.tilesRan; exact .ite (.ite (.ite (h.each fun _ hu _ => hu.onTile) (.spreadCount (h.each fun _ hu _ =>
      hu.onTile))) (.spreadBits (fun _ hu _ _ => hu.onTile) (.ite (h.each fun _ hu _ => hu.onTile) (.spreadCount
      (h.each fun _ hu _ => hu.onTile))))) (.each (.ite (.ite (h.each fun _ hu _ => hu.onTile) (.spreadCount (h.each
      fun _ hu _ => hu.onTile))) (.spreadBits (fun _ hu _ _ => hu.onTile) (.ite (h.each fun _ hu _ => hu.onTile)
      (.spreadCount (h.each fun _ hu _ => hu.onTile))))) fun _ hu _ => hu.draw.onTile)
theorem Kept.cardsRan (h : Kept false s t) {gs : List Nat} {range count : Bool} : Kept false s (t.cardsRan gs range count) := by
  unfold State.cardsRan; exact .ite h (.spreadBits (fun _ hu _ _ => hu.onClu) h)
theorem Kept.recordZeros (h : Kept false s t) {v : Inv} {ps : List Nat} : Kept false s (t.recordZeros v ps).1 := by
  unfold State.recordZeros
  refine h.foldl_fst fun _ hu _ => ?_
  split
  · split
    · dsimp only
      exact hu.zeroPage ‹_›
    · dsimp only
      exact hu
  · exact hu
theorem Kept.runStock (h : Kept false s t) {k : Nat} : Kept false s (t.runStock k) := by
  unfold State.runStock; dsimp only; split
  · exact h
  · split
    · exact h.draw.count.faultFx.tilesRan.kernelReport.faultInv
    · split
      · exact .faultInv (.kernelReport (h.draw.count.each fun _ hu _ => hu.readWinFx))
      · split
        · exact .faultInv (.kernelReport (.onInv (.ite (.countOps (.cardsRan (.tilesRan (.storeAll (.recordZeros
              (h.draw.count.each fun _ hu _ => hu.readWinFx)))))) (.bump (.countOps (.cardsRan (.tilesRan (.storeAll
              (.recordZeros (h.draw.count.each fun _ hu _ => hu.readWinFx))))))))))
        · exact .finishInv (.onInv (.ite (.countOps (.cardsRan (.tilesRan (.storeAll (.recordZeros (h.draw.count.each
              fun _ hu _ => hu.readWinFx)))))) (.bump (.countOps (.cardsRan (.tilesRan (.storeAll (.recordZeros
              (h.draw.count.each fun _ hu _ => hu.readWinFx)))))))))
theorem Kept.prepared (h : Kept false s t) {g : Nat} : Kept false s (t.prepared g) := by
  unfold State.prepared; dsimp only; split
  · exact h
  · split
    · exact h
    · exact .ite h (.lead (.onInv (h.onClu.each fun _ hu _ => hu.onTile)))
theorem KeptBy.execTilePreparationDone (h : Kept false s t) {g : Clu} : KeptBy s (execTilePreparationDone g t) := by
  unfold Machine.execTilePreparationDone; exact .next h.prepared
theorem Kept.haltedInv (h : Kept false s t) {k : Nat} : Kept false s (t.haltedInv k) := by
  unfold State.haltedInv; split
  · exact h
  · exact .ite h.finishInv h
theorem Kept.closeColl (h : Kept false s t) {ck : Nat} : Kept false s (t.closeColl ck) := by
  unfold State.closeColl; dsimp only; split
  · exact h
  · refine .ite h (.each (.onDeal (h.tilesRan.each fun _ hu _ => hu.onClu)) fun _ hu _ => ?_)
    split
    · exact hu
    · exact .finishInv (.onInv (.ite hu hu.storeAll))
theorem Kept.contribute (h : Kept false s t) {k : Nat} : Kept false s (t.contribute k) := by
  unfold State.contribute; dsimp only; split
  · exact h
  · split
    · exact h.kernelReport.faultInv
    · split
      · exact .ite h h.onDeal
      · split
        · exact h.kernelReport.faultInv
        · refine .ite h ?_
          split
          · exact h.kernelReport.faultInv
          · exact .closeColl (.onDeal (.onInv (.tilesRan (h.each fun _ hu _ => hu.onClu))))
theorem KeptBy.execCollectiveTimeLimit (h : Kept false s t) {k : BitVec 32} : KeptBy s (execCollectiveTimeLimit k t) := by
  unfold Machine.execCollectiveTimeLimit; dsimp only; split
  · exact .next h
  · exact .ite (.next h) (.next (.each (.onDeal (h.each fun _ hu _ => hu.onClu)) fun _ hu _ => hu.faultInv))
theorem Kept.reserveAll (h : Kept false s t) {q : Nat} : Kept false s (t.reserveAll q) := by
  unfold State.reserveAll; exact h.each fun _ hu _ => .ite hu (.ite (hu.contribute.each fun _ hu' _ => .ite hu'
      (.contribute (.wakeClus (.onDeal (hu'.each fun _ hu'' _ => hu''.onClu))))) (.ite hu hu.onInv.wakeClus))
theorem KeptBy.execWorkItemDeal (h : Kept false s t) {q : Ptn} : KeptBy s (execWorkItemDeal q t) := by
  unfold Machine.execWorkItemDeal; dsimp only; split
  · exact .next h.reserveAll
  · refine .ite ?_ (.next (.onInv (h.reserveAll.each fun _ hu _ => hu.lead)))
    split
    · exact .next (Kept.of_fst (.homeCopies (h.reserveAll.each fun _ hu _ => hu.lead)) ‹_›).dirRun
    · exact .next (Kept.of_fst (.homeCopies (h.reserveAll.each fun _ hu _ => hu.lead)) ‹_›).runStock
theorem Kept.enterTokens (h : Kept false s t) {q : Nat} : Kept false s (t.enterTokens q) := by
  unfold State.enterTokens; exact h.closeDue.each fun _ hu _ => hu.enterEntries
theorem Kept.dealStep (h : Kept false s t) {q : Nat} : Kept false s (t.dealStep q) := by
  unfold State.dealStep; exact h.retryInvokes.enterTokens
theorem KeptBy.execBasketDeadline (h : Kept false s t) {k : BitVec 32} : KeptBy s (execBasketDeadline k t) := by
  unfold Machine.execBasketDeadline; dsimp only; split
  · exact .ite (.next h.dealStep) (.next h.dealStep.closeBasket.bump)
  · exact .next h
theorem Kept.promoteExpert (h : Kept false s t) {q model e : Nat} : Kept false s (t.promoteExpert q model e) := by
  unfold State.promoteExpert; dsimp only; split
  · exact h
  · exact .ite h h.onModel.flashOp
theorem Kept.basketWaits (h : Kept false s t) {b : Basket} : Kept false s (t.basketWaits b) := by
  unfold State.basketWaits; exact .promoteExpert (h.each fun _ hu _ => hu.onInv)
theorem KeptBy.execBasketDeal (h : Kept false s t) {q : Ptn} : KeptBy s (execBasketDeal q t) := by
  unfold Machine.execBasketDeal; dsimp only; split
  · exact .next h.dealStep
  · split
    · exact .next (.ite h.dealStep.onDeal.onModel.wakeClus h.dealStep.onDeal.onModel.wakeClus.basketWaits)
    · exact .next h.dealStep
theorem KeptBy.execExpertPromotionDone (h : Kept false s t) {q : Ptn} {model expert : BitVec 16} :
    KeptBy s (execExpertPromotionDone q model expert t) := by
  unfold Machine.execExpertPromotionDone; dsimp only; split
  · exact .next h
  · next hf =>
    obtain ⟨c, -, hc⟩ := List.exists_of_findSome?_eq_some hf
    obtain ⟨x, hx, e⟩ := Option.map_eq_some_iff.mp hc
    cases e
    exact .next (h.takeOp hx).onModel.bump
theorem Kept.runToken (h : Kept false s t) {m : Model} {g e k tok w : Nat} : Kept false s (t.runToken m g e k tok w).1 := by
  unfold State.runToken; dsimp only; split
  · exact h
  · split
    · exact h
    · split
      · exact h
      · split
        · split
          · dsimp only
            exact h.draw.countOps.count.tilesRan.tilesRan.onInv.sendResult
          · dsimp only
            exact h.draw.countOps.count.tilesRan.onInv
        · dsimp only
          exact h.draw.countOps.count.tilesRan.tilesRan.onInv.sendResult
theorem Kept.runEntries (h : Kept false s t) {m : Model} {g : Nat} {b : Basket} {l : List ((Nat × Nat) × Nat)} :
    Kept false s (t.runEntries m g b l) := by
  induction l generalizing t with
  | nil => exact h
  | cons x xs ih =>
    rw [State.runEntries]
    split
    · have hr := h.runToken.of_fst ‹_›
      exact ih (.ite hr.finishInv hr)
    · have hr := h.runToken.of_fst ‹_›
      exact .ite (ih hr.kernelReport.faultInv) (hr.kernelReport.each fun _ hu _ => hu.faultInv)
theorem Kept.runBasket (h : Kept false s t) {m : Model} {g : Nat} {b : Basket} : Kept false s (t.runBasket m g b) := by
  unfold State.runBasket; exact .ite (h.each fun _ hu _ => hu.faultInv) (.runEntries (h.each fun _ hu _ => hu.onInv))
theorem KeptBy.execBasketStart (h : Kept false s t) {g : Clu} : KeptBy s (execBasketStart g t) := by
  unfold Machine.execBasketStart; dsimp only; split
  · exact .next h
  · split
    · exact .next h
    · exact .ite (.next h.basketWaits) (.ite (.next h) (.next h.onDeal.lead.runBasket.unloads.dealStep))
theorem KeptBy.execInvocationFaultStop (h : Kept false s t) {g : Clu} {ti : Til} :
    KeptBy s (execInvocationFaultStop g ti t) := by
  unfold Machine.execInvocationFaultStop; dsimp only; split
  · split
    · exact .next h.faultInv
    · exact .next h
  · exact .next h
theorem KeptBy.execInvocationTimeLimit (h : Kept false s t) {k : BitVec 32} : KeptBy s (execInvocationTimeLimit k t) := by
  unfold Machine.execInvocationTimeLimit; dsimp only; split
  · exact .next h
  · refine .ite (.next h.faultInv) (.ite ?_ (.next h))
    split
    · exact .next h
    · exact .next (.faultInv (h.each fun _ hu _ => hu.onTile))
theorem Kept.streamDst (h : Kept false s t) {k g key a : Nat} {d : Stream} {l : List Byte}
    (hu : t.streamDst k g key d a l = .ok u) : Kept false s u := by
  unfold State.streamDst at hu
  split at hu
  · cases hu; exact h.storeWin.onTile
  · split at hu
    · cases hu
    · cases hu; exact h.onTile.onClu
theorem Kept.streamRows (h : Kept false s t) {v : Inv} {k g key n i : Nat} {d : Stream} :
    Kept false s (streamRows v k g key d n i t).1 := by
  induction n generalizing t i with
  | zero => exact h
  | succ n ih =>
    unfold Machine.streamRows
    dsimp only
    split
    · exact h.faultFx
    · next hs =>
      refine ih ?_
      split at hs
      · cases hs
      · exact h.streamDst hs
      · split at hs
        · cases hs
        · exact .streamDst (.ite h.readWinFx.onTile h) hs
theorem KeptBy.execStreamComplete (h : Kept false s t) {g : Clu} {ti : Til} {e : Fin 4} :
    KeptBy s (execStreamComplete g ti e t) := by
  unfold Machine.execStreamComplete; dsimp only; split
  · refine .ite (.next h.onTile) ?_
    split
    · exact .next (h.homeCopies.of_fst ‹_›).dirRun
    · split
      · exact .next ((h.homeCopies.of_fst ‹_›).streamRows.of_fst ‹_›).onTile.dirRun
      · exact .next ((h.homeCopies.of_fst ‹_›).streamRows.of_fst ‹_›).onTile.lead.dirRun
  · exact .next h
theorem KeptBy.execBarrierRelease (h : Kept false s t) {g : Clu} {all : Bool} : KeptBy s (execBarrierRelease g all t) := by
  unfold Machine.execBarrierRelease; dsimp only; split
  · exact .next h
  · exact .ite (.next (h.each fun _ hu _ => .ite hu.onTile hu)) (.next h)

/-! ### Tile rows -/

theorem Kept.issued (h : Kept false s t) {g ti cls func : Nat} {w : TileWord} {r : Comp × Option TileFault} :
    Kept false s (t.issued g ti cls func w r) := by
  unfold State.issued; dsimp only; split
  · exact .onTile (h.update rfl)
  · exact .ite (.lead (.ite (.count (.countOps (h.update rfl))) (.countOps (h.update rfl)))) (.ite (.count (.countOps
        (h.update rfl))) (.countOps (h.update rfl)))
theorem Kept.issue (h : Kept false s t) {g ti cls func : Nat} {w : TileWord} {k : TileFn} :
    Kept false s (t.issue g ti cls func w k) := by
  unfold State.issue; exact h.issued
theorem Kept.issueRaw (h : Kept false s t) {g ti cls func : Nat} {w : TileWord} {k : TileFn} :
    Kept false s (t.issueRaw g ti cls func w k) := by
  unfold State.issueRaw; exact h.issued
theorem Kept.issueScore (h : Kept false s t) {g ti func : Nat} {w : TileWord} {k : Tile → TRes (Tile × Nat × List
    (Card → Card))} : Kept false s (t.issueScore g ti func w k) := by
  unfold State.issueScore; exact h.issued
theorem KeptBy.execFma (h : Kept false s t) {g : Clu} {ti : Til} {w : TileWord} : KeptBy s (execFma g ti w t) := by
  unfold Machine.execFma; exact .next h.issue
theorem KeptBy.execFadd (h : Kept false s t) {g : Clu} {ti : Til} {w : TileWord} : KeptBy s (execFadd g ti w t) := by
  unfold Machine.execFadd; exact .next h.issue
theorem KeptBy.execFmul (h : Kept false s t) {g : Clu} {ti : Til} {w : TileWord} : KeptBy s (execFmul g ti w t) := by
  unfold Machine.execFmul; exact .next h.issue
theorem KeptBy.execFmax (h : Kept false s t) {g : Clu} {ti : Til} {w : TileWord} : KeptBy s (execFmax g ti w t) := by
  unfold Machine.execFmax; exact .next h.issue
theorem KeptBy.execFmin (h : Kept false s t) {g : Clu} {ti : Til} {w : TileWord} : KeptBy s (execFmin g ti w t) := by
  unfold Machine.execFmin; exact .next h.issue
theorem KeptBy.execFcmp (h : Kept false s t) {g : Clu} {ti : Til} {w : TileWord} : KeptBy s (execFcmp g ti w t) := by
  unfold Machine.execFcmp; exact .next h.issue
theorem KeptBy.execCvtw (h : Kept false s t) {g : Clu} {ti : Til} {w : TileWord} : KeptBy s (execCvtw g ti w t) := by
  unfold Machine.execCvtw; exact .next h.issue
theorem KeptBy.execCvtn (h : Kept false s t) {g : Clu} {ti : Til} {w : TileWord} : KeptBy s (execCvtn g ti w t) := by
  unfold Machine.execCvtn; exact .next h.issue
theorem KeptBy.execFtoi (h : Kept false s t) {g : Clu} {ti : Til} {w : TileWord} : KeptBy s (execFtoi g ti w t) := by
  unfold Machine.execFtoi; exact .next h.issue
theorem KeptBy.execItof (h : Kept false s t) {g : Clu} {ti : Til} {w : TileWord} : KeptBy s (execItof g ti w t) := by
  unfold Machine.execItof; exact .next h.issue
theorem KeptBy.execIadd (h : Kept false s t) {g : Clu} {ti : Til} {w : TileWord} : KeptBy s (execIadd g ti w t) := by
  unfold Machine.execIadd; exact .next h.issue
theorem KeptBy.execIsub (h : Kept false s t) {g : Clu} {ti : Til} {w : TileWord} : KeptBy s (execIsub g ti w t) := by
  unfold Machine.execIsub; exact .next h.issue
theorem KeptBy.execImul (h : Kept false s t) {g : Clu} {ti : Til} {w : TileWord} : KeptBy s (execImul g ti w t) := by
  unfold Machine.execImul; exact .next h.issue
theorem KeptBy.execAnd (h : Kept false s t) {g : Clu} {ti : Til} {w : TileWord} : KeptBy s (execAnd g ti w t) := by
  unfold Machine.execAnd; exact .next h.issue
theorem KeptBy.execOr (h : Kept false s t) {g : Clu} {ti : Til} {w : TileWord} : KeptBy s (execOr g ti w t) := by
  unfold Machine.execOr; exact .next h.issue
theorem KeptBy.execXor (h : Kept false s t) {g : Clu} {ti : Til} {w : TileWord} : KeptBy s (execXor g ti w t) := by
  unfold Machine.execXor; exact .next h.issue
theorem KeptBy.execShl (h : Kept false s t) {g : Clu} {ti : Til} {w : TileWord} : KeptBy s (execShl g ti w t) := by
  unfold Machine.execShl; exact .next h.issue
theorem KeptBy.execShr (h : Kept false s t) {g : Clu} {ti : Til} {w : TileWord} : KeptBy s (execShr g ti w t) := by
  unfold Machine.execShr; exact .next h.issue
theorem KeptBy.execSar (h : Kept false s t) {g : Clu} {ti : Til} {w : TileWord} : KeptBy s (execSar g ti w t) := by
  unfold Machine.execSar; exact .next h.issue
theorem KeptBy.execImax (h : Kept false s t) {g : Clu} {ti : Til} {w : TileWord} : KeptBy s (execImax g ti w t) := by
  unfold Machine.execImax; exact .next h.issue
theorem KeptBy.execImin (h : Kept false s t) {g : Clu} {ti : Til} {w : TileWord} : KeptBy s (execImin g ti w t) := by
  unfold Machine.execImin; exact .next h.issue
theorem KeptBy.execIcmp (h : Kept false s t) {g : Clu} {ti : Til} {w : TileWord} : KeptBy s (execIcmp g ti w t) := by
  unfold Machine.execIcmp; exact .next h.issue
theorem KeptBy.execSel (h : Kept false s t) {g : Clu} {ti : Til} {w : TileWord} : KeptBy s (execSel g ti w t) := by
  unfold Machine.execSel; exact .next h.issue
theorem KeptBy.execMov (h : Kept false s t) {g : Clu} {ti : Til} {w : TileWord} : KeptBy s (execMov g ti w t) := by
  unfold Machine.execMov; exact .next h.issue
theorem KeptBy.execVld (h : Kept false s t) {g : Clu} {ti : Til} {w : TileWord} : KeptBy s (execVld g ti w t) := by
  unfold Machine.execVld; exact .next h.issue
theorem KeptBy.execVst (h : Kept false s t) {g : Clu} {ti : Til} {w : TileWord} : KeptBy s (execVst g ti w t) := by
  unfold Machine.execVst; exact .next h.issue
theorem KeptBy.execSld (h : Kept false s t) {g : Clu} {ti : Til} {w : TileWord} : KeptBy s (execSld g ti w t) := by
  unfold Machine.execSld; exact .next h.issue
theorem KeptBy.execSst (h : Kept false s t) {g : Clu} {ti : Til} {w : TileWord} : KeptBy s (execSst g ti w t) := by
  unfold Machine.execSst; exact .next h.issue
theorem KeptBy.execExp (h : Kept false s t) {g : Clu} {ti : Til} {w : TileWord} : KeptBy s (execExp g ti w t) := by
  unfold Machine.execExp; exact .next h.issue
theorem KeptBy.execLog (h : Kept false s t) {g : Clu} {ti : Til} {w : TileWord} : KeptBy s (execLog g ti w t) := by
  unfold Machine.execLog; exact .next h.issue
theorem KeptBy.execRcp (h : Kept false s t) {g : Clu} {ti : Til} {w : TileWord} : KeptBy s (execRcp g ti w t) := by
  unfold Machine.execRcp; exact .next h.issue
theorem KeptBy.execRsqrt (h : Kept false s t) {g : Clu} {ti : Til} {w : TileWord} : KeptBy s (execRsqrt g ti w t) := by
  unfold Machine.execRsqrt; exact .next h.issue
theorem KeptBy.execTanh (h : Kept false s t) {g : Clu} {ti : Til} {w : TileWord} : KeptBy s (execTanh g ti w t) := by
  unfold Machine.execTanh; exact .next h.issue
theorem KeptBy.execGelu (h : Kept false s t) {g : Clu} {ti : Til} {w : TileWord} : KeptBy s (execGelu g ti w t) := by
  unfold Machine.execGelu; exact .next h.issue
theorem KeptBy.execPsumi (h : Kept false s t) {g : Clu} {ti : Til} {w : TileWord} : KeptBy s (execPsumi g ti w t) := by
  unfold Machine.execPsumi; exact .next h.issue
theorem KeptBy.execPsumx (h : Kept false s t) {g : Clu} {ti : Til} {w : TileWord} : KeptBy s (execPsumx g ti w t) := by
  unfold Machine.execPsumx; exact .next h.issue
theorem KeptBy.execCompact (h : Kept false s t) {g : Clu} {ti : Til} {w : TileWord} : KeptBy s (execCompact g ti w t) := by
  unfold Machine.execCompact; exact .next h.issue
theorem KeptBy.execRsumi (h : Kept false s t) {g : Clu} {ti : Til} {w : TileWord} : KeptBy s (execRsumi g ti w t) := by
  unfold Machine.execRsumi; exact .next h.issue
theorem KeptBy.execRmaxf (h : Kept false s t) {g : Clu} {ti : Til} {w : TileWord} : KeptBy s (execRmaxf g ti w t) := by
  unfold Machine.execRmaxf; exact .next h.issue
theorem KeptBy.execRminf (h : Kept false s t) {g : Clu} {ti : Til} {w : TileWord} : KeptBy s (execRminf g ti w t) := by
  unfold Machine.execRminf; exact .next h.issue
theorem KeptBy.execRcnt (h : Kept false s t) {g : Clu} {ti : Til} {w : TileWord} : KeptBy s (execRcnt g ti w t) := by
  unfold Machine.execRcnt; exact .next h.issue
theorem KeptBy.execRany (h : Kept false s t) {g : Clu} {ti : Til} {w : TileWord} : KeptBy s (execRany g ti w t) := by
  unfold Machine.execRany; exact .next h.issue
theorem KeptBy.execRall (h : Kept false s t) {g : Clu} {ti : Til} {w : TileWord} : KeptBy s (execRall g ti w t) := by
  unfold Machine.execRall; exact .next h.issue
theorem KeptBy.execTopkF32 (h : Kept false s t) {g : Clu} {ti : Til} {w : TileWord} : KeptBy s (execTopkF32 g ti w t) := by
  unfold Machine.execTopkF32; exact .next h.issue
theorem KeptBy.execTopkBf16 (h : Kept false s t) {g : Clu} {ti : Til} {w : TileWord} :
    KeptBy s (execTopkBf16 g ti w t) := by
  unfold Machine.execTopkBf16; exact .next h.issue
theorem KeptBy.execWld (h : Kept false s t) {g : Clu} {ti : Til} {w : TileWord} : KeptBy s (execWld g ti w t) := by
  unfold Machine.execWld; exact .next h.issue
theorem KeptBy.execRun (h : Kept false s t) {g : Clu} {ti : Til} {w : TileWord} : KeptBy s (execRun g ti w t) := by
  unfold Machine.execRun; exact .next h.issue
theorem KeptBy.execWclr (h : Kept false s t) {g : Clu} {ti : Til} {w : TileWord} : KeptBy s (execWclr g ti w t) := by
  unfold Machine.execWclr; exact .next h.issue
theorem KeptBy.execWrnd (h : Kept false s t) {g : Clu} {ti : Til} {w : TileWord} : KeptBy s (execWrnd g ti w t) := by
  unfold Machine.execWrnd; exact .next h.issue
theorem KeptBy.execWspill (h : Kept false s t) {g : Clu} {ti : Til} {w : TileWord} : KeptBy s (execWspill g ti w t) := by
  unfold Machine.execWspill; exact .next h.issue
theorem KeptBy.execWrest (h : Kept false s t) {g : Clu} {ti : Til} {w : TileWord} : KeptBy s (execWrest g ti w t) := by
  unfold Machine.execWrest; exact .next h.issue
theorem KeptBy.execSetfmt (h : Kept false s t) {g : Clu} {ti : Til} {w : TileWord} : KeptBy s (execSetfmt g ti w t) := by
  unfold Machine.execSetfmt; exact .next h.issue
theorem KeptBy.execAddw (h : Kept false s t) {g : Clu} {ti : Til} {w : TileWord} : KeptBy s (execAddw g ti w t) := by
  unfold Machine.execAddw; exact .next h.issueScore
theorem KeptBy.execAddvf (h : Kept false s t) {g : Clu} {ti : Til} {w : TileWord} : KeptBy s (execAddvf g ti w t) := by
  unfold Machine.execAddvf; exact .next h.issueScore
theorem KeptBy.execAddvi (h : Kept false s t) {g : Clu} {ti : Til} {w : TileWord} : KeptBy s (execAddvi g ti w t) := by
  unfold Machine.execAddvi; exact .next h.issueScore
theorem KeptBy.execRdraw (h : Kept false s t) {g : Clu} {ti : Til} {w : TileWord} : KeptBy s (execRdraw g ti w t) := by
  unfold Machine.execRdraw; exact .next h.issue
theorem KeptBy.execRdrnd (h : Kept false s t) {g : Clu} {ti : Til} {w : TileWord} : KeptBy s (execRdrnd g ti w t) := by
  unfold Machine.execRdrnd; exact .next h.issue
theorem KeptBy.execScoreClr (h : Kept false s t) {g : Clu} {ti : Til} {w : TileWord} :
    KeptBy s (execScoreClr g ti w t) := by
  unfold Machine.execScoreClr; exact .next h.issue
theorem KeptBy.execScoreLd (h : Kept false s t) {g : Clu} {ti : Til} {w : TileWord} : KeptBy s (execScoreLd g ti w t) := by
  unfold Machine.execScoreLd; exact .next h.issue
theorem KeptBy.execStreamStart (h : Kept false s t) {g : Clu} {ti : Til} {w : TileWord} :
    KeptBy s (execStreamStart g ti w t) := by
  unfold Machine.execStreamStart; exact .next h.issue
theorem KeptBy.execStreamWait (h : Kept false s t) {g : Clu} {ti : Til} {w : TileWord} :
    KeptBy s (execStreamWait g ti w t) := by
  unfold Machine.execStreamWait; exact .next h.issue
theorem KeptBy.execBr (h : Kept false s t) {g : Clu} {ti : Til} {w : TileWord} : KeptBy s (execBr g ti w t) := by
  unfold Machine.execBr; exact .next h.issueRaw
theorem KeptBy.execLoop (h : Kept false s t) {g : Clu} {ti : Til} {w : TileWord} : KeptBy s (execLoop g ti w t) := by
  unfold Machine.execLoop; exact .next h.issueRaw
theorem Kept.syncFaults (h : Kept false s t) {v : Inv} : Kept false s (t.syncFaults v) := by
  unfold State.syncFaults; dsimp only
  refine h.each fun _ hu _ => ?_
  split
  · exact .ite hu.onTile hu
  · exact hu
theorem KeptBy.execHalt (h : Kept false s t) {g : Clu} {ti : Til} {w : TileWord} : KeptBy s (execHalt g ti w t) := by
  unfold Machine.execHalt; dsimp only
  refine .ite ?_ (.next h.issueRaw)
  split
  · exact .next h.issueRaw.syncFaults.haltedInv
  · exact .next h.issueRaw
theorem KeptBy.execBar (h : Kept false s t) {g : Clu} {ti : Til} {w : TileWord} : KeptBy s (execBar g ti w t) := by
  unfold Machine.execBar; dsimp only; split
  · exact .ite (.next h.issueRaw) (.ite (.next h.issueRaw.onTile) (.next h.issueRaw))
  · exact .next h.issueRaw
theorem KeptBy.execRaise (h : Kept false s t) {g : Clu} {ti : Til} {w : TileWord} : KeptBy s (execRaise g ti w t) := by
  unfold Machine.execRaise; exact .next h.issue

/-! ### Mailboxes -/

theorem Kept.raiseVec (h : Kept false s t) {m : Nat} : Kept false s (t.raiseVec m) := by
  unfold State.raiseVec; exact h.onPcie
theorem KeptBy.execPcieConfigWrite (h : Kept false s t) {busMaster msix d3 : Bool} {mask : BitVec 64} :
    KeptBy s (execPcieConfigWrite busMaster msix d3 mask t) := by
  unfold Machine.execPcieConfigWrite; exact .ite (.next h) (.next (h.onPcie.each fun _ hu _ => hu.onPcie.raiseVec))
theorem Kept.putResp (h : Kept false s t) {m : Nat} {unread : Bool} {op alive reqId status : Nat} {body : List Byte} :
    Kept false s (t.putResp m unread op alive reqId status body) := by
  unfold State.putResp; exact .ite h.chkFrame.onBox.raiseVec h.chkFrame.onBox
theorem Kept.writeReq (h : Kept false s t) {m : Nat} {frame : List Byte} : Kept false s (t.writeReq m frame) := by
  unfold State.writeReq; exact .ite h h.onBox
theorem Kept.writeOwn (h : Kept false s t) {m word : Nat} : Kept false s (t.writeOwn m word) := by
  unfold State.writeOwn; exact .ite h h.onBox
theorem Kept.writeCtl (h : Kept false s t) {m word : Nat} : Kept false s (t.writeCtl m word) := by
  unfold State.writeCtl; exact .ite h h.onBox
theorem Kept.writeBar2 (h : Kept false s t) {upload : List Byte} : Kept false s (t.writeBar2 upload) := by
  unfold State.writeBar2; exact .ite h h.onPcie
theorem KeptBy.execMbxHandOver (h : Kept false s t) {m : Mbx} {frame : HandOver} {word : BitVec 32} :
    KeptBy s (execMbxHandOver m frame word t) := by
  unfold Machine.execMbxHandOver; exact .next (.writeOwn (h.writeReq.elim fun _ => h.writeReq.writeCtl))
theorem KeptBy.execUnreadAck (h : Kept false s t) {m : Mbx} : KeptBy s (execUnreadAck m t) := by
  unfold Machine.execUnreadAck; exact .next h.writeOwn
theorem Kept.deliver (h : Kept false s t) {m : Nat} : Kept false s (t.deliver m) := by
  unfold State.deliver; dsimp only; split
  · exact .ite h h.onBox.putResp
  · exact h
theorem Kept.checkAlive (h : Kept false s t) {m alive : Nat} : Kept false s (t.checkAlive m alive).1 := by
  unfold State.checkAlive; dsimp only; split
  · dsimp only
    exact h.onChk.onBox
  · split
    · dsimp only
      exact h.onChk.onChk.onBox
    · dsimp only
      exact h.onChk.onChk

/-! ### Extents -/

theorem Kept.aclStep (h : Kept false s t) {hd : Nat} : Kept false s (t.aclStep hd) := by
  unfold State.aclStep; dsimp only; split
  · exact h
  · refine .ite h (.ite (h.onExt.each fun _ hu _ => ?_) (.ite (.extRecord (.onExt (h.onExt.each fun _ hu _ => ?_)))
        (.complete (.putAcl (h.onExt.each fun _ hu _ => ?_)))))
    · split
      · exact hu
      · exact .ite hu (.ite hu.onExt hu.openTxn)
    · split
      · exact hu
      · exact .ite hu (.ite hu.onExt hu.openTxn)
    · split
      · exact hu
      · exact .ite hu (.ite hu.onExt hu.openTxn)
theorem Kept.extFrame (h : Kept false s t) {hd arg : Nat} {e : ExtRec} : Kept false s (t.extFrame hd arg e) := by
  unfold State.extFrame; exact .ite h h.mirror
theorem Kept.cmdExtCreate (h : Kept false s t) {m : Nat} {body : List Byte} : Kept false s (cmdExtCreate m body t).1 := by
  unfold Machine.cmdExtCreate; dsimp only; split
  · exact h
  · split
    · exact h
    · split
      · exact h
      · split
        · exact h
        · split
          · exact h
          · split
            · exact h
            · split
              · split
                · dsimp only
                  exact .extRecord (.extFrame (h.update rfl))
                · dsimp only
                  exact .onExt (.extFrame (h.update rfl))
              · split
                · dsimp only
                  exact .extRecord (.extFrame (h.update rfl))
                · dsimp only
                  exact .onExt (.extFrame (h.update rfl))
theorem Kept.cmdExtInfo (h : Kept false s t) {m : Nat} {body : List Byte} : Kept false s (cmdExtInfo m body t).1 := by
  unfold Machine.cmdExtInfo; split
  · exact h
  · exact h
theorem Kept.pinPage (h : Kept false s t) {hd k : Nat} {p : PageRec} : Kept false s (t.pinPage hd k p) := by
  unfold State.pinPage
  extract_lets home got
  have hgot : ∀ u, got = some u → Kept false s u := fun u hg => by
    unfold got at hg
    split at hg
    · obtain rfl := Option.some.inj hg; exact h
    · obtain ⟨x, hx, rfl⟩ := Option.map_eq_some_iff.mp hg
      exact (h.takeFrame hx).onPage
  clear_value got
  split
  · exact h
  · extract_lets s₁ copy s₂ s₃
    have h₁ : Kept false s s₁ := (hgot _ rfl).onMem rfl
    have h₂ : Kept false s s₂ := by
      unfold s₂; split
      · exact h₁.zeroFrame
      · exact .elim h₁ fun _ => h₁.fillFromFlash
      · exact .elim h₁ fun _ => h₁.fillFromFlash
      · exact h₁
    exact .ite h₂.onPage.journal h₂.onPage
theorem Kept.pinStep (h : Kept false s t) {hd : Nat} : Kept false s (t.pinStep hd) := by
  unfold State.pinStep; dsimp only; split
  · exact h
  · exact .ite h (.ite (.extRecord (h.each fun _ hu _ => hu.pinPage)) (.askFrame (h.each fun _ hu _ => hu.pinPage)))
theorem Kept.movePolicy (h : Kept false s t) {hd : Nat} {e : ExtRec} {pol : Nat} : Kept false s (t.movePolicy hd e pol).1 := by
  unfold State.movePolicy; dsimp only; split
  · dsimp only
    exact .pinStep (h.onExt.extFrame.onExt.each fun _ hu _ => hu.pinPage)
  · dsimp only
    exact .extRecord (.ite (h.onExt.extFrame.each fun _ hu _ => hu.onPage) h.onExt.extFrame)
theorem Kept.cmdExtSetPolicy (h : Kept false s t) {m : Nat} {body : List Byte} : Kept false s (cmdExtSetPolicy m body t).1 := by
  unfold Machine.cmdExtSetPolicy; dsimp only; split
  · exact h
  · split
    · exact h
    · split
      · exact h
      · split
        · exact h
        · split
          · exact h
          · split
            · exact h
            · exact h.movePolicy
theorem Kept.newAcl (h : Kept false s t) {hd : Nat} {e : ExtRec} {new : List AclEntry} : Kept false s (t.newAcl hd e new).1 := by
  unfold State.newAcl; dsimp only; split
  · dsimp only
    exact h.extFrame.putAcl
  · dsimp only
    exact h.extFrame.onExt
theorem Kept.admitOnly (h : Kept false s t) {hd : Nat} : Kept false s (t.admitOnly hd) := by
  unfold State.admitOnly; dsimp only; split
  · exact h
  · exact .ite h.onExt (.ite (.ite h.onExt.aclInForce.recallLines.extFrame h.onExt.aclInForce.recallLines) (.journal
        (.ite h.onExt.aclInForce.recallLines.extFrame h.onExt.aclInForce.recallLines)))
theorem Kept.cmdExtSetAcl (h : Kept false s t) {m : Nat} {body : List Byte} : Kept false s (cmdExtSetAcl m body t).1 := by
  unfold Machine.cmdExtSetAcl; dsimp only; split
  · exact h
  · split
    · exact h
    · split
      · exact h
      · split
        · exact h
        · split
          · exact h
          · exact h.newAcl
theorem Kept.cmdExtSetDrain (h : Kept false s t) {m : Nat} {body : List Byte} : Kept false s (cmdExtSetDrain m body t).1 := by
  unfold Machine.cmdExtSetDrain; dsimp only; split
  · exact h
  · split
    · exact h
    · split
      · exact h
      · split
        · dsimp only
          exact h.extFrame.extRecord
        · dsimp only
          exact h.extFrame.onExt
theorem Kept.revoke (h : Kept false s t) {hd : Nat} : Kept false s (t.revoke hd) := by
  unfold State.revoke; dsimp only; split
  · exact h
  · exact .dirRun (.recallLines (.ite (.extRecord (.scrubRevoked (.ite (.complete (.onExt (.ite
        h.onExt.cutWrites.complete h.onExt.cutWrites))) (.ite h.onExt.cutWrites.complete h.onExt.cutWrites))))
        (.scrubRevoked (.ite (.complete (.onExt (.ite h.onExt.cutWrites.complete h.onExt.cutWrites))) (.ite
        h.onExt.cutWrites.complete h.onExt.cutWrites)))))
theorem Kept.cmdExtRevoke (h : Kept false s t) {m : Nat} {body : List Byte} : Kept false s (cmdExtRevoke m body t).1 := by
  unfold Machine.cmdExtRevoke; dsimp only; split
  · exact h
  · split
    · exact h
    · exact h
    · split
      · exact h
      · dsimp only
        exact h.extFrame.revoke
theorem Kept.zeroDone (h : Kept false s t) {hd : Nat} : Kept false s (t.zeroDone hd) := by
  unfold State.zeroDone; dsimp only; split
  · exact h
  · exact .ite h (.ite h.onExt.complete (.ite h.onExt.extFrame.onExt.complete h.onExt.extFrame.extRecord))
theorem Kept.dormantRun (h : Kept false s t) : Kept false s t.dormantRun := by
  unfold State.dormantRun; exact .ite h (.ite (.setReg (.onLk (.each (h.each fun _ hu _ => hu.onPage) fun _ hu _ =>
      .ite hu hu.journal))) (.each (h.each fun _ hu _ => hu.onPage) fun _ hu _ => .ite hu hu.journal))
theorem Kept.settleAll (h : Kept false s t) : Kept false s t.settleAll := by
  unfold State.settleAll; exact .each (.each (h.settle.dormantRun.each fun _ hu _ => hu.zeroDone) fun _ hu _ =>
      hu.pinStep) fun _ hu _ => hu.aclStep
theorem Kept.cmdExtZero (h : Kept false s t) {m : Nat} {body : List Byte} : Kept false s (cmdExtZero m body t).1 := by
  unfold Machine.cmdExtZero; dsimp only; split
  · exact h
  · split
    · exact h
    · split
      · exact h
      · dsimp only
        exact h.newWrite.onExt.serveOr
theorem Kept.cmdExtInitDone (h : Kept false s t) {m : Nat} {body : List Byte} : Kept false s (cmdExtInitDone m body t).1 := by
  unfold Machine.cmdExtInitDone; dsimp only; split
  · exact h
  · split
    · exact h
    · split
      · exact h
      · split
        · dsimp only
          exact h.extFrame.onExt
        · dsimp only
          exact h.extFrame.extRecord
theorem Kept.cmdExtDirRead (h : Kept false s t) {m : Nat} {body : List Byte} : Kept false s (cmdExtDirRead m body t).1 := by
  unfold Machine.cmdExtDirRead; dsimp only; split
  · exact h
  · split
    · exact h
    · split
      · exact h
      · split
        · exact h
        · exact h
theorem Kept.revoked (h : Kept false s t) {hd : Nat} : Kept false s (t.revoked hd) := by
  unfold State.revoked; dsimp only; split
  · exact h
  · exact h.onExt.onFab.complete
theorem KeptBy.execRevokeComplete (h : Kept false s t) {ext : BitVec 20} : KeptBy s (execRevokeComplete ext t) := by
  unfold Machine.execRevokeComplete; dsimp only; split
  · exact .next h
  · exact .ite (.next h) (.ite (.next h.recallLines.dirRun) (.next h.recallLines.dirRun.revoked))
theorem Kept.endRequests (h : Kept false s t) {hd status : Nat} : Kept false s (t.endRequests hd status) := by
  unfold State.endRequests; exact .each (.onDir (.each (.each (.onFab (.each (.cutWrites (h.each fun _ hu _ =>
      hu.respond.endedBy.onFab)) fun _ hu _ => hu.respond.endedBy)) fun _ hu _ => .refuseInvoke (.freeCredit (.onFab
      (hu.each fun _ hu' _ => hu'.endedBy)))) fun _ hu _ => hu.respond.endedBy)) fun _ hu _ => hu.endInv
theorem Kept.cutExtent (h : Kept false s t) {hd : Nat} : Kept false s (t.cutExtent hd) := by
  unfold State.cutExtent; exact .onDir (.onExt (h.endRequests.each fun _ hu _ => hu.onExt))
theorem KeptBy.execDrainLimitExpiry (h : Kept false s t) {ext : BitVec 20} : KeptBy s (execDrainLimitExpiry ext t) := by
  unfold Machine.execDrainLimitExpiry; dsimp only; split
  · exact .next h
  · exact .ite (.next h) (.next h.cutExtent.revoked.dirRun)
theorem KeptBy.execSanitationDone (h : Kept false s t) {ext : BitVec 20} : KeptBy s (execSanitationDone ext t) := by
  unfold Machine.execSanitationDone; dsimp only; split
  · exact .next h
  · refine .ite (.next h) (.next (.onExt (.journal (.onMem (h.each fun _ hu _ => ?_) rfl))))
    split
    · refine .journal (.onFdie ?_)
      split
      · exact hu.drainFrame.poisonFrame.freeFrame
      · exact hu
    · split
      · exact hu.drainFrame.poisonFrame.freeFrame
      · exact hu
theorem KeptBy.execHandleHoldExpiry (h : Kept false s t) {ext : BitVec 20} : KeptBy s (execHandleHoldExpiry ext t) := by
  unfold Machine.execHandleHoldExpiry; dsimp only; split
  · exact .ite (.next (h.update rfl)) (.next h)
  · exact .ite (.next (h.update rfl)) (.next h)
  · exact .next h
theorem KeptBy.execChannelAdmit (h : Kept false s t) {c : Chan} : KeptBy s (execChannelAdmit c t) := by
  unfold Machine.execChannelAdmit; exact .next h.admitOne.settleAll
theorem KeptBy.execPromotionDone (h : Kept false s t) {ext : BitVec 20} {page : BitVec 28} :
    KeptBy s (execPromotionDone ext page t) := by
  unfold Machine.execPromotionDone; dsimp only; split
  · exact .next h
  · split
    · exact .next h
    · next hf =>
      obtain ⟨c, -, hc⟩ := List.exists_of_findSome?_eq_some hf
      obtain ⟨x, hx, e⟩ := Option.map_eq_some_iff.mp hc
      cases e
      refine .next (.settleAll (.bump (.bump (.onPage ?_))))
      split
      · exact (h.takeOp hx).fillFromFlash
      · exact h.takeOp hx
theorem KeptBy.execJournalCommitDone (h : Kept false s t) {m : MDie} : KeptBy s (execJournalCommitDone m t) := by
  unfold Machine.execJournalCommitDone; exact .next h.committed.settleAll
theorem KeptBy.execJournalReplayDone (h : Kept false s t) {m : MDie} : KeptBy s (execJournalReplayDone m t) := by
  unfold Machine.execJournalReplayDone; exact .ite (.next h) (.next (.ite (h.onFdie.setReg.setReg.update rfl)
      h.onFdie.setReg.setReg))
theorem KeptBy.execHomeTimeout (h : Kept false s t) {ext : BitVec 20} {line : BitVec 40} :
    KeptBy s (execHomeTimeout ext line t) := by
  unfold Machine.execHomeTimeout; exact .ite (.next h.bump.poisonEnds.dirRun.settleAll) (.next
      h.onDir.dirRun.settleAll)
theorem KeptBy.execDeadHostScanDone (h : Kept false s t) {sl : Slice} {ep : BitVec 16} :
    KeptBy s (execDeadHostScanDone sl ep t) := by
  unfold Machine.execDeadHostScanDone; exact .ite (.next h.deadScan.onDir.dirRun.settleAll) (.next h)

/-! ### Kernels and models -/

theorem Kept.rangeFx (h : Kept false s t) {hd off n : Nat} : Kept false s (t.rangeFx hd off n) := by
  unfold State.rangeFx; exact .ite h (h.each fun _ hu _ => .ite hu hu.readFx)
theorem Kept.takeImage (h : Kept false s t) {q : Nat} {l : List Byte} : Kept false s (t.takeImage q l).1 := by
  unfold State.takeImage; dsimp only; split
  · exact h
  · split
    · exact h
    · split
      · exact h
      · split
        · exact h
        · split
          · split
            · exact h
            · split
              · exact h
              · split
                · exact h
                · split
                  · exact h
                  · dsimp only
                    exact h.onDeal
          · split
            · exact h
            · split
              · exact h
              · split
                · exact h
                · split
                  · exact h
                  · dsimp only
                    exact h.onDeal
theorem Kept.cmdKrnLoad (h : Kept false s t) {m : Nat} {body : List Byte} : Kept false s (cmdKrnLoad m body t).1 := by
  unfold Machine.cmdKrnLoad; dsimp only; split
  · exact h
  · split
    · exact h
    · split
      · dsimp only
        exact h.rangeFx
      · split
        · dsimp only
          exact h.rangeFx
        · split
          · dsimp only
            exact h.rangeFx
          · split
            · dsimp only
              exact h.rangeFx
            · split
              · dsimp only
                exact h.rangeFx
              · exact h.rangeFx.takeImage
theorem Kept.krnUnload (h : Kept false s t) {q hd : Nat} : Kept false s (t.krnUnload q hd).1 := by
  unfold State.krnUnload; dsimp only; split
  · exact h
  · split
    · exact h
    · split
      · dsimp only
        exact h.onDeal
      · dsimp only
        exact h.onDeal.unloads
theorem Kept.cmdKrnUnload (h : Kept false s t) {m : Nat} {body : List Byte} : Kept false s (cmdKrnUnload m body t).1 := by
  unfold Machine.cmdKrnUnload; exact h.krnUnload
theorem Kept.reverify (h : Kept false s t) {q : Nat} : Kept false s (t.reverify q) := by
  unfold State.reverify; exact h.each fun _ hu _ => hu.krnUnload
theorem Kept.replaceModels (h : Kept false s t) {q : Nat} : Kept false s (t.replaceModels q) := by
  unfold State.replaceModels; exact h.onDeal
theorem Kept.takeModel (h : Kept false s t) {q : Nat} {l : List Byte} : Kept false s (t.takeModel q l).1 := by
  unfold State.takeModel; dsimp only; split
  · exact h
  · split
    · exact h
    · split
      · exact h
      · split
        · exact h
        · split
          · exact h
          · dsimp only
            exact h.onDeal
theorem Kept.cmdMdlLoad (h : Kept false s t) {m : Nat} {body : List Byte} : Kept false s (cmdMdlLoad m body t).1 := by
  unfold Machine.cmdMdlLoad; dsimp only; split
  · exact h
  · split
    · exact h
    · split
      · dsimp only
        exact h.rangeFx
      · split
        · dsimp only
          exact h.rangeFx
        · split
          · dsimp only
            exact h.rangeFx
          · split
            · dsimp only
              exact h.rangeFx
            · split
              · dsimp only
                exact h.rangeFx
              · exact h.rangeFx.takeModel
theorem Kept.closeBaskets (h : Kept false s t) {q hd : Nat} : Kept false s (t.closeBaskets q hd) := by
  unfold State.closeBaskets; exact h.onDeal.closeDue
theorem Kept.cmdMdlUnload (h : Kept false s t) {m : Nat} {body : List Byte} : Kept false s (cmdMdlUnload m body t).1 := by
  unfold Machine.cmdMdlUnload; dsimp only; split
  · exact h
  · split
    · exact h
    · split
      · dsimp only
        exact h.onModel.closeBaskets
      · dsimp only
        exact h.onModel.unloads
theorem Kept.cmdMdlPlace (h : Kept false s t) {m : Nat} {body : List Byte} : Kept false s (cmdMdlPlace m body t).1 := by
  unfold Machine.cmdMdlPlace; dsimp only; split
  · exact h
  · split
    · exact h
    · split
      · split
        · exact h
        · split
          · exact h
          · dsimp only
            exact h.onModel
      · split
        · exact h
        · dsimp only
          exact h.onModel
theorem Kept.cmdDealConfig (h : Kept false s t) {m : Nat} {body : List Byte} : Kept false s (cmdDealConfig m body t).1 := by
  unfold Machine.cmdDealConfig; dsimp only; split
  · exact h
  · split
    · split
      · exact h
      · split
        · exact h
        · dsimp only
          exact h.onDeal
    · split
      · exact h
      · split
        · exact h
        · dsimp only
          exact h.onDeal

/-! ### Partitions -/

theorem Kept.tileFails (h : Kept false s t) {g ti : Nat} : Kept false s (t.tileFails g ti) := by
  unfold State.tileFails; dsimp only
  refine .ite h (.ite h.wearOut ?_)
  split
  · exact h.onClu.wearOut.finding.onDeal.replaceModels
  · exact h.onClu.wearOut.finding
theorem Kept.stopClock (h : Kept false s t) {g : Nat} : Kept false s (t.stopClock g) := by
  unfold State.stopClock; exact h.onClu
theorem KeptBy.execTileSelfTest (h : Kept false s t) {g : Clu} {bad : Option (Fin 17)} :
    KeptBy s (execTileSelfTest g bad t) := by
  unfold Machine.execTileSelfTest; dsimp only
  refine .ite (.next h) (.next (.complete ?_))
  split
  · exact h.onClu.tileFails
  · exact h.onClu
theorem Kept.endPtn (h : Kept false s t) {q : Nat} : Kept false s (t.endPtn q) := by
  unfold State.endPtn; exact .unloads (.onDeal (.each (.each (h.each fun _ hu _ => hu.endRequests) fun _ hu _ =>
      hu.onFab.freeCredit.refuseInvoke) fun _ hu _ => hu.endInv))
theorem Kept.egressReset (h : Kept false s t) {q : Nat} {old : State} : Kept false s (t.egressReset q old) := by
  unfold State.egressReset; exact h.each fun _ hu _ => .onEg (hu.each fun _ hu' _ => hu'.outSub)
theorem Kept.policerReset (h : Kept false s t) {q : Nat} : Kept false s (t.policerReset q) := by
  unfold State.policerReset; exact .each (h.update rfl) fun _ hu _ => hu.each fun _ hu' _ => hu'.setReg
theorem Kept.startReset (h : Kept false s t) {q : Nat} : Kept false s (t.startReset q) := by
  unfold State.startReset; exact .dirRun (h.onPtn.endPtn.dirReset.egressReset.policerReset.each fun _ hu _ =>
      hu.clearCluster)
theorem Kept.ptnFault (h : Kept false s t) {q cause : Nat} : Kept false s (t.ptnFault q cause) := by
  unfold State.ptnFault; exact .ite h (.ite h.bump (.ite h.bump.onPtn.endPtn.startReset h.bump.onPtn.endPtn))
theorem Kept.rekey (h : Kept false s t) {opcode a b : Nat} : Kept false s (t.rekey opcode a b) := by
  unfold State.rekey; exact h.update rfl
theorem KeptBy.execPtnResetDone (h : Kept false s t) {q : Ptn} : KeptBy s (execPtnResetDone q t) := by
  unfold Machine.execPtnResetDone; exact .ite (.next h) (.next (.ite (.startReset (.rekey (.complete (.bump (.onPtn
      (h.each fun _ hu _ => hu.setReg)))))) (.complete (.bump (.onPtn (h.each fun _ hu _ => hu.setReg))))))
theorem KeptBy.execParityError (h : Kept false s t) {q : Ptn} {cause : BitVec 4} :
    KeptBy s (execParityError q cause t) := by
  unfold Machine.execParityError; exact .next (.ite h.ptnFault h)
theorem KeptBy.execClusterHang (h : Kept false s t) {g : Clu} : KeptBy s (execClusterHang g t) := by
  unfold Machine.execClusterHang; split
  · exact .next h
  · exact .next h.onClu.ptnFault
theorem Kept.joinCluster (h : Kept false s t) {q g : Nat} : Kept false s (t.joinCluster q g) := by
  unfold State.joinCluster; exact h.onPtn.replaceModels
theorem Kept.cleared (h : Kept false s t) {g : Nat} : Kept false s (t.cleared g) := by
  unfold State.cleared; dsimp only; split
  · exact .joinCluster (.complete (.update (.ite h.onClu.stopClock h.onClu) rfl))
  · exact .complete (.update (.ite h.onClu.stopClock h.onClu) rfl)
theorem KeptBy.execClearingEnd (h : Kept false s t) {g : Clu} : KeptBy s (execClearingEnd g t) := by
  unfold Machine.execClearingEnd; exact .ite (.next h.cleared.clusterResets) (.next h)
theorem Kept.cmdPtnInfo (h : Kept false s t) {m : Nat} {body : List Byte} : Kept false s (cmdPtnInfo m body t).1 := by
  unfold Machine.cmdPtnInfo; dsimp only; split
  · exact h
  · exact h
theorem Kept.cmdPtnReset (h : Kept false s t) {m : Nat} {body : List Byte} : Kept false s (cmdPtnReset m body t).1 := by
  unfold Machine.cmdPtnReset; dsimp only; split
  · exact h
  · split
    · exact h
    · split
      · exact h
      · exact h
    · dsimp only
      exact h.startReset
theorem Kept.cmdPtnFault (h : Kept false s t) {m : Nat} {body : List Byte} : Kept false s (cmdPtnFault m body t).1 := by
  unfold Machine.cmdPtnFault; dsimp only; split
  · exact h
  · split
    · dsimp only
      exact h.ptnFault
    · exact h
theorem Kept.cmdDevClusterReset (h : Kept false s t) {m : Nat} {body : List Byte} :
    Kept false s (cmdDevClusterReset m body t).1 := by
  unfold Machine.cmdDevClusterReset; dsimp only; split
  · exact h
  · split
    · exact h
    · exact h
theorem Kept.cmdPrtSpareTest (h : Kept false s t) {m : Nat} {body : List Byte} : Kept false s (cmdPrtSpareTest m body t).1 := by
  unfold Machine.cmdPrtSpareTest; dsimp only; split
  · exact h
  · split
    · exact h
    · exact h

/-! ### Links -/

theorem Kept.completeAny (h : Kept false s t) {opcode obj status : Nat} {body : List Byte} :
    Kept false s (t.completeAny opcode obj status body) := by
  unfold State.completeAny; exact h.complete.onRt.each fun _ hu _ => hu.emit
theorem Kept.release (h : Kept false s t) {o : FlitOwner} : Kept false s (t.release o) := by
  unfold State.release; dsimp only; split
  · exact h.outSub.freeCredit
  · exact h.outSub
theorem Kept.releaseAll (h : Kept false s t) {l : List Flit} : Kept false s (t.releaseAll l) := by
  unfold State.releaseAll; exact h.each fun _ hu _ => hu.release
theorem Kept.startFlits (h : Kept false s t) {n vc : Nat} {fs : List Flit} : Kept false s (t.startFlits n vc fs) := by
  unfold State.startFlits; exact h.onLink.bumpN
theorem Kept.linkTo (h : Kept false s t) {n : Nat} {st : LinkSt} : Kept false s (t.linkTo n st) := by
  unfold State.linkTo; exact h.onLink
theorem Kept.linkTrain (h : Kept false s t) {n : Nat} : Kept false s (t.linkTrain n) := by
  unfold State.linkTrain; exact .ite h h.linkTo
theorem Kept.report (h : Kept false s t) {kind n lane : Nat} : Kept false s (t.report kind n lane) := by
  unfold State.report; exact h.onRt
theorem Kept.goDown (h : Kept false s t) {n : Nat} : Kept false s (t.goDown n) := by
  unfold State.goDown; exact h.onLink.bump.report.linkTo
theorem Kept.sendGroup (h : Kept false s t) {n : Nat} : Kept false s (t.sendGroup n) := by
  unfold State.sendGroup; exact h.onLink.releaseAll
theorem KeptBy.execFlitGroupSend (h : Kept false s t) {n : Port} : KeptBy s (execFlitGroupSend n t) := by
  unfold Machine.execFlitGroupSend; exact .next (.ite h.sendGroup h)
theorem Kept.sendCmd (h : Kept false s t) {n cmd arg : Nat} : Kept false s (t.sendCmd n cmd arg) := by
  unfold State.sendCmd; exact h.onLink.sendGroup
theorem Kept.onSwapReq (h : Kept false s t) {n lane : Nat} : Kept false s (t.onSwapReq n lane) := by
  unfold State.onSwapReq; exact .ite h.onLink (.ite h h.sendCmd.onLink.linkTo)
theorem Kept.onSwapGo (h : Kept false s t) {n lane : Nat} : Kept false s (t.onSwapGo n lane) := by
  unfold State.onSwapGo; exact .ite h (.ite h.onLink.linkTo (.ite h.onLink h))
theorem Kept.toActive (h : Kept false s t) {n : Nat} : Kept false s (t.toActive n) := by
  unfold State.toActive; dsimp only; split
  · exact h.onLink.linkTo.onSwapReq
  · exact h.onLink.linkTo
theorem KeptBy.execSwapReq (h : Kept false s t) {n : Port} {arg : BitVec 16} : KeptBy s (execSwapReq n arg t) := by
  unfold Machine.execSwapReq; exact .next h.onSwapReq
theorem KeptBy.execSwapGo (h : Kept false s t) {n : Port} {arg : BitVec 16} : KeptBy s (execSwapGo n arg t) := by
  unfold Machine.execSwapGo; exact .next h.onSwapGo
theorem Kept.laneMoved (h : Kept false s t) {n : Nat} {x : Bool × Nat} : Kept false s (t.laneMoved n x) := by
  unfold State.laneMoved; exact h.onLink.bump.wearOut
theorem KeptBy.execSwapComplete (h : Kept false s t) {n : Port} : KeptBy s (execSwapComplete n t) := by
  unfold Machine.execSwapComplete; exact .ite (.next (.toActive (.onLink (h.each fun _ hu _ => hu.laneMoved))))
      (.next h)
theorem KeptBy.execSwapTimeout (h : Kept false s t) {n : Port} : KeptBy s (execSwapTimeout n t) := by
  unfold Machine.execSwapTimeout; exact .next (.ite h.goDown h)
theorem Kept.askLpi (h : Kept false s t) {n : Nat} : Kept false s (t.askLpi n) := by
  unfold State.askLpi; exact .ite h.onLink.sendCmd h
theorem Kept.onLpiReq (h : Kept false s t) {n : Nat} : Kept false s (t.onLpiReq n) := by
  unfold State.onLpiReq; exact .ite h.wakeRes (.ite h.sendCmd.onLink.linkTo h)
theorem Kept.onLpiAck (h : Kept false s t) {n : Nat} : Kept false s (t.onLpiAck n) := by
  unfold State.onLpiAck; dsimp only; split
  · exact .ite h (.ite h.onLink.linkTo h.onLink.linkTo.wakeRes)
  · exact h
theorem KeptBy.execLpiReq (h : Kept false s t) {n : Port} : KeptBy s (execLpiReq n t) := by
  unfold Machine.execLpiReq; exact .next h.onLpiReq
theorem KeptBy.execLpiAck (h : Kept false s t) {n : Port} : KeptBy s (execLpiAck n t) := by
  unfold Machine.execLpiAck; exact .next h.onLpiAck
theorem KeptBy.execLpiReqLapse (h : Kept false s t) {n : Port} : KeptBy s (execLpiReqLapse n t) := by
  unfold Machine.execLpiReqLapse
  refine .next ?_
  split
  · exact .ite h.onLink h
  · exact h
theorem Kept.lpExit (h : Kept false s t) {n : Nat} : Kept false s (t.lpExit n) := by
  unfold State.lpExit; exact .ite h.onLk.toActive h
theorem KeptBy.execLpIdleExitDone (h : Kept false s t) {n : Port} : KeptBy s (execLpIdleExitDone n t) := by
  unfold Machine.execLpIdleExitDone; exact .next h.lpExit
theorem Kept.onRetrain (h : Kept false s t) {n : Nat} : Kept false s (t.onRetrain n) := by
  unfold State.onRetrain; exact .ite h.goDown h
theorem KeptBy.execRetrainReq (h : Kept false s t) {n : Port} : KeptBy s (execRetrainReq n t) := by
  unfold Machine.execRetrainReq; exact .next h.onRetrain
theorem KeptBy.execAlignmentLoss (h : Kept false s t) {n : Port} : KeptBy s (execAlignmentLoss n t) := by
  unfold Machine.execAlignmentLoss; exact .next (.ite h.onLink.goDown h)
theorem KeptBy.execReplayLimitReached (h : Kept false s t) {n : Port} : KeptBy s (execReplayLimitReached n t) := by
  unfold Machine.execReplayLimitReached; exact .next (.ite h.goDown h)
theorem Kept.portDone (h : Kept false s t) {n : Nat} : Kept false s (t.portDone n) := by
  unfold State.portDone; exact h.onBoard.advance
theorem KeptBy.execTrainingComplete (h : Kept false s t) {n : Port} : KeptBy s (execTrainingComplete n t) := by
  unfold Machine.execTrainingComplete; exact .next (.ite h.onLink.linkTo.portDone h)
theorem KeptBy.execTrainingTimeout (h : Kept false s t) {n : Port} : KeptBy s (execTrainingTimeout n t) := by
  unfold Machine.execTrainingTimeout; exact .next (.ite h.goDown.portDone h)
theorem Kept.newEpoch (h : Kept false s t) {n : Nat} : Kept false s (t.newEpoch n) := by
  unfold State.newEpoch; exact .each (h.bumpN.releaseAll.onLink.each fun _ hu _ => .setReg (hu.each fun _ hu' _ =>
      hu'.setReg)) fun _ hu _ => hu.freeCredit
theorem Kept.sameEpoch (h : Kept false s t) {n : Nat} : Kept false s (t.sameEpoch n) := by
  unfold State.sameEpoch; exact h.onLink
theorem Kept.paramEnd (h : Kept false s t) {n : Nat} : Kept false s (t.paramEnd n) := by
  unfold State.paramEnd; exact .ite h (.toActive (.onLink (.setReg (.setReg (.ite h.sameEpoch h.newEpoch)))))
theorem Kept.onItem (h : Kept false s t) {n cmd arg : Nat} : Kept false s (t.onItem n cmd arg) := by
  unfold State.onItem; exact .ite h h.onLink.paramEnd
theorem KeptBy.execPeerId (h : Kept false s t) {n : Port} {arg : BitVec 16} : KeptBy s (execPeerId n arg t) := by
  unfold Machine.execPeerId; exact .next h.onItem
theorem KeptBy.execEpochLo (h : Kept false s t) {n : Port} {arg : BitVec 16} : KeptBy s (execEpochLo n arg t) := by
  unfold Machine.execEpochLo; exact .next h.onItem
theorem KeptBy.execEpochHi (h : Kept false s t) {n : Port} {arg : BitVec 16} : KeptBy s (execEpochHi n arg t) := by
  unfold Machine.execEpochHi; exact .next h.onItem
theorem KeptBy.execNextExp (h : Kept false s t) {n : Port} {arg : BitVec 16} : KeptBy s (execNextExp n arg t) := by
  unfold Machine.execNextExp; exact .next h.onItem
theorem KeptBy.execBufVc (h : Kept false s t) {n : Port} {vc : Fin 5} {arg : BitVec 16} :
    KeptBy s (execBufVc n vc arg t) := by
  unfold Machine.execBufVc; exact .next h.onItem
theorem KeptBy.execParamDone (h : Kept false s t) {n : Port} : KeptBy s (execParamDone n t) := by
  unfold Machine.execParamDone; exact .next h.onItem
theorem Kept.rxSlot (h : Kept false s t) {n : Nat} {b : List Byte} : Kept false s (t.rxSlot n b) := by
  unfold State.rxSlot; exact .ite h.onLink.onLink (.ite (.ite h (.ite h.onLink.bumpN.onLink h.onLink.onLink)) (.ite
      h.onLink.onLink h.onLink.onLink))
theorem Kept.rxAck (h : Kept false s t) {n : Nat} {ack : BitVec 16} : Kept false s (t.rxAck n ack) := by
  unfold State.rxAck; exact .ite h h.onLink
theorem Kept.rxCredit (h : Kept false s t) {n v freed : Nat} : Kept false s (t.rxCredit n v freed) := by
  unfold State.rxCredit; exact .ite h (.ite h.bump h.setReg)
theorem Kept.rxCmd (h : Kept false s t) {n cmd arg : Nat} : Kept false s (t.rxCmd n cmd arg) := by
  unfold State.rxCmd; exact .ite h (.ite h.onSwapReq (.ite h.onSwapGo (.ite h.onLpiReq (.ite h.onLpiAck (.ite
      h.onRetrain (.ite h.onItem h.bump))))))
theorem KeptBy.execFlitGroupReceive (h : Kept false s t) {n : Port} {slots : List Byte} {tr : GroupTrailer}
    {fec : FecReport} : KeptBy s (execFlitGroupReceive n slots tr fec t) := by
  unfold Machine.execFlitGroupReceive; exact .ite (.next h) (.ite (.next h.bumpN.bumpN.onLink.bump) (.next (.rxCmd
      (.rxCredit (.rxAck (.ite h.bumpN.bumpN.onLink (.ite (h.bumpN.bumpN.onLink.bumpN.each fun _ hu _ => hu.rxSlot)
      h.bumpN.bumpN.onLink.draw.bumpN)))))))
theorem Kept.takeRx (h : Kept false s t) {n vc : Nat} {p : Packet} : Kept false s (t.takeRx n vc p) := by
  unfold State.takeRx; split
  · exact h.onLink
  · exact h.onLink
theorem KeptBy.execReplayTimerExpiry (h : Kept false s t) {n : Port} : KeptBy s (execReplayTimerExpiry n t) := by
  unfold Machine.execReplayTimerExpiry; dsimp only; split
  · exact .ite (.next h.onLink.bump) (.next h)
  · exact .next h
theorem KeptBy.execLaneSymbolWindowEnd (h : Kept false s t) {n : Port} : KeptBy s (execLaneSymbolWindowEnd n t) := by
  unfold Machine.execLaneSymbolWindowEnd; exact .ite (.next h) (.ite (.next (.onLink (h.each fun _ hu _ =>
      hu.setReg))) (.ite (.next (.onLink (.onLink (h.each fun _ hu _ => hu.setReg)))) (.next (.each (.onLink (h.each
      fun _ hu _ => hu.setReg)) fun _ hu _ => .bump (.report (.ite hu.finding hu))))))
theorem Kept.discardHeld (h : Kept false s t) {n : Nat} : Kept false s (t.discardHeld n) := by
  unfold State.discardHeld; exact .onLink (.onEg (h.bumpN.releaseAll.each fun _ hu _ => hu.release))
theorem Kept.shutPort (h : Kept false s t) {n : Nat} : Kept false s (t.shutPort n) := by
  unfold State.shutPort; exact h.discardHeld.onLink.linkTo
theorem Kept.epochUp (h : Kept false s t) {n : Nat} : Kept false s (t.epochUp n) := by
  unfold State.epochUp; exact h.bump
theorem Kept.endEnable (h : Kept false s t) {n status : Nat} : Kept false s (t.endEnable n status) := by
  unfold State.endEnable; exact h.completeAny.completeAny
theorem Kept.cancelEnable (h : Kept false s t) {n : Nat} : Kept false s (t.cancelEnable n) := by
  unfold State.cancelEnable; exact .ite h.onLink.endEnable h
theorem Kept.writeEnable (h : Kept false s t) {n : Nat} {on : Bool} : Kept false s (t.writeEnable n on).1 := by
  unfold State.writeEnable; dsimp only; split
  · split
    · exact h
    · split
      · exact h
      · split
        · split
          · exact h
          · dsimp only
            exact h.onLink
        · dsimp only
          exact h.setReg.epochUp.linkTrain
  · split
    · dsimp only
      exact h.cancelEnable.setReg
    · dsimp only
      exact .ite h.cancelEnable.setReg h.cancelEnable.setReg.shutPort
theorem KeptBy.execPortShutdownEnd (h : Kept false s t) {n : Port} : KeptBy s (execPortShutdownEnd n t) := by
  unfold Machine.execPortShutdownEnd; exact .ite (.next h) (.next (.ite (.linkTrain (.ite (.endEnable (.epochUp
      (.setReg (.ite h.onLink.completeAny.completeAny.epochUp.complete h.onLink.completeAny.completeAny)))) (.ite
      h.onLink.completeAny.completeAny.epochUp.complete h.onLink.completeAny.completeAny))) (.ite (.endEnable
      (.epochUp (.setReg (.ite h.onLink.completeAny.completeAny.epochUp.complete h.onLink.completeAny.completeAny))))
      (.ite h.onLink.completeAny.completeAny.epochUp.complete h.onLink.completeAny.completeAny))))
theorem Kept.cmdDevPortReset (h : Kept false s t) {m : Nat} {body : List Byte} : Kept false s (cmdDevPortReset m body t).1 := by
  unfold Machine.cmdDevPortReset; dsimp only; split
  · exact h
  · split
    · exact h
    · dsimp only
      exact .onLink (.ite (.cancelEnable (.each (h.each fun _ hu _ => hu.setReg) fun _ hu _ => hu.setReg)) (.shutPort
          (.cancelEnable (.each (h.each fun _ hu _ => hu.setReg) fun _ hu _ => hu.setReg))))

/-! ### Routing -/

theorem Kept.shadowWrite (h : Kept false s t) {w : ShadowWrite} : Kept false s (t.shadowWrite w) := by
  unfold State.shadowWrite; exact .ite h.onRt h.onRt
theorem Kept.cmdRtTblWrite (h : Kept false s t) {m : Nat} {body : List Byte} : Kept false s (cmdRtTblWrite m body t).1 := by
  unfold Machine.cmdRtTblWrite; dsimp only; split
  · exact h
  · split
    · exact h
    · dsimp only
      exact .ite h (.ite h.onRt h.shadowWrite)
theorem Kept.cmdRtTblRead (h : Kept false s t) {m : Nat} {body : List Byte} : Kept false s (cmdRtTblRead m body t).1 := by
  unfold Machine.cmdRtTblRead; dsimp only; split
  · exact h
  · exact h
theorem Kept.cmdRtTblClear (h : Kept false s t) {m : Nat} {body : List Byte} : Kept false s (cmdRtTblClear m body t).1 := by
  unfold Machine.cmdRtTblClear; dsimp only; exact h.shadowWrite
theorem Kept.dirWrite (h : Kept false s t) {v : Nat} : Kept false s (t.dirWrite v).1 := by
  unfold State.dirWrite; split
  · exact h
  · split
    · exact h
    · dsimp only
      exact h.shadowWrite
theorem Kept.cmdRtDirWrite (h : Kept false s t) {m : Nat} {body : List Byte} : Kept false s (cmdRtDirWrite m body t).1 := by
  unfold Machine.cmdRtDirWrite; exact h.dirWrite
theorem Kept.putFreeze (h : Kept false s t) {v : Nat} : Kept false s (t.putFreeze v) := by
  unfold State.putFreeze; exact h.setReg
theorem Kept.writeFreeze (h : Kept false s t) {v : Nat} : Kept false s (t.writeFreeze v).1 := by
  unfold State.writeFreeze; dsimp only; split
  · exact h
  · dsimp only
    exact h.putFreeze
theorem Kept.cmdRtSwap (h : Kept false s t) {m : Nat} {body : List Byte} : Kept false s (cmdRtSwap m body t).1 := by
  unfold Machine.cmdRtSwap; dsimp only; split
  · exact h
  · split
    · exact h
    · dsimp only
      exact .onRt (.putFreeze (h.each fun _ hu _ => hu.fwHold))
theorem Kept.unfreeze (h : Kept false s t) {w : Swap} : Kept false s (t.unfreeze w) := by
  unfold State.unfreeze; exact .putFreeze (h.each fun _ hu _ => hu.fwHold)
theorem Kept.applyDelayed (h : Kept false s t) : Kept false s t.applyDelayed := by
  unfold State.applyDelayed; exact h.onRt.each fun _ hu _ => hu.shadowWrite
theorem Kept.toggle (h : Kept false s t) {w : Swap} : Kept false s (t.toggle w) := by
  unfold State.toggle; exact h.bumpN.onRt.unfreeze
theorem KeptBy.execRtDrainComplete (h : Kept false s t) : KeptBy s (execRtDrainComplete t) := by
  unfold Machine.execRtDrainComplete; split
  · exact .next (.ite h.toggle h)
  · exact .next h
theorem KeptBy.execRtDrainLimitExpiry (h : Kept false s t) : KeptBy s (execRtDrainLimitExpiry t) := by
  unfold Machine.execRtDrainLimitExpiry; dsimp only; split
  · exact .ite (.next h) (.ite (.next h.toggle) (.next h.unfreeze.applyDelayed.bump.completeAny))
  · exact .next h
theorem KeptBy.execRtResyncDone (h : Kept false s t) : KeptBy s (execRtResyncDone t) := by
  unfold Machine.execRtResyncDone; dsimp only; split
  · exact .ite (.next h) (.next (.completeAny (.bump (.applyDelayed (h.onRt.update rfl)))))
  · exact .next h
theorem Kept.cmdRtIdent (h : Kept false s t) {m : Nat} {body : List Byte} : Kept false s (cmdRtIdent m body t).1 := by
  unfold Machine.cmdRtIdent; dsimp only; exact h
theorem Kept.writeGlCtrl (h : Kept false s t) {n v : Nat} : Kept false s (t.writeGlCtrl n v).1 := by
  unfold State.writeGlCtrl; split
  · dsimp only
    exact (h.writeEnable.of_fst ‹_›).setReg.setReg
  · dsimp only
    exact (h.writeEnable.of_fst ‹_›).setReg.setReg
  · exact h
theorem Kept.cmdRtPort (h : Kept false s t) {m : Nat} {body : List Byte} : Kept false s (cmdRtPort m body t).1 := by
  unfold Machine.cmdRtPort; split
  · exact h
  · exact h.writeGlCtrl
theorem Kept.cmdRtCounters (h : Kept false s t) {m : Nat} {body : List Byte} : Kept false s (cmdRtCounters m body t).1 := by
  unfold Machine.cmdRtCounters; dsimp only; split
  · exact h
  · exact h
theorem Kept.mgmtArrive (h : Kept false s t) {port : Nat} {p : Packet} : Kept false s (t.mgmtArrive port p) := by
  unfold State.mgmtArrive; exact .ite h.bump (.ite h.bump (.ite h.emit h.onFab))
theorem Kept.mgmtAnswer (h : Kept false s t) {c port : Nat} {p : Packet} {r : Reply} :
    Kept false s (t.mgmtAnswer c port p r) := by
  unfold State.mgmtAnswer; split
  · exact h.emit
  · exact h
  · exact h.onRt
/-- A command with which every state keeps what was kept. -/
def Cmd.Keeps (f : Cmd) : Prop := ∀ {s t : State}, Kept false s t → ∀ {m : Nat} {body : List Byte}, Kept false s (f m body t).1
theorem Cmd.Keeps.of_ite {p : Prop} [Decidable p] {c f : Cmd} (hf : f.Keeps) (e : (if p then some f else none) = some c) :
    c.Keeps := by
  split at e
  · obtain rfl := Option.some.inj e; exact hf
  · cases e
theorem mgmtCmd_keeps {c n : Nat} {f : Cmd} (e : mgmtCmd c n = some f) : f.Keeps := by
  unfold mgmtCmd at e
  split at e
  · exact Cmd.Keeps.of_ite Kept.cmdRtIdent e
  · exact Cmd.Keeps.of_ite Kept.cmdRtPort e
  · exact Cmd.Keeps.of_ite Kept.cmdRtTblWrite e
  · exact Cmd.Keeps.of_ite Kept.cmdRtTblRead e
  · exact Cmd.Keeps.of_ite Kept.cmdRtTblClear e
  · exact Cmd.Keeps.of_ite Kept.cmdRtDirWrite e
  · exact Cmd.Keeps.of_ite Kept.cmdRtSwap e
  · exact Cmd.Keeps.of_ite Kept.cmdRtCounters e
  · cases e
theorem Kept.mgmtRun (h : Kept false s t) {c : Nat} : Kept false s (t.mgmtRun c) := by
  unfold State.mgmtRun; refine .ite h ?_; split
  · dsimp only; refine .ite h ?_; split
    · exact h
    · next e => exact .ite h.onFab.draw.mgmtAnswer (mgmtCmd_keeps e h.onFab).mgmtAnswer
  · exact h
theorem KeptBy.execMIdent (h : Kept false s t) : KeptBy s (execMIdent t) := by
  unfold Machine.execMIdent; exact .next h.mgmtRun
theorem KeptBy.execMPort (h : Kept false s t) : KeptBy s (execMPort t) := by
  unfold Machine.execMPort; exact .next h.mgmtRun
theorem KeptBy.execMTblWrite (h : Kept false s t) : KeptBy s (execMTblWrite t) := by
  unfold Machine.execMTblWrite; exact .next h.mgmtRun
theorem KeptBy.execMTblRead (h : Kept false s t) : KeptBy s (execMTblRead t) := by
  unfold Machine.execMTblRead; exact .next h.mgmtRun
theorem KeptBy.execMTblClear (h : Kept false s t) : KeptBy s (execMTblClear t) := by
  unfold Machine.execMTblClear; exact .next h.mgmtRun
theorem KeptBy.execMDirWrite (h : Kept false s t) : KeptBy s (execMDirWrite t) := by
  unfold Machine.execMDirWrite; exact .next h.mgmtRun
theorem KeptBy.execMSwap (h : Kept false s t) : KeptBy s (execMSwap t) := by
  unfold Machine.execMSwap; exact .next h.mgmtRun
theorem KeptBy.execMCounters (h : Kept false s t) : KeptBy s (execMCounters t) := by
  unfold Machine.execMCounters; exact .next h.mgmtRun

/-! ### Schedulers -/

theorem Kept.setPol (h : Kept false s t) {m : Nat} {p : Policer} : Kept false s (t.setPol m p) := by
  unfold State.setPol; exact h.update rfl
theorem Kept.police (h : Kept false s t) {m pre b : Nat} : Kept false s (t.police m pre b).2 := by
  unfold State.police; dsimp only; split
  · dsimp only
    exact h.bump
  · split
    · dsimp only
      exact h.setPol.bump
    · split
      · dsimp only
        exact h.setPol.bump
      · dsimp only
        exact h.setPol.bump
theorem Kept.writePolicer (h : Kept false s t) {m en aware cir pir cbs pbs : Nat} :
    Kept false s (t.writePolicer m en aware cir pir cbs pbs).1 := by
  unfold State.writePolicer; dsimp only; split
  · exact h
  · split
    · dsimp only
      exact .update (h.each fun _ hu _ => hu.setReg) rfl
    · dsimp only
      exact .setPol (h.each fun _ hu _ => hu.setReg)
theorem Kept.charge (h : Kept false s t) {n level idx bytes : Nat} : Kept false s (t.charge n level idx bytes) := by
  unfold State.charge; exact .ite h h.onEg
theorem Kept.writeShaper (h : Kept false s t) {n level idx rate burst : Nat} :
    Kept false s (t.writeShaper n level idx rate burst) := by
  unfold State.writeShaper; exact h.onEg.setReg.setReg
theorem Kept.clearBucket (h : Kept false s t) {n level idx : Nat} : Kept false s (t.clearBucket n level idx) := by
  unfold State.clearBucket; exact .ite h.onEg h
theorem Kept.cmdSchSlotWrite (h : Kept false s t) {m : Nat} {body : List Byte} : Kept false s (cmdSchSlotWrite m body t).1 := by
  unfold Machine.cmdSchSlotWrite; dsimp only; split
  · exact h
  · split
    · exact h
    · split
      · exact h
      · dsimp only
        exact h.onEg
theorem KeptBy.execSlotTableWrap (h : Kept false s t) {n : Port} : KeptBy s (execSlotTableWrap n t) := by
  unfold Machine.execSlotTableWrap; exact .next (.ite h.onEg h)
theorem Kept.writeGuard (h : Kept false s t) {n v : Nat} : Kept false s (t.writeGuard n v).1 := by
  unfold State.writeGuard; dsimp only; split
  · exact h
  · dsimp only
    exact h.setReg
theorem Kept.countSkips (h : Kept false s t) {n : Nat} : Kept false s (t.countSkips n) := by
  unfold State.countSkips; dsimp only; split
  · exact h
  · refine h.each fun _ hu _ => ?_
    split
    · exact hu
    · exact .ite hu.onEg.bump hu
theorem Kept.startHead (h : Kept false s t) {n k : Nat} {o : OutPkt} : Kept false s (t.startHead n k o) := by
  unfold State.startHead; exact h.onEg.startFlits
theorem Kept.serveQueue (h : Kept false s t) {n k : Nat} {gain gainSq : Bool} : Kept false s (t.serveQueue n k gain gainSq) := by
  unfold State.serveQueue; dsimp only; split
  · exact h
  · exact h.onEg.charge.charge.charge.bumpN.startHead.onEg
theorem KeptBy.execEgressPick (h : Kept false s t) {n : Port} : KeptBy s (execEgressPick n t) := by
  unfold Machine.execEgressPick; dsimp only; split
  · exact .next h.onLink.startFlits
  · split
    · exact .next h.startHead
    · exact .next h.startHead
    · split
      · exact .next h.countSkips.serveQueue
      · exact .next h.countSkips
theorem Kept.cmdSchGroupWrite (h : Kept false s t) {m : Nat} {body : List Byte} : Kept false s (cmdSchGroupWrite m body t).1 := by
  unfold Machine.cmdSchGroupWrite; dsimp only; split
  · exact h
  · dsimp only
    exact h.update rfl
theorem KeptBy.execQueueSample (h : Kept false s t) : KeptBy s (execQueueSample t) := by
  unfold Machine.execQueueSample; exact .next (h.each fun _ hu _ => .ite hu (.each (hu.onEg.each fun _ hu' _ =>
      hu'.onEg) fun _ hu' _ => hu'.onEg))
theorem Kept.writeHistSel (h : Kept false s t) {n queue : Nat} {ingress clear : Bool} :
    Kept false s (t.writeHistSel n queue ingress clear).1 := by
  unfold State.writeHistSel; dsimp only; split
  · exact h
  · dsimp only
    exact h.setReg.setReg.onEg

/-! ### Device keys -/

theorem Kept.setKey (h : Kept false s t) {which : Nat} {k : XmssKey} : Kept false s (t.setKey which k) := by
  unfold State.setKey; exact .ite h.onSec h.onMtr
theorem Kept.mtrLog (h : Kept false s t) {kind link count detail : Nat} : Kept false s (t.mtrLog kind link count detail) := by
  unfold State.mtrLog; exact h.onMtr
theorem Kept.seal (h : Kept false s t) {cause : Nat} : Kept false s (t.seal cause) := by
  unfold State.seal; exact h.onMtr.mtrLog
theorem Kept.successor (h : Kept false s t) {which : Nat} : Kept false s (t.successor which) := by
  unfold State.successor; exact .ite h.setKey.seal h.setKey
theorem Kept.newBlock (h : Kept false s t) {which : Nat} : Kept false s (t.newBlock which).2.2 := by
  unfold State.newBlock; exact h.setKey
theorem Kept.takeLeaf (h : Kept false s t) {which x y : Nat} (hu : t.takeLeaf which = some (x, y, u)) : Kept false s u := by
  unfold State.takeLeaf at hu
  dsimp only at hu
  split at hu
  · cases hu
  · split at hu
    · cases hu; exact h.setKey
    · split at hu
      · cases hu
      · split at hu
        · have hn := h.successor.newBlock (which := which) (t := t.successor which); rw [Option.some.inj hu] at hn; exact hn
        · have hn := h.newBlock (which := which); rw [Option.some.inj hu] at hn; exact hn
theorem Kept.signed_ok (h : Kept false s t) {which : Nat} {l : Nat → List Byte} {b : List Byte}
    (hu : t.signed which l = .ok (b, u)) : Kept false s u := by
  unfold State.signed at hu
  split at hu
  · cases hu; exact h.takeLeaf ‹_›
  · split at hu <;> cases hu
theorem Kept.signed_error (h : Kept false s t) {which : Nat} {l : Nat → List Byte} (hu : t.signed which l = .error u) :
    Kept false s u := by
  unfold State.signed at hu
  split at hu
  · cases hu
  · split at hu
    · cases hu; exact h
    · cases hu; exact h.setKey.finding

/-! ### The partner -/

theorem Kept.bothPorts (h : Kept false s t) {g : Pairing} {type arg : Nat} {body : List Byte} :
    Kept false s (t.bothPorts g type arg body) := by
  unfold State.bothPorts; exact h.sendFrame.sendFrame
theorem Kept.sendHello (h : Kept false s t) {g : Pairing} : Kept false s (t.sendHello g) := by
  unfold State.sendHello; exact h.bothPorts.bothPorts.onPrt
theorem KeptBy.execPartnerHelloTimer (h : Kept false s t) : KeptBy s (execPartnerHelloTimer t) := by
  unfold Machine.execPartnerHelloTimer; split
  · exact .next h
  · exact .ite (.next h.sendHello) (.next h)
theorem KeptBy.execMirrorResendTimer (h : Kept false s t) {mseq : BitVec 32} : KeptBy s (execMirrorResendTimer mseq t) := by
  unfold Machine.execMirrorResendTimer; split
  · exact .ite (.next h.onPrt.sendFrame) (.next h)
  · exact .next h
theorem Kept.resyncCopy (h : Kept false s t) {k : Nat} : Kept false s (t.resyncCopy k) := by
  unfold State.resyncCopy; exact .each (h.each fun _ hu _ => .ite hu.readFx hu) fun _ hu _ => hu.mirror
theorem Kept.resyncRun (h : Kept false s t) {n : Nat} : Kept false s (t.resyncRun n) := by
  induction n generalizing t with
  | zero => exact h
  | succ n ih =>
    unfold State.resyncRun; refine .ite h ?_; split
    · exact h.mirror.onPrt
    · exact .ite h (ih h.onPrt.resyncCopy)
theorem Kept.resyncStart (h : Kept false s t) : Kept false s t.resyncStart := by
  unfold State.resyncStart; exact .resyncRun (.onPrt (.each (h.onPrt.each fun _ hu _ => hu.extFrame.mirror) fun _ hu
      _ => hu.dirFrame))
theorem Kept.sequenceStart (h : Kept false s t) : Kept false s t.sequenceStart := by
  unfold State.sequenceStart; exact h.onPrt
theorem Kept.releaseHeld (h : Kept false s t) {n : Nat} : Kept false s (t.releaseHeld n) := by
  unfold State.releaseHeld; exact h.onPrt.each fun _ hu _ => hu.emit
theorem Kept.creationAnswered (h : Kept false s t) {hd status : Nat} {body : List Byte} :
    Kept false s (t.creationAnswered hd status body) := by
  unfold State.creationAnswered; exact .ite h.onExt.extRecord (.complete (h.update rfl))
theorem Kept.mirrorStop (h : Kept false s t) : Kept false s t.mirrorStop := by
  unfold State.mirrorStop; exact h.onPrt.releaseHeld.each fun _ hu _ => hu.creationAnswered
theorem Kept.onAck (h : Kept false s t) {arg : Nat} {body : List Byte} : Kept false s (t.onAck arg body) := by
  unfold State.onAck; exact .resyncRun (.ite (.onPrt (h.onPrt.releaseHeld.each fun _ hu _ => .ite hu.creationAnswered
      hu.creationAnswered)) (h.onPrt.releaseHeld.each fun _ hu _ => .ite hu.creationAnswered hu.creationAnswered))
theorem Kept.toRole (h : Kept false s t) {st : PrtSt} {act : Bool} : Kept false s (t.toRole st act) := by
  unfold State.toRole; exact h.onPrt
theorem Kept.toStandby (h : Kept false s t) : Kept false s t.toStandby := by
  unfold State.toStandby; exact h.sequenceStart.toRole.onPrt
theorem Kept.onHello (h : Kept false s t) {g : Pairing} {b : List Byte} : Kept false s (t.onHello g b) := by
  unfold State.onHello; dsimp only
  refine .ite h.finding ?_
  split
  · exact .ite h (.ite h.sequenceStart.toRole.resyncStart h.toStandby)
  · exact .ite (.ite h.sequenceStart.resyncStart h) (.ite h (.ite h.finding.sequenceStart.resyncStart
        h.finding.mirrorStop.toStandby))
  · exact .ite h.onPrt h
  · exact h.onPrt
  · exact h.onPrt
  · exact h
  · exact h
theorem Kept.onHeartbeat (h : Kept false s t) {b : List Byte} : Kept false s (t.onHeartbeat b) := by
  unfold State.onHeartbeat; exact .ite h (.ite h.resyncStart (.ite h.sequenceStart.resyncStart (.ite h.onPrt h)))
theorem Kept.mirrorCreate (h : Kept false s t) {hd : Nat} {b : List Byte} : Kept false s (t.mirrorCreate hd b).1 := by
  unfold State.mirrorCreate; dsimp only; split
  · exact h
  · split
    · exact h
    · dsimp only
      exact .extRecord (h.update rfl)
theorem Kept.applyExtent (h : Kept false s t) {hd arg : Nat} {b : List Byte} : Kept false s (t.applyExtent hd arg b).1 := by
  unfold State.applyExtent; dsimp only; split
  · dsimp only
    exact .ite h.hostDies h.onDir
  · split
    · split
      · exact h.mirrorCreate
      · exact h
    · split
      · exact h
      · split
        · dsimp only
          exact .ite h.revoke h
        · split
          · dsimp only
            exact .ite h h.serveOr
          · dsimp only
            exact .ite (.newAcl (.ite h.onExt.movePolicy h.onExt)) (.extRecord (.ite h.onExt.movePolicy h.onExt))
theorem Kept.applyWrite (h : Kept false s t) {hd off : Nat} {b : List Byte} : Kept false s (t.applyWrite hd off b) := by
  unfold State.applyWrite; exact .ite h (h.each fun _ hu _ => hu.homePut)
theorem Kept.applyDir (h : Kept false s t) {hd : Nat} {b : List Byte} : Kept false s (t.applyDir hd b) := by
  unfold State.applyDir; exact h.onPrt
theorem Kept.applyFrame (h : Kept false s t) {f : List Byte} : Kept false s (t.applyFrame f).1 := by
  unfold State.applyFrame; dsimp only; split
  · dsimp only
    exact h.applyWrite
  · split
    · dsimp only
      exact .ite h.onExt h
    · split
      · exact h.applyExtent
      · split
        · dsimp only
          exact h.applyDir
        · split
          · dsimp only
            exact .ite h.onPrt h
          · exact h
theorem Kept.aliveIn (h : Kept false s t) {i a : Nat} : Kept false s (t.aliveIn i a) := by
  unfold State.aliveIn; exact h.onChk
theorem Kept.ackFrame (h : Kept false s t) {g : Pairing} {p : Packet} {m : Nat} {body : List Byte} :
    Kept false s (t.ackFrame g p m body) := by
  unfold State.ackFrame; exact h.sendFrame
theorem Kept.applyRun (h : Kept false s t) {n : Nat} : Kept false s (State.applyRun n t) := by
  induction n generalizing t with
  | zero => exact h
  | succ n ih =>
    rw [State.applyRun]; split
    · extract_lets s₁ s₂ r s₃
      have hr : Kept false s r.1 := .applyFrame (.aliveIn (.ite h.onPrt.onChk h.onPrt))
      exact .ite h (.ite hr.onPrt (ih hr.onPrt.ackFrame))
    · exact h
theorem Kept.onSequenced (h : Kept false s t) {g : Pairing} {p : Packet} : Kept false s (t.onSequenced g p) := by
  unfold State.onSequenced; exact .ite h (.ite (.ite h.aliveIn h.aliveIn.ackFrame) (.ite (.ite h.onPrt h)
      h.onPrt.applyRun))
theorem Kept.takeOver (h : Kept false s t) {upTo : Nat} : Kept false s (t.takeOver upTo) := by
  unfold State.takeOver; exact .onPrt (.onFab (h.each fun _ hu _ => hu.applyFrame))
theorem Kept.onYield (h : Kept false s t) {arg : Nat} : Kept false s (t.onYield arg) := by
  unfold State.onYield; exact .ite h.takeOver.onPrt h
theorem Kept.rebuildEnt (h : Kept false s t) {e : DirEnt} : Kept false s (t.rebuildEnt e) := by
  unfold State.rebuildEnt; split
  · exact h
  · refine .ite h ?_
    split
    · exact h.putEnt
    · exact h
theorem KeptBy.execTakeoverComplete (h : Kept false s t) : KeptBy s (execTakeoverComplete t) := by
  unfold Machine.execTakeoverComplete; dsimp only; split
  · exact .next h
  · refine .ite (.next h) (.next (.sendHello (.dirRun (.onPrt (.toRole (.each (h.each fun _ hu _ => hu.rebuildEnt)
        fun _ hu _ => ?_))))))
    split
    · exact .ite hu hu.openTxn
    · exact hu
theorem KeptBy.execYieldStart (h : Kept false s t) : KeptBy s (execYieldStart t) := by
  unfold Machine.execYieldStart; exact .ite (.next h.onPrt) (.next h.onPrt)
theorem Kept.endAlias (h : Kept false s t) {a : Nat} : Kept false s (t.endAlias a) := by
  unfold State.endAlias; exact .each (.onDir (.each (.onFab (.each (.each (.each (.onPrt (h.each fun _ hu _ =>
      hu.emit)) fun _ hu _ => .onFab (.ite hu.retryAfter hu.retryAfter.gone)) fun _ hu _ => hu.retryAfter.gone) fun _
      hu _ => .refuseInvoke (.freeCredit (hu.each fun _ hu' _ => hu'.gone)))) fun _ hu _ => hu.retryAfter.gone)) fun
      _ hu _ => hu.endInv
theorem KeptBy.execYieldAckWaitEnd (h : Kept false s t) : KeptBy s (execYieldAckWaitEnd t) := by
  unfold Machine.execYieldAckWaitEnd; dsimp only; split
  · exact .next h
  · exact .ite (.next h) (.next h.endAlias.bothPorts.toRole.onPrt.dirRun)
theorem KeptBy.execPartnerSilence (h : Kept false s t) : KeptBy s (execPartnerSilence t) := by
  unfold Machine.execPartnerSilence; dsimp only; split
  · exact .next h
  · refine .ite (.next h) ?_
    split
    · exact .next h.finding.onPrt.mirrorStop
    · exact .ite (.next h.finding.onPrt.takeOver) (.next h.finding.onPrt)
    · exact .next h.finding.onPrt
theorem Kept.mirrorArrive (h : Kept false s t) {p : Packet} : Kept false s (t.mirrorArrive p) := by
  unfold State.mirrorArrive; dsimp only; split
  · refine .ite h.chkFrame.onChk.onPrt ?_
    split
    · exact .ite (.ite h.chkFrame.onPrt.toStandby (.ite h.chkFrame.onPrt.onPrt h.chkFrame.onPrt)) (.onHello (.ite
          h.chkFrame.onPrt.toStandby (.ite h.chkFrame.onPrt.onPrt h.chkFrame.onPrt)))
    · exact .ite (.ite h.chkFrame.onPrt.toStandby (.ite h.chkFrame.onPrt.onPrt h.chkFrame.onPrt)) (.onHeartbeat (.ite
          h.chkFrame.onPrt.toStandby (.ite h.chkFrame.onPrt.onPrt h.chkFrame.onPrt)))
    · exact .ite (.ite h.chkFrame.onPrt.toStandby (.ite h.chkFrame.onPrt.onPrt h.chkFrame.onPrt)) (.ite (.onAck
          (.onPrt (.ite h.chkFrame.onPrt.toStandby (.ite h.chkFrame.onPrt.onPrt h.chkFrame.onPrt)))) (.onPrt (.ite
          h.chkFrame.onPrt.toStandby (.ite h.chkFrame.onPrt.onPrt h.chkFrame.onPrt))))
    · exact .ite (.ite h.chkFrame.onPrt.toStandby (.ite h.chkFrame.onPrt.onPrt h.chkFrame.onPrt)) (.onYield (.ite
          h.chkFrame.onPrt.toStandby (.ite h.chkFrame.onPrt.onPrt h.chkFrame.onPrt)))
    · exact .ite (.ite h.chkFrame.onPrt.toStandby (.ite h.chkFrame.onPrt.onPrt h.chkFrame.onPrt)) (.onSequenced (.ite
          h.chkFrame.onPrt.toStandby (.ite h.chkFrame.onPrt.onPrt h.chkFrame.onPrt)))
  · exact h
theorem Kept.cmdDevHostDead (h : Kept false s t) {m : Nat} {body : List Byte} : Kept false s (cmdDevHostDead m body t).1 := by
  unfold Machine.cmdDevHostDead; dsimp only; split
  · exact h
  · split
    · split
      · exact h
      · split
        · exact h
        · dsimp only
          exact .settleAll (.ite h.hostDies.sendSeq h.hostDies)
    · split
      · exact h
      · split
        · exact h
        · dsimp only
          exact .ite h.onDir.sendSeq h.onDir
theorem Kept.cmdPrtInfo (h : Kept false s t) {m : Nat} {body : List Byte} : Kept false s (cmdPrtInfo m body t).1 := by
  unfold Machine.cmdPrtInfo; dsimp only; exact h
theorem Kept.cmdPrtDiagRead (h : Kept false s t) {m : Nat} {body : List Byte} : Kept false s (cmdPrtDiagRead m body t).1 := by
  unfold Machine.cmdPrtDiagRead; dsimp only; split
  · exact h
  · dsimp only
    exact h.update rfl
theorem Kept.cmdPrtWearRead (h : Kept false s t) {m : Nat} {body : List Byte} : Kept false s (cmdPrtWearRead m body t).1 := by
  unfold Machine.cmdPrtWearRead; dsimp only; split
  · exact h
  · exact h

/-! ### Packets received -/

theorem Kept.transit (h : Kept false s t) {n vc : Nat} {p : Packet} : Kept false s (t.transit n vc p) := by
  unfold State.transit; exact .ite h.bump.freeCredit h.route
theorem Kept.purge (h : Kept false s t) {src dst : Nat} {hd : BitVec 32} : Kept false s (t.purge src dst hd) := by
  unfold State.purge; exact .onFab (.each (h.each fun _ hu _ => hu.gone) fun _ hu _ => hu.performed)
theorem Kept.filter (h : Kept false s t) {side : Nat} {p : Packet} : Kept false s (t.filter side p).2 := by
  unfold State.filter; dsimp only; split
  · dsimp only
    exact h.onFab.purge
  · dsimp only
    exact h.bump
  · dsimp only
    exact h.bump
theorem Kept.onTrick (h : Kept false s t) {k : Nat} {f : TrickRec → TrickRec} : Kept false s (t.onTrick k f) := by
  unfold State.onTrick; exact h.onFab
theorem Kept.dropTrick (h : Kept false s t) {k : Nat} : Kept false s (t.dropTrick k) := by
  unfold State.dropTrick; exact h.onFab
theorem Kept.tableEntry (h : Kept false s t) {q x : Nat} (hu : t.tableEntry q = some (x, u)) : Kept false s u := by
  unfold State.tableEntry at hu
  split at hu
  · cases hu; exact h
  · obtain ⟨e, -, hx⟩ := Option.map_eq_some_iff.mp hu
    cases hx; exact h.dropTrick
theorem Kept.refuseAny (h : Kept false s t) {port : Nat} {p : Packet} {status hint : Nat} :
    Kept false s (t.refuseAny port p status hint) := by
  unfold State.refuseAny; exact .ite h.refuseInvoke (.ite h.retryAfter h.respond)
theorem Kept.writeCounted (h : Kept false s t) {p : Packet} {port w status : Nat} :
    Kept false s (t.writeCounted p port w status) := by
  unfold State.writeCounted; exact .ite h.onFab.performed.serveOr h.onFab.performed.answer
theorem Kept.writePacket (h : Kept false s t) {p : Packet} {port w : Nat} {yellow : Bool} :
    Kept false s (t.writePacket p port w yellow) := by
  unfold State.writePacket; exact h.onFab.serveOr
theorem Kept.counted (h : Kept false s t) {k : Nat} : Kept false s (t.counted k) := by
  unfold State.counted; dsimp only; split
  · exact h.onTrick
  · exact .ite h.onTrick (.ite h.onTrick.dropTrick (.ite h.onTrick.dropTrick.emitHeld
        h.onTrick.dropTrick.writeCounted))
theorem Kept.laterPacket (h : Kept false s t) {k : Nat} {ti : TrickRec} {port : Nat} {p : Packet} :
    Kept false s (t.laterPacket k ti port p) := by
  unfold State.laterPacket; exact .ite h.counted (.ite (.counted (.onTrick (.ite h.respond
      h.respond.ended.performed))) (.counted (.ite h.count.invokeData h.count.writePacket)))
theorem Kept.passed6 (h : Kept false s t) {port : Nat} {p : Packet} : Kept false s (t.passed6 port p) := by
  unfold State.passed6; exact .count (h.each fun _ hu _ => hu.lead)
theorem Kept.holdCredit (h : Kept false s t) {n vc flits : Nat} : Kept false s (t.holdCredit n vc flits) := by
  unfold State.holdCredit; exact h.onLink.setReg
theorem Kept.serveExt (h : Kept false s t) {r : WaitReq} : Kept false s (t.serveExt r) := by
  unfold State.serveExt; exact .ite h.serveGet (.ite h.serveZero (.ite h.servePublish (.ite h.serveReadVersion (.ite
      h.serveFlush (.ite h.servePersist h.serveLine)))))
theorem Kept.refusedAt (h : Kept false s t) {k : Option Nat} : Kept false s (t.refusedAt k) := by
  unfold State.refusedAt; split
  · exact h.onTrick.counted
  · exact h
theorem Kept.firstWrite (h : Kept false s t) {k : Option Nat} {port : Nat} {p : Packet} {yellow : Bool} :
    Kept false s (t.firstWrite k port p yellow) := by
  unfold State.firstWrite; dsimp only; split
  · exact h.accepted.newWrite.writePacket.onTrick.counted
  · exact h.accepted.newWrite.writePacket.writeCounted
theorem Kept.firstPacket (h : Kept false s t) {k : Option Nat} {port : Nat} {p : Packet} :
    Kept false s (t.firstPacket k port p) := by
  unfold State.firstPacket; dsimp only
  refine .ite h.police.refuseAny.refusedAt (.ite h.police.bump.refuseAny.refusedAt (.ite (.refusedAt (.ite
      (.holdCredit (.serveInvoke (.ite h.police.passed6 h.police))) (.serveInvoke (.ite h.police.passed6 h.police))))
      (.ite ?_ ?_)))
  · split
    · exact h.police.respond.refusedAt
    · split
      · exact h.police.passed6
      · split
        · exact h.police.passed6.onTrick.invokeData.counted
        · exact h.police.passed6.invokeData.emit
  · split
    · exact h.police.refuse.refusedAt
    · refine .ite (.ite h.police.passed6.draw.retryAfter.refusedAt (.firstWrite ?_))
          h.police.passed6.accepted.serveExt
      split
      · exact h.police.passed6.onTrick
      · exact h.police.passed6
theorem Kept.firstReturn (h : Kept false s t) {k : Option Nat} {port : Nat} {p : Packet} :
    Kept false s (t.firstReturn k port p) := by
  unfold State.firstReturn; split
  · exact h.refuse.refusedAt
  · exact h.accepted.hostReturn
theorem Kept.withEntry {f : Option Nat → State → State} (hf : ∀ k u, Kept false s u → Kept false s (f k u)) (h : Kept false s t)
    {port : Nat} {p : Packet} : Kept false s (t.withEntry port p f) := by
  unfold State.withEntry; refine .ite (hf _ _ h) ?_; split
  · exact h.refuseAny
  · exact hf _ _ (h.tableEntry ‹_›).onFab
theorem Kept.request (h : Kept false s t) {port : Nat} {p : Packet} : Kept false s (t.request port p) :=
  .ite h.refuseAny (.withEntry (fun _ _ hu => hu.firstPacket) h)
theorem Kept.deliverPkt (h : Kept false s t) {port : Nat} {p : Packet} : Kept false s (t.deliverPkt port p) := by
  unfold State.deliverPkt; dsimp only
  refine .ite h.hostAck (.ite h.mirrorArrive (.ite h.bump ?_))
  split
  · exact .ite h.laterPacket h.bump
  · exact .ite h.mgmtArrive (.ite h.mirrorArrive (.ite (.withEntry (fun _ _ hu => hu.firstReturn) h) h.request))
theorem Kept.fabricIn (h : Kept false s t) {n vc : Nat} {p : Packet} : Kept false s (t.fabricIn n vc p) := by
  unfold State.fabricIn; dsimp only
  refine .ite h.bumpN (.ite h.takeRx.lead.transit (.ite h.takeRx.lead.freeCredit.bump (.ite
      h.takeRx.lead.freeCredit.onFab (.ite h.takeRx.lead.freeCredit.bump (.ite (.ite
      h.takeRx.lead.freeCredit.refuseAny h.takeRx.lead.freeCredit) ?_)))))
  split
  · exact (h.takeRx.lead.freeCredit.filter.of_snd ‹_›).deliverPkt.settleAll
  · exact h.takeRx.lead.freeCredit.filter.of_snd ‹_›
theorem KeptBy.execTransitForward (h : Kept false s t) {n : Port} {vc : Fin 5} {p : Packet} :
    KeptBy s (execTransitForward n vc p t) := by
  unfold Machine.execTransitForward; exact .next h.fabricIn
theorem KeptBy.execMalformedPacketArrival (h : Kept false s t) {n : Port} {vc : Fin 5} {p : Packet} :
    KeptBy s (execMalformedPacketArrival n vc p t) := by
  unfold Machine.execMalformedPacketArrival; exact .next h.fabricIn
theorem Kept.opIn (h : Kept false s t) {op : BitVec 8} {n vc : Nat} {p : Packet} : Kept false s (t.opIn op n vc p) := by
  unfold State.opIn; exact h.fabricIn
theorem KeptBy.execGet (h : Kept false s t) {n : Port} {vc : Fin 5} {p : Packet} : KeptBy s (execGet n vc p t) := by
  unfold Machine.execGet; exact .next h.opIn
theorem KeptBy.execPut (h : Kept false s t) {n : Port} {vc : Fin 5} {p : Packet} : KeptBy s (execPut n vc p t) := by
  unfold Machine.execPut; exact .next h.opIn
theorem KeptBy.execPutSparse (h : Kept false s t) {n : Port} {vc : Fin 5} {p : Packet} :
    KeptBy s (execPutSparse n vc p t) := by
  unfold Machine.execPutSparse; exact .next h.opIn
theorem KeptBy.execZero (h : Kept false s t) {n : Port} {vc : Fin 5} {p : Packet} : KeptBy s (execZero n vc p t) := by
  unfold Machine.execZero; exact .next h.opIn
theorem KeptBy.execPublish (h : Kept false s t) {n : Port} {vc : Fin 5} {p : Packet} : KeptBy s (execPublish n vc p t) := by
  unfold Machine.execPublish; exact .next h.opIn
theorem KeptBy.execReadVersion (h : Kept false s t) {n : Port} {vc : Fin 5} {p : Packet} :
    KeptBy s (execReadVersion n vc p t) := by
  unfold Machine.execReadVersion; exact .next h.opIn
theorem KeptBy.execFlush (h : Kept false s t) {n : Port} {vc : Fin 5} {p : Packet} : KeptBy s (execFlush n vc p t) := by
  unfold Machine.execFlush; exact .next h.opIn
theorem KeptBy.execPersist (h : Kept false s t) {n : Port} {vc : Fin 5} {p : Packet} : KeptBy s (execPersist n vc p t) := by
  unfold Machine.execPersist; exact .next h.opIn
theorem KeptBy.execCheckoutS (h : Kept false s t) {n : Port} {vc : Fin 5} {p : Packet} :
    KeptBy s (execCheckoutS n vc p t) := by
  unfold Machine.execCheckoutS; exact .next h.opIn
theorem KeptBy.execCheckoutX (h : Kept false s t) {n : Port} {vc : Fin 5} {p : Packet} :
    KeptBy s (execCheckoutX n vc p t) := by
  unfold Machine.execCheckoutX; exact .next h.opIn
theorem KeptBy.execReturnLine (h : Kept false s t) {n : Port} {vc : Fin 5} {p : Packet} :
    KeptBy s (execReturnLine n vc p t) := by
  unfold Machine.execReturnLine; exact .next h.opIn
theorem KeptBy.execWriteInv (h : Kept false s t) {n : Port} {vc : Fin 5} {p : Packet} :
    KeptBy s (execWriteInv n vc p t) := by
  unfold Machine.execWriteInv; exact .next h.opIn
theorem KeptBy.execAtomic (h : Kept false s t) {n : Port} {vc : Fin 5} {p : Packet} : KeptBy s (execAtomic n vc p t) := by
  unfold Machine.execAtomic; exact .next h.opIn
theorem KeptBy.execRecallAck (h : Kept false s t) {n : Port} {vc : Fin 5} {p : Packet} :
    KeptBy s (execRecallAck n vc p t) := by
  unfold Machine.execRecallAck; exact .next h.opIn
theorem KeptBy.execInvoke (h : Kept false s t) {n : Port} {vc : Fin 5} {p : Packet} : KeptBy s (execInvoke n vc p t) := by
  unfold Machine.execInvoke; exact .next h.opIn
theorem KeptBy.execInvokeData (h : Kept false s t) {n : Port} {vc : Fin 5} {p : Packet} :
    KeptBy s (execInvokeData n vc p t) := by
  unfold Machine.execInvokeData; exact .next h.opIn
theorem KeptBy.execMgmt (h : Kept false s t) {n : Port} {vc : Fin 5} {p : Packet} : KeptBy s (execMgmt n vc p t) := by
  unfold Machine.execMgmt; exact .next h.opIn
theorem KeptBy.execHello (h : Kept false s t) {n : Port} {vc : Fin 5} {p : Packet} : KeptBy s (execHello n vc p t) := by
  unfold Machine.execHello; exact .next h.fabricIn
theorem KeptBy.execHeartbeat (h : Kept false s t) {n : Port} {vc : Fin 5} {p : Packet} :
    KeptBy s (execHeartbeat n vc p t) := by
  unfold Machine.execHeartbeat; exact .next h.fabricIn
theorem KeptBy.execWriteFrame (h : Kept false s t) {n : Port} {vc : Fin 5} {p : Packet} :
    KeptBy s (execWriteFrame n vc p t) := by
  unfold Machine.execWriteFrame; exact .next h.fabricIn
theorem KeptBy.execVersionFrame (h : Kept false s t) {n : Port} {vc : Fin 5} {p : Packet} :
    KeptBy s (execVersionFrame n vc p t) := by
  unfold Machine.execVersionFrame; exact .next h.fabricIn
theorem KeptBy.execExtentFrame (h : Kept false s t) {n : Port} {vc : Fin 5} {p : Packet} :
    KeptBy s (execExtentFrame n vc p t) := by
  unfold Machine.execExtentFrame; exact .next h.fabricIn
theorem KeptBy.execDirFrame (h : Kept false s t) {n : Port} {vc : Fin 5} {p : Packet} :
    KeptBy s (execDirFrame n vc p t) := by
  unfold Machine.execDirFrame; exact .next h.fabricIn
theorem KeptBy.execAckFrame (h : Kept false s t) {n : Port} {vc : Fin 5} {p : Packet} :
    KeptBy s (execAckFrame n vc p t) := by
  unfold Machine.execAckFrame; exact .next h.fabricIn
theorem KeptBy.execYieldFrame (h : Kept false s t) {n : Port} {vc : Fin 5} {p : Packet} :
    KeptBy s (execYieldFrame n vc p t) := by
  unfold Machine.execYieldFrame; exact .next h.fabricIn
theorem KeptBy.execResyncPage (h : Kept false s t) {n : Port} {vc : Fin 5} {p : Packet} :
    KeptBy s (execResyncPage n vc p t) := by
  unfold Machine.execResyncPage; exact .next h.fabricIn
theorem KeptBy.execResyncDone (h : Kept false s t) {n : Port} {vc : Fin 5} {p : Packet} :
    KeptBy s (execResyncDone n vc p t) := by
  unfold Machine.execResyncDone; exact .next h.fabricIn

/-! ### The meter -/

theorem Kept.sampleStored (h : Kept false s t) : Kept false s t.sampleStored := by
  unfold State.sampleStored; exact h.each fun _ hu _ => hu.each fun _ hu' _ => hu'.count.count
theorem Kept.sendCounter (h : Kept false s t) {l q qty delta : Nat} : Kept false s (t.sendCounter l q qty delta) := by
  unfold State.sendCounter; exact h.chkFrame.onSender
theorem KeptBy.execMeterDeltaSend (h : Kept false s t) {l : Fin 8} {q : Ptn} {qty : Fin 10} :
    KeptBy s (execMeterDeltaSend l q qty t) := by
  unfold Machine.execMeterDeltaSend; exact .ite (.next (.ite h.sendCounter h)) (.ite (.next h.draw.sendCounter) (.ite
      (.next h) (.next h.onSender.sendCounter)))
theorem Kept.acceptCount (h : Kept false s t) {l : Nat} {f : List Byte} : Kept false s (t.acceptCount l f) := by
  unfold State.acceptCount; exact h.onMtr
theorem KeptBy.execCounterFrame (h : Kept false s t) {l : Fin 8} {frame : BitVec 128} :
    KeptBy s (execCounterFrame l frame t) := by
  unfold Machine.execCounterFrame; exact .ite (.next h.onSender) (.ite (.next h.onSender.mtrLog) (.ite (.next
      h.onSender.onMtr.mtrLog.acceptCount) (.ite (.next h.onSender.onMtr.mtrLog) (.next (.acceptCount (.ite
      h.onSender.onMtr.mtrLog h.onSender.onMtr))))))
theorem KeptBy.execMeterLinkSilence (h : Kept false s t) {l : Fin 8} : KeptBy s (execMeterLinkSilence l t) := by
  unfold Machine.execMeterLinkSilence; exact .ite (.next h.mtrLog.onMtr) (.next h)
theorem KeptBy.execMeterSnapshot (h : Kept false s t) : KeptBy s (execMeterSnapshot t) := by
  unfold Machine.execMeterSnapshot; exact .ite (.next h) (.next h.onMtr)
theorem KeptBy.execMeterStart (h : Kept false s t) : KeptBy s (execMeterStart t) := by
  unfold Machine.execMeterStart; dsimp only
  refine .ite (.next h) ?_
  split
  · exact .next h.onMtr.mtrLog
  · exact .next (.ite h.onMtr.mtrLog.onMtr.seal h.onMtr.mtrLog.onMtr)
theorem Kept.meterReset (h : Kept false s t) : Kept false s t.meterReset := by
  unfold State.meterReset; exact .onMtr (h.each fun _ hu _ => hu.complete)
theorem KeptBy.execMeterSignDone (h : Kept false s t) : KeptBy s (execMeterSignDone t) := by
  unfold Machine.execMeterSignDone; split
  · exact .next h
  · refine .ite (.next h) ?_; dsimp only; split
    · exact .next (h.onMtr.signed_error ‹_›).complete
    · have hs := h.onMtr.signed_ok ‹_›
      exact .next (.complete (.ite hs.onMtr hs))
theorem Kept.drawBytes (h : Kept false s t) {n : Nat} : Kept false s (State.drawBytes n t).2 := by
  induction n generalizing t with
  | zero => exact h
  | succ n ih => exact ih h.draw
theorem Kept.cmdMtrInfo (h : Kept false s t) {m : Nat} {body : List Byte} : Kept false s (cmdMtrInfo m body t).1 := by
  unfold Machine.cmdMtrInfo; dsimp only; split
  · dsimp only
    exact h.drawBytes
  · exact h
theorem Kept.askMeter (h : Kept false s t) {m : Nat} {report : Bool} {q : Nat} {nonce : List Byte} {first : Nat} :
    Kept false s (t.askMeter m report q nonce first).1 := by
  unfold State.askMeter; dsimp only; split
  · exact h
  · split
    · exact h
    · split
      · exact h
      · dsimp only
        exact h.onMtr
theorem Kept.cmdMtrReport (h : Kept false s t) {m : Nat} {body : List Byte} : Kept false s (cmdMtrReport m body t).1 := by
  unfold Machine.cmdMtrReport; split
  · exact h
  · exact h.askMeter
theorem Kept.cmdMtrEvents (h : Kept false s t) {m : Nat} {body : List Byte} : Kept false s (cmdMtrEvents m body t).1 := by
  unfold Machine.cmdMtrEvents; exact h.askMeter
theorem Kept.certRead (h : Kept false s t) {which : Nat} {l : List Byte} : Kept false s (t.certRead which l).1 := by
  unfold State.certRead; split
  · exact h
  · exact h
theorem Kept.cmdMtrCertRead (h : Kept false s t) {m : Nat} {body : List Byte} : Kept false s (cmdMtrCertRead m body t).1 := by
  unfold Machine.cmdMtrCertRead; exact h.certRead

/-! ### Security -/

theorem Kept.rehash (h : Kept false s t) {q : Nat} : Kept false s (t.rehash q) := by
  unfold State.rehash; dsimp only
  refine h.onDir.each fun _ hu _ => ?_
  split
  · exact hu.onDir
  · exact hu
theorem Kept.dropCluster (h : Kept false s t) {q g : Nat} : Kept false s (t.dropCluster q g) := by
  unfold State.dropCluster; exact h.onPtn.onDeal.onClu
theorem Kept.addCluster (h : Kept false s t) {q g : Nat} : Kept false s (t.addCluster q g) := by
  unfold State.addCluster; exact .ite h.onClu h.joinCluster
theorem Kept.setResources (h : Kept false s t) {q : Nat} {new : PtnSet} : Kept false s (t.setResources q new) := by
  unfold State.setResources; exact .clusterResets (.replaceModels (.onSec (.each (.each (.ite (.rehash (.onPtn
      (h.each fun _ hu _ => hu.onBox))) (.onPtn (h.each fun _ hu _ => hu.onBox))) fun _ hu _ => hu.dropCluster) fun _
      hu _ => hu.addCluster)))
theorem Kept.deletePtn (h : Kept false s t) {q : Nat} : Kept false s (t.deletePtn q) := by
  unfold State.deletePtn; exact h.endPtn.onDeal.setResources.complete.complete.onPtn
theorem Kept.writePset (h : Kept false s t) {f : Pset → Pset} : Kept false s (t.writePset f) := by
  unfold State.writePset; exact h.onSec
theorem Kept.endChanges (h : Kept false s t) {but : Nat} : Kept false s (t.endChanges but) := by
  unfold State.endChanges; exact .onSec (h.each fun _ hu _ => hu.complete)
theorem Kept.meterParam (h : Kept false s t) {b : List Byte} : Kept false s (t.meterParam b) := by
  unfold State.meterParam; dsimp only; split
  · exact h.seal.onMtr
  · exact h.seal.onMtr
  · exact .ite h.seal h.seal.successor
theorem Kept.applyChange (h : Kept false s t) {kind : Nat} {b : List Byte} (hu : t.applyChange kind b = .ok u) : Kept false s u := by
  unfold State.applyChange at hu
  dsimp only at hu
  split at hu
  · split at hu
    · cases hu
    · split at hu
      · cases hu
      · obtain rfl := Except.ok.inj hu; exact h.writePset.setResources.onPtn
  · split at hu
    · cases hu
    · obtain rfl := Except.ok.inj hu; exact h.writePset.deletePtn
  · split at hu
    · cases hu
    · split at hu
      · cases hu
      · obtain rfl := Except.ok.inj hu; exact h.writePset.setResources
  · split at hu
    · cases hu
    · obtain rfl := Except.ok.inj hu; exact .dirRun (h.writePset.onPtn.each fun _ hu _ => hu.admitOnly)
  · split at hu
    · cases hu
    · obtain rfl := Except.ok.inj hu; exact h.writePset.onPtn.reverify
  · obtain rfl := Except.ok.inj hu; exact h.writePset
  · obtain rfl := Except.ok.inj hu; exact .ite h.writePset.onSec.onBoard h.writePset.onSec
  · obtain rfl := Except.ok.inj hu; exact h.writePset
  · split at hu
    · split at hu
      · cases hu
      · obtain rfl := Except.ok.inj hu; exact h.writePset.update rfl
    · split at hu
      · cases hu
      · obtain rfl := Except.ok.inj hu; exact h.writePset.update rfl
  · obtain rfl := Except.ok.inj hu; exact h.writePset.meterParam
  · split at hu
    · cases hu
    · obtain rfl := Except.ok.inj hu; exact h.writePset.setReg
theorem Kept.expire (h : Kept false s t) {id : Nat} : Kept false s (t.expire id) := by
  unfold State.expire; dsimp only; split
  · exact .ite h (.ite h.onSec.complete h.onSec)
  · exact h
theorem KeptBy.execAgreementWindowExpiry (h : Kept false s t) {id : BitVec 32} :
    KeptBy s (execAgreementWindowExpiry id t) := by
  unfold Machine.execAgreementWindowExpiry; exact .next h.expire
theorem Kept.commitChange (h : Kept false s t) {c : Change} : Kept false s (t.commitChange c).1 := by
  unfold State.commitChange; dsimp only; split
  · exact h.onSec.complete
  · dsimp only; exact h.onSec
  · have ha := h.onSec.applyChange ‹_›
    exact .complete (.ite ha.onSec.endChanges ha.onSec)
theorem Kept.cmdSecInfo (h : Kept false s t) {m : Nat} {body : List Byte} : Kept false s (cmdSecInfo m body t).1 := by
  unfold Machine.cmdSecInfo; dsimp only; exact h
theorem Kept.cmdSecAttest (h : Kept false s t) {m : Nat} {body : List Byte} : Kept false s (cmdSecAttest m body t).1 := by
  unfold Machine.cmdSecAttest; split
  · exact h
  · split
    · exact h.signed_ok ‹_›
    · exact h.signed_error ‹_›
theorem Kept.cmdSecPropose (h : Kept false s t) {m : Nat} {body : List Byte} : Kept false s (cmdSecPropose m body t).1 := by
  unfold Machine.cmdSecPropose; dsimp only; split
  · dsimp only
    exact h.each fun _ hu _ => hu.expire
  · split
    · dsimp only
      exact h.each fun _ hu _ => hu.expire
    · split
      · dsimp only
        exact h.each fun _ hu _ => hu.expire
      · dsimp only
        exact .onSec (h.each fun _ hu _ => hu.expire)
theorem Kept.badSignature (h : Kept false s t) : Kept false s t.badSignature.1 := by
  unfold State.badSignature; exact h.bump
theorem Kept.cmdSecSign (h : Kept false s t) {m : Nat} {body : List Byte} : Kept false s (cmdSecSign m body t).1 := by
  unfold Machine.cmdSecSign; dsimp only; split
  · exact h
  · split
    · exact h
    · split
      · exact h.badSignature
      · split
        · dsimp only
          exact h.onSec
        · split
          · exact h
          · split
            · exact h
            · split
              · exact h
              · exact h.commitChange
theorem Kept.cmdSecWithdraw (h : Kept false s t) {m : Nat} {body : List Byte} : Kept false s (cmdSecWithdraw m body t).1 := by
  unfold Machine.cmdSecWithdraw; dsimp only; split
  · exact h
  · split
    · exact h
    · split
      · exact h.badSignature
      · dsimp only
        exact .ite h.onSec.complete h.onSec
theorem Kept.cmdSecPendingRead (h : Kept false s t) {m : Nat} {body : List Byte} :
    Kept false s (cmdSecPendingRead m body t).1 := by
  unfold Machine.cmdSecPendingRead; dsimp only; exact h
theorem Kept.cmdSecCertRead (h : Kept false s t) {m : Nat} {body : List Byte} : Kept false s (cmdSecCertRead m body t).1 := by
  unfold Machine.cmdSecCertRead; exact h.certRead

/-! ### Lookout -/

theorem KeptBy.execLookoutSample (h : Kept false s t) : KeptBy s (execLookoutSample t) := by
  unfold Machine.execLookoutSample; exact .ite (.next h) (.next (.onLk (h.each fun _ hu _ => hu.setReg)))
theorem Kept.sleep (h : Kept false s t) {r : Nat} : Kept false s (t.sleep r) := by
  unfold State.sleep; exact .ite h.stopClock (.ite (.onStack (h.each fun _ hu _ => hu.onChan)) (.ite h.askLpi
      h.onFch))
theorem KeptBy.execLookoutDecision (h : Kept false s t) : KeptBy s (execLookoutDecision t) := by
  unfold Machine.execLookoutDecision; exact .ite (.next h) (.next (h.onLk.each fun _ hu _ => .ite (.ite hu.onLk.bump
      hu) (.ite hu.sleep hu)))
theorem KeptBy.execResourceWakeDone (h : Kept false s t) {r : Fin 94} : KeptBy s (execResourceWakeDone r t) := by
  unfold Machine.execResourceWakeDone; dsimp only; split
  · exact .next h
  · exact .ite (.next h) (.ite (.next h.onLk.lpExit) (.ite (.next h.onLk.onLk.onClu) (.ite (.next
        h.onLk.onLk.leaveSelfRefresh) (.next h.onLk.onLk.onFch))))
theorem Kept.trip (h : Kept false s t) : Kept false s t.trip := by
  unfold State.trip; exact .each (.setReg (.onLk (h.each fun _ hu _ => hu.setReg))) fun _ hu _ => hu.faultInv
theorem KeptBy.execSensorRead (h : Kept false s t) {temps : List (BitVec 8)} : KeptBy s (execSensorRead temps t) := by
  unfold Machine.execSensorRead; exact .ite (.next h) (.next (.ite (.trip (.onLk (h.each fun _ hu _ =>
      hu.onLk.setReg))) (.onLk (h.each fun _ hu _ => hu.onLk.setReg))))
theorem KeptBy.execThrottleEval (h : Kept false s t) : KeptBy s (execThrottleEval t) := by
  unfold Machine.execThrottleEval; exact .ite (.next h) (.ite (.next h.onLk) (.next (h.onLk.each fun _ hu _ => .ite
      hu.setReg (.ite hu.setReg hu))))
theorem KeptBy.execTripRelease (h : Kept false s t) : KeptBy s (execTripRelease t) := by
  unfold Machine.execTripRelease; exact .next (.ite h.onLk h)
theorem KeptBy.execTelemetryRead (h : Kept false s t) {vals : List (Option (BitVec 16))} :
    KeptBy s (execTelemetryRead vals t) := by
  unfold Machine.execTelemetryRead; dsimp only
  refine .ite (.next h) (.next (h.onLk.each fun _ hu _ => .ite hu ?_))
  split
  · exact .ite hu.onLk.setReg hu.onLk
  · exact hu.setReg
theorem KeptBy.execDormantDrainExpiry (h : Kept false s t) : KeptBy s (execDormantDrainExpiry t) := by
  unfold Machine.execDormantDrainExpiry; dsimp only; split
  · exact .next h
  · exact .ite (.next h) (.next (.onBoard (.onLk (.each (.complete (h.each fun _ hu _ => hu.writeEnable)) fun _ hu _
        => hu.deliver))))
theorem Kept.cmdPwrState (h : Kept false s t) {m : Nat} {body : List Byte} : Kept false s (cmdPwrState m body t).1 := by
  unfold Machine.cmdPwrState; dsimp only; split
  · exact h
  · split
    · split
      · exact h
      · dsimp only
        exact .onLk (.complete (.ite h.putFreeze h))
    · split
      · split
        · exact h
        · dsimp only
          exact h.onLk.dormantRun
      · dsimp only
        exact h.onLk
theorem Kept.cmdLkInfo (h : Kept false s t) {m : Nat} {body : List Byte} : Kept false s (cmdLkInfo m body t).1 := by
  unfold Machine.cmdLkInfo; dsimp only; exact h
theorem Kept.cmdLkTelemCfg (h : Kept false s t) {m : Nat} {body : List Byte} : Kept false s (cmdLkTelemCfg m body t).1 := by
  unfold Machine.cmdLkTelemCfg; dsimp only; split
  · exact h
  · dsimp only
    exact h.onLk
theorem Kept.cmdLkTelemRead (h : Kept false s t) {m : Nat} {body : List Byte} : Kept false s (cmdLkTelemRead m body t).1 := by
  unfold Machine.cmdLkTelemRead; dsimp only; exact h

/-! ### Expert registers -/

theorem Kept.plainWrite (h : Kept false s t) {w : WordWrite} : Kept false s (t.plainWrite w) := by
  unfold State.plainWrite; dsimp only
  refine h.each fun _ hu _ => ?_
  split
  · exact hu.setReg
  · exact hu.setReg
  · exact hu.setReg
  · exact hu
theorem Kept.writeArb (h : Kept false s t) {m : Nat} {w : WordWrite} : Kept false s (t.writeArb m w).1 := by
  unfold State.writeArb; dsimp only; split
  · split
    · exact h
    · dsimp only
      exact h.update rfl
  · split
    · split
      · exact h
      · dsimp only
        exact h.onArb
    · split
      · dsimp only
        exact h.onArb
      · dsimp only
        exact h.plainWrite
theorem Kept.writeLink (h : Kept false s t) {i : Nat} {w : WordWrite} : Kept false s (t.writeLink i w).1 := by
  unfold State.writeLink; split
  · exact h.writeGlCtrl
  · split
    · dsimp only
      exact h.setReg.rerouteAll
    · split
      · dsimp only
        exact h.plainWrite
      · exact h
    · exact h.dirWrite
    · exact h.writeFreeze
    · dsimp only
      exact h.plainWrite
/-- Both pairs of a choice keep their states, so the chosen one does. -/
theorem Kept.ite_fst {α : Type} {c : Prop} [Decidable c] {p q : State × α} (h : Kept false s p.1) (h' : Kept false s q.1) :
    Kept false s (if c then p else q).1 := by
  split
  · exact h
  · exact h'
theorem Kept.writeSch (h : Kept false s t) {i : Nat} {w : WordWrite} : Kept false s (t.writeSch i w).1 := by
  unfold State.writeSch
  extract_lets has v clear s₁ s₂ s₃
  have h₂ : Kept false s s₂ := .ite h.plainWrite.clearBucket h.plainWrite
  have h₃ : Kept false s s₃ := .ite h₂.clearBucket h₂
  exact .ite_fst h.writePolicer (.ite_fst h.writeShaper (.ite_fst h.writeShaper (.ite_fst h.writeShaper (.ite_fst
    h.writeGuard (.ite_fst (.ite_fst h.plainWrite h) (.ite_fst (.ite_fst h.plainWrite h) (.ite_fst h.writeHistSel
    (.ite h₃.clearBucket h₃))))))))
theorem Kept.writeBound (h : Kept false s t) {i : Nat} {w : WordWrite} : Kept false s (t.writeBound i w).1 := by
  unfold State.writeBound; dsimp only; split
  · exact h
  · split
    · exact h
    · split
      · exact h
      · split
        · exact h
        · dsimp only
          exact h.plainWrite
theorem Kept.writeTile (h : Kept false s t) {i : Nat} {w : WordWrite} : Kept false s (t.writeTile i w).1 := by
  unfold State.writeTile; dsimp only; exact .ite (.ite h h.onTile) (.onClu (.ite h h.onTile))
theorem Kept.writeChk (h : Kept false s t) {i : Nat} {w : WordWrite} : Kept false s (t.writeChk i w).1 := by
  unfold State.writeChk; dsimp only; exact h.onChk.elim fun _ => h.onChk.aliveIn
theorem KeptBy.execChkInit (h : Kept false s t) {i : Chk} : KeptBy s (execChkInit i t) := by
  unfold Machine.execChkInit; exact .next h.onChk
theorem KeptBy.execChkAliveClr (h : Kept false s t) {i : Chk} : KeptBy s (execChkAliveClr i t) := by
  unfold Machine.execChkAliveClr; exact .next h.onChk
theorem KeptBy.execChkData8 (h : Kept false s t) {i : Chk} {v : BitVec 8} : KeptBy s (execChkData8 i v t) := by
  unfold Machine.execChkData8; exact .next h.onChk
theorem KeptBy.execChkData16 (h : Kept false s t) {i : Chk} {v : BitVec 16} : KeptBy s (execChkData16 i v t) := by
  unfold Machine.execChkData16; exact .next h.onChk
theorem KeptBy.execChkData32 (h : Kept false s t) {i : Chk} {v : BitVec 32} : KeptBy s (execChkData32 i v t) := by
  unfold Machine.execChkData32; exact .next h.onChk
theorem KeptBy.execChkValueWrite (h : Kept false s t) {i : Chk} {v : BitVec 32} : KeptBy s (execChkValueWrite i v t) := by
  unfold Machine.execChkValueWrite; exact .next h.onChk
theorem KeptBy.execChkAliveIn (h : Kept false s t) {i : Chk} {v : BitVec 16} : KeptBy s (execChkAliveIn i v t) := by
  unfold Machine.execChkAliveIn; exact .next h.aliveIn
theorem Kept.cmdExpRead (h : Kept false s t) {m : Nat} {body : List Byte} : Kept false s (cmdExpRead m body t).1 := by
  unfold Machine.cmdExpRead; dsimp only; split
  · exact h
  · split
    · exact h
    · exact h
theorem Kept.writeWord (h : Kept false s t) {m : Nat} {w : WordWrite} : Kept false s (t.writeWord m w).1 := by
  unfold State.writeWord; split
  · exact h
  · split
    · exact h.writeArb
    · exact h.writeLink
    · exact h.writeLink
    · exact h.writeSch
    · exact h.writeSch
    · exact h.writeBound
    · exact h.writeBound
    · exact h.writeBound
    · exact h.writeTile
    · exact h.writeChk
    · dsimp only
      exact h.plainWrite
theorem Kept.cmdExpWrite (h : Kept false s t) {m : Nat} {body : List Byte} : Kept false s (cmdExpWrite m body t).1 := by
  unfold Machine.cmdExpWrite; dsimp only; split
  · exact h
  · split
    · exact h
    · split
      · exact h
      · split
        · exact h
        · exact h.writeWord

/-! ### Resets -/

theorem Kept.durable (h : Kept false s t) : Kept false s t.durable :=
  ⟨h.pending, h.now, fun _ => rfl, fun h => nomatch h⟩
theorem Kept.powerOn (h : Kept false s t) : Kept false s t.powerOn := by
  unfold State.powerOn; exact h.durable.onSec.onBoard.each fun _ hu _ => hu.draw.setReg
theorem Kept.unlockStep (h : Kept false s t) : Kept false s t.unlockStep := by
  unfold State.unlockStep; exact .ite h.onSec.seal (.ite h.onSec h)
theorem Kept.warm (h : Kept false s t) : Kept false s t.warm := by
  unfold State.warm; exact .unlockStep (.each (.onBoard (h.durable.update rfl)) fun _ hu _ => hu.setReg)
theorem Kept.transitKeep (h : Kept false s t) : Kept false s t.transitKeep := by
  unfold State.transitKeep; exact .onBoard (.onMem (h.durable.update rfl) rfl)
theorem KeptBy.execPorstN (h : Kept false s t) {low : Bool} {strap : BitVec 16} : KeptBy s (execPorstN low strap t) := by
  unfold Machine.execPorstN; exact .ite (.next h.powerOn.onBoard) (.ite (.next h.onBoard) (.next h))
theorem KeptBy.execWarmN (h : Kept false s t) {low : Bool} : KeptBy s (execWarmN low t) := by
  unfold Machine.execWarmN; exact .ite (.ite (.next h.warm.onBoard) (.next h)) (.ite (.next h.onBoard) (.next h))
theorem KeptBy.execPorstVN (h : Kept false s t) {low : Bool} : KeptBy s (execPorstVN low t) := by
  unfold Machine.execPorstVN; exact .ite (.next h.meterReset.onBoard) (.ite (.next h.onBoard.onMtr) (.next h))
theorem KeptBy.execResetStart (h : Kept false s t) : KeptBy s (execResetStart t) := by
  unfold Machine.execResetStart; split
  · exact .ite (.next (.ite h.transitKeep h.warm)) (.next h)
  · exact .next h
theorem KeptBy.execWakeN (h : Kept false s t) : KeptBy s (execWakeN t) := by
  unfold Machine.execWakeN; exact .next (.ite h.onLk h)
theorem KeptBy.execRailWaitExpiry (h : Kept false s t) : KeptBy s (execRailWaitExpiry t) := by
  unfold Machine.execRailWaitExpiry; split
  · exact .next (.ite h.warm h)
  · exact .next h
theorem KeptBy.execDebugUnlockExpiry (h : Kept false s t) : KeptBy s (execDebugUnlockExpiry t) := by
  unfold Machine.execDebugUnlockExpiry; exact .next (.ite h.warm h)
theorem KeptBy.execPowerLoss (h : Kept false s t) : KeptBy s (execPowerLoss t) := by
  unfold Machine.execPowerLoss; exact .next h.powerOn.meterReset.onBoard
theorem KeptBy.execRefclkLoss (h : Kept false s t) {which : Fin 6} : KeptBy s (execRefclkLoss which t) := by
  unfold Machine.execRefclkLoss; dsimp only; split
  · exact .next h.powerOn.onBoard.onBoard
  · exact .next (.onBoard (h.update rfl))
  · exact .next (.onBoard (h.update rfl))
  · exact .next h.meterReset.onMtr
  · exact .next (.onBoard (h.each fun _ hu _ => hu.discardHeld.onLink))
theorem Kept.runImage (h : Kept false s t) {stage slot : Nat} : Kept false s (t.runImage stage slot) := by
  unfold State.runImage; exact h.update rfl
theorem Kept.restorePtns (h : Kept false s t) : Kept false s t.restorePtns := by
  unfold State.restorePtns; exact h.each fun _ hu _ => hu.onPtn
theorem Kept.substitute (h : Kept false s t) {e : WearEnt} : Kept false s (t.substitute e) := by
  unfold State.substitute; dsimp only; split
  · exact h.onClu
  · exact .ite h h.onLink
  · exact h.update rfl
  · exact h.onClu
  · exact h
theorem Kept.openRecords (h : Kept false s t) : Kept false s t.openRecords := by
  unfold State.openRecords; exact .ite (.ite (.each (.ite h.onBoard.restorePtns h.onBoard) fun _ hu _ =>
      hu.substitute) (.finding (.ite h.onBoard.restorePtns h.onBoard))) (.each (.ite (.each (.ite
      h.onBoard.restorePtns h.onBoard) fun _ hu _ => hu.substitute) (.finding (.ite h.onBoard.restorePtns
      h.onBoard))) fun _ hu _ => hu.linkTrain)
theorem KeptBy.execStage1Verified (h : Kept false s t) {selfTest : Bool} : KeptBy s (execStage1Verified selfTest t) := by
  unfold Machine.execStage1Verified; dsimp only
  refine .ite (.next h) (.ite (.next h.onBoard) ?_)
  split
  · exact .next h.onBoard
  · exact .next (.ite h.runImage.onBoard.openRecords h.runImage.onBoard)
theorem KeptBy.execMainFirmwareVerified (h : Kept false s t) : KeptBy s (execMainFirmwareVerified t) := by
  unfold Machine.execMainFirmwareVerified; dsimp only
  refine .ite (.next h) (.ite (.next (.ite h.openRecords h)) ?_)
  split
  · exact .next (.advance (.onBoard (.runImage (.ite h.openRecords h))))
  · exact .next (.onBoard (.ite h.openRecords h))
theorem KeptBy.execFlashBusTrainingDone (h : Kept false s t) {m : MDie} {present : List (BitVec 8)} {rejected : List
    (BitVec 32)} {groups kitty : List (BitVec 16)} : KeptBy s (execFlashBusTrainingDone m present rejected groups
    kitty t) := by
  unfold Machine.execFlashBusTrainingDone; exact .ite (.next h) (.next (.advance (.onBoard (.onFdie (h.each fun _ hu
      _ => hu.onFch.each fun _ hu' _ => .ite hu' hu'.wearOut)))))
theorem KeptBy.execVddcVidStep (h : Kept false s t) : KeptBy s (execVddcVidStep t) := by
  unfold Machine.execVddcVidStep; exact .ite (.next h) (.next h.onBoard)
theorem KeptBy.execMbxReady (h : Kept false s t) : KeptBy s (execMbxReady t) := by
  unfold Machine.execMbxReady; exact .ite (.next h) (.next (.each (.update (.onRt (.ite h.onBoard.onSec h.onBoard))
      rfl) fun _ hu _ => hu.onBox))
theorem KeptBy.execCoreFailure (h : Kept false s t) {c : Core} : KeptBy s (execCoreFailure c t) := by
  unfold Machine.execCoreFailure; dsimp only
  refine .ite (.next h) (.ite (.next (h.update rfl)) ?_)
  split
  · exact .ite (.next (.finding (h.update rfl))) (.next (h.update rfl))
  · exact .next (.finding (h.update rfl))
theorem KeptBy.execWatchdog (h : Kept false s t) {duty : BitVec 16} : KeptBy s (execWatchdog duty t) := by
  unfold Machine.execWatchdog; exact .next h.finding
theorem KeptBy.execWearRecordCommit (h : Kept false s t) : KeptBy s (execWearRecordCommit t) := by
  unfold Machine.execWearRecordCommit; exact .ite (.next h) (.next (.each (.each (h.update rfl) fun _ hu _ =>
      hu.errLog) fun _ hu _ => hu.complete))
theorem KeptBy.execDbgAccess (h : Kept false s t) : KeptBy s (execDbgAccess t) := by
  unfold Machine.execDbgAccess; exact .next (.ite h.onBoard h)
theorem KeptBy.execFirmwareImageWritten (h : Kept false s t) : KeptBy s (execFirmwareImageWritten t) := by
  unfold Machine.execFirmwareImageWritten; dsimp only; split
  · exact .next h
  · split
    · exact .next h.onBoard.complete
    · exact .next (.complete (.ite h.onBoard.onMtr (h.onBoard.update rfl)))

/-! ### Command rows and frames -/

theorem Kept.cmdDevInfo (h : Kept false s t) {m : Nat} {body : List Byte} : Kept false s (cmdDevInfo m body t).1 := by
  unfold Machine.cmdDevInfo; dsimp only; exact h
theorem Kept.cmdDevReset (h : Kept false s t) {m : Nat} {body : List Byte} : Kept false s (cmdDevReset m body t).1 := by
  unfold Machine.cmdDevReset; dsimp only; split
  · exact h
  · split
    · split
      · dsimp only
        exact h.onBoard
      · exact h
    · split
      · exact h
      · dsimp only
        exact h.onBoard
theorem Kept.cmdDevFwUpdate (h : Kept false s t) {m : Nat} {body : List Byte} : Kept false s (cmdDevFwUpdate m body t).1 := by
  unfold Machine.cmdDevFwUpdate; dsimp only; split
  · exact h
  · split
    · exact h
    · dsimp only
      exact h.onBoard
theorem Kept.cmdFlInfo (h : Kept false s t) {m : Nat} {body : List Byte} : Kept false s (cmdFlInfo m body t).1 := by
  unfold Machine.cmdFlInfo; dsimp only; split
  · exact h
  · dsimp only
    exact h.draw.draw
theorem Kept.cmdIntRemap (h : Kept false s t) {m : Nat} {body : List Byte} : Kept false s (cmdIntRemap m body t).1 := by
  unfold Machine.cmdIntRemap; dsimp only; split
  · exact h
  · split
    · exact h
    · split
      · dsimp only
        exact h.startRemap ‹_›
      · dsimp only
        exact h.remapRefused
theorem Kept.cmdIntScrub (h : Kept false s t) {m : Nat} {body : List Byte} : Kept false s (cmdIntScrub m body t).1 := by
  unfold Machine.cmdIntScrub; dsimp only; split
  · exact h
  · split
    · exact h
    · split
      · exact h
      · split
        · exact h
        · split
          · exact h
          · dsimp only
            exact h.onMem rfl
theorem Kept.cmdIntScrubLast (h : Kept false s t) {m : Nat} {body : List Byte} : Kept false s (cmdIntScrubLast m body t).1 := by
  unfold Machine.cmdIntScrubLast; dsimp only; split
  · exact h
  · split
    · exact h
    · exact h
theorem Kept.cmdIntLogRead (h : Kept false s t) {m : Nat} {body : List Byte} : Kept false s (cmdIntLogRead m body t).1 := by
  unfold Machine.cmdIntLogRead; dsimp only; split
  · exact h
  · dsimp only
    exact h.onMem rfl
theorem rowLow_keeps {op : Nat} {r : CmdRow} (e : rowLow op = some r) : r.cmd.Keeps := by
  unfold rowLow at e
  split at e
  · obtain rfl := Option.some.inj e; exact Kept.cmdDevInfo
  · obtain rfl := Option.some.inj e; exact Kept.cmdDevReset
  · obtain rfl := Option.some.inj e; exact Kept.cmdDevFwUpdate
  · obtain rfl := Option.some.inj e; exact Kept.cmdDevHostDead
  · obtain rfl := Option.some.inj e; exact Kept.cmdDevPortReset
  · obtain rfl := Option.some.inj e; exact Kept.cmdDevClusterReset
  · obtain rfl := Option.some.inj e; exact Kept.cmdPtnInfo
  · obtain rfl := Option.some.inj e; exact Kept.cmdPtnReset
  · obtain rfl := Option.some.inj e; exact Kept.cmdPtnFault
  · obtain rfl := Option.some.inj e; exact Kept.cmdExtCreate
  · obtain rfl := Option.some.inj e; exact Kept.cmdExtInfo
  · obtain rfl := Option.some.inj e; exact Kept.cmdExtSetPolicy
  · obtain rfl := Option.some.inj e; exact Kept.cmdExtSetAcl
  · obtain rfl := Option.some.inj e; exact Kept.cmdExtSetDrain
  · obtain rfl := Option.some.inj e; exact Kept.cmdExtRevoke
  · obtain rfl := Option.some.inj e; exact Kept.cmdExtZero
  · obtain rfl := Option.some.inj e; exact Kept.cmdExtInitDone
  · obtain rfl := Option.some.inj e; exact Kept.cmdExtDirRead
  · obtain rfl := Option.some.inj e; exact Kept.cmdKrnLoad
  · obtain rfl := Option.some.inj e; exact Kept.cmdKrnUnload
  · obtain rfl := Option.some.inj e; exact Kept.cmdMdlLoad
  · obtain rfl := Option.some.inj e; exact Kept.cmdMdlUnload
  · obtain rfl := Option.some.inj e; exact Kept.cmdMdlPlace
  · obtain rfl := Option.some.inj e; exact Kept.cmdDealConfig
  · cases e
theorem rowMid_keeps {op : Nat} {r : CmdRow} (e : rowMid op = some r) : r.cmd.Keeps := by
  unfold rowMid at e
  split at e
  · obtain rfl := Option.some.inj e; exact Kept.cmdRtIdent
  · obtain rfl := Option.some.inj e; exact Kept.cmdRtPort
  · obtain rfl := Option.some.inj e; exact Kept.cmdRtTblWrite
  · obtain rfl := Option.some.inj e; exact Kept.cmdRtTblRead
  · obtain rfl := Option.some.inj e; exact Kept.cmdRtTblClear
  · obtain rfl := Option.some.inj e; exact Kept.cmdRtDirWrite
  · obtain rfl := Option.some.inj e; exact Kept.cmdRtSwap
  · obtain rfl := Option.some.inj e; exact Kept.cmdRtCounters
  · obtain rfl := Option.some.inj e; exact Kept.cmdSchGroupWrite
  · obtain rfl := Option.some.inj e; exact Kept.cmdSchSlotWrite
  · obtain rfl := Option.some.inj e; exact Kept.cmdFlInfo
  · obtain rfl := Option.some.inj e; exact Kept.cmdIntRemap
  · obtain rfl := Option.some.inj e; exact Kept.cmdIntScrub
  · obtain rfl := Option.some.inj e; exact Kept.cmdIntScrubLast
  · obtain rfl := Option.some.inj e; exact Kept.cmdIntLogRead
  · obtain rfl := Option.some.inj e; exact Kept.cmdPrtInfo
  · obtain rfl := Option.some.inj e; exact Kept.cmdPrtDiagRead
  · obtain rfl := Option.some.inj e; exact Kept.cmdPrtWearRead
  · obtain rfl := Option.some.inj e; exact Kept.cmdPrtSpareTest
  · cases e
theorem rowHigh_keeps {op : Nat} {r : CmdRow} (e : rowHigh op = some r) : r.cmd.Keeps := by
  unfold rowHigh at e
  split at e
  · obtain rfl := Option.some.inj e; exact Kept.cmdSecInfo
  · obtain rfl := Option.some.inj e; exact Kept.cmdSecAttest
  · obtain rfl := Option.some.inj e; exact Kept.cmdSecPropose
  · obtain rfl := Option.some.inj e; exact Kept.cmdSecSign
  · obtain rfl := Option.some.inj e; exact Kept.cmdSecWithdraw
  · obtain rfl := Option.some.inj e; exact Kept.cmdSecPendingRead
  · obtain rfl := Option.some.inj e; exact Kept.cmdSecCertRead
  · obtain rfl := Option.some.inj e; exact Kept.cmdMtrInfo
  · obtain rfl := Option.some.inj e; exact Kept.cmdMtrReport
  · obtain rfl := Option.some.inj e; exact Kept.cmdMtrEvents
  · obtain rfl := Option.some.inj e; exact Kept.cmdMtrCertRead
  · obtain rfl := Option.some.inj e; exact Kept.cmdLkInfo
  · obtain rfl := Option.some.inj e; exact Kept.cmdPwrState
  · obtain rfl := Option.some.inj e; exact Kept.cmdLkTelemCfg
  · obtain rfl := Option.some.inj e; exact Kept.cmdLkTelemRead
  · obtain rfl := Option.some.inj e; exact Kept.cmdExpRead
  · obtain rfl := Option.some.inj e; exact Kept.cmdExpWrite
  · cases e
theorem cmdRow_keeps {op : Nat} {r : CmdRow} (e : cmdRow op = some r) : r.cmd.Keeps := by
  unfold cmdRow at e
  split at e
  · exact rowLow_keeps e
  · split at e
    · exact rowMid_keeps e
    · exact rowHigh_keeps e
theorem Kept.execute (h : Kept false s t) {r : CmdRow} (hr : r.cmd.Keeps) {m op alive reqId : Nat} {body : List Byte} :
    Kept false s (t.execute m op alive reqId r body) := by
  unfold State.execute; dsimp only
  refine .clusterResets (.settleAll ?_)
  split
  · exact (hr h).putResp
  · exact .ite h.putResp (hr h).draw.onBox.putResp
  · exact (hr h).onBoard
theorem Kept.runFrame (h : Kept false s t) {m : Nat} : Kept false s (t.runFrame m) := by
  unfold State.runFrame; dsimp only
  have hc (i : Nat) (l : List Byte) (n : Nat) : Kept false s ((t.chkFrame i l).checkAlive m n).1 := h.chkFrame.checkAlive
  refine .ite h.putResp (.ite h.chkFrame.onChk.putResp (.ite (hc _ _ _).putResp ?_))
  split
  · exact (hc _ _ _).putResp
  · exact .ite (hc _ _ _).putResp (.ite (hc _ _ _).putResp (.ite (hc _ _ _).draw.putResp
      ((hc _ _ _).execute (cmdRow_keeps ‹_›))))
theorem Kept.takeBox (h : Kept false s t) {m : Nat} : Kept false s (t.takeBox m) := by
  unfold State.takeBox; exact .ite h.onBox.runFrame h
theorem Kept.vaultRetry (h : Kept false s t) : Kept false s t.vaultRetry := by
  unfold State.vaultRetry; dsimp only; split
  · exact h
  · refine .ite h ?_
    split
    · exact h.onBoard.execute (cmdRow_keeps ‹_›)
    · exact h.onBoard
theorem KeptBy.execMailboxPoll (h : Kept false s t) : KeptBy s (execMailboxPoll t) := by
  unfold Machine.execMailboxPoll; exact .ite (.next h) (.next (.each (.each (.vaultRetry (h.update rfl)) fun _ hu _
      => hu.takeBox) fun _ hu _ => hu.deliver))
theorem Kept.vaultGone (h : Kept false s t) : Kept false s t.vaultGone := by
  unfold State.vaultGone; exact h.onBoard.each fun _ hu _ => hu.putResp
theorem KeptBy.execVaultWaitExpiry (h : Kept false s t) : KeptBy s (execVaultWaitExpiry t) := by
  unfold Machine.execVaultWaitExpiry
  refine .ite (.next (.ite (h.onBoard.each fun _ hu _ => hu.linkTrain) h)) ?_
  split
  · exact .next (.ite h.vaultGone h)
  · exact .next h
theorem KeptBy.execDutyMoveComplete (h : Kept false s t) : KeptBy s (execDutyMoveComplete t) := by
  unfold Machine.execDutyMoveComplete; dsimp only; split
  · exact .next h
  · exact .next (.ite (.vaultGone (.finding (.wearOut (h.update rfl)))) (.finding (.wearOut (h.update rfl))))
theorem Kept.mail (h : Kept false s t) {hd : MbxHdr} {op : Nat} {body : List Byte} : Kept false s (t.mail hd op body) := by
  unfold State.mail; exact h.writeReq.writeOwn.takeBox
theorem Kept.expWr (h : Kept false s t) {hd : MbxHdr} {addr mask value : Nat} : Kept false s (t.expWr hd addr mask value) := by
  unfold State.expWr; exact h.mail

/-! ### Rows of the mailbox commands -/

theorem KeptBy.execDevInfo (h : Kept false s t) {hd : MbxHdr} : KeptBy s (execDevInfo hd t) := by
  unfold Machine.execDevInfo; exact .next h.mail
theorem KeptBy.execDevReset (h : Kept false s t) {hd : MbxHdr} {kind : BitVec 8} : KeptBy s (execDevReset hd kind t) := by
  unfold Machine.execDevReset; exact .next h.mail
theorem KeptBy.execDevFwUpdate (h : Kept false s t) {hd : MbxHdr} {stage : FwStage} {len : BitVec 32} :
    KeptBy s (execDevFwUpdate hd stage len t) := by
  unfold Machine.execDevFwUpdate; exact .next h.writeBar2.mail
theorem KeptBy.execDevHostDead (h : Kept false s t) {hd : MbxHdr} {ep : BitVec 16} {action : BitVec 8} :
    KeptBy s (execDevHostDead hd ep action t) := by
  unfold Machine.execDevHostDead; exact .next h.mail
theorem KeptBy.execDevPortReset (h : Kept false s t) {hd : MbxHdr} {port : BitVec 8} :
    KeptBy s (execDevPortReset hd port t) := by
  unfold Machine.execDevPortReset; exact .next h.mail
theorem KeptBy.execDevClusterReset (h : Kept false s t) {hd : MbxHdr} {cluster : BitVec 8} :
    KeptBy s (execDevClusterReset hd cluster t) := by
  unfold Machine.execDevClusterReset; exact .next h.mail
theorem KeptBy.execPtnInfo (h : Kept false s t) {hd : MbxHdr} {ptn : BitVec 8} : KeptBy s (execPtnInfo hd ptn t) := by
  unfold Machine.execPtnInfo; exact .next h.mail
theorem KeptBy.execPtnReset (h : Kept false s t) {hd : MbxHdr} {ptn : BitVec 8} : KeptBy s (execPtnReset hd ptn t) := by
  unfold Machine.execPtnReset; exact .next h.mail
theorem KeptBy.execPtnFault (h : Kept false s t) {hd : MbxHdr} {ptn : BitVec 8} : KeptBy s (execPtnFault hd ptn t) := by
  unfold Machine.execPtnFault; exact .next h.mail
theorem KeptBy.execExtCreate (h : Kept false s t) {hd : MbxHdr} {ptn kind policy mirrored : BitVec 8} {length : BitVec 64}
    {entries : List AclArg} : KeptBy s (execExtCreate hd ptn kind policy mirrored length entries t) := by
  unfold Machine.execExtCreate; exact .next h.mail
theorem KeptBy.execExtInfo (h : Kept false s t) {hd : MbxHdr} {handle : BitVec 32} :
    KeptBy s (execExtInfo hd handle t) := by
  unfold Machine.execExtInfo; exact .next h.mail
theorem KeptBy.execExtSetPolicy (h : Kept false s t) {hd : MbxHdr} {handle : BitVec 32} {policy : BitVec 8} :
    KeptBy s (execExtSetPolicy hd handle policy t) := by
  unfold Machine.execExtSetPolicy; exact .next h.mail
theorem KeptBy.execExtSetAcl (h : Kept false s t) {hd : MbxHdr} {handle : BitVec 32} {entries : List AclArg} :
    KeptBy s (execExtSetAcl hd handle entries t) := by
  unfold Machine.execExtSetAcl; exact .next h.mail
theorem KeptBy.execExtSetDrain (h : Kept false s t) {hd : MbxHdr} {handle drainMs : BitVec 32} :
    KeptBy s (execExtSetDrain hd handle drainMs t) := by
  unfold Machine.execExtSetDrain; exact .next h.mail
theorem KeptBy.execExtRevoke (h : Kept false s t) {hd : MbxHdr} {handle : BitVec 32} :
    KeptBy s (execExtRevoke hd handle t) := by
  unfold Machine.execExtRevoke; exact .next h.mail
theorem KeptBy.execExtZero (h : Kept false s t) {hd : MbxHdr} {handle : BitVec 32} :
    KeptBy s (execExtZero hd handle t) := by
  unfold Machine.execExtZero; exact .next h.mail
theorem KeptBy.execExtInitDone (h : Kept false s t) {hd : MbxHdr} {handle : BitVec 32} :
    KeptBy s (execExtInitDone hd handle t) := by
  unfold Machine.execExtInitDone; exact .next h.mail
theorem KeptBy.execExtDirRead (h : Kept false s t) {hd : MbxHdr} {handle : BitVec 32} {offset : BitVec 64} :
    KeptBy s (execExtDirRead hd handle offset t) := by
  unfold Machine.execExtDirRead; exact .next h.mail
theorem KeptBy.execKrnLoad (h : Kept false s t) {hd : MbxHdr} {ptn : BitVec 8} {ext : BitVec 32} {offset : BitVec 64}
    {len : BitVec 32} : KeptBy s (execKrnLoad hd ptn ext offset len t) := by
  unfold Machine.execKrnLoad; exact .next h.mail
theorem KeptBy.execKrnUnload (h : Kept false s t) {hd : MbxHdr} {ptn : BitVec 8} {handle : BitVec 16} :
    KeptBy s (execKrnUnload hd ptn handle t) := by
  unfold Machine.execKrnUnload; exact .next h.mail
theorem KeptBy.execMdlLoad (h : Kept false s t) {hd : MbxHdr} {ptn : BitVec 8} {ext : BitVec 32}
    {offset len : BitVec 64} : KeptBy s (execMdlLoad hd ptn ext offset len t) := by
  unfold Machine.execMdlLoad; exact .next h.mail
theorem KeptBy.execMdlUnload (h : Kept false s t) {hd : MbxHdr} {ptn : BitVec 8} {model : BitVec 16} :
    KeptBy s (execMdlUnload hd ptn model t) := by
  unfold Machine.execMdlUnload; exact .next h.mail
theorem KeptBy.execMdlPlace (h : Kept false s t) {hd : MbxHdr} {ptn action : BitVec 8} {model expert : BitVec 16}
    {cluster : BitVec 8} : KeptBy s (execMdlPlace hd ptn action model expert cluster t) := by
  unfold Machine.execMdlPlace; exact .next h.mail
theorem KeptBy.execDealConfig (h : Kept false s t) {hd : MbxHdr} {ptn : BitVec 8} {units : BitVec 32} :
    KeptBy s (execDealConfig hd ptn units t) := by
  unfold Machine.execDealConfig; exact .next h.mail
theorem KeptBy.execRtIdent (h : Kept false s t) {hd : MbxHdr} : KeptBy s (execRtIdent hd t) := by
  unfold Machine.execRtIdent; exact .next h.mail
theorem KeptBy.execRtPort (h : Kept false s t) {hd : MbxHdr} {body : List Byte} : KeptBy s (execRtPort hd body t) := by
  unfold Machine.execRtPort; exact .next h.mail
theorem KeptBy.execRtTblWrite (h : Kept false s t) {hd : MbxHdr} {body : List Byte} :
    KeptBy s (execRtTblWrite hd body t) := by
  unfold Machine.execRtTblWrite; exact .next h.mail
theorem KeptBy.execRtTblRead (h : Kept false s t) {hd : MbxHdr} {body : List Byte} :
    KeptBy s (execRtTblRead hd body t) := by
  unfold Machine.execRtTblRead; exact .next h.mail
theorem KeptBy.execRtTblClear (h : Kept false s t) {hd : MbxHdr} : KeptBy s (execRtTblClear hd t) := by
  unfold Machine.execRtTblClear; exact .next h.mail
theorem KeptBy.execRtDirWrite (h : Kept false s t) {hd : MbxHdr} {body : List Byte} :
    KeptBy s (execRtDirWrite hd body t) := by
  unfold Machine.execRtDirWrite; exact .next h.mail
theorem KeptBy.execRtSwap (h : Kept false s t) {hd : MbxHdr} {body : List Byte} : KeptBy s (execRtSwap hd body t) := by
  unfold Machine.execRtSwap; exact .next h.mail
theorem KeptBy.execRtCounters (h : Kept false s t) {hd : MbxHdr} {body : List Byte} :
    KeptBy s (execRtCounters hd body t) := by
  unfold Machine.execRtCounters; exact .next h.mail
theorem KeptBy.execSchGroupWrite (h : Kept false s t) {hd : MbxHdr} {first : BitVec 16} {groups : List Byte} :
    KeptBy s (execSchGroupWrite hd first groups t) := by
  unfold Machine.execSchGroupWrite; exact .next h.mail
theorem KeptBy.execSchSlotWrite (h : Kept false s t) {hd : MbxHdr} {port : BitVec 8} {slots : List Byte} :
    KeptBy s (execSchSlotWrite hd port slots t) := by
  unfold Machine.execSchSlotWrite; exact .next h.mail
theorem KeptBy.execFlInfo (h : Kept false s t) {hd : MbxHdr} {die : BitVec 8} : KeptBy s (execFlInfo hd die t) := by
  unfold Machine.execFlInfo; exact .next h.mail
theorem KeptBy.execIntRemap (h : Kept false s t) {hd : MbxHdr} {channel : BitVec 16} {bank : BitVec 8}
    {row : BitVec 16} : KeptBy s (execIntRemap hd channel bank row t) := by
  unfold Machine.execIntRemap; exact .next h.mail
theorem KeptBy.execIntScrub (h : Kept false s t) {hd : MbxHdr} {handle : BitVec 32} {offset length : BitVec 64} :
    KeptBy s (execIntScrub hd handle offset length t) := by
  unfold Machine.execIntScrub; exact .next h.mail
theorem KeptBy.execIntScrubLast (h : Kept false s t) {hd : MbxHdr} {ptn : BitVec 8} :
    KeptBy s (execIntScrubLast hd ptn t) := by
  unfold Machine.execIntScrubLast; exact .next h.mail
theorem KeptBy.execIntLogRead (h : Kept false s t) {hd : MbxHdr} {die max : BitVec 8} :
    KeptBy s (execIntLogRead hd die max t) := by
  unfold Machine.execIntLogRead; exact .next h.mail
theorem KeptBy.execPrtInfo (h : Kept false s t) {hd : MbxHdr} : KeptBy s (execPrtInfo hd t) := by
  unfold Machine.execPrtInfo; exact .next h.mail
theorem KeptBy.execPrtDiagRead (h : Kept false s t) {hd : MbxHdr} {max : BitVec 8} :
    KeptBy s (execPrtDiagRead hd max t) := by
  unfold Machine.execPrtDiagRead; exact .next h.mail
theorem KeptBy.execPrtWearRead (h : Kept false s t) {hd : MbxHdr} {first : BitVec 32} :
    KeptBy s (execPrtWearRead hd first t) := by
  unfold Machine.execPrtWearRead; exact .next h.mail
theorem KeptBy.execPrtSpareTest (h : Kept false s t) {hd : MbxHdr} {cluster : BitVec 8} :
    KeptBy s (execPrtSpareTest hd cluster t) := by
  unfold Machine.execPrtSpareTest; exact .next h.mail
theorem KeptBy.execSecInfo (h : Kept false s t) {hd : MbxHdr} : KeptBy s (execSecInfo hd t) := by
  unfold Machine.execSecInfo; exact .next h.mail
theorem KeptBy.execSecAttest (h : Kept false s t) {hd : MbxHdr} {nonce : BitVec 256} :
    KeptBy s (execSecAttest hd nonce t) := by
  unfold Machine.execSecAttest; exact .next h.mail
theorem KeptBy.execSecPropose (h : Kept false s t) {hd : MbxHdr} {kind : BitVec 8} {body : List Byte} :
    KeptBy s (execSecPropose hd kind body t) := by
  unfold Machine.execSecPropose; exact .next h.mail
theorem KeptBy.execSecSign (h : Kept false s t) {hd : MbxHdr} {id : BitVec 32} {role : BitVec 8}
    {signature : List Byte} : KeptBy s (execSecSign hd id role signature t) := by
  unfold Machine.execSecSign; exact .next h.mail
theorem KeptBy.execSecWithdraw (h : Kept false s t) {hd : MbxHdr} {id : BitVec 32} {role : BitVec 8}
    {signature : List Byte} : KeptBy s (execSecWithdraw hd id role signature t) := by
  unfold Machine.execSecWithdraw; exact .next h.mail
theorem KeptBy.execSecPendingRead (h : Kept false s t) {hd : MbxHdr} : KeptBy s (execSecPendingRead hd t) := by
  unfold Machine.execSecPendingRead; exact .next h.mail
theorem KeptBy.execSecCertRead (h : Kept false s t) {hd : MbxHdr} {index : BitVec 32} :
    KeptBy s (execSecCertRead hd index t) := by
  unfold Machine.execSecCertRead; exact .next h.mail
theorem KeptBy.execMtrInfo (h : Kept false s t) {hd : MbxHdr} : KeptBy s (execMtrInfo hd t) := by
  unfold Machine.execMtrInfo; exact .next h.mail
theorem KeptBy.execMtrReport (h : Kept false s t) {hd : MbxHdr} {ptn : BitVec 8} {nonce : BitVec 256} :
    KeptBy s (execMtrReport hd ptn nonce t) := by
  unfold Machine.execMtrReport; exact .next h.mail
theorem KeptBy.execMtrEvents (h : Kept false s t) {hd : MbxHdr} {first : BitVec 64} :
    KeptBy s (execMtrEvents hd first t) := by
  unfold Machine.execMtrEvents; exact .next h.mail
theorem KeptBy.execMtrCertRead (h : Kept false s t) {hd : MbxHdr} {index : BitVec 32} :
    KeptBy s (execMtrCertRead hd index t) := by
  unfold Machine.execMtrCertRead; exact .next h.mail
theorem KeptBy.execLkInfo (h : Kept false s t) {hd : MbxHdr} : KeptBy s (execLkInfo hd t) := by
  unfold Machine.execLkInfo; exact .next h.mail
theorem KeptBy.execPwrState (h : Kept false s t) {hd : MbxHdr} {state : BitVec 8} : KeptBy s (execPwrState hd state t) := by
  unfold Machine.execPwrState; exact .next h.mail
theorem KeptBy.execLkTelemCfg (h : Kept false s t) {hd : MbxHdr} {slot addr reg : BitVec 8} {thresh : BitVec 16} :
    KeptBy s (execLkTelemCfg hd slot addr reg thresh t) := by
  unfold Machine.execLkTelemCfg; exact .next h.mail
theorem KeptBy.execLkTelemRead (h : Kept false s t) {hd : MbxHdr} : KeptBy s (execLkTelemRead hd t) := by
  unfold Machine.execLkTelemRead; exact .next h.mail
theorem KeptBy.execExpRead (h : Kept false s t) {hd : MbxHdr} {addr : BitVec 32} {count : BitVec 16} :
    KeptBy s (execExpRead hd addr count t) := by
  unfold Machine.execExpRead; exact .next h.mail
theorem KeptBy.execExpWrite (h : Kept false s t) {hd : MbxHdr} {addr mask value : BitVec 32} :
    KeptBy s (execExpWrite hd addr mask value t) := by
  unfold Machine.execExpWrite; exact .next h.expWr
theorem KeptBy.execPortEnable (h : Kept false s t) {hd : MbxHdr} {n : Port} : KeptBy s (execPortEnable hd n t) := by
  unfold Machine.execPortEnable; exact .next h.expWr
theorem KeptBy.execPortDisable (h : Kept false s t) {hd : MbxHdr} {n : Port} : KeptBy s (execPortDisable hd n t) := by
  unfold Machine.execPortDisable; exact .next h.expWr
theorem KeptBy.execSchBucketClear (h : Kept false s t) {hd : MbxHdr} {n : Port} {level : Fin 3} {idx : Fin 2048} :
    KeptBy s (execSchBucketClear hd n level idx t) := by
  unfold Machine.execSchBucketClear; exact .next h.expWr
theorem KeptBy.execSchHistSel (h : Kept false s t) {hd : MbxHdr} {n : Port} {v : BitVec 32} :
    KeptBy s (execSchHistSel hd n v t) := by
  unfold Machine.execSchHistSel; exact .next h.expWr
theorem KeptBy.execPolicerParamWrite (h : Kept false s t) {hd : MbxHdr} {pol : Fin 256} {reg : Fin 5} {v : BitVec 32} :
    KeptBy s (execPolicerParamWrite hd pol reg v t) := by
  unfold Machine.execPolicerParamWrite; exact .next h.expWr
theorem KeptBy.execArbFreeze (h : Kept false s t) {hd : MbxHdr} : KeptBy s (execArbFreeze hd t) := by
  unfold Machine.execArbFreeze; exact .next h.expWr
theorem KeptBy.execArbUnfreeze (h : Kept false s t) {hd : MbxHdr} : KeptBy s (execArbUnfreeze hd t) := by
  unfold Machine.execArbUnfreeze; exact .next h.expWr
theorem KeptBy.execArbClear (h : Kept false s t) {hd : MbxHdr} : KeptBy s (execArbClear hd t) := by
  unfold Machine.execArbClear; exact .next h.expWr
theorem KeptBy.execArbTrumpLimit (h : Kept false s t) {hd : MbxHdr} {v : BitVec 8} :
    KeptBy s (execArbTrumpLimit hd v t) := by
  unfold Machine.execArbTrumpLimit; exact .next h.expWr
theorem KeptBy.execRouteEn (h : Kept false s t) {hd : MbxHdr} {v : Bool} : KeptBy s (execRouteEn hd v t) := by
  unfold Machine.execRouteEn; exact .next h.expWr
theorem KeptBy.execRtFreeze (h : Kept false s t) {hd : MbxHdr} {v : BitVec 19} : KeptBy s (execRtFreeze hd v t) := by
  unfold Machine.execRtFreeze; exact .next h.expWr
theorem KeptBy.execMcChCfgMapWrite (h : Kept false s t) {hd : MbxHdr} {c : Chan} {map : BitVec 2} :
    KeptBy s (execMcChCfgMapWrite hd c map t) := by
  unfold Machine.execMcChCfgMapWrite; exact .next h.expWr

/-! ### Every command -/

theorem KeptBy.exec (h : Kept false s t) {i : Instr} : KeptBy s (exec i t) := by
  unfold Machine.exec; split
  · exact .execGet h
  · exact .execPut h
  · exact .execPutSparse h
  · exact .execZero h
  · exact .execPublish h
  · exact .execPublishCompare h
  · exact .execReadVersion h
  · exact .execFlush h
  · exact .execPersist h
  · exact .execCheckoutS h
  · exact .execCheckoutX h
  · exact .execReturnLine h
  · exact .execWriteInv h
  · exact .execAtomic h
  · exact .execRecallAck h
  · exact .execInvoke h
  · exact .execInvokeData h
  · exact .execMgmt h
  · exact .execMIdent h
  · exact .execMPort h
  · exact .execMTblWrite h
  · exact .execMTblRead h
  · exact .execMTblClear h
  · exact .execMDirWrite h
  · exact .execMSwap h
  · exact .execMCounters h
  · exact .execTransitForward h
  · exact .execWaitingPacketRoute h
  · exact .execHello h
  · exact .execHeartbeat h
  · exact .execWriteFrame h
  · exact .execVersionFrame h
  · exact .execExtentFrame h
  · exact .execDirFrame h
  · exact .execAckFrame h
  · exact .execYieldFrame h
  · exact .execResyncPage h
  · exact .execResyncDone h
  · exact .execMirrorResendTimer h
  · exact .execPartnerHelloTimer h
  · exact .execPartnerSilence h
  · exact .execYieldStart h
  · exact .execYieldAckWaitEnd h
  · exact .execTakeoverComplete h
  · exact .execFlitGroupReceive h
  · exact .execFlitGroupSend h
  · exact .execSwapReq h
  · exact .execSwapGo h
  · exact .execSwapComplete h
  · exact .execSwapTimeout h
  · exact .execLpiReq h
  · exact .execLpiAck h
  · exact .execLpiReqLapse h
  · exact .execLpIdleExitDone h
  · exact .execRetrainReq h
  · exact .execPeerId h
  · exact .execEpochLo h
  · exact .execEpochHi h
  · exact .execNextExp h
  · exact .execBufVc h
  · exact .execParamDone h
  · exact .execReplayTimerExpiry h
  · exact .execReplayLimitReached h
  · exact .execAlignmentLoss h
  · exact .execTrainingComplete h
  · exact .execTrainingTimeout h
  · exact .execLaneSymbolWindowEnd h
  · exact .execPortEnable h
  · exact .execPortDisable h
  · exact .execPortShutdownEnd h
  · exact .execEgressPick h
  · exact .execSlotTableWrap h
  · exact .execQueueSample h
  · exact .execSchBucketClear h
  · exact .execSchHistSel h
  · exact .execPolicerParamWrite h
  · exact .execArbiterGrant h
  · exact .execArbFreeze h
  · exact .execArbUnfreeze h
  · exact .execArbClear h
  · exact .execArbTrumpLimit h
  · exact .execRouteEn h
  · exact .execRtFreeze h
  · exact .execRtDrainComplete h
  · exact .execRtDrainLimitExpiry h
  · exact .execRtResyncDone h
  · exact .execChannelAdmit h
  · exact .execAct h
  · exact .execPre h
  · exact .execIdleCloseExpiry h
  · exact .execHbmColumnRead h
  · exact .execHbmColumnWrite h
  · exact .execRefreshDue h
  · exact .execRefreshWindowEnd h
  · exact .execThrottleHoldEnd h
  · exact .execPowerDownEntry h
  · exact .execStackTempRead h
  · exact .execZqCalibration h
  · exact .execRetraining h
  · exact .execHbmBootTrainingDone h
  · exact .execRemapCopyDone h
  · exact .execPromotionDone h
  · exact .execDestageStart h
  · exact .execDestageAgeExpiry h
  · exact .execDestageProgramDone h
  · exact .execFlashProgramFail h
  · exact .execFlashOpStart h
  · exact .execFlashReadRetry h
  · exact .execJournalCommitTimer h
  · exact .execJournalCommitDone h
  · exact .execCheckpoint h
  · exact .execGarbageCollection h
  · exact .execJournalReplayDone h
  · exact .execScrubPassStart h
  · exact .execScrubWalkRead h
  · exact .execScrubDemandRead h
  · exact .execHomeTimeout h
  · exact .execDrainLimitExpiry h
  · exact .execRevokeComplete h
  · exact .execSanitationDone h
  · exact .execHandleHoldExpiry h
  · exact .execDeadHostScanDone h
  · exact .execWorkItemDeal h
  · exact .execBasketDeadline h
  · exact .execBasketDeal h
  · exact .execBasketStart h
  · exact .execExpertPromotionDone h
  · exact .execInvocationTimeLimit h
  · exact .execCollectiveTimeLimit h
  · exact .execInvocationFaultStop h
  · exact .execClearingEnd h
  · exact .execTilePreparationDone h
  · exact .execStreamComplete h
  · exact .execBarrierRelease h
  · exact .execFma h
  · exact .execFadd h
  · exact .execFmul h
  · exact .execFmax h
  · exact .execFmin h
  · exact .execFcmp h
  · exact .execCvtw h
  · exact .execCvtn h
  · exact .execFtoi h
  · exact .execItof h
  · exact .execIadd h
  · exact .execIsub h
  · exact .execImul h
  · exact .execAnd h
  · exact .execOr h
  · exact .execXor h
  · exact .execShl h
  · exact .execShr h
  · exact .execSar h
  · exact .execImax h
  · exact .execImin h
  · exact .execIcmp h
  · exact .execSel h
  · exact .execMov h
  · exact .execVld h
  · exact .execVst h
  · exact .execSld h
  · exact .execSst h
  · exact .execExp h
  · exact .execLog h
  · exact .execRcp h
  · exact .execRsqrt h
  · exact .execTanh h
  · exact .execGelu h
  · exact .execPsumi h
  · exact .execPsumx h
  · exact .execCompact h
  · exact .execRsumi h
  · exact .execRmaxf h
  · exact .execRminf h
  · exact .execRcnt h
  · exact .execRany h
  · exact .execRall h
  · exact .execTopkF32 h
  · exact .execTopkBf16 h
  · exact .execWld h
  · exact .execRun h
  · exact .execWclr h
  · exact .execWrnd h
  · exact .execWspill h
  · exact .execWrest h
  · exact .execSetfmt h
  · exact .execAddw h
  · exact .execAddvf h
  · exact .execAddvi h
  · exact .execRdraw h
  · exact .execRdrnd h
  · exact .execScoreClr h
  · exact .execScoreLd h
  · exact .execStreamStart h
  · exact .execStreamWait h
  · exact .execBr h
  · exact .execLoop h
  · exact .execHalt h
  · exact .execBar h
  · exact .execRaise h
  · exact .execLookoutSample h
  · exact .execLookoutDecision h
  · exact .execResourceWakeDone h
  · exact .execSensorRead h
  · exact .execThrottleEval h
  · exact .execTripRelease h
  · exact .execTelemetryRead h
  · exact .execRailWaitExpiry h
  · exact .execCounterFrame h
  · exact .execMeterDeltaSend h
  · exact .execMeterSnapshot h
  · exact .execMeterLinkSilence h
  · exact .execMeterStart h
  · exact .execMeterSignDone h
  · exact .execMailboxPoll h
  · exact .execMbxHandOver h
  · exact .execUnreadAck h
  · exact .execCoreFailure h
  · exact .execWatchdog h
  · exact .execTileSelfTest h
  · exact .execParityError h
  · exact .execClusterHang h
  · exact .execPtnResetDone h
  · exact .execAgreementWindowExpiry h
  · exact .execDebugUnlockExpiry h
  · exact .execResetStart h
  · exact .execPorstN h
  · exact .execWarmN h
  · exact .execPorstVN h
  · exact .execWakeN h
  · exact .execPowerLoss h
  · exact .execRefclkLoss h
  · exact .execVaultWaitExpiry h
  · exact .execMbxReady h
  · exact .execDevInfo h
  · exact .execDevReset h
  · exact .execDevFwUpdate h
  · exact .execDevHostDead h
  · exact .execDevPortReset h
  · exact .execDevClusterReset h
  · exact .execPtnInfo h
  · exact .execPtnReset h
  · exact .execPtnFault h
  · exact .execExtCreate h
  · exact .execExtInfo h
  · exact .execExtSetPolicy h
  · exact .execExtSetAcl h
  · exact .execExtSetDrain h
  · exact .execExtRevoke h
  · exact .execExtZero h
  · exact .execExtInitDone h
  · exact .execExtDirRead h
  · exact .execKrnLoad h
  · exact .execKrnUnload h
  · exact .execMdlLoad h
  · exact .execMdlUnload h
  · exact .execMdlPlace h
  · exact .execDealConfig h
  · exact .execRtIdent h
  · exact .execRtPort h
  · exact .execRtTblWrite h
  · exact .execRtTblRead h
  · exact .execRtTblClear h
  · exact .execRtDirWrite h
  · exact .execRtSwap h
  · exact .execRtCounters h
  · exact .execSchGroupWrite h
  · exact .execSchSlotWrite h
  · exact .execFlInfo h
  · exact .execIntRemap h
  · exact .execIntScrub h
  · exact .execIntScrubLast h
  · exact .execIntLogRead h
  · exact .execPrtInfo h
  · exact .execPrtDiagRead h
  · exact .execPrtWearRead h
  · exact .execPrtSpareTest h
  · exact .execSecInfo h
  · exact .execSecAttest h
  · exact .execSecPropose h
  · exact .execSecSign h
  · exact .execSecWithdraw h
  · exact .execSecPendingRead h
  · exact .execSecCertRead h
  · exact .execMtrInfo h
  · exact .execMtrReport h
  · exact .execMtrEvents h
  · exact .execMtrCertRead h
  · exact .execLkInfo h
  · exact .execPwrState h
  · exact .execLkTelemCfg h
  · exact .execLkTelemRead h
  · exact .execExpRead h
  · exact .execExpWrite h
  · exact .execMcChCfgMapWrite h
  · exact .execChkInit h
  · exact .execChkAliveClr h
  · exact .execChkData8 h
  · exact .execChkData16 h
  · exact .execChkData32 h
  · exact .execChkValueWrite h
  · exact .execChkAliveIn h
  · exact .execStage1Verified h
  · exact .execMainFirmwareVerified h
  · exact .execFlashBusTrainingDone h
  · exact .execVddcVidStep h
  · exact .execDutyMoveComplete h
  · exact .execWearRecordCommit h
  · exact .execFirmwareImageWritten h
  · exact .execFlashEraseDone h
  · exact .execDormantDrainExpiry h
  · exact .execPcieConfigWrite h
  · exact .execDbgAccess h
  · exact .execMalformedPacketArrival h

/-! ### Steps -/

/-- A period of the clock leaves the queue and the HBM arrays alone. -/
theorem tick_pending_dram (s : State) : s.tick.pending = s.pending ∧
    (Mem.wf dramByte s.mem.dram = true → Mem.wf dramByte s.tick.mem.dram = true) := by
  have hd : Kept false s (s.each (s.ptns.map Prod.fst) State.dealStep) := (Kept.refl s).each fun _ hu _ => hu.dealStep
  unfold State.tick
  extract_lets s₁
  split
  · exact ⟨hd.pending, hd.dram⟩
  · have hs := (Kept.refl s₁.idle).sampleStored
    exact ⟨hs.pending.trans hd.pending, hs.dram ∘ hd.dram⟩

/-- What the command in front leaves keeps what stood when it was taken. -/
theorem kept_of_step {c : Instr} {q : List Instr} (hq : s.pending = c :: q) (h : step s = .next t) :
    Kept false { s with pending := q } t := by
  unfold step at h
  rw [hq] at h
  exact KeptBy.exec (Kept.refl _) t h

theorem step_empty (hq : s.pending = []) : step s = .next s.tick := by
  unfold step; rw [hq]

/-- Settles O3: every command keeps the clock and the queue, so a step leaves the queue behind its front. -/
theorem stepConsumesTheQueue : Obligations.StepConsumesTheQueue := by
  unfold Obligations.StepConsumesTheQueue
  refine ⟨fun c s t h => ?_, fun s t h => ?_⟩
  · have hk := KeptBy.exec (Kept.refl s) t h
    exact ⟨hk.pending, hk.now⟩
  · cases hq : s.pending with
    | nil =>
      obtain rfl := Host.Outcome.next.inj ((step_empty hq).symm.trans h)
      exact (tick_pending_dram s).1.trans hq
    | cons c q => exact (kept_of_step hq h).pending

/-- Settles O4: every command, and every period of the clock, keeps the HBM arrays canonical. -/
theorem memoryStaysCanonical : Obligations.MemoryStaysCanonical := by
  unfold Obligations.MemoryStaysCanonical
  intro s t hw h
  cases hq : s.pending with
  | nil =>
    obtain rfl := Host.Outcome.next.inj ((step_empty hq).symm.trans h)
    exact (tick_pending_dram s).2 hw
  | cons c q => exact (kept_of_step hq h).dram hw

end Kept
end Sys2Proof.Machine
end

section
/-! PROOFS. Packets as bytes: reading takes off the fields in the order in which they were written (R88, R89). -/
namespace Sys2Proof.Machine

/-- Reading takes off exactly the bytes a word was written as. -/
theorem getLe_le_append {w : Nat} (n : Nat) (hw : w = 8 * n) (x : BitVec w) (l : List Byte) :
    getLe n (le n x.toNat ++ l) = (x.toNat, l) := by
  rw [getLe, List.take_left' (le_length n _), List.drop_left' (le_length n _), ofLe_le,
    show 256 ^ n = 2 ^ w by rw [hw, Nat.pow_mul] <;> rfl, Nat.mod_eq_of_lt x.isLt]

theorem getLe_le {w : Nat} (n : Nat) (hw : w = 8 * n) (x : BitVec w) : getLe n (le n x.toNat) = (x.toNat, []) := by
  simpa using getLe_le_append n hw x []

theorem header_length (p : Packet) : p.header.length = 64 := by simp [Packet.header]
theorem trailer_length (p : Packet) : p.trailer.length = 64 := by simp [Packet.trailer]

theorem bytes_length (p : Packet) : p.bytes.length = 128 + p.payload.length := by
  rw [Packet.bytes, List.length_append, List.length_append, header_length, trailer_length]; omega

theorem ofBytes_bytes {p : Packet} (hp : p.payload.length % 64 = 0) : Packet.ofBytes p.bytes = some p := by
  have hlen : ¬ (p.bytes.length < 128 ∨ p.bytes.length % 64 ≠ 0) := by rw [bytes_length]; omega
  have hnp : p.bytes.length - 128 = p.payload.length := by rw [bytes_length]; omega
  rw [Packet.ofBytes, if_neg hlen, hnp]
  simp only [Packet.bytes, Packet.header, Packet.trailer, List.append_assoc, List.take_left, List.drop_left,
    getLe_le_append 1 (w := 8) rfl, getLe_le_append 2 (w := 16) rfl, getLe_le_append 3 (w := 24) rfl,
    getLe_le_append 4 (w := 32) rfl, getLe_le_append 8 (w := 64) rfl, getLe_le 52 (w := 416) rfl,
    BitVec.ofNat_toNat, BitVec.setWidth_eq]

/-- Settles O48: each field read is the field written. -/
theorem packetRoundTrip : Obligations.PacketRoundTrip := by
  unfold Obligations.PacketRoundTrip
  exact fun p hp => ⟨ofBytes_bytes hp, bytes_length p⟩

end Sys2Proof.Machine
end

section
/-! PROOFS. Classes VEC, SFU and SCAN (R169 to R172): what each function's effect is, in the operands' own terms. -/
namespace Sys2Proof.Machine

section Effects
variable {t : Tile} {c : Cluster} {w : TileWord}

/-! ### Floating point and conversion (R170) -/

theorem tFcmp_ok (h : vC w ≤ 5) : tFcmp w t c = vec2 (fun x y => mask32 (fcond (vC w) x y)) w t c :=
  if_neg (Nat.not_lt.mpr h)
theorem tFcmp_fault (h : 5 < vC w) : tFcmp w t c = tfault fParam := if_pos h

theorem half_ok {f : Fmt} (h : vC w = 0x10 ∨ vC w = 0x11) (hf : fmtOf (vC w) = some f) : half w = .ok f := by
  rw [half, if_pos h, hf]; rfl
theorem half_fault (h : vC w ≠ 0x10) (h' : vC w ≠ 0x11) : half w = fmtFault (vC w) := if_neg (by simp [h, h'])

/-- A packed element is the half of its lane that its parity names. -/
theorem Tile.half_eq (t : Tile) (r j : Nat) : t.half r j = (t.lane r (j / 2)).toNat / 65536 ^ (j % 2) % 65536 := by
  rw [Tile.half, bits, Nat.shiftRight_eq_div_pow, Nat.pow_mul] <;> rfl

theorem tCvtw_ok {f : Fmt} (h : half w = .ok f) :
    tCvtw w t c = .ok (t.setLanes (vD w) ((List.range (vN w)).map fun j =>
      cvtw f ((t.lane (vA w) (j / 2)).toNat / 65536 ^ (j % 2) % 65536)), c) := by
  simp only [tCvtw, h, tabulate, Tile.half_eq]
theorem tCvtw_fault {e : TileFault} (h : half w = .error e) : tCvtw w t c = .error e := by rw [tCvtw, h]

/-- Element `j` of what CVTN packs. -/
def narrowed (t : Tile) (w : TileWord) (f : Fmt) (j : Nat) : Nat := if j < vN w then cvtn f (t.lane (vA w) j) else 0
theorem tCvtn_ok {f : Fmt} (h : half w = .ok f) :
    tCvtn w t c = .ok (t.setLanes (vD w) ((List.range (64 * ((vN w + 127) / 128))).map fun j =>
      BitVec.ofNat 32 (narrowed t w f (2 * j) + 65536 * narrowed t w f (2 * j + 1))), c) := by
  simp only [tCvtn, h, tabulate, narrowed, Nat.mul_comm 65536]; rfl
theorem tCvtn_fault {e : TileFault} (h : half w = .error e) : tCvtn w t c = .error e := by rw [tCvtn, h]

/-! ### Integers (R170) -/

theorem both2_vector {f : BitVec 32 → BitVec 32 → BitVec 32} {g : BitVec 64 → BitVec 64 → BitVec 64} (h : vVL w ≠ 3) :
    both2 f g w t c = vec2 f w t c := if_neg h
theorem both2_scalar {f : BitVec 32 → BitVec 32 → BitVec 32} {g : BitVec 64 → BitVec 64 → BitVec 64} (h : vVL w = 3) :
    both2 f g w t c = .ok (t.dst (vD w) (g (t.src (vA w)) (scaB t w)), c) := if_pos h
theorem tMov_vector (h : vVL w ≠ 3) :
    tMov w t c = .ok (t.setLanes (vD w) (if vBsel w then vecB t w else t.lanes (vA w) (vN w)), c) := if_neg h
theorem tMov_scalar (h : vVL w = 3) :
    tMov w t c = .ok (t.dst (vD w) (if vBsel w then scaB t w else t.src (vA w)), c) := if_pos h
theorem tIcmp_vector (h : vVL w ≠ 3) (hc : vC w ≤ 5) :
    tIcmp w t c = vec2 (fun x y => mask32 (icond 32 (vC w) x.toNat y.toNat)) w t c := by
  rw [tIcmp, if_neg (Nat.not_lt.mpr hc), if_neg h]
theorem tIcmp_scalar (h : vVL w = 3) (hc : vC w ≤ 5) :
    tIcmp w t c = .ok (t.setP (vD w - 40) (icond 64 (vC w) (t.src (vA w)).toNat (scaB t w).toNat), c) := by
  rw [tIcmp, if_neg (Nat.not_lt.mpr hc), if_pos h]
theorem tIcmp_fault (hc : 5 < vC w) : tIcmp w t c = tfault fParam := if_pos hc

/-! ### Scans and reductions (R172) -/

theorem scanIncl_eq (acc : BitVec 32) (l : List (BitVec 32)) :
    scanIncl acc l = (List.range l.length).map fun j => (l.take (j + 1)).foldl (· + ·) acc := by
  induction l generalizing acc with
  | nil => rfl
  | cons x xs ih => rw [scanIncl, ih, List.length_cons, List.range_succ_eq_map]; simp
theorem scanExcl_eq (acc : BitVec 32) (l : List (BitVec 32)) :
    scanExcl acc l = (List.range l.length).map fun j => (l.take j).foldl (· + ·) acc := by
  induction l generalizing acc with
  | nil => rfl
  | cons x xs ih => rw [scanExcl, ih, List.length_cons, List.range_succ_eq_map]; simp

@[simp] theorem Tile.lanes_length (t : Tile) (r n : Nat) : (t.lanes r n).length = n := by simp [Tile.lanes, tabulate]

theorem filterMap_nonzero (l : List (BitVec 32 × BitVec 32)) :
    (l.filterMap fun p => if p.2 = 0#32 then none else some p.1) = (l.filter fun p => p.2 ≠ 0#32).map Prod.fst := by
  induction l with
  | nil => rfl
  | cons p ps ih => by_cases h : p.2 = 0#32 <;> simp [h, ih]

theorem foldl_toInt (l : List (BitVec 32)) (z : Int) :
    l.foldl (fun a x => a + x.toInt) z = z + (l.map BitVec.toInt).sum := by
  induction l generalizing z with
  | nil => simp
  | cons x xs ih => simp [ih, Int.add_assoc]

theorem fold1_eq (f : BitVec 32 → BitVec 32 → BitVec 32) (l : List (BitVec 32)) :
    fold1 f l = (l.drop 1).foldl f (l.head?.getD 0#32) := by
  cases l <;> rfl

/-- Some lane is nonzero when at least one is counted. -/
theorem nonzeroLanes_pos : 0 < nonzeroLanes t w ↔ ∃ v ∈ t.lanes (vA w) (vN w), v ≠ 0#32 := by
  simp [nonzeroLanes, List.length_pos_iff_exists_mem]
theorem nonzeroLanes_eq : nonzeroLanes t w = vN w ↔ ∀ v ∈ t.lanes (vA w) (vN w), v ≠ 0#32 := by
  have h := List.length_filter_eq_length_iff (l := t.lanes (vA w) (vN w)) (p := fun x => decide (x ≠ 0#32))
  rw [Tile.lanes_length] at h
  simpa [nonzeroLanes] using h

theorem tCompact_eq (kept : List (BitVec 32))
    (h : kept = (((t.lanes (vA w) (vN w)).zip (t.lanes (vC w) (vN w))).filter fun p => p.2 ≠ 0#32).map Prod.fst) :
    tCompact w t c = .ok ((t.setLanes (vD w) (kept ++ List.replicate (vN w - kept.length) 0#32)).setS (vSB w)
      (BitVec.ofNat 64 kept.length), c) := by
  subst h; simp only [tCompact, filterMap_nonzero]

/-! ### Loads and stores (R170, R181) -/

theorem tVld_misaligned (h : memAddr t w 64 % 64 ≠ 0) : tVld w t c = tfault fMisalign (memAddr t w 64) := if_pos h
theorem tVst_misaligned (h : memAddr t w 64 % 64 ≠ 0) : tVst w t c = tfault fMisalign (memAddr t w 64) := if_pos h
theorem tSld_misaligned (h : memAddr t w 8 % 8 ≠ 0) : tSld w t c = tfault fMisalign (memAddr t w 8) := if_pos h
theorem tSst_misaligned (h : memAddr t w 8 % 8 ≠ 0) : tSst w t c = tfault fMisalign (memAddr t w 8) := if_pos h
theorem tVld_ok (h : memAddr t w 64 % 64 = 0) {l : List Byte} (hl : tread t c (memAddr t w 64) (4 * vN w) = .ok l) :
    tVld w t c = .ok (t.setLanes (vD w) (bytesLanes l), c) := by
  simp only [tVld]; rw [if_neg (not_not_intro h), hl]
theorem tVst_ok (h : memAddr t w 64 % 64 = 0) :
    tVst w t c = twrite t c (memAddr t w 64) (laneBytes (t.lanes (vD w) (vN w))) := if_neg (not_not_intro h)
theorem tSld_ok (h : memAddr t w 8 % 8 = 0) {l : List Byte} (hl : tread t c (memAddr t w 8) 8 = .ok l) :
    tSld w t c = .ok (t.setS (vD w) (BitVec.ofNat 64 (ofLe l)), c) := by
  simp only [tSld]; rw [if_neg (not_not_intro h), hl]
theorem tSst_ok (h : memAddr t w 8 % 8 = 0) : tSst w t c = twrite t c (memAddr t w 8) (le 8 (t.sreg (vD w)).toNat) :=
  if_neg (not_not_intro h)

end Effects

/-- Settles O5: each function's effect is its form of R169 over the lane function. -/
theorem floatFunctions : Obligations.FloatFunctions := by
  unfold Obligations.FloatFunctions
  refine ⟨fun s g t w => ?_, fun s g t w => ?_⟩
  · exact ⟨tileDoes rfl rfl, tileDoes rfl rfl, tileDoes rfl rfl, tileDoes rfl rfl, tileDoes rfl rfl, tileDoes rfl rfl,
      tileDoes rfl rfl, tileDoes rfl rfl, fun h => tileDoes rfl (tFcmp_ok h), fun h => tileFaults rfl (tFcmp_fault h) (by decide)⟩
  · exact ⟨fun f h hf => ⟨tileDoes rfl (tCvtw_ok (half_ok h hf)), tileDoes rfl (tCvtn_ok (half_ok h hf))⟩,
      fun h h' => ⟨tileFaults rfl (tCvtw_fault (half_fault h h')) (Nat.succ_ne_zero 1),
        tileFaults rfl (tCvtn_fault (half_fault h h')) (Nat.succ_ne_zero 1)⟩⟩

/-- Settles O6: an integer function is the form that VL names, vector or scalar. -/
theorem integerFunctions : Obligations.IntegerFunctions := by
  unfold Obligations.IntegerFunctions
  refine ⟨fun s g t w h => ?_, fun s g t w h => ?_⟩
  · exact ⟨tileDoes rfl (both2_vector h), tileDoes rfl (both2_vector h), tileDoes rfl (both2_vector h),
      tileDoes rfl (both2_vector h), tileDoes rfl (both2_vector h), tileDoes rfl (both2_vector h),
      tileDoes rfl (both2_vector h), tileDoes rfl (both2_vector h), tileDoes rfl (both2_vector h),
      tileDoes rfl (both2_vector h), tileDoes rfl (both2_vector h), tileDoes rfl (tMov_vector h),
      fun hc => tileDoes rfl (tIcmp_vector h hc)⟩
  · exact ⟨tileDoes rfl (both2_scalar h), tileDoes rfl (both2_scalar h), tileDoes rfl (both2_scalar h),
      tileDoes rfl (both2_scalar h), tileDoes rfl (both2_scalar h), tileDoes rfl (both2_scalar h),
      tileDoes rfl (both2_scalar h), tileDoes rfl (both2_scalar h), tileDoes rfl (both2_scalar h),
      tileDoes rfl (both2_scalar h), tileDoes rfl (both2_scalar h), tileDoes rfl (tMov_scalar h),
      fun hc => tileDoes rfl (tIcmp_scalar h hc), fun hc => tileFaults rfl (tIcmp_fault hc) (by decide)⟩

/-- Settles O8: sums of the lanes so far by induction over the lanes, the reductions by what they fold. -/
theorem specialFunctionsAndScans : Obligations.SpecialFunctionsAndScans := by
  unfold Obligations.SpecialFunctionsAndScans
  refine ⟨fun s g t w => ?_, fun s g t w => ?_⟩
  · exact ⟨tileDoes rfl rfl, tileDoes rfl rfl, tileDoes rfl rfl, tileDoes rfl rfl, tileDoes rfl rfl, tileDoes rfl rfl⟩
  · refine ⟨tileDoes rfl ?_, tileDoes rfl ?_, tileDoes rfl (tCompact_eq _ rfl), tileDoes rfl ?_, tileDoes rfl ?_,
      tileDoes rfl ?_, tileDoes rfl rfl, tileDoes rfl ?_, tileDoes rfl ?_⟩
    · rw [tPsumi, scanIncl_eq, Tile.lanes_length]
    · rw [tPsumx, scanExcl_eq, Tile.lanes_length]
    · rw [tRsumi, foldl_toInt, Int.zero_add]
    · rw [tRmaxf, fold1_eq]
    · rw [tRminf, fold1_eq]
    · simp only [tRany, nonzeroLanes_pos]
    · simp only [tRall, nonzeroLanes_eq]

/-- Settles O9: off the boundary MISALIGN, on it what the access of tile memory answers. -/
theorem tileLoadsAndStores : Obligations.TileLoadsAndStores := by
  unfold Obligations.TileLoadsAndStores
  intro s g t w
  exact ⟨fun h => ⟨tileFaults rfl (tVld_misaligned h) (Nat.succ_ne_zero 6), tileFaults rfl (tVst_misaligned h) (Nat.succ_ne_zero 6)⟩,
    fun h => ⟨tileFaults rfl (tSld_misaligned h) (Nat.succ_ne_zero 6), tileFaults rfl (tSst_misaligned h) (Nat.succ_ne_zero 6)⟩,
    fun h => ⟨fun l hl => tileDoes rfl (tVld_ok h hl), fun y z hw => tileDoes rfl ((tVst_ok h).trans hw)⟩,
    fun h => ⟨fun l hl => tileDoes rfl (tSld_ok h hl), fun y z hw => tileDoes rfl ((tSst_ok h).trans hw)⟩⟩

end Sys2Proof.Machine
end

section
/-! PROOFS. The register files and the memory of a tile (R161, R163, R181). -/
namespace Sys2Proof.Machine

/-! ### Register files -/

theorem Tile.sreg_setS {x : Tile} (h : Tab.wf x.s = true) (i : Nat) (v : BitVec 64) : (x.setS i v).sreg i = v :=
  Tab.getD_set_same h i v
theorem Tile.areg_setA {x : Tile} (h : Tab.wf x.a = true) (i : Nat) (v : BitVec 32) : (x.setA i v).areg i = v :=
  Tab.getD_set_same h i v

/-- A bit of a byte reads back after it was replaced. -/
theorem getLsbD_setBits (p : BitVec 8) {i : Nat} (hi : i < 8) (b : Bool) :
    (BitVec.ofNat 8 (setBits p.toNat i 1 (b2n b))).getLsbD i = b := by
  have hp := p.isLt
  rw [BitVec.getLsbD_ofNat, Nat.testBit_eq_decide_div_mod_eq]
  simp only [setBits, bits, Nat.shiftRight_eq_div_pow, Nat.shiftLeft_eq]
  obtain rfl | rfl | rfl | rfl | rfl | rfl | rfl | rfl :
      i = 0 ∨ i = 1 ∨ i = 2 ∨ i = 3 ∨ i = 4 ∨ i = 5 ∨ i = 6 ∨ i = 7 := by omega
  all_goals cases b <;> simp [b2n] <;> omega

theorem Tile.preg_setP (x : Tile) {i : Nat} (h0 : i ≠ 0) (hi : i < 8) (b : Bool) : (x.setP i b).preg i = b := by
  rw [Tile.preg, if_neg h0, Tile.setP, if_neg (by omega)]
  exact getLsbD_setBits x.p hi b

section Codes
variable {x : Tile} {i : Nat} {v : BitVec 64}

theorem Tile.dst_s (h : i < 32) : x.dst i v = x.setS i v := if_pos h
theorem Tile.src_s (h : i < 32) : x.src i = x.sreg i := if_pos h
theorem Tile.dst_a (h : 32 ≤ i) (h' : i < 40) : x.dst i v = x.setA (i - 32) (v.setWidth 32) := by
  rw [Tile.dst, if_neg (by omega), if_pos h']
theorem Tile.src_a (h : 32 ≤ i) (h' : i < 40) : x.src i = (x.areg (i - 32)).setWidth 64 := by
  rw [Tile.src, if_neg (by omega), if_pos h']
theorem Tile.dst_p (h : 40 ≤ i) : x.dst i v = x.setP (i - 40) (v.getLsbD 0) := by
  rw [Tile.dst, if_neg (by omega), if_neg (by omega)]
theorem Tile.src_p (h : 40 ≤ i) (h' : i < 48) : x.src i = BitVec.ofNat 64 (b2n (x.preg (i - 40))) := by
  rw [Tile.src, if_neg (by omega), if_neg (by omega), if_pos h']

end Codes

/-- Settles O7: each code names one register file, whose entries read back. -/
theorem registerFiles : Obligations.RegisterFiles := by
  unfold Obligations.RegisterFiles
  intro x v hs ha
  refine ⟨fun i h => ?_, fun i h h' => ?_, fun i h h' => ?_, ?_, ?_⟩
  · rw [Tile.dst_s h, Tile.src_s h, Tile.sreg_setS hs]
  · rw [Tile.dst_a h h', Tile.src_a h h', Tile.areg_setA ha]
  · rw [Tile.dst_p (by omega), Tile.src_p (by omega) h', Tile.preg_setP x (by omega) (by omega)]
    cases v.getLsbD 0 <;> rfl
  · rw [Tile.dst_p (by omega)]; exact if_pos (Or.inl rfl)
  · rw [Tile.src_p (by omega) (by omega)]; rfl

/-! ### Tile memory -/

section Locate
variable {x : Tile} {a n : Nat}

theorem Tile.locate_scratch (h : a + n ≤ x.scratchBytes) : x.locate a n = some .scratch := if_pos h
theorem Tile.locate_block (hx : x.scratchBytes ≤ 0x1FF000) (hn : 0 < n) (h : 0x1FF000 ≤ a ∧ a + n ≤ 0x200000) :
    x.locate a n = some .block := by
  rw [Tile.locate, if_neg (by omega), if_pos h]
theorem Tile.locate_store (hx : x.scratchBytes ≤ 0x1FF000) (h : 0x400000 ≤ a ∧ a + n ≤ 0x400000 + x.csBytes) :
    x.locate a n = some .store := by
  rw [Tile.locate, if_neg (by omega), if_neg (by omega), if_pos h]
theorem Tile.locate_none (h : ¬ a + n ≤ x.scratchBytes) (h' : ¬ (0x1FF000 ≤ a ∧ a + n ≤ 0x200000))
    (h'' : ¬ (0x400000 ≤ a ∧ a + n ≤ 0x400000 + x.csBytes)) : x.locate a n = none := by
  rw [Tile.locate, if_neg h, if_neg h', if_neg h'']

end Locate

/-- Settles O10: where a range lies decides what an access does; a write changes its own bytes by `Mem.read_writes`. -/
theorem tileMemoryMap : Obligations.TileMemoryMap := by
  unfold Obligations.TileMemoryMap
  intro x c a bs hx hbs hs hc
  have hn : 0 < bs.length := List.length_pos_iff.mpr hbs
  refine ⟨fun h => ⟨_, ?_, Mem.read_writes hs a bs⟩, fun h => ?_, fun h => ⟨_, ?_, Mem.read_writes hc _ bs⟩, fun h h' h'' => ?_⟩
  · rw [twrite, Tile.locate_scratch h]
  · rw [twrite, Tile.locate_block hx hn h]; rfl
  · rw [twrite, Tile.locate_store hx h]
  · rw [twrite, tread, Tile.locate_none h h' h'']; exact ⟨rfl, rfl⟩

end Sys2Proof.Machine
end

section
/-! PROOFS. The gate unit (R126, R173): the rank order is a linear one, so that taking the first k at each step takes the first
k of all. -/
namespace Sys2Proof.Machine

/-! ### The rank order -/

/-- Values in the order the gate unit ranks them: NaN, −∞, the finite ones by value, +∞. -/
def FVal.rank : FVal → Nat × Rat
  | .nan => (0, 0)
  | .inf true => (1, 0)
  | .fin s m => (2, (FVal.fin s m).rat)
  | .inf false => (3, 0)

/-- The order of ranks: by class, and within the finite ones by value. -/
def RankLt (p q : Nat × Rat) : Prop := p.1 < q.1 ∨ (p.1 = q.1 ∧ p.2 < q.2)

theorem RankLt.irrefl (p : Nat × Rat) : ¬RankLt p p := fun h =>
  h.elim (Nat.lt_irrefl _) fun h => Rat.lt_irrefl h.2

theorem rat_lt_trans {a b c : Rat} (h : a < b) (h' : b < c) : a < c := by
  refine Rat.not_le.mp fun hca => ?_
  have hba : b ≤ a := Rat.le_trans (Rat.le_of_lt h') hca
  exact Rat.not_le.mpr h hba

theorem RankLt.trans {p q r : Nat × Rat} (h : RankLt p q) (h' : RankLt q r) : RankLt p r := by
  rcases h with h | ⟨h, hv⟩ <;> rcases h' with h' | ⟨h', hv'⟩
  · exact .inl (Nat.lt_trans h h')
  · exact .inl (h' ▸ h)
  · exact .inl (h ▸ h')
  · exact .inr ⟨h.trans h', rat_lt_trans hv hv'⟩

theorem RankLt.asymm {p q : Nat × Rat} (h : RankLt p q) : ¬RankLt q p := fun h' => RankLt.irrefl p (h.trans h')

theorem rankLt_trichotomy (p q : Nat × Rat) : RankLt p q ∨ p = q ∨ RankLt q p := by
  obtain ⟨m, a⟩ := p
  obtain ⟨n, b⟩ := q
  rcases Nat.lt_trichotomy m n with h | h | h
  · exact .inl (.inl h)
  · subst h
    by_cases hab : a < b
    · exact .inl (.inr ⟨rfl, hab⟩)
    · by_cases hba : b < a
      · exact .inr (.inr (.inr ⟨rfl, hba⟩))
      · have heq : a = b := Rat.le_antisymm (Rat.not_lt.mp hba) (Rat.not_lt.mp hab)
        exact .inr (.inl (by rw [heq]))
  · exact .inr (.inr (.inl h))

theorem fltV_iff_rank {a b : FVal} (ha : a ≠ .nan) (hb : b ≠ .nan) : fltV a b = true ↔ RankLt a.rank b.rank := by
  cases a with
  | nan => exact absurd rfl ha
  | inf s =>
    cases b with
    | nan => exact absurd rfl hb
    | inf t => cases s <;> cases t <;> simp [fltV, FVal.rank, RankLt, Rat.lt_irrefl]
    | fin t n => cases s <;> simp [fltV, FVal.rank, RankLt]
  | fin s m =>
    cases b with
    | nan => exact absurd rfl hb
    | inf t => cases t <;> simp [fltV, FVal.rank, RankLt]
    | fin t n => simp [fltV, FVal.rank, RankLt]

theorem FVal.nan_rank_lt {a : FVal} (ha : a ≠ .nan) : RankLt FVal.nan.rank a.rank := by
  cases a with
  | nan => exact absurd rfl ha
  | inf s => cases s <;> exact .inl (by decide)
  | fin s m => exact .inl (Nat.zero_lt_succ 1)

theorem topkBefore_iff (x y : FVal × Nat) :
    topkBefore x y = true ↔ RankLt y.1.rank x.1.rank ∨ (x.1.rank = y.1.rank ∧ x.2 < y.2) := by
  obtain ⟨a, i⟩ := x
  obtain ⟨b, j⟩ := y
  by_cases ha : a = .nan
  · subst ha
    by_cases hb : b = .nan
    · subst hb; simp [topkBefore, RankLt.irrefl]
    · have hlt := FVal.nan_rank_lt hb
      have hne : FVal.nan.rank ≠ b.rank := fun e => RankLt.irrefl _ (e ▸ hlt)
      have hf : topkBefore (.nan, i) (b, j) = false := by cases b <;> simp_all [topkBefore]
      simp [hf, hlt.asymm, hne]
  · by_cases hb : b = .nan
    · subst hb
      have ht : topkBefore (a, i) (.nan, j) = true := by cases a <;> simp_all [topkBefore]
      simp [ht, FVal.nan_rank_lt ha]
    · have he : topkBefore (a, i) (b, j) = if fltV b a then true else if fltV a b then false else decide (i < j) := by
        cases a <;> cases b <;> simp_all [topkBefore]
      have hba := fltV_iff_rank hb ha
      have hab := fltV_iff_rank ha hb
      rw [he]
      rcases rankLt_trichotomy b.rank a.rank with h | h | h
      · simp [hba.mpr h, h]
      · have h1 : fltV b a = false := Bool.eq_false_iff.mpr fun e => RankLt.irrefl _ (h ▸ hba.mp e)
        have h2 : fltV a b = false := Bool.eq_false_iff.mpr fun e => RankLt.irrefl _ (h ▸ hab.mp e)
        simp [h1, h2, h, RankLt.irrefl]
      · have h1 : fltV b a = false := Bool.eq_false_iff.mpr fun e => (hba.mp e).asymm h
        have hne : a.rank ≠ b.rank := fun e => RankLt.irrefl _ (e ▸ h)
        simp [h1, hab.mpr h, h.asymm, hne]

theorem topkBefore_trans {x y z : FVal × Nat} (h : topkBefore x y = true) (h' : topkBefore y z = true) :
    topkBefore x z = true := by
  rw [topkBefore_iff] at *
  rcases h with h | ⟨h, hi⟩ <;> rcases h' with h' | ⟨h', hj⟩
  · exact .inl (h'.trans h)
  · exact .inl (h' ▸ h)
  · exact .inl (h ▸ h')
  · exact .inr ⟨h.trans h', Nat.lt_trans hi hj⟩

/-- Of two candidates at different indices one ranks before the other. -/
theorem topkBefore_of_not {x y : FVal × Nat} (hne : x.2 ≠ y.2) (h : ¬ topkBefore x y = true) : topkBefore y x = true := by
  rw [topkBefore_iff] at *
  obtain ⟨h1, h2⟩ := not_or.mp h
  rcases rankLt_trichotomy x.1.rank y.1.rank with h' | h' | h'
  · exact .inl h'
  · have hlt : ¬x.2 < y.2 := fun hlt => h2 ⟨h', hlt⟩
    exact .inr ⟨h'.symm, by omega⟩
  · exact absurd h' h1

/-! ### Insertion -/

theorem topkInsert_perm (x : FVal × Nat) (l : List (FVal × Nat)) : (topkInsert x l).Perm (x :: l) := by
  induction l with
  | nil => exact .refl _
  | cons y ys ih =>
    unfold topkInsert; split
    · exact .refl _
    · exact (ih.cons y).trans (.swap x y ys)

theorem topkInsert_pairwise {x : FVal × Nat} {l : List (FVal × Nat)} (hl : l.Pairwise fun p q => topkBefore p q = true)
    (hx : ∀ p ∈ l, p.2 ≠ x.2) : (topkInsert x l).Pairwise fun p q => topkBefore p q = true := by
  induction l with
  | nil => exact List.pairwise_singleton _ x
  | cons y ys ih =>
    obtain ⟨hy, hys⟩ := List.pairwise_cons.mp hl
    unfold topkInsert; split
    case isTrue h =>
      refine List.pairwise_cons.mpr ⟨fun p hp => ?_, hl⟩
      rcases List.mem_cons.mp hp with rfl | hp
      · exact h
      · exact topkBefore_trans h (hy p hp)
    case isFalse h =>
      refine List.pairwise_cons.mpr ⟨fun p hp => ?_, ih hys fun p hp => hx p (List.mem_cons_of_mem y hp)⟩
      rcases List.mem_cons.mp ((topkInsert_perm x ys).mem_iff.mp hp) with rfl | hp
      · exact topkBefore_of_not (hx y List.mem_cons_self).symm h
      · exact hy p hp

/-- Insertion into the first k leaves the same first k as insertion into all. -/
theorem take_topkInsert_take (x : FVal × Nat) (l : List (FVal × Nat)) (k : Nat) :
    (topkInsert x (l.take k)).take k = (topkInsert x l).take k := by
  induction l generalizing k with
  | nil => simp
  | cons y ys ih =>
    cases k with
    | zero => simp
    | succ k =>
      rw [List.take_succ_cons]
      unfold topkInsert; split
      · cases k <;> simp [List.take_take]
      · rw [List.take_succ_cons, List.take_succ_cons, ih]

/-! ### The selection -/

/-- All candidates in rank order. -/
def ranked (l : List (FVal × Nat)) : List (FVal × Nat) := l.foldl (fun acc p => topkInsert p acc) []

theorem foldl_topkInsert_take (k : Nat) (l acc : List (FVal × Nat)) :
    l.foldl (fun acc p => (topkInsert (p.1, p.2) acc).take k) (acc.take k) =
      (l.foldl (fun acc p => topkInsert p acc) acc).take k := by
  induction l generalizing acc with
  | nil => rfl
  | cons p ps ih => rw [List.foldl_cons, List.foldl_cons, take_topkInsert_take, ih]

theorem topk_eq_take_ranked (k : Nat) (vs : List FVal) : topk k vs = (ranked vs.zipIdx).take k := by
  have h := foldl_topkInsert_take k vs.zipIdx []
  rwa [List.take_nil] at h

theorem foldl_topkInsert_perm (l acc : List (FVal × Nat)) : (l.foldl (fun acc p => topkInsert p acc) acc).Perm (l ++ acc) := by
  induction l generalizing acc with
  | nil => exact .refl _
  | cons p ps ih => exact (ih _).trans (((topkInsert_perm p acc).append_left ps).trans List.perm_middle)
theorem ranked_perm (l : List (FVal × Nat)) : (ranked l).Perm l := by
  have h := foldl_topkInsert_perm l []
  rwa [List.append_nil] at h

theorem foldl_topkInsert_pairwise {l acc : List (FVal × Nat)} (hacc : acc.Pairwise fun p q => topkBefore p q = true)
    (hl : (l.map Prod.snd).Nodup) (hd : ∀ p ∈ l, ∀ q ∈ acc, q.2 ≠ p.2) :
    (l.foldl (fun acc p => topkInsert p acc) acc).Pairwise fun p q => topkBefore p q = true := by
  induction l generalizing acc with
  | nil => exact hacc
  | cons p ps ih =>
    obtain ⟨hp, hps⟩ := List.nodup_cons.mp hl
    refine ih (topkInsert_pairwise hacc (hd p List.mem_cons_self)) hps fun q hq r hr => ?_
    rcases List.mem_cons.mp ((topkInsert_perm p acc).mem_iff.mp hr) with rfl | hr
    · exact fun e => hp (e ▸ List.mem_map_of_mem hq)
    · exact hd q (List.mem_cons_of_mem p hq) r hr
theorem ranked_pairwise (vs : List FVal) : (ranked vs.zipIdx).Pairwise fun p q => topkBefore p q = true := by
  refine foldl_topkInsert_pairwise List.Pairwise.nil ?_ (by simp)
  rw [List.zipIdx_map_snd]
  exact List.nodup_range'

theorem mem_ranked {vs : List FVal} {p : FVal × Nat} : p ∈ ranked vs.zipIdx ↔ vs[p.2]? = some p.1 := by
  rw [(ranked_perm _).mem_iff, List.mem_zipIdx_iff_getElem?]

/-- Settles O12: the selection is the first k of all candidates in rank order. -/
theorem topkSelectsTheLargest : Obligations.TopkSelectsTheLargest := by
  unfold Obligations.TopkSelectsTheLargest
  intro vs k hk
  have hpair := ranked_pairwise vs
  rw [topk_eq_take_ranked]
  refine ⟨?_, fun p hp => mem_ranked.mp (List.mem_of_mem_take hp), hpair.sublist (List.take_sublist k _),
    fun i v hv hout p hp => ?_⟩
  · rw [List.length_take, (ranked_perm _).length_eq, List.length_zipIdx, Nat.min_eq_left hk]
  · have hmem : (v, i) ∈ ranked vs.zipIdx := mem_ranked.mpr hv
    rw [← List.take_append_drop k (ranked vs.zipIdx)] at hmem hpair
    exact (List.pairwise_append.mp hpair).2.2 p hp (v, i) ((List.mem_append.mp hmem).resolve_left hout)

/-! ### The instructions (R173) -/

section Instructions
variable {f : Fmt} {w : TileWord} {t : Tile} {c : Cluster}

theorem tTopk_param (h : (t.sreg (vB w)).toNat < 1 ∨ 4096 < (t.sreg (vB w)).toNat ∨ (t.sreg (vC w)).toNat < 1 ∨
    16 < (t.sreg (vC w)).toNat ∨ (t.sreg (vB w)).toNat < (t.sreg (vC w)).toNat) : tTopk f w t c = tfault fParam := if_pos h

theorem tTopk_ok {n k b : Nat} {l : List Byte} (hn : (t.sreg (vB w)).toNat = n) (hk : (t.sreg (vC w)).toNat = k)
    (h1 : 1 ≤ k) (h2 : k ≤ n) (h3 : k ≤ 16) (h4 : n ≤ 4096) (hb : f.w = 8 * b)
    (hl : tread t c (t.areg (vA w - 32)).toNat (b * n) = .ok l) :
    tTopk f w t c = twrite t c (t.areg (vD w - 32)).toNat
      ((topk k ((unpackCodes f.w n l).map (decodeFp f))).flatMap fun p => le 4 (toF32 p.1).toNat ++ le 4 p.2) := by
  have hbytes : n * f.w / 8 = b * n := by rw [hb, Nat.mul_left_comm, Nat.mul_div_cancel_left _ (by omega), Nat.mul_comm]
  simp only [tTopk, hn, hk]
  rw [if_neg (by omega), hbytes, hl]

end Instructions

/-- Settles O11: within the bounds the written bytes are those of the selection. -/
theorem topkInstructions : Obligations.TopkInstructions := by
  unfold Obligations.TopkInstructions
  intro s g t w
  refine ⟨fun h => ⟨tileFaults rfl (tTopk_param h) (by decide), tileFaults rfl (tTopk_param h) (by decide)⟩,
    fun h1 h2 h3 h4 => ⟨fun l y z hl hw => ?_, fun f l y z hf hfw hl hw => ?_⟩⟩
  · exact tileDoes rfl ((tTopk_ok (b := 4) rfl rfl h1 h2 h3 h4 rfl hl).trans hw)
  · obtain rfl := Option.some.inj hf
    exact tileDoes rfl ((tTopk_ok (b := 2) rfl rfl h1 h2 h3 h4 rfl hl).trans hw)

end Sys2Proof.Machine
end

section
/-! PROOFS. Class MMA: windows, their records, and the tiles a weight load and a run move (R143, R174, R175). -/
namespace Sys2Proof.Machine

/-! ### Spill records (R143) -/

/-- A number that fits reads back from its two's complement. -/
theorem sext_unsext {w : Nat} {x : Int} (hw : 0 < w) (h : -2 ^ (w - 1) ≤ x) (h' : x < 2 ^ (w - 1)) :
    sext w (unsext w x) = x := by
  obtain ⟨k, rfl⟩ : ∃ k, w = k + 1 := ⟨w - 1, by omega⟩
  rw [Nat.add_sub_cancel] at h h'
  have hpos : (0 : Int) < 2 ^ k := Int.pow_pos (by decide)
  have hp : (2 : Int) ^ (k + 1) = 2 * 2 ^ k := by rw [Int.pow_succ, Int.mul_comm]
  have hnat : 2 ^ (k + 1) = 2 * 2 ^ k := by rw [Nat.pow_succ, Nat.mul_comm]
  have hcast : ((2 ^ k : Nat) : Int) = 2 ^ k := Int.natCast_pow 2 k
  unfold sext unsext
  rcases Int.lt_or_le x 0 with hx | hx
  · have hm : x % 2 ^ (k + 1) = x + 2 ^ (k + 1) := by
      rw [← Int.add_emod_right, Int.emod_eq_of_lt (by omega) (by omega)]
    rw [hm, hp, hnat, Nat.mod_eq_of_lt (by omega), if_pos (by omega)]; omega
  · rw [Int.emod_eq_of_lt hx (by omega), hnat, Nat.mod_eq_of_lt (by omega), if_neg (by omega)]; omega

theorem unsext_lt (w : Nat) (x : Int) : unsext w x < 2 ^ w := by
  have hpos : (0 : Int) < 2 ^ w := Int.pow_pos (by decide)
  have h := Int.emod_lt_of_pos x hpos
  have h0 := Int.emod_nonneg x (Int.ne_of_gt hpos)
  have hcast : ((2 ^ w : Nat) : Int) = 2 ^ w := Int.natCast_pow 2 w
  unfold unsext; omega

/-- The flags byte of a record. -/
def Window.flags (x : Window) : Nat :=
  b2n x.empty + 2 * b2n x.exceeded + 4 * b2n x.nan + 8 * b2n x.posInf + 16 * b2n x.negInf

theorem Window.flags_lt (x : Window) : x.flags < 256 := by
  unfold Window.flags b2n
  have h (b : Bool) : (if b = true then 1 else 0) ≤ 1 := by split <;> omega
  have := h x.empty; have := h x.exceeded; have := h x.nan; have := h x.posInf; have := h x.negInf
  omega

theorem Window.bit_flags (x : Window) : bit x.flags 0 = x.empty ∧ bit x.flags 1 = x.exceeded ∧ bit x.flags 2 = x.nan ∧
    bit x.flags 3 = x.posInf ∧ bit x.flags 4 = x.negInf := by
  unfold Window.flags
  generalize x.empty = a, x.exceeded = b, x.nan = c, x.posInf = d, x.negInf = e
  revert a b c d e; decide

theorem Window.record_eq (x : Window) : x.record =
    le 16 x.w.toNat ++ (le 2 (unsext 16 x.emax) ++ (le 2 (unsext 16 x.emin) ++ (le 4 x.n ++ (le 1 x.flags ++ zeros 7)))) := by
  simp only [Window.record, List.append_assoc]; rfl

/-- A field that stands behind the head of a record. -/
theorem field_behind {off k n x : Nat} (h : k ≤ off) (y : Nat) (l : List Byte)
    (hl : field l (off - k) n = x) : field (le k y ++ l) off n = x := by
  rw [field_append_right (by simpa using h), le_length, hl]

theorem field_le_append_of_lt {n x : Nat} (h : x < 256 ^ n) (l : List Byte) : field (le n x ++ l) 0 n = x := by
  rw [field_le_append, Nat.mod_eq_of_lt h]

section Fields
variable (x : Window)

theorem Window.field_record_w : field x.record 0 16 = x.w.toNat := by
  rw [x.record_eq]; exact field_le_append_of_lt x.w.isLt _
theorem Window.field_record_emax : field x.record 16 2 = unsext 16 x.emax := by
  rw [x.record_eq]
  exact field_behind (by decide) _ _ (field_le_append_of_lt (unsext_lt 16 _) _)
theorem Window.field_record_emin : field x.record 18 2 = unsext 16 x.emin := by
  rw [x.record_eq]
  exact field_behind (by decide) _ _ <| field_behind (by decide) _ _ (field_le_append_of_lt (unsext_lt 16 _) _)
theorem Window.field_record_n (h : x.n ≤ 65537) : field x.record 20 4 = x.n := by
  rw [x.record_eq]
  exact field_behind (by decide) _ _ <| field_behind (by decide) _ _ <| field_behind (by decide) _ _
    (field_le_append_of_lt (by omega) _)
theorem Window.field_record_flags : field x.record 24 1 = x.flags := by
  rw [x.record_eq]
  exact field_behind (by decide) _ _ <| field_behind (by decide) _ _ <| field_behind (by decide) _ _ <|
    field_behind (by decide) _ _ (field_le_append_of_lt x.flags_lt _)

end Fields

/-- Settles O14: each field of the record reads back, within its bounds. -/
theorem spillRecordRestores : Obligations.SpillRecordRestores := by
  unfold Obligations.SpillRecordRestores
  intro x h1 h2 h3 h4 h5
  refine ⟨by simp [Window.record], ?_⟩
  obtain ⟨f0, f1, f2, f3, f4⟩ := x.bit_flags
  have hn : min 65537 (bits x.n 0 17) = x.n := by
    rw [bits, Nat.shiftRight_zero, Nat.mod_eq_of_lt (by omega), Nat.min_eq_right h5]
  rw [Window.ofRecord, x.field_record_w, x.field_record_emax, x.field_record_emin, x.field_record_n h5, x.field_record_flags,
    hn, f0, f1, f2, f3, f4, sext_unsext (by decide) h1 h2, sext_unsext (by decide) h3 h4]
  simp

/-! ### Windows cleared (R174) -/

/-- `u` is `t` with the windows of the keys `P` emptied. -/
structure Cleared (P : Nat → Prop) [DecidablePred P] (t u : Tile) : Prop where
  rest : { u with win := t.win } = t
  wf : Tab.wf u.win = true
  win : ∀ k, Tab.getD u.win k {} = if P k then {} else Tab.getD t.win k {}

theorem Cleared.none {t : Tile} (h : Tab.wf t.win = true) : Cleared (fun _ => False) t t := ⟨rfl, h, fun _ => rfl⟩

theorem Cleared.congr {P Q : Nat → Prop} [DecidablePred P] [DecidablePred Q] {t u : Tile} (h : Cleared P t u)
    (hPQ : ∀ k, P k ↔ Q k) : Cleared Q t u :=
  ⟨h.rest, h.wf, fun k => by rw [h.win k]; simp only [hPQ k]⟩

theorem Cleared.setWindow {P : Nat → Prop} [DecidablePred P] {t u : Tile} (h : Cleared P t u) (r n : Nat) :
    Cleared (fun k => P k ∨ k = r * 128 + n) t (u.setWindow r n {}) := by
  refine ⟨h.rest, Tab.wf_set (d := {}) h.wf (r * 128 + n) {}, fun k => ?_⟩
  by_cases hk : k = r * 128 + n
  · subst hk; rw [if_pos (Or.inr rfl)]; exact Tab.getD_set_same (d := {}) h.wf (r * 128 + n) {}
  · simp only [hk, or_false, ← h.win k]; exact Tab.getD_set_other (d := {}) u.win {} hk {}

theorem Cleared.row {P : Nat → Prop} [DecidablePred P] {t u : Tile} (h : Cleared P t u) (r m : Nat) :
    Cleared (fun k => P k ∨ r * 128 ≤ k ∧ k < r * 128 + m) t
      ((List.range m).foldl (fun t n => t.setWindow r n {}) u) := by
  induction m with
  | zero => exact h.congr fun k => (or_iff_left (by omega)).symm
  | succ m ih =>
    rw [List.range_succ (n := m), List.foldl_append]
    exact (ih.setWindow r m).congr fun k => or_assoc.trans (or_congr_right (by omega))

theorem Cleared.rows {t : Tile} (h : Tab.wf t.win = true) (r m : Nat) :
    Cleared (fun k => r * 128 ≤ k ∧ k < r * 128 + m * 128) t
      ((List.range m).foldl (fun t i => (List.range 128).foldl (fun t n => t.setWindow (r + i) n {}) t) t) := by
  induction m with
  | zero => exact (Cleared.none h).congr fun k => ⟨False.elim, by omega⟩
  | succ m ih =>
    rw [List.range_succ (n := m), List.foldl_append, List.foldl_cons, List.foldl_nil]
    exact (ih.row (r + m) 128).congr fun k => by omega

/-- Equivalent conditions choose the same value. -/
theorem ite_of_iff {α : Type} {P Q : Prop} [Decidable P] [Decidable Q] {x y : α} (h : P ↔ Q) :
    (if P then x else y) = if Q then x else y := by simp only [h]

/-- The window of a row and a column below 128 is emptied exactly when its row is one of those cleared. -/
theorem Cleared.window {t u : Tile} {r m : Nat} (h : Cleared (fun k => r * 128 ≤ k ∧ k < r * 128 + m * 128) t u) (i : Nat)
    {n : Nat} (hn : n < 128) : u.window i n = if r ≤ i ∧ i < r + m then {} else t.window i n := by
  unfold Tile.window
  rw [h.win]
  exact ite_of_iff (by omega)

section Effects
variable {w : TileWord} {t : Tile} {c : Cluster}

/-! ### Rows in range (R174) -/

theorem rowsOk_iff : rowsOk w = true ↔ mRow w + mRows w ≤ 128 := decide_eq_true_iff
theorem rowsOk_false (h : ¬ mRow w + mRows w ≤ 128) : rowsOk w = false := decide_eq_false h

theorem tWclr_ok (h : rowsOk w = true) : tWclr w t c = .ok (overRows w (fun t r n => t.setWindow r n {}) t, c) := by
  simp [tWclr, h]
theorem tWspill_ok (h : rowsOk w = true) : tWspill w t c = spillRows w (mRows w) 0 t c := by simp [tWspill, h]
theorem tWrest_ok {y : Tile} (h : rowsOk w = true) (hy : restRows w (mRows w) 0 t c = .ok y) :
    tWrest w t c = .ok (y, c) := by simp [tWrest, h, hy]
theorem tSetfmt_ok {l : List Byte} (h : rowsOk w = true) (ha : (t.areg (mX w)).toNat % 16 = 0)
    (hl : tread t c (t.areg (mX w)).toNat 16 = .ok l) : tSetfmt w t c = .ok ({ t with aset := Settings.ofBytes l }, c) := by
  simp [tSetfmt, h, ha, hl]
theorem tSetfmt_misaligned (h : rowsOk w = true) (ha : (t.areg (mX w)).toNat % 16 ≠ 0) :
    tSetfmt w t c = tfault fMisalign (t.areg (mX w)).toNat := by simp [tSetfmt, h, ha]

/-! ### Weight loads and runs (R174, R175) -/

theorem tWld_noPair (h : rowsOk w = true) (hp : pairOf t.aset.aFmt t.aset.wFmt = none) :
    tWld w t c = fmtFault t.aset.wFmt := by simp [tWld, h, hp]
theorem tWld_wait {p : MClass × Bool} (h : rowsOk w = true) (hp : pairOf t.aset.aFmt t.aset.wFmt = some p)
    (hs : t.standby.isSome = true) : tWld w t c = tWait := by simp [tWld, h, hp, hs]
theorem tWld_columns {cl : MClass} {p : Bool} {cs : List (List (Nat × Nat) × List Nat)} (h : rowsOk w = true)
    (hp : pairOf t.aset.aFmt t.aset.wFmt = some (cl, p)) (hs : t.standby = none) (hsp : t.aset.sparsity ≠ 3)
    (hc : collect (wldColumn t c cl t.aset.wFmt t.aset.sparsity (t.areg (mX w)).toNat (t.areg (mY w)).toNat
      (t.areg (mZ w)).toNat) (List.range 128) = .ok cs) :
    tWld w t c = .ok (
      { t with
        standby := some { fmt := t.aset.wFmt, sparsity := t.aset.sparsity, k := (keptK cl t.aset.sparsity).2
                          cols := cs.map Prod.fst, scales := cs.map Prod.snd } }, c) := by
  simp [tWld, h, hp, hs, hsp, hc]

theorem tRun_noTile (h : rowsOk w = true) (hc : t.current = none) (hs : t.standby = none) :
    tRun w t c = tfault fParam := by simp [tRun, h, hc, hs]
theorem tRun_standby {wt : WTile} {cl : MClass} {p : Bool} {y : Tile} (h : rowsOk w = true) (hs : t.standby = some wt)
    (hp : pairOf t.aset.aFmt wt.fmt = some (cl, p))
    (hr : runRows w wt p (mRows w) 0 { t with current := some wt, standby := none } c = .ok y) :
    tRun w t c = .ok (y, c) := by simp [tRun, h, hs, hp, hr]
theorem tRun_current {wt : WTile} {cl : MClass} {p : Bool} {y : Tile} (h : rowsOk w = true) (hs : t.standby = none)
    (hc : t.current = some wt) (hp : pairOf t.aset.aFmt wt.fmt = some (cl, p)) (hr : runRows w wt p (mRows w) 0 t c = .ok y) :
    tRun w t c = .ok (y, c) := by simp [tRun, h, hs, hc, hp, hr]
theorem tWrnd_format (h : rowsOk w = true) (hr : roundOk t.aset t.aset.outFmt = false) :
    tWrnd w t c = fmtFault t.aset.outFmt := by simp [tWrnd, h, hr]
theorem tWrnd_ok {sc : List Byte} (h : rowsOk w = true) (hr : roundOk t.aset t.aset.outFmt = true)
    (hsc : (if isInt t.aset.aFmt || isInt t.aset.outFmt then tread t c (t.areg (mY w)).toNat 1536 else .ok []) = .ok sc) :
    tWrnd w t c = rndRows w sc (mRows w) 0 t c := by simp only [tWrnd, h, hr, hsc]; simp

end Effects

/-- A word whose effect waits leaves the compute side as it is and issues again (R167). -/
theorem issueRaw_wait {s : State} {g : Clu} {t : Til} {cls func : Nat} {w : TileWord} (h : TileReady s g t cls func w)
    {k : TileFn} (hk : k (s.comp.tile g t) (s.comp.clu g) = tWait) :
    (s.issueRaw g t cls func w k).comp = s.comp ∧ OnlyCompute s (s.issueRaw g t cls func w k) := by
  obtain ⟨h1, h2, h3, h4, h5⟩ := h
  have : s.comp.issueRaw g t cls func w k = (s.comp, none) := by simp [Comp.issueRaw, h1, h2, h3, h4, h5, hk, tWait]
  unfold State.issueRaw
  rw [this]
  exact issued_ok ..

theorem issue_wait {s : State} {g : Clu} {t : Til} {cls func : Nat} {w : TileWord} (h : TileReady s g t cls func w)
    {k : TileFn} (hk : k (s.comp.tile g t) (s.comp.clu g) = tWait) :
    (s.issue g t cls func w k).comp = s.comp ∧ OnlyCompute s (s.issue g t cls func w k) :=
  issueRaw_wait h (k := andNext k) (by simp [andNext, hk, tWait])

/-- Settles O13: rows in range give each word its effect, other rows PARAM. -/
theorem windowInstructions : Obligations.WindowInstructions := by
  unfold Obligations.WindowInstructions
  intro s g t w
  refine ⟨fun h hwf => ?_, fun h ha l hl => ?_, fun h ha => ?_, fun h => ⟨fun y z hy => ?_, fun y hy => ?_⟩, fun h => ?_⟩
  · have hc := Cleared.rows hwf (mRow w) (mRows w)
    exact ⟨_, hc.rest, fun r n hn => hc.window r hn, tileDoes rfl (tWclr_ok (rowsOk_iff.mpr h))⟩
  · exact tileDoes rfl (tSetfmt_ok (rowsOk_iff.mpr h) ha hl)
  · exact tileFaults rfl (tSetfmt_misaligned (rowsOk_iff.mpr h) ha) (Nat.succ_ne_zero 6)
  · exact tileDoes rfl ((tWspill_ok (rowsOk_iff.mpr h)).trans hy)
  · exact tileDoes rfl (tWrest_ok (rowsOk_iff.mpr h) hy)
  · have hf := rowsOk_false h
    exact ⟨tileFaults rfl (if_pos hf) (by decide), tileFaults rfl (if_pos hf) (by decide),
      tileFaults rfl (if_pos hf) (by decide), tileFaults rfl (if_pos hf) (by decide), tileFaults rfl (if_pos hf) (by decide),
      tileFaults rfl (if_pos hf) (by decide), tileFaults rfl (if_pos hf) (by decide)⟩

/-- Settles O15: the tiles a weight load and a run move, case by case; a full STANDBY is a wait without effect. -/
theorem matrixInstructions : Obligations.MatrixInstructions := by
  unfold Obligations.MatrixInstructions
  intro s g t w
  refine ⟨fun h hp => ?_, fun cl p h hp hs hready => ?_, fun cl p cs h hp hs hsp hc => ?_, fun y z h hsp hy => ?_, fun h => ?_⟩
  · exact tileFaults rfl (tWld_noPair (rowsOk_iff.mpr h) hp) (Nat.succ_ne_zero 1)
  · exact ⟨_, rfl, issue_wait hready (tWld_wait (rowsOk_iff.mpr h) hp hs)⟩
  · exact tileDoes rfl (tWld_columns (rowsOk_iff.mpr h) hp hs hsp hc)
  · exact tileDoes rfl hy
  · have hr := rowsOk_iff.mpr h
    exact ⟨fun hc hs => tileFaults rfl (tRun_noTile hr hc hs) (by decide),
      fun wt cl p y hs hp hy => tileDoes rfl (tRun_standby hr hs hp hy),
      fun wt cl p y hs hc hp hy => tileDoes rfl (tRun_current hr hs hc hp hy),
      fun ho => tileFaults rfl (tWrnd_format hr ho) (Nat.succ_ne_zero 1),
      fun sc y z ho hsc hy => tileDoes rfl ((tWrnd_ok hr ho hsc).trans hy)⟩

end Sys2Proof.Machine
end

section
/-! PROOFS. Scorecards and the instructions of class SCORE (R145, R146, R177). -/
namespace Sys2Proof.Machine

/-! ### Contributions commute (R146) -/

/-- Counts add up, and one that was past 2^40 stays past it. -/
theorem Card.addCount_addCount (c : Card) (j k : Nat) : (c.addCount j).addCount k = c.addCount (j + k) := by
  have hcount : min Card.maxCount (min Card.maxCount (c.count + j) + k) = min Card.maxCount (c.count + (j + k)) := by omega
  have hovfl : (2 ^ 40 < min Card.maxCount (c.count + j) ∨ 2 ^ 40 < min Card.maxCount (c.count + (j + k))) ↔
      2 ^ 40 < min Card.maxCount (c.count + (j + k)) := by omega
  simp only [Card.addCount, hcount, Bool.or_assoc, ← Bool.decide_or, hovfl]

/-- What a floating-point or an integer value contributes, as a scorecard of its own. -/
def cardOfF (x : FVal) : Card :=
  match x with
  | .nan => { count := 1, nan := true }
  | .inf s => { count := 1, negInf := s, posInf := !s }
  | .fin _ _ => { count := 1, v := BitVec.ofInt 320 (x.rat * pow2 149).floor }
def cardOfI (x : BitVec 32) : Card := { count := 1, v := BitVec.ofInt 320 x.toInt <<< 149 }

theorem Card.addF_eq (c : Card) (x : FVal) : c.addF x = c.addRaw (cardOfF x) := by
  cases x with
  | nan => simp [Card.addF, Card.addRaw, cardOfF, Card.addCount] <;> rfl
  | inf s => cases s <;> simp [Card.addF, Card.addRaw, cardOfF, Card.addCount]
  | fin s m => simp [Card.addF, Card.addRaw, cardOfF, Card.addCount] <;> rfl
theorem Card.addI_eq (c : Card) (x : BitVec 32) : c.addI x = c.addRaw (cardOfI x) := by
  simp [Card.addI, Card.addRaw, cardOfI, Card.addCount] <;> rfl

theorem Card.addRaw_right_comm (c d e : Card) : (c.addRaw d).addRaw e = (c.addRaw e).addRaw d := by
  have h (d e : Card) : (c.addRaw d).addRaw e =
      { v := c.v + d.v + e.v, count := (c.addCount (d.count + e.count)).count, nan := c.nan || d.nan || e.nan,
        posInf := c.posInf || d.posInf || e.posInf, negInf := c.negInf || d.negInf || e.negInf,
        range := c.range || d.range || e.range,
        ovfl := (c.addCount (d.count + e.count)).ovfl || d.ovfl || e.ovfl } := by
    rw [← Card.addCount_addCount]
    simp only [Card.addRaw, Card.addCount, Card.mk.injEq, true_and]
    ac_rfl
  rw [h, h, Nat.add_comm]
  congr 1 <;> ac_rfl

/-- Settles O17: every contribution is that of a scorecard, and those commute. -/
theorem scorecardOrderDoesNotMatter : Obligations.ScorecardOrderDoesNotMatter := by
  unfold Obligations.ScorecardOrderDoesNotMatter
  intro c x y i j d e
  simp only [Card.addF_eq, Card.addI_eq]
  exact ⟨Card.addRaw_right_comm c _ _, Card.addRaw_right_comm c _ _, Card.addRaw_right_comm c _ _,
    Card.addRaw_right_comm c _ _, Card.addRaw_right_comm c _ _, Card.addRaw_right_comm c _ _⟩

end Sys2Proof.Machine
end

section
/-! PROOFS. The instructions of class SCORE: contributions to the cluster that CRANK names, and the 64 scorecards of the
tile's own (R177). -/
namespace Sys2Proof.Machine

/-! ### Contributions -/

theorem cardRange_ok {t : Tile} {base n : Nat} (h : base + n ≤ 16384) (h' : base + n ≤ t.cards) :
    cardRange t base n = .ok () := by
  rw [cardRange, if_neg (by omega), if_neg (by omega)]

/-- What a contributing instruction of a ready tile leaves. -/
theorem issueScore_ok {s : State} {g : Clu} {t : Til} {func : Nat} {w : TileWord} (h : TileReady s g t 5 func w)
    {k : Tile → TRes (Tile × Nat × List (Card → Card))} {j base : Nat} {y : Tile} {fs : List (Card → Card)}
    (hr : rankCluster (s.comp.tile g t) g (scRank w) = .ok j) (hk : k (s.comp.tile g t) = .ok (y, base, fs))
    (hb : base + fs.length ≤ 16384) (hc : base + fs.length ≤ (s.comp.tile g t).cards) :
    OnlyCompute s (s.issueScore g t func w k) ∧ (s.issueScore g t func w k).comp =
      (s.comp.setTile g t (if rangeSet fs then y.flag 2 else y).next).setClu j ((s.comp.clu j).contribs base fs) := by
  obtain ⟨h1, h2, h3, h4, h5⟩ := h
  have hscore : s.comp.score g t func w k =
      ((s.comp.setTile g t (if rangeSet fs then y.flag 2 else y).next).setClu j ((s.comp.clu j).contribs base fs), none) := by
    simp [Comp.score, h1, h2, h3, h4, h5, hr, hk, cardRange_ok hb hc]
  rw [State.issueScore, hscore]
  exact ⟨(issued_ok ..).2, (issued_ok ..).1⟩

theorem kAddw_ok {w : TileWord} {x : Tile} {ws : List Window} (h : scRow w + scRows w ≤ 128)
    (hws : ws = (List.range (128 * scRows w)).map fun j => x.window (scRow w + j / 128) (j % 128)) :
    kAddw w x = .ok (if ws.any Window.exceeded then x.flag 1 else x, (x.sreg (scSI w)).toNat,
      ws.map fun v => fun c => c.addW v) := by
  subst hws; exact if_neg (Nat.not_lt.mpr h)

/-! ### Tile memory read in pieces -/

@[simp] theorem Mem.length_readsAt (d : Nat → Byte) (m : Mem) (a n : Nat) : (Mem.readsAt d m a n).length = n := by
  induction n generalizing m a with
  | zero => simp [Mem.readsAt]
  | succ n ih =>
    cases m with
    | nil => simp [Mem.readsAt, ih]
    | cons e m => rw [Mem.readsAt]; split <;> simp [ih]
theorem slice_length (l : List Byte) (off n : Nat) : (slice l off n).length = n := by
  simp only [slice, List.length_append, List.length_replicate]; have := List.length_take_le n (l.drop off); omega

/-- A read answers as many bytes as were asked for. -/
theorem tread_length {t : Tile} {c : Cluster} {a n : Nat} {l : List Byte} (h : tread t c a n = .ok l) : l.length = n := by
  unfold tread at h
  split at h
  · obtain rfl := Except.ok.inj h; exact Mem.length_readsAt ..
  · obtain rfl := Except.ok.inj h; exact slice_length ..
  · obtain rfl := Except.ok.inj h; exact Mem.length_readsAt ..
  · cases h

theorem getElem?_chunksAux {α : Type} {n : Nat} (hn : 0 < n) {f : Nat} {l : List α} (hf : l.length ≤ f) (i : Nat) :
    (chunksAux n f l)[i]? = if i * n < l.length then some ((l.drop (i * n)).take n) else none := by
  induction f generalizing l i with
  | zero =>
    obtain rfl : l = [] := List.length_eq_zero_iff.mp (by omega)
    simp [chunksAux]
  | succ f ih =>
    cases l with
    | nil => simp [chunksAux]
    | cons x xs =>
      have hlen : ((x :: xs).drop n).length ≤ f := by simp only [List.length_drop, List.length_cons] at *; omega
      cases i with
      | zero => simp [chunksAux]
      | succ i =>
        rw [show chunksAux n (f + 1) (x :: xs) = (x :: xs).take n :: chunksAux n f ((x :: xs).drop n) from rfl,
          List.getElem?_cons_succ, ih hlen i, List.length_drop, List.drop_drop]
        rw [show n + i * n = (i + 1) * n by rw [Nat.add_mul, Nat.one_mul, Nat.add_comm]]
        exact ite_of_iff (by rw [Nat.add_mul]; omega)
/-- Piece `i` of a list cut into pieces of `n`. -/
theorem getElem?_chunks {α : Type} {n : Nat} (hn : 0 < n) (l : List α) (i : Nat) :
    (chunks n l)[i]? = if i * n < l.length then some ((l.drop (i * n)).take n) else none :=
  getElem?_chunksAux hn (Nat.le_refl _) i

/-! ### Scorecards written -/

theorem Cluster.card_setCard_same {c : Cluster} (h : Tab.wf c.cards = true) (i : Nat) (x : Card) : (c.setCard i x).card i = x :=
  Tab.getD_set_same h i x
theorem Cluster.card_setCard_other (c : Cluster) {i j : Nat} (x : Card) (h : j ≠ i) : (c.setCard i x).card j = c.card j :=
  Tab.getD_set_other c.cards x h {}

/-- `z` is `c` with the scorecards from `b` on replaced by those of a list. -/
structure CardsSet (c : Cluster) (b : Nat) (l : List Card) (z : Cluster) : Prop where
  rest : { z with cards := c.cards } = c
  wf : Tab.wf z.cards = true
  card : ∀ i, z.card i = if b ≤ i ∧ i < b + l.length then (l[i - b]?).getD {} else c.card i

theorem CardsSet.nil {c : Cluster} (h : Tab.wf c.cards = true) (b : Nat) : CardsSet c b [] c :=
  ⟨rfl, h, fun i => (if_neg (by simp)).symm⟩

theorem CardsSet.snoc {c z : Cluster} {b : Nat} {l : List Card} (h : CardsSet c b l z) (x : Card) :
    CardsSet c b (l ++ [x]) (z.setCard (b + l.length) x) := by
  refine ⟨h.rest, Tab.wf_set (d := ({} : Card)) h.wf (b + l.length) x, fun i => ?_⟩
  by_cases hi : i = b + l.length
  · subst hi
    rw [Cluster.card_setCard_same h.wf, if_pos (by simp)]; simp
  · rw [Cluster.card_setCard_other _ _ hi, h.card i]
    by_cases hr : b ≤ i ∧ i < b + l.length
    · rw [if_pos hr, if_pos (by simp; omega), List.getElem?_append_left (by omega)]
    · rw [if_neg hr, if_neg (by simp; omega)]

theorem CardsSet.foldl {α : Type} {c z : Cluster} {b : Nat} {l : List Card} (f : α → Card) (as : List α) (h : CardsSet c b l z) :
    CardsSet c b (l ++ as.map f) ((as.zipIdx l.length).foldl (fun c p => c.setCard (b + p.2) (f p.1)) z) := by
  induction as generalizing l z with
  | nil => simpa using h
  | cons a as ih => simpa using ih (h.snoc (f a))

theorem CardsSet.load {α : Type} {c : Cluster} (h : Tab.wf c.cards = true) (b : Nat) (f : α → Card) (as : List α) :
    CardsSet c b (as.map f) (as.zipIdx.foldl (fun c p => c.setCard (b + p.2) (f p.1)) c) := by
  simpa using (CardsSet.nil h b).foldl f as

theorem CardsSet.clear {c : Cluster} (h : Tab.wf c.cards = true) (b n : Nat) :
    CardsSet c b (List.replicate n {}) ((List.range n).foldl (fun c i => c.setCard (b + i) {}) c) := by
  induction n with
  | zero => exact .nil h b
  | succ n ih =>
    rw [List.range_succ (n := n), List.foldl_append, List.replicate_succ']
    simpa using ih.snoc {}

/-! ### The 64 scorecards of the tile's own cluster -/

section Own
variable {w : TileWord} {t : Tile} {c : Cluster}

theorem own64_ok (h : scRank w = 32) (h1 : (t.sreg (scSI w)).toNat + 64 ≤ 16384) (h2 : (t.sreg (scSI w)).toNat + 64 ≤ t.cards) :
    own64 w t = .ok (t.sreg (scSI w)).toNat := by
  simp [own64, h, cardRange_ok h1 h2]
theorem own64_param (h : scRank w ≠ 32) : own64 w t = tfault fParam := if_pos h

theorem tRdraw_ok {b : Nat} (h : own64 w t = .ok b) : tRdraw w t c =
    twrite t c (t.areg (scAreg w)).toNat ((List.range 64).flatMap fun i => (c.card (b + i)).image) := by simp only [tRdraw, h]
theorem tCardClr_ok {b : Nat} (h : own64 w t = .ok b) :
    tCardClr w t c = .ok (t, (List.range 64).foldl (fun c i => c.setCard (b + i) {}) c) := by simp only [tCardClr, h]
theorem tCardLd_ok {b : Nat} {l : List Byte} (h : own64 w t = .ok b) (hl : tread t c (t.areg (scAreg w)).toNat 3072 = .ok l) :
    tCardLd w t c = .ok (t, ((chunks 48 l).zipIdx).foldl (fun c p => c.setCard (b + p.2) (Card.ofImage p.1)) c) := by
  simp only [tCardLd, h, hl]

/-- What RDRND flags of a rounded row. -/
def rdrndFlags (st : Settings) (b : Nat) (c : Cluster) : Nat :=
  let row := roundRow st st.outFmt b ((List.range 64).map fun i => (c.card (b + i)).xval)
  (if row.special then 4 else 0) + (if row.sat then 8 else 0)
theorem tRdrnd_ok {b : Nat} {y : Tile} {z : Cluster} (h : own64 w t = .ok b)
    (hf : t.aset.outFmt = 0x10 ∨ t.aset.outFmt = 0x11 ∨ t.aset.outFmt = 0x12) (hr : t.aset.round < 2)
    (hw : twrite t c (t.areg (scAreg w)).toNat
      (roundRow t.aset t.aset.outFmt b ((List.range 64).map fun i => (c.card (b + i)).xval)).bytes = .ok (y, z)) :
    tRdrnd w t c = .ok (y.flag (rdrndFlags t.aset b c), z) := by
  simp only [tRdrnd, h, hw]
  rw [if_neg (fun h => h.elim (absurd hf) (Nat.not_le.mpr hr))]; rfl

/-- The image read for scorecard `b + i`. -/
theorem cardsSet_load {b : Nat} {l : List Byte} (h : Tab.wf c.cards = true) (hl : l.length = 3072) (i : Nat) :
    (((chunks 48 l).zipIdx).foldl (fun c p => c.setCard (b + p.2) (Card.ofImage p.1)) c).card i =
      if b ≤ i ∧ i < b + 64 then Card.ofImage ((l.drop (48 * (i - b))).take 48) else c.card i := by
  have hget (j : Nat) := getElem?_chunks (n := 48) (by decide) l j
  have hlen : (chunks 48 l).length = 64 := by
    have h1 : (chunks 48 l).length ≤ 64 := by
      rw [← List.getElem?_eq_none_iff, hget, if_neg (by omega)]
    have h2 : 63 < (chunks 48 l).length := by
      refine Nat.lt_of_not_le fun hle => ?_
      have := hget 63
      rw [List.getElem?_eq_none (by omega), if_pos (by omega)] at this
      cases this
    omega
  rw [(CardsSet.load h b Card.ofImage (chunks 48 l)).card i, List.length_map, hlen]
  split
  case isTrue hi => rw [List.getElem?_map, hget, if_pos (by omega), Nat.mul_comm]; rfl
  case isFalse => rfl

end Own

/-- Settles O16: contributions by `issueScore_ok`; of the others, what each does with the 64 scorecards it names. -/
theorem scorecardInstructions : Obligations.ScorecardInstructions := by
  unfold Obligations.ScorecardInstructions
  refine ⟨fun s g t w j hr => ⟨fun hrows hready hb hc => ?_, fun hready hb hc => ?_, fun hready hb hc => ?_⟩,
    fun s g t w => ⟨fun h h1 h2 => ?_, fun h => ?_⟩⟩
  · exact ⟨_, rfl, issueScore_ok hready hr (kAddw_ok hrows rfl) hb hc⟩
  · exact ⟨_, rfl, issueScore_ok hready hr rfl hb hc⟩
  · exact ⟨_, rfl, issueScore_ok hready hr rfl hb hc⟩
  · have ho := own64_ok h h1 h2
    refine ⟨fun y z hw => tileDoes rfl ((tRdraw_ok ho).trans hw), fun hwf => ?_, fun l hl hwf => ?_,
      fun hf hround y z hw => ⟨_, tileDoes rfl (tRdrnd_ok ho hf hround hw)⟩⟩
    · have hs := CardsSet.clear hwf (((s.comp.tile g t).sreg (scSI w)).toNat) 64
      refine ⟨_, hs.rest, fun i => ?_, tileDoes rfl (tCardClr_ok ho)⟩
      rw [hs.card i, List.length_replicate]
      refine ite_congr rfl (fun _ => ?_) fun _ => rfl
      rw [List.getElem?_replicate]; split <;> rfl
    · exact ⟨_, (CardsSet.load hwf _ Card.ofImage (chunks 48 l)).rest, cardsSet_load hwf (tread_length hl),
        tileDoes rfl (tCardLd_ok ho hl)⟩
  · have ho (x : Tile) : own64 w x = tfault fParam := own64_param h
    refine ⟨tileFaults rfl ?_ (by decide), tileFaults rfl ?_ (by decide), tileFaults rfl ?_ (by decide),
      tileFaults rfl ?_ (by decide)⟩
    · simp only [tRdraw, ho]; rfl
    · simp only [tRdrnd, ho]; rfl
    · simp only [tCardClr, ho]; rfl
    · simp only [tCardLd, ho]; rfl

end Sys2Proof.Machine
end

section
/-! PROOFS. Streams, branches, loops, HALT and BAR (R178 to R180, R187, R189). -/
namespace Sys2Proof.Machine

section Effects
variable {w : TileWord} {t : Tile} {c : Cluster}

theorem tStart_ok {l : List Byte} (h : (Tab.getD t.streams (wfld w 48 2) []).length < 4)
    (hl : tread t c (t.areg (wfld w 45 3)).toNat 64 = .ok l) :
    tStart w t c = .ok (
      { t with
        streams := Tab.set [] t.streams (wfld w 48 2) (Tab.getD t.streams (wfld w 48 2) [] ++ [(t.pc, l)]) }, c) := by
  simp only [tStart, hl]; exact if_neg (Nat.not_le.mpr h)
theorem tStart_wait (h : 4 ≤ (Tab.getD t.streams (wfld w 48 2) []).length) : tStart w t c = tWait := if_pos h
theorem tStreamWait_drained (h : t.drained (wfld w 41 4) = true) : tStreamWait w t c = .ok (t, c) := by
  simp only [tStreamWait, h, if_true]
theorem tStreamWait_waits (h : t.drained (wfld w 41 4) = false) :
    tStreamWait w t c = .ok ({ t with wait := .streams (wfld w 41 4) }, c) := by
  simp [tStreamWait, h]

/-- The count of a LOOP word, and the word behind its body (R179). -/
def loopCount (w : TileWord) (t : Tile) : Nat :=
  if wfld w 44 1 = 1 then wfld w 28 16 else (t.sreg (wfld w 45 5)).toNat % 2 ^ 32
def loopStop (w : TileWord) (t : Tile) : Nat := t.pc + 1 + wfld w 14 14

theorem tLoop_nested (h : t.loops.length < 4) (hn : ∀ v ∈ t.loops.head?, loopStop w t ≤ v.stop) :
    tLoop w t c = if loopCount w t = 0 then .ok (t.goOn (loopStop w t), c) else
      .ok ({ t with pc := t.pc + 1
                    loops := { start := t.pc + 1, stop := loopStop w t, count := loopCount w t, lc := 0 } :: t.loops
                    lc := Tab.set 0 t.lc t.loops.length 0 }, c) := by
  unfold tLoop
  extract_lets count body stop nested
  have hnested : nested = true := by
    unfold nested
    split
    · rfl
    · next hl => rw [hl] at hn; exact decide_eq_true (hn _ rfl)
  rw [if_neg (by simp [hnested]; omega)]; rfl
theorem tLoop_fault (h : 4 ≤ t.loops.length) : tLoop w t c = tfault fLoop := if_pos (Or.inl h)

theorem tHalt_ok (h : t.drained 15 = true) : tHalt w t c = .ok ({ t with st := .idle }, c) := if_pos h
theorem tBar_ok (h : t.drained 15 = true) : tBar w t c = .ok ({ t with wait := .bar (wfld w 48 2) (wfld w 45 3) }, c) := if_pos h

end Effects

theorem tileBecomes {i : Instr} {cls func : Nat} {s : State} {g : Clu} {t : Til} {w : TileWord} {k : TileFn} {y : Tile}
    {z : Cluster} (h : TileReady s g t cls func w) (hi : exec i s = .next (s.issueRaw g t cls func w k))
    (hk : k (s.comp.tile g t) (s.comp.clu g) = .ok (y, z)) : TileBecomes i s g t y z :=
  ⟨_, hi, issueRaw_ok h hk⟩

/-! ### The state once a tile has halted or arrived -/

/-- `u` is `s` after a word that replaced the tile of a key by `y` and left the clusters as they were. -/
structure TileSet (s u : State) (own : Nat) (y : Tile) : Prop where
  only : OnlyCompute s u
  tile : u.tile own = y
  other : ∀ j, j ≠ own → u.tile j = s.tile j
  clu : ∀ j, u.clu j = s.clu j

theorem tileSet_issueRaw {s : State} {g : Clu} {t : Til} {cls func : Nat} {w : TileWord} {k : TileFn} {y : Tile}
    (h : TileReady s g t cls func w) (hw : Tab.wf s.comp.clus = true)
    (hk : k (s.comp.tile g t) (s.comp.clu g) = .ok (y, s.comp.clu g)) (hy : y ≠ {}) :
    TileSet s (s.issueRaw g t cls func w k) (s.comp.key g t) y := by
  obtain ⟨hcomp, honly⟩ := issueRaw_ok h hk
  have hclu (j : Nat) : (s.comp.setClu g (s.comp.clu g)).clu j = s.comp.clu j := by
    by_cases hj : j = g
    · subst hj; exact Tab.getD_set_same hw _ _
    · exact Tab.getD_set_other _ _ hj _
  have hkey : (s.comp.setClu g (s.comp.clu g)).key g t = s.comp.key g t := by simp only [Comp.key, hclu]
  refine ⟨honly, ?_, fun j hj => ?_, fun j => ?_⟩
  · rw [State.tile, hcomp, ← hkey]; exact Tab.getD_set_ne _ _ hy
  · rw [State.tile, hcomp, Comp.setTile, hkey]; exact Tab.getD_set_other _ _ hj _
  · rw [State.clu, hcomp]; exact hclu j

section After
variable {s u : State} {own : Nat} {y : Tile} {v : Inv}

theorem OnlyCompute.inv (h : OnlyCompute s u) (k : Nat) : u.inv k = s.inv k := by
  rw [← h]; rfl
theorem OnlyCompute.now (h : OnlyCompute s u) : u.now = s.now := by
  rw [← h]

theorem TileSet.tilesOf (h : TileSet s u own y) (v : Inv) : u.tilesOf v = s.tilesOf v := by
  simp only [State.tilesOf, h.clu]
theorem TileSet.scopeOf (h : TileSet s u own y) (v : Inv) (g sc : Nat) : u.scopeOf v g sc = s.scopeOf v g sc := by
  simp only [State.scopeOf, h.tilesOf]

theorem each_fixed {α : Type} {l : List α} {f : State → α → State} (h : ∀ x ∈ l, f u x = u) : u.each l f = u := by
  unfold State.each
  induction l with
  | nil => rfl
  | cons x xs ih => rw [List.foldl_cons, h x List.mem_cons_self, ih fun y hy => h y (List.mem_cons_of_mem x hy)]

/-- No SYNC faults where no tile of the invocation waits at a barrier while it runs. -/
theorem syncFaults_eq (h : ∀ x ∈ u.tilesOf v, ∀ a b, (u.tile x.1).wait = .bar a b → (u.tile x.1).st ≠ .running) :
    u.syncFaults v = u := by
  refine each_fixed fun x hx => ?_
  dsimp only
  split
  · next hb => rw [if_neg]; simp [h x hx _ _ hb]
  · rfl

theorem haltedInv_of_not {k : Nat} (hv : u.inv k = some v) (h : ∃ x ∈ u.tilesOf v, (u.tile x.1).st ≠ .idle) :
    u.haltedInv k = u := by
  obtain ⟨x, hx, hst⟩ := h
  rw [State.haltedInv, hv]
  refine if_neg fun hall => ?_
  simp only [Bool.and_eq_true, List.all_eq_true, beq_iff_eq] at hall
  exact hst (hall.2 x hx)
theorem haltedInv_of_all {k : Nat} (hv : u.inv k = some v) (hst : v.st = .running) (hp : v.prep = [])
    (h : ∀ x ∈ u.tilesOf v, (u.tile x.1).st = .idle) : u.haltedInv k = u.finishInv k := by
  rw [State.haltedInv, hv]
  refine if_pos ?_
  simpa [hst, hp] using fun a b c => h (a, b, c)

end After

/-- A HALT that takes effect ends the invocation once its tiles have all halted. -/
theorem exec_halt_idle {s : State} {g : Clu} {t : Til} {w : TileWord} {k : Nat} {v : Inv} {y : Tile}
    (h : TileSet s (s.issueRaw g t 7 2 w (tHalt w)) (s.comp.key g t) y) (hs : (s.comp.tile g t).st = .running)
    (hy : y.st = .idle) (hk : y.invKey = some k) (hv : s.inv k = some v) :
    exec (.halt g t w) s = .next (((s.issueRaw g t 7 2 w (tHalt w)).syncFaults v).haltedInv k) := by
  show execHalt g t w s = _
  have hs' : (s.tile (s.comp.key g t)).st = .running := hs
  simp only [execHalt, h.tile, hs', hy, hk, h.only.inv, Option.bind_some, hv, Option.map_some]
  rfl

/-- Whether the tile of a key bars an arrival at barrier `id` of invocation `k`: it waits at another one, or has halted. -/
def barClash (s : State) (id k j : Nat) : Bool :=
  (match (s.tile j).wait with | .bar _ i => i != id | _ => false) || ((s.tile j).st == .idle && (s.tile j).invKey == some k)

theorem barClash_iff {s : State} {id k j : Nat} : barClash s id k j = true ↔
    (∃ a b, (s.tile j).wait = .bar a b ∧ b ≠ id) ∨ ((s.tile j).st = .idle ∧ (s.tile j).invKey = some k) := by
  unfold barClash
  cases (s.tile j).wait with
  | bar a b =>
    simp only [Bool.or_eq_true, Bool.and_eq_true, bne_iff_ne, beq_iff_eq]
    exact or_congr ⟨fun h => ⟨a, b, rfl, h⟩, fun ⟨_, _, e, h⟩ => by cases e; exact h⟩ Iff.rfl
  | _ => simp

/-- A BAR that takes effect: the tile waits, or raises SYNC when a tile of its scope waits at another BARID or has halted. -/
theorem exec_bar_arrives {s : State} {g : Clu} {t : Til} {w : TileWord} {k sc id : Nat} {v : Inv} {y : Tile}
    (h : TileSet s (s.issueRaw g t 8 0 w (tBar w)) (s.comp.key g t) y) (hs : (s.comp.tile g t).wait = .none)
    (hy : y.wait = .bar sc id) (hk : y.invKey = some k) (hv : s.inv k = some v) :
    exec (.bar g t w) s =
      if ((s.scopeOf v g sc).filter (· ≠ s.comp.key g t)).any (barClash s id k) then
        .next ((s.issueRaw g t 8 0 w (tBar w)).onTile (s.comp.key g t) fun x =>
          { x with wait := .none }.limitFault s.now x.pc { code := fSync })
      else .next (s.issueRaw g t 8 0 w (tBar w)) := by
  show execBar g t w s = _
  have hs' : (s.tile (s.comp.key g t)).wait = .none := hs
  have hany : ((s.scopeOf v g sc).filter (· ≠ s.comp.key g t)).any (barClash (s.issueRaw g t 8 0 w (tBar w)) id k) =
      ((s.scopeOf v g sc).filter (· ≠ s.comp.key g t)).any (barClash s id k) := by
    rw [Bool.eq_iff_iff, List.any_eq_true, List.any_eq_true]
    refine exists_congr fun j => and_congr_right fun hj => ?_
    rw [barClash_iff, barClash_iff, h.other j (by simpa using (List.mem_filter.mp hj).2)]
  rw [← hany]
  simp only [execBar, h.tile, hy, hk, hs', Option.bind_some, h.only.inv, hv, h.scopeOf, h.only.now]
  rfl

/-- The tile of a HALT that takes effect. -/
theorem tileSet_halt {s : State} {g : Clu} {t : Til} {w : TileWord} (h : TileReady s g t 7 2 w)
    (hw : Tab.wf s.comp.clus = true) (hd : (s.comp.tile g t).drained 15 = true) :
    TileSet s (s.issueRaw g t 7 2 w (tHalt w)) (s.comp.key g t) { s.comp.tile g t with st := .idle } :=
  tileSet_issueRaw h hw (tHalt_ok hd) (Tile.ne_default_of_st (r := .idle) (by decide) rfl)

/-- The tile of a BAR that takes effect. -/
theorem tileSet_bar {s : State} {g : Clu} {t : Til} {w : TileWord} (h : TileReady s g t 8 0 w)
    (hw : Tab.wf s.comp.clus = true) (hd : (s.comp.tile g t).drained 15 = true) :
    TileSet s (s.issueRaw g t 8 0 w (tBar w)) (s.comp.key g t)
      { s.comp.tile g t with wait := .bar (wfld w 48 2) (wfld w 45 3) } :=
  tileSet_issueRaw h hw (tBar_ok hd) (Tile.ne_default_of_st (r := .running) (by decide) h.1)

section Halt
variable {s : State} {g : Clu} {t : Til} {w : TileWord} {k : Nat} {v : Inv} (hready : TileReady s g t 7 2 w)
  (hwf : Tab.wf s.comp.clus = true) (hd : (s.comp.tile g t).drained 15 = true) (hk : (s.comp.tile g t).invKey = some k)
  (hv : s.inv k = some v)
include hready hwf hd hk hv

theorem halt_goes_on (hbar : ∀ y ∈ s.tilesOf v, ∀ a b, (s.tile y.1).wait ≠ .bar a b)
    (hrest : ∃ y ∈ s.tilesOf v, y.1 ≠ s.comp.key g t ∧ (s.tile y.1).st ≠ .idle) :
    exec (.halt g t w) s = .next (s.issueRaw g t 7 2 w (tHalt w)) := by
  have hset := tileSet_halt hready hwf hd
  obtain ⟨hst, hwait, -⟩ := hready
  obtain ⟨x, hx, hne, hx'⟩ := hrest
  rw [exec_halt_idle hset hst rfl hk hv, syncFaults_eq, haltedInv_of_not (hset.only.inv k ▸ hv)]
  · exact ⟨x, (hset.tilesOf v).symm ▸ hx, by rwa [hset.other _ hne]⟩
  · intro y hy a b hb
    by_cases hyo : y.1 = s.comp.key g t
    · rw [hyo, hset.tile] at hb; rw [hwait] at hb; cases hb
    · rw [hset.other _ hyo] at hb
      exact absurd hb (hbar y (hset.tilesOf v ▸ hy) a b)

theorem halt_ends (hall : ∀ y ∈ s.tilesOf v, y.1 ≠ s.comp.key g t → (s.tile y.1).st = .idle) (hst : v.st = .running)
    (hp : v.prep = []) :
    exec (.halt g t w) s = .next ((s.issueRaw g t 7 2 w (tHalt w)).finishInv k) := by
  have hset := tileSet_halt hready hwf hd
  have hidle (x) (hx : x ∈ (s.issueRaw g t 7 2 w (tHalt w)).tilesOf v) :
      ((s.issueRaw g t 7 2 w (tHalt w)).tile x.1).st = .idle := by
    by_cases hxo : x.1 = s.comp.key g t
    · rw [hxo, hset.tile]
    · rw [hset.other _ hxo]; exact hall x (hset.tilesOf v ▸ hx) hxo
  rw [exec_halt_idle hset hready.1 rfl hk hv, syncFaults_eq, haltedInv_of_all (hset.only.inv k ▸ hv) hst hp hidle]
  intro x hx a b _
  rw [hidle x hx]; decide

end Halt

section Bar
variable {s : State} {g : Clu} {t : Til} {w : TileWord} {k : Nat} {v : Inv} (hready : TileReady s g t 8 0 w)
  (hwf : Tab.wf s.comp.clus = true) (hd : (s.comp.tile g t).drained 15 = true) (hk : (s.comp.tile g t).invKey = some k)
  (hv : s.inv k = some v)
include hready hwf hd hk hv

theorem bar_waits (h : ∀ j ∈ (s.scopeOf v g (wfld w 48 2)).filter (· ≠ s.comp.key g t),
      ¬((∃ a b, (s.tile j).wait = .bar a b ∧ b ≠ wfld w 45 3) ∨ ((s.tile j).st = .idle ∧ (s.tile j).invKey = some k))) :
    exec (.bar g t w) s = .next (s.issueRaw g t 8 0 w (tBar w)) := by
  rw [exec_bar_arrives (tileSet_bar hready hwf hd) hready.2.1 rfl hk hv, if_neg]
  rw [List.any_eq_true]
  rintro ⟨j, hj, hc⟩
  exact h j hj (barClash_iff.mp hc)

theorem bar_faults (h : ∃ j ∈ (s.scopeOf v g (wfld w 48 2)).filter (· ≠ s.comp.key g t),
      (∃ a b, (s.tile j).wait = .bar a b ∧ b ≠ wfld w 45 3) ∨ ((s.tile j).st = .idle ∧ (s.tile j).invKey = some k)) :
    ∃ u, exec (.bar g t w) s = .next u ∧ OnlyCompute s u ∧ (u.tile (s.comp.key g t)).st = .faulted ∧
      (u.tile (s.comp.key g t)).faultCode = 0x0D := by
  have hset := tileSet_bar hready hwf hd
  obtain ⟨j, hj, hc⟩ := h
  refine ⟨_, (exec_bar_arrives hset hready.2.1 rfl hk hv).trans (if_pos (List.any_eq_true.mpr ⟨j, hj, barClash_iff.mpr hc⟩)),
    hset.only, ?_⟩
  rw [State.tile_onTile hset.tile (Tile.ne_default_of_st (r := .faulted) (by decide) rfl)]
  exact ⟨rfl, rfl⟩

end Bar

/-- Settles O18: BAR and HALT by what they leave of their tile (`TileSet`), the other words by their effects. -/
theorem streamAndControlInstructions : Obligations.StreamAndControlInstructions := by
  unfold Obligations.StreamAndControlInstructions
  refine ⟨fun s g t w => ⟨fun h l hl => ?_, fun h hready => ?_, fun h => ?_, fun h => ?_, fun hready => ?_,
    fun hready h hn => ⟨fun hc => ?_, fun hc => ?_⟩, fun h => ?_, ?_⟩,
      fun s g t w k v hwf hk hv hd => ⟨fun hready => ?_, fun hready => ?_⟩⟩
  · exact tileDoes rfl (tStart_ok h hl)
  · exact ⟨_, rfl, issue_wait hready (tStart_wait h)⟩
  · exact tileDoes rfl (tStreamWait_drained h)
  · exact tileDoes rfl (tStreamWait_waits h)
  · exact tileBecomes hready rfl rfl
  · exact tileBecomes hready rfl ((tLoop_nested h hn).trans (if_neg hc))
  · exact tileBecomes hready rfl ((tLoop_nested h hn).trans (if_pos hc))
  · exact fun hready => ⟨_, rfl, issueRaw_fault hready (tLoop_fault h) (by decide)⟩
  · exact tileFaults rfl rfl (Nat.succ_ne_zero 11)
  · exact ⟨fun hbar hrest => ⟨_, halt_goes_on hready hwf hd hk hv hbar hrest, issueRaw_ok hready (tHalt_ok hd)⟩,
      halt_ends hready hwf hd hk hv⟩
  · exact ⟨fun h => ⟨_, bar_waits hready hwf hd hk hv h, issueRaw_ok hready (tBar_ok hd)⟩, bar_faults hready hwf hd hk hv⟩

end Sys2Proof.Machine
end

section
/-! PROOFS. Command rows that are answered or deferred: what taking a frame leaves readable, and the fields of a body
(R413 to R418). -/
namespace Sys2Proof.Machine

/-! ### A test of some entry of a table -/

section AnyEntry
variable {α : Type} {t : Tab α} {k : Nat} {v : α} {f : Nat × α → Bool}

theorem Tab.any_of_get? (h : (Tab.get? t k).elim false (fun w => f (k, w)) = true) : t.any f = true := by
  induction t with
  | nil => cases h
  | cons e t ih =>
    obtain ⟨j, w⟩ := e
    simp only [Tab.get?] at h
    split at h
    · next hk => subst hk; simp only [List.any_cons]; exact Bool.or_eq_true_iff.mpr (.inl h)
    · simp only [List.any_cons]; exact Bool.or_eq_true_iff.mpr (.inr (ih h))

theorem Tab.any_put (h : f (k, v) = (Tab.get? t k).elim false fun w => f (k, w)) : (Tab.put t k v).any f = t.any f := by
  induction t with
  | nil => simpa [Tab.put] using h
  | cons e t ih =>
    obtain ⟨j, w⟩ := e
    unfold Tab.put
    split
    · rw [List.any_cons, Bool.or_eq_right_iff_imp]
      exact fun hf => Tab.any_of_get? (h.symm.trans hf)
    · split
      · next hk => subst hk; simp only [Tab.get?, if_true, Option.elim_some] at h; simp only [List.any_cons, h]
      · next hk => simp only [Tab.get?, if_neg hk] at h; simp only [List.any_cons, ih h]

theorem Tab.any_del (h : ((Tab.get? t k).elim false fun w => f (k, w)) = false) : (Tab.del t k).any f = t.any f := by
  induction t with
  | nil => rfl
  | cons e t ih =>
    obtain ⟨j, w⟩ := e
    unfold Tab.del
    split
    · next hk => subst hk; simp only [Tab.get?, if_true, Option.elim_some] at h; simp only [List.any_cons, h, Bool.false_or]
    · next hk => simp only [Tab.get?, if_neg hk] at h; simp only [List.any_cons, ih h]

theorem Tab.any_set [DecidableEq α] {d : α} (hd : f (k, d) = false) (h : f (k, v) = f (k, Tab.getD t k d)) :
    (Tab.set d t k v).any f = t.any f := by
  have hget : f (k, Tab.getD t k d) = (Tab.get? t k).elim false fun w => f (k, w) := by
    unfold Tab.getD; cases Tab.get? t k <;> simp [hd]
  unfold Tab.set
  split
  · next hv => subst hv; exact Tab.any_del (by rw [← hget, ← h, hd])
  · exact Tab.any_put (h.trans hget)

end AnyEntry

section Rows
variable {s : State} {h : MbxHdr} {op : Nat} {body : List Byte}

/-! ### What taking a frame leaves (R414) -/

/-- Whatever reads neither mailboxes nor check-value units reads the same once the frame is taken. -/
theorem taken_read {α : Type} (f : State → α) (hf : ∀ s mbx chk, f { s with mbx := mbx, chk := chk } = f s) :
    f (s.taken h op body) = f s := by
  rw [onlyMail_taken s h op body]; exact hf ..

/-- A change of a mailbox that leaves its open commands as they were defers no more and no fewer. -/
theorem State.isDeferred_onBox {m : Nat} {f : Mailbox → Mailbox} (hf : (f (s.box m)).deferred = (s.box m).deferred)
    (op obj : Nat) : (s.onBox m f).isDeferred op obj = s.isDeferred op obj :=
  Tab.any_set rfl (by simp only [hf]; rfl)

theorem State.isDeferred_checkAlive (m a op obj : Nat) : (s.checkAlive m a).1.isDeferred op obj = s.isDeferred op obj := by
  unfold State.checkAlive
  split
  · exact State.isDeferred_onBox rfl op obj
  · dsimp only; split
    · exact State.isDeferred_onBox rfl op obj
    · rfl
theorem State.isDeferred_writeReq (m : Nat) (l : List Byte) (op obj : Nat) :
    (s.writeReq m l).isDeferred op obj = s.isDeferred op obj := by
  unfold State.writeReq; split
  · rfl
  · exact State.isDeferred_onBox rfl op obj
theorem State.isDeferred_writeOwn (m w op obj : Nat) : (s.writeOwn m w).isDeferred op obj = s.isDeferred op obj := by
  unfold State.writeOwn; split
  · rfl
  · exact State.isDeferred_onBox (m := m) (s := s) (by rfl) op obj

/-- Taking a frame defers nothing. -/
theorem isDeferred_taken (o obj : Nat) : (s.taken h op body).isDeferred o obj = s.isDeferred o obj := by
  rw [taken_eq, State.isDeferred_checkAlive]
  calc (s.handed h op body).isDeferred o obj
      = ((s.writeReq h.mbx (requestOf h op body)).writeOwn h.mbx 1).isDeferred o obj := State.isDeferred_onBox rfl o obj
    _ = s.isDeferred o obj := by rw [State.isDeferred_writeOwn, State.isDeferred_writeReq]

theorem State.openCount_checkAlive {m : Nat} (hr : (s.box m).ready = true) (a : Nat) :
    ((s.checkAlive m a).1.box m).openCount = (s.box m).openCount := by
  unfold State.checkAlive
  split
  · rw [State.box_onBox (by exact hr)]; rfl
  · dsimp only; split
    · rw [State.box_onBox (by exact hr)]; rfl
    · rfl

theorem MailReady.openCount_taken (hm : MailReady s h op body) :
    ((s.taken h op body).box h.mbx).openCount = (s.box h.mbx).openCount := by
  obtain ⟨ho, -, hb, -⟩ := hm
  have hbox := ho.box_handed (op := op) hb
  obtain ⟨-, -, -, hready, -⟩ := ho
  have hready' : (((s.handed h op body).chkFrame 0 (coveredOf h op body)).box h.mbx).ready = true := by
    change ((s.handed h op body).box h.mbx).ready = true
    rw [hbox]; exact hready
  rw [taken_eq, State.openCount_checkAlive hready']
  change ((s.handed h op body).box h.mbx).openCount = _
  rw [hbox]; rfl

/-! ### Rows that are deferred (R418) -/

/-- The state after the row of a command that is deferred in the state `taken`. -/
theorem MailReady.mail_defer (hm : MailReady s h op body) (hcount : (s.box h.mbx).openCount < 8) (hop : op < 65536) {u : State}
    {obj : Nat} {r : CmdRow} (hrow : cmdRow op = some r) (hcmd : r.cmd h.mbx body (s.taken h op body) = (u, .defer obj)) :
    s.mail h op body =
      (let d : Deferred := { opcode := op, alive := h.alive.toNat, reqId := h.reqId.toNat, obj := obj }
       ((u.draw.2.onBox h.mbx fun b => { b with deferred := b.deferred ++ [d] }).putResp h.mbx false op
         h.alive.toNat h.reqId.toNat 1 (le 4 u.draw.1)).after) := by
  rw [hm.mail_eq_execute hop hrow, State.execute]
  dsimp only
  rw [hcmd]
  dsimp only
  rw [if_neg (by rw [hm.openCount_taken]; omega)]
  rfl

/-- A command row is deferred as its command is in the state `taken`. -/
theorem defers_of_cmd {c : Instr} {u : State} {obj : Nat} {cmd : Cmd} {len : List Byte → Nat} {shared ptn : Bool}
    (hexec : exec c s = .next (s.mail h op body)) (hop : op < 65536)
    (hrow : cmdRow op = some { cmd := cmd, len := len, shared := shared, ptn := ptn })
    (hcmd : cmd h.mbx body (s.taken h op body) = (u, .defer obj)) : Defers c s h op body u obj := by
  intro hm hcount
  rw [hexec, hm.mail_defer hcount hop hrow hcmd]

end Rows

/-! ### Fields of a body (R413) -/

theorem field_append_left {a : List Byte} {off n : Nat} (h : off + n ≤ a.length) (l : List Byte) :
    field (a ++ l) off n = field a off n := by
  rw [field, field, slice, slice, List.drop_append_of_le_length (by omega), List.take_append_of_le_length (by simp; omega)]

/-- A word that was written with as many bytes as it has reads back. -/
theorem field_le_word {w n : Nat} (hw : w = 8 * n) (x : BitVec w) : field (le n x.toNat) 0 n = x.toNat := by
  rw [field_le, show 256 ^ n = 2 ^ w by rw [hw, Nat.pow_mul] <;> rfl, Nat.mod_eq_of_lt x.isLt]
@[simp] theorem field_u8 (x : BitVec 8) : field (le 1 x.toNat) 0 1 = x.toNat := field_le_word (n := 1) (by decide) x
@[simp] theorem field_u16 (x : BitVec 16) : field (le 2 x.toNat) 0 2 = x.toNat := field_le_word (n := 2) (by decide) x
@[simp] theorem field_u32 (x : BitVec 32) : field (le 4 x.toNat) 0 4 = x.toNat := field_le_word (n := 4) (by decide) x
@[simp] theorem field_u64 (x : BitVec 64) : field (le 8 x.toNat) 0 8 = x.toNat := field_le_word (n := 8) (by decide) x

/-- Settles O20: the checks of R417 in their order, by `MailOpen.mail_eq`. -/
theorem mailboxRows : Obligations.MailboxRows := by
  unfold Obligations.MailboxRows
  refine ⟨fun s h op body r hop hrow hm => hm.mail_eq_execute hop hrow, fun s h op body r hop hb hrow hlen ho =>
    ⟨fun e he hne => ?_, fun ha => ?_⟩⟩
  · rw [ho.mail_eq hop hb hrow hlen, he]
    simp [Ne.symm hne]
  · have hacc : ((s.box h.mbx).alive.elim true fun e => decide (h.alive.toNat = e)) = true := by
      rcases ha with e | e <;> simp [e]
    rw [ho.mail_eq hop hb hrow hlen]
    exact ⟨fun hi => by simp [hacc, hi], fun hi hr => by simp [hacc, hi, hr]⟩

end Sys2Proof.Machine
end

section
/-! PROOFS. The extent family on extents that are not mirrored (R46, R51 to R54, R70 to R73, R78, R244, R373). -/
namespace Sys2Proof.Machine

theorem field_le_of_lt {n x : Nat} (h : x < 256 ^ n) : field (le n x) 0 n = x := by
  rw [field_le, Nat.mod_eq_of_lt h]

/-- The body of EXT_SET_ACL. -/
def aclBody (x : BitVec 32) (l : List AclArg) : List Byte := le 4 x.toNat ++ le 1 l.length ++ zeros 3 ++ aclBytes l

theorem field_aclBody (x : BitVec 32) {l : List AclArg} (hl : l.length ≤ 64) :
    field (aclBody x l) 0 4 = x.toNat ∧ field (aclBody x l) 4 1 = l.length := by
  have hcount : field (le 1 l.length) 0 1 = l.length := field_le_of_lt (by omega)
  simp [aclBody, field_append_left, field_append_right, hcount]

/-- The quota that a change to a policy would exceed (R52, R53). -/
def policyFault (t : State) (x : Nat) (e : ExtRec) (pol : Nat) : Option (Nat × Nat) :=
  if e.policy = 0 then
    t.quotaFault e.ptn (t.pinned e.ptn - pagesOf e.length) (t.flashUsed e.ptn + e.length) (t.trackedUsed e.ptn) true
  else if pol = 0 then
    t.quotaFault e.ptn (t.pinned e.ptn + pagesOf e.length) (t.flashUsed e.ptn) (t.trackedUsed e.ptn)
      (t.exts.any fun y => y.1 != x && y.2.ptn == e.ptn && y.2.policy != 0 && !y.2.sanitised)
  else none

/-- A change of policy answers when its pages have moved. -/
theorem movePolicy_snd (t : State) (x : Nat) (e : ExtRec) (pol : Nat) : (t.movePolicy x e pol).2 = .defer x := by
  unfold State.movePolicy; dsimp only; split <;> rfl

/-- Which entries a partition admits is all that its record decides of an access list (R54). -/
theorem aclFault_congr {s u : State} {q : Nat} (h : u.ptn q = s.ptn q) (seen : List Nat) (l : List AclEntry) :
    u.aclFault q seen l = s.aclFault q seen l := by
  induction l generalizing seen with
  | nil => rfl
  | cons a l ih => simp only [State.aclFault, h, ih]

section Commands
variable {t : State} {m : Nat} {x : BitVec 32} {e : ExtRec}

/-! ### Nothing is mirrored of an extent that is not (R485, R486) -/

theorem mirrorRole_of_not_mirrored (h : e.mirrored = false) : t.mirrorRole e = true := by
  simp [State.mirrorRole, h]
theorem extFrame_of_not_mirrored (h : e.mirrored = false) (hd arg : Nat) : t.extFrame hd arg e = t := by
  simp [State.extFrame, h]

section Named
variable (hx : t.extFor m x.toNat = some e) (hm : e.mirrored = false)
include hx hm

theorem cmdExtInfo_eq : cmdExtInfo m (le 4 x.toNat) t =
    (t, .now 0 (le 1 e.ptn ++ le 1 (b2n e.tracked) ++ le 1 e.policy ++ le 1 e.st.code ++ le 1 (2 * b2n e.init) ++ zeros 3
      ++ le 8 e.length ++ le 8 e.version ++ le 2 e.publisher ++ zeros 2 ++ le 4 e.drainMs ++ le 4 e.inflight
      ++ le 1 e.acl.length ++ zeros 3 ++ e.acl.flatMap AclEntry.bytes)) := by
  have hflags : b2n e.mirrored + 2 * b2n e.init = 2 * b2n e.init := by rw [hm]; exact Nat.zero_add _
  simp only [cmdExtInfo, field_u32, hx, hflags]

omit hm in
theorem cmdExtDirRead_eq {off : BitVec 64} (ht : e.tracked = true) (ho : off.toNat % 128 = 0) (hl : off.toNat < e.length) :
    cmdExtDirRead m (le 4 x.toNat ++ le 8 off.toNat) t =
      match t.dirEnt x.toNat (off.toNat / 128) with
      | none => (t, .now 0 (zeros 16))
      | some (k, d) =>
        (t, .now 0 (le 1 1 ++ le 1 (b2n (d.st == .m)) ++ le 1 (if d.st = .m then d.owner else 0)
          ++ le 1 (b2n (t.blocked x.toNat (off.toNat / 128))) ++ le 1 (t.awaiting x.toNat (off.toNat / 128))
          ++ le 1 (t.lruAge k d) ++ zeros 2 ++ le 8 ((if d.st = .s then d.sharers else []).map (2 ^ ·)).sum)) := by
  have hh : field (le 4 x.toNat ++ le 8 off.toNat) 0 4 = x.toNat := by simp [field_append_left]
  have hoff : field (le 4 x.toNat ++ le 8 off.toNat) 4 8 = off.toNat := by simp [field_append_right]
  have hin : (decide (off.toNat % 128 ≠ 0) || decide (e.length ≤ off.toNat)) = false := by simp; omega
  simp only [cmdExtDirRead, hh, hoff, hx, hin, ht]
  rfl

section Active
variable (hst : e.st = .active)
include hst

omit hx in
theorem active_mine : (decide (e.st ≠ .active) || !(t.mirrorRole e)) = false := by
  simp [hst, mirrorRole_of_not_mirrored hm]

theorem cmdExtSetDrain_eq {ms : BitVec 32} (h1 : 1 ≤ ms.toNat) (h2 : ms.toNat ≤ 60000) :
    cmdExtSetDrain m (le 4 x.toNat ++ le 4 ms.toNat) t =
      if e.policy ≠ 0 then (t.extRecord x.toNat (.drain ms.toNat), .defer x.toNat)
      else (t.onExt x.toNat fun e => { e with drainMs := ms.toNat }, rOk) := by
  have hh : field (le 4 x.toNat ++ le 4 ms.toNat) 0 4 = x.toNat := by simp [field_append_left]
  have hms : field (le 4 x.toNat ++ le 4 ms.toNat) 4 4 = ms.toNat := by simp [field_append_right]
  have hin : (decide (ms.toNat < 1) || decide (60000 < ms.toNat)) = false := by simp; omega
  simp only [cmdExtSetDrain, hh, hms, hx, hin, active_mine hm hst,
    extFrame_of_not_mirrored (e := { e with drainMs := ms.toNat }) hm]
  rfl

theorem cmdExtRevoke_defer : cmdExtRevoke m (le 4 x.toNat) t = (t.revoke x.toNat, .defer x.toNat) := by
  simp only [cmdExtRevoke, field_u32, hx, hst, mirrorRole_of_not_mirrored hm, extFrame_of_not_mirrored hm]
  rfl

omit hm in
theorem cmdExtZero_defer (hz : e.zeroing = false) : cmdExtZero m (le 4 x.toNat) t =
    (let w := t.newWrite 0xFFFF x.toNat true (pagesOf e.length)
     let p : Packet := { opcode := 0x04#8, src := zeroSrc, extent := BitVec.ofNat 32 x.toNat, length := BitVec.ofNat 64 e.length }
     ((w.2.onExt x.toNat fun e => { e with zeroing := true }).serveOr
       { kind := .serve, pkt := p, port := 20, since := t.now, ids := List.range (pagesOf e.length), status := w.1, reply := false },
      .defer x.toNat)) := by
  simp only [cmdExtZero, field_u32, hx, hst, hz]
  rfl

theorem cmdExtInitDone_eq : cmdExtInitDone m (le 4 x.toNat) t =
    if e.init then (t, rOk)
    else if e.policy = 0 then (t.onExt x.toNat fun e => { e with init := true }, rOk)
    else (t.extRecord x.toNat .init, .defer x.toNat) := by
  simp only [cmdExtInitDone, field_u32, hx, if_neg (not_not_intro hst), extFrame_of_not_mirrored (e := { e with init := true }) hm]

theorem cmdExtSetPolicy_eq {pol : BitVec 8} (hp : pol.toNat ≤ 2) (hc : t.closed e = false)
    (hd : t.sec.debugOn = true → pol.toNat = 0) (hpp : e.policyPending = false) (htr : e.tracked = true → pol.toNat ≠ 2) :
    cmdExtSetPolicy m (le 4 x.toNat ++ le 1 pol.toNat) t =
      if pol.toNat = e.policy then (t, rOk) else
      match policyFault t x.toNat e pol.toNat with
      | some (c, n) => (t, rNoSpace c n)
      | none => t.movePolicy x.toNat e pol.toNat := by
  have hh : field (le 4 x.toNat ++ le 1 pol.toNat) 0 4 = x.toNat := by simp [field_append_left]
  have hpol : field (le 4 x.toNat ++ le 1 pol.toNat) 4 1 = pol.toNat := by simp [field_append_right]
  have hin : (decide (2 < pol.toNat) || (e.tracked && pol.toNat == 2)) = false := by
    by_cases ht : e.tracked = true
    · simp [htr ht]; omega
    · simp [ht]; omega
  have hstate : (decide (e.st ≠ .active) || !(t.mirrorRole e) || t.closed e || (t.sec.debugOn && pol.toNat != 0)) = false := by
    simpa [hst, mirrorRole_of_not_mirrored hm, hc] using hd
  simp only [cmdExtSetPolicy, hh, hpol, hx, hin, hstate, hpp]
  rfl

theorem cmdExtSetAcl_eq {l : List AclArg} (hl : l.length ≤ 64) (ha : e.aclStage = 0)
    (hf : t.aclFault e.ptn [] (aclOf (aclBody x l) 8 l.length) = none) :
    cmdExtSetAcl m (aclBody x l) t = t.newAcl x.toNat e (t.assignIdx x.toNat e.acl (aclOf (aclBody x l) 8 l.length)) := by
  obtain ⟨hh, hn⟩ := field_aclBody x hl
  have hin : ¬ 64 < l.length := Nat.not_lt.mpr hl
  simp only [cmdExtSetAcl, hh, hn, hx, if_neg hin, active_mine (t := t) hm hst, ha, hf]
  rfl

omit hx hst in
theorem newAcl_eq (hd : Nat) (new : List AclEntry) :
    t.newAcl hd e new =
      if e.policy = 0 ∧ t.aclRecalls hd e.acl new = [] ∧ ∀ a ∈ new, a.idx.isSome = true then (t.putAcl hd new, rOk)
      else (t.onExt hd fun x => { x with nextAcl := new, aclStage := 2, aclLines := t.aclRecalls hd e.acl new }, .defer hd) := by
  have hframe : t.extFrame hd 0 { e with acl := new } = t := extFrame_of_not_mirrored (e := { e with acl := new }) hm hd 0
  simp only [State.newAcl, hframe]
  exact ite_of_iff (by simp [and_assoc])

end Active
end Named

theorem pagesOf_eq (n : Nat) : pagesOf n = n / 65536 := rfl

/-- The body of EXT_CREATE without a mirror. -/
def createBody (ptn kind policy : BitVec 8) (length : BitVec 64) (l : List AclArg) : List Byte :=
  le 1 ptn.toNat ++ le 1 kind.toNat ++ le 1 policy.toNat ++ le 1 0 ++ le 8 length.toNat ++ le 1 l.length ++ zeros 3 ++ aclBytes l

theorem field_createBody (ptn kind policy : BitVec 8) (length : BitVec 64) {l : List AclArg} (hl : l.length ≤ 64) :
    let b := createBody ptn kind policy length l
    field b 0 1 = ptn.toNat ∧ field b 1 1 = kind.toNat ∧ field b 2 1 = policy.toNat ∧ field b 3 1 = 0 ∧
      field b 4 8 = length.toNat ∧ field b 12 1 = l.length := by
  have hcount : field (le 1 l.length) 0 1 = l.length := field_le_of_lt (by omega)
  have hnone : field (le 1 0) 0 1 = 0 := field_le_of_lt (by decide)
  simp [createBody, field_append_left, field_append_right, hcount, hnone]

theorem cmdExtCreate_defer {ptn kind policy : BitVec 8} {length : BitVec 64} {l : List AclArg} {k die : Nat} {p : PtnRec}
    (hq : ptn.toNat ≤ 63) (hk : kind.toNat ≤ 1) (hp : policy.toNat ≤ 2) (hn : length.toNat % 2097152 = 0)
    (hn1 : 2097152 ≤ length.toNat) (hn2 : length.toNat ≤ 2 ^ 44) (hl : l.length ≤ 64)
    (hkp : ¬(kind.toNat = 1 ∧ policy.toNat = 2)) (hpt : t.ptn ptn.toNat = p) (hst : p.st ≠ .unused)
    (hdie : t.controlDieOf ptn.toNat = die) (hd : t.sec.debugOn = true → policy.toNat = 0)
    (ha : t.aclFault ptn.toNat [] (aclOf (createBody ptn kind policy length l) 16 l.length) = none)
    (hquota : t.quotaFault ptn.toNat (t.pinned ptn.toNat + if policy.toNat = 0 then length.toNat / 65536 else 0)
      (t.flashUsed ptn.toNat + if policy.toNat = 0 then 0 else length.toNat)
      (t.trackedUsed ptn.toNat + if kind.toNat = 1 then length.toNat else 0) (policy.toNat != 0 || t.hasTiered ptn.toNat) = none)
    (hfree : t.freeHandle = some k) :
    cmdExtCreate m (createBody ptn kind policy length l) t =
      (let e : ExtRec :=
        { ptn := ptn.toNat, length := length.toNat, tracked := kind.toNat == 1, policy := policy.toNat, mirrored := false
          committed := false
          acl := (aclOf (createBody ptn kind policy length l) 16 l.length).zipIdx.map fun a => { a.1 with idx := some a.2 }
          controlDie := die, chans := if policy.toNat = 0 then p.channels else [] }
       (({ t with exts := Tab.put t.exts k e } : State).extRecord k .create, .defer k)) := by
  subst hpt hdie
  obtain ⟨h0, h1, h2, h3, h4, h5⟩ := field_createBody ptn kind policy length hl
  have hin : (!(decide (ptn.toNat ≤ 63 ∧ kind.toNat ≤ 1 ∧ policy.toNat ≤ 2 ∧ 0 ≤ 1 ∧ length.toNat % 2097152 = 0 ∧
      2097152 ≤ length.toNat ∧ length.toNat ≤ 2 ^ 44 ∧ l.length ≤ 64 ∧ ¬(kind.toNat = 1 ∧ policy.toNat = 2)))) = false := by
    simp only [Bool.not_eq_false', decide_eq_true_eq]
    exact ⟨hq, hk, hp, Nat.zero_le 1, hn, hn1, hn2, hl, hkp⟩
  have hstate : (decide ((t.ptn ptn.toNat).st = .unused) || (t.sec.debugOn && policy.toNat != 0)) = false := by
    simpa [hst] using hd
  simp only [cmdExtCreate, h0, h1, h2, h3, h4, h5, hin, hstate, ha, pagesOf_eq, hquota, hfree]
  rw [extFrame_of_not_mirrored (by rfl)]
  simp only [if_true]
  rfl

end Commands

/-- Settles O22: each row's command in the state in which its frame is taken. -/
theorem extentCommands : Obligations.ExtentCommands := by
  unfold Obligations.ExtentCommands
  refine ⟨fun s h x e hx hm => ?_, fun s h ptn kind policy length l k hq hk hp hn hn1 hn2 hl hkp hst hd ha hquota hfree => ?_⟩
  · have hx' (op body) : (s.taken h op body).extFor h.mbx x.toNat = some e :=
      (taken_read (·.extFor h.mbx x.toNat) fun _ _ _ => rfl).trans hx
    refine ⟨answers_of_cmd rfl (by decide) rfl (cmdExtInfo_eq (hx' ..) hm), fun hst => ⟨fun ms h1 h2 => ⟨fun hp => ?_, fun hp => ?_⟩,
      ?_, fun hz => ?_, ⟨fun hi => ?_, fun hi hp => ?_, fun hi hp => ?_⟩, fun pol hpe hp hc hd hpp htr => ?_,
      fun pol hp hpe hc hd hpp htr hquota => ?_, fun l hl ha hf => ⟨fun hp hr hi => ?_, fun hn => ?_⟩⟩,
      fun off ht ho hl => ⟨fun hn => ?_, fun k d hn => ?_⟩⟩
    · exact answers_of_cmd rfl (by decide) rfl ((cmdExtSetDrain_eq (hx' ..) hm hst h1 h2).trans (if_neg (not_not_intro hp)))
    · exact defers_of_cmd rfl (by decide) rfl ((cmdExtSetDrain_eq (hx' ..) hm hst h1 h2).trans (if_pos hp))
    · exact defers_of_cmd rfl (by decide) rfl (cmdExtRevoke_defer (hx' ..) hm hst)
    · refine defers_of_cmd rfl (by decide) rfl ((cmdExtZero_defer (hx' ..) hst hz).trans ?_)
      rw [taken_read (·.now) fun _ _ _ => rfl]
    · exact answers_of_cmd rfl (by decide) rfl ((cmdExtInitDone_eq (hx' ..) hm hst).trans (if_pos hi))
    · exact answers_of_cmd rfl (by decide) rfl
        ((cmdExtInitDone_eq (hx' ..) hm hst).trans ((if_neg (by simp [hi])).trans (if_pos hp)))
    · exact defers_of_cmd rfl (by decide) rfl
        ((cmdExtInitDone_eq (hx' ..) hm hst).trans ((if_neg (by simp [hi])).trans (if_neg hp)))
    · refine answers_of_cmd rfl (by decide) rfl ((cmdExtSetPolicy_eq (hx' ..) hm hst hp ?_ ?_ hpp htr).trans (if_pos hpe))
      · rw [taken_read (·.closed e) fun _ _ _ => rfl]; exact hc
      · rw [taken_read (·.sec) fun _ _ _ => rfl]; exact hd
    · have hfault : policyFault (s.taken h 0x0303 (le 4 x.toNat ++ le 1 pol.toNat)) x.toNat e pol.toNat = none :=
        (taken_read (policyFault · x.toNat e pol.toNat) fun _ _ _ => rfl).trans hquota
      refine defers_of_cmd rfl (by decide) rfl ((cmdExtSetPolicy_eq (hx' ..) hm hst hp ?_ ?_ hpp htr).trans ?_)
      · rw [taken_read (·.closed e) fun _ _ _ => rfl]; exact hc
      · rw [taken_read (·.sec) fun _ _ _ => rfl]; exact hd
      · rw [if_neg hpe, hfault]; exact Prod.ext rfl (movePolicy_snd ..)
    · refine answers_of_cmd rfl (by decide) rfl ((cmdExtSetAcl_eq (hx' ..) hm hst hl ha ?_).trans
        ((newAcl_eq hm ..).trans (if_pos ⟨hp, hr, hi⟩)))
      exact (aclFault_congr (taken_read (·.ptn e.ptn) fun _ _ _ => rfl) ..).trans hf
    · refine defers_of_cmd rfl (by decide) rfl ((cmdExtSetAcl_eq (hx' ..) hm hst hl ha ?_).trans
        ((newAcl_eq hm ..).trans (if_neg hn)))
      exact (aclFault_congr (taken_read (·.ptn e.ptn) fun _ _ _ => rfl) ..).trans hf
    · refine answers_of_cmd rfl (by decide) rfl ((cmdExtDirRead_eq (hx' ..) ht ho hl).trans ?_)
      rw [hn]
    · refine answers_of_cmd rfl (by decide) rfl ((cmdExtDirRead_eq (hx' ..) ht ho hl).trans ?_)
      rw [hn]
  · refine defers_of_cmd rfl (by decide) rfl (cmdExtCreate_defer hq hk hp hn hn1 hn2 hl hkp
      (taken_read (·.ptn ptn.toNat) fun _ _ _ => rfl) hst (taken_read (·.controlDieOf ptn.toNat) fun _ _ _ => rfl)
      ?_ ?_ ?_ ?_)
    · rw [taken_read (·.sec) fun _ _ _ => rfl]; exact hd
    · exact (aclFault_congr (taken_read (·.ptn ptn.toNat) fun _ _ _ => rfl) ..).trans ha
    · rw [onlyMail_taken]; exact hquota
    · exact (taken_read (·.freeHandle) fun _ _ _ => rfl).trans hfree

end Sys2Proof.Machine
end

section
/-! PROOFS. Kernel images, models and the staging pool by command (R196, R198, R206, R221 to R223). -/
namespace Sys2Proof.Machine

/-- The first free handle of a range is the one below which all are taken. -/
theorem freeOf_eq_some {n base k : Nat} {used : Nat → Bool} (h1 : base ≤ k) (h2 : k < base + n) (hfree : used k = false)
    (htaken : ∀ j, base ≤ j → j < k → used j = true) : freeOf n base used = some k := by
  rw [freeOf, List.find?_eq_some_iff_getElem]
  refine ⟨by simp [hfree], k - base, by simp; omega, by simp; omega, fun j hj => ?_⟩
  simp [htaken (base + j) (by omega) (by omega)]

/-! ### What a range of an extent holds is read without the mailboxes -/

/-- The line of a frame as a read finds it. -/
def State.lineAt (s : State) (c bank row slot tag : Nat) : Nat × List Byte :=
  if (s.chan c).failed then (2, zeros 128) else
  match (s.chan c).queued bank row slot tag with
  | some (_, m, d) => (m, d)
  | none =>
    let r := (s.chan c).rowOf bank row
    let o := decodeLine (Mem.reads dramByte s.mem.dram (dramAddr c bank r (128 * slot)) 128) (slice (s.checkCols c bank r) (8 * slot) 8)
    (o.1.mark, o.2)

theorem State.readLine_fst (s : State) (c bank row slot tag : Nat) :
    (s.readLine c bank row slot tag).1 = s.lineAt c bank row slot tag := by
  unfold State.readLine State.lineAt
  dsimp only
  split
  · rfl
  · cases (s.chan c).queued bank row slot tag <;> rfl

/-- What stands in a page is read without the mailboxes. -/
theorem peekLine_mail (s : State) (mbx : Tab Mailbox) (chk : Tab Checker) (h line : Nat) :
    ({ s with mbx := mbx, chk := chk } : State).peekLine h line = s.peekLine h line := by
  simp only [State.peekLine, State.readLine_fst]; rfl

theorem lineVal_mail (s : State) (mbx : Tab Mailbox) (chk : Tab Checker) (h line : Nat) :
    ({ s with mbx := mbx, chk := chk } : State).lineVal h line = s.lineVal h line := by
  simp only [State.lineVal, peekLine_mail]; rfl

theorem readRange_mail (s : State) (mbx : Tab Mailbox) (chk : Tab Checker) (h off n : Nat) :
    ({ s with mbx := mbx, chk := chk } : State).readRange h off n = s.readRange h off n := by
  simp only [State.readRange, lineVal_mail]

section Checks
variable {t : State} {m q : Nat}

/-! ### Kernel images (R196, R198) -/

/-- The body of KRN_LOAD. -/
def krnLoadBody (q : Nat) (ext : BitVec 32) (off : BitVec 64) (len : BitVec 32) : List Byte :=
  le 1 q ++ zeros 3 ++ le 4 ext.toNat ++ le 8 off.toNat ++ le 4 len.toNat

theorem cmdKrnLoad_takeImage {ext len : BitVec 32} {off : BitVec 64} {img : List Byte} (hq : q < 256)
    (hsrc : t.sourceOk q ext.toNat off.toNat len.toNat = true) (hclosed : ∀ e, t.ext ext.toNat = some e → t.closed e = false)
    (hread : t.readRange ext.toNat off.toNat len.toNat = .ok img) (hlen : 128 ≤ img.length) (hhdr : imageHdrBad img = none)
    (hsize : imageSize img = len.toNat)
    (hdig : slice (Config.shake256 (img.take 64 ++ slice img 128 (8 * field img 8 4 + field img 28 4))) 0 32 = slice img 64 32) :
    cmdKrnLoad m (krnLoadBody q ext off len) t = (t.rangeFx ext.toNat off.toNat len.toNat).takeImage q img := by
  have h0 : field (le 1 q) 0 1 = q := field_le_of_lt hq
  have hq' : field (krnLoadBody q ext off len) 0 1 = q := by simp [krnLoadBody, field_append_left, h0]
  have hext : field (krnLoadBody q ext off len) 4 4 = ext.toNat := by simp [krnLoadBody, field_append_left, field_append_right]
  have hoff : field (krnLoadBody q ext off len) 8 8 = off.toNat := by simp [krnLoadBody, field_append_left, field_append_right]
  have hn : field (krnLoadBody q ext off len) 16 4 = len.toNat := by simp [krnLoadBody, field_append_right]
  have hopen : (t.ext ext.toNat).elim false t.closed = false := by
    cases he : t.ext ext.toNat with
    | none => rfl
    | some e => exact hclosed e he
  simp only [cmdKrnLoad, hq', hext, hoff, hn, hsrc, hopen, hread, hhdr, hsize, hdig, if_neg (Nat.not_lt.mpr hlen),
    ne_eq, not_true_eq_false, if_false, Bool.not_true, Bool.false_eq_true]

/-- No word of an image that is well formed is refused (R194). -/
theorem codeWords_find?_eq_none {f : Nat → Nat} {n : Nat} (h : ∀ pc, pc < n → codeWordOk n pc (f pc) = true) :
    (((List.range n).map f).zipIdx.find? fun x => !(codeWordOk n x.2 x.1)) = none := by
  rw [List.find?_eq_none]
  rintro ⟨w, i⟩ hx
  obtain ⟨hi, hw⟩ := List.mem_zipIdx' hx
  simp at hi hw
  simp [hw, h i hi]

theorem cmdKrnUnload_eq {k : BitVec 16} {i : Image} (hq : q < 256) (hi : t.image q k.toNat = some i) (hu : i.unloading = false) :
    cmdKrnUnload m (le 1 q ++ zeros 1 ++ le 2 k.toNat) t =
      let u := t.onDeal fun d => { d with images := Tab.put d.images (q * 65536 + k.toNat) { i with unloading := true } }
      if t.deal.invs.any fun e => e.2.ptn == q && e.2.kernel == k.toNat then (u, .defer (q * 65536 + k.toNat))
      else (u.unloads q, rOk) := by
  have h0 : field (le 1 q) 0 1 = q := field_le_of_lt hq
  have hq' : field (le 1 q ++ zeros 1 ++ le 2 k.toNat) 0 1 = q := by simp [field_append_left, h0]
  have hk : field (le 1 q ++ zeros 1 ++ le 2 k.toNat) 2 2 = k.toNat := by simp [field_append_right]
  simp only [cmdKrnUnload, State.krnUnload, hq', hk, hi, hu]
  rfl

/-! ### Models (R221, R222) -/

/-- The body of MDL_LOAD. -/
def mdlLoadBody (q : Nat) (ext : BitVec 32) (off len : BitVec 64) : List Byte :=
  le 1 q ++ zeros 3 ++ le 4 ext.toNat ++ le 8 off.toNat ++ le 8 len.toNat

theorem cmdMdlLoad_takeModel {ext : BitVec 32} {off len : BitVec 64} {rec' : List Byte} (hq : q < 256)
    (hsrc : t.sourceOk q ext.toNat off.toNat len.toNat = true) (hclosed : ∀ e, t.ext ext.toNat = some e → t.closed e = false)
    (hread : t.readRange ext.toNat off.toNat len.toNat = .ok rec') (hlen : 64 ≤ rec'.length) (hhdr : modelHdrBad rec' = none)
    (hsize : modelSize (ModelHdr.ofBytes rec') = len.toNat)
    (hdig : slice (Config.shake256 (rec'.take 32 ++ rec'.drop 64)) 0 32 = slice rec' 32 32) :
    cmdMdlLoad m (mdlLoadBody q ext off len) t = (t.rangeFx ext.toNat off.toNat len.toNat).takeModel q rec' := by
  have h0 : field (le 1 q) 0 1 = q := field_le_of_lt hq
  have hq' : field (mdlLoadBody q ext off len) 0 1 = q := by simp [mdlLoadBody, field_append_left, h0]
  have hext : field (mdlLoadBody q ext off len) 4 4 = ext.toNat := by simp [mdlLoadBody, field_append_left, field_append_right]
  have hoff : field (mdlLoadBody q ext off len) 8 8 = off.toNat := by simp [mdlLoadBody, field_append_left, field_append_right]
  have hn : field (mdlLoadBody q ext off len) 16 8 = len.toNat := by simp [mdlLoadBody, field_append_right]
  have hopen : (t.ext ext.toNat).elim false t.closed = false := by
    cases he : t.ext ext.toNat with
    | none => rfl
    | some e => exact hclosed e he
  simp only [cmdMdlLoad, hq', hext, hoff, hn, hsrc, hopen, hread, hhdr, hsize, hdig, if_neg (Nat.not_lt.mpr hlen),
    ne_eq, not_true_eq_false, if_false, Bool.not_true, Bool.false_eq_true]

theorem firstBad_eq_none_iff (l : List (Bool × Nat)) : firstBad l = none ↔ ∀ x ∈ l, x.1 = true := by
  induction l with
  | nil => simp [firstBad]
  | cons x l ih => obtain ⟨ok, o⟩ := x; cases ok <;> simp [firstBad, ih]

theorem roundUp_pos {n m : Nat} (hn : 0 < n) (hm : 0 < m) : 0 < roundUp n m :=
  Nat.mul_pos (Nat.div_pos (by omega) hm) hm

theorem four_le_fmtBits {c : Nat} (h : fmtM c = true) : 4 ≤ fmtBits c := by
  have hfin : ∀ c, c < 32 → fmtM c = true → 4 ≤ fmtBits c := by decide
  refine hfin c ?_ h
  simp [fmtM, isMx] at h
  omega

theorem matBytes_pos {fmt sp k n : Nat} (hf : fmtM fmt = true) (hk : 128 ≤ k) (hn : 128 ≤ n) : 0 < matBytes fmt sp k n := by
  have hkept : 32 ≤ matKept sp k := by
    unfold matKept
    repeat' split
    all_goals omega
  have hbits : 128 * 32 * 4 ≤ n * matKept sp k * fmtBits fmt :=
    Nat.mul_le_mul (Nat.mul_le_mul hn hkept) (four_le_fmtBits hf)
  have hround : 0 < roundUp (n * matKept sp k * fmtBits fmt / 8) 64 := roundUp_pos (by omega) (by decide)
  exact Nat.add_pos_left (Nat.add_pos_left hround _) _

/-- A header that is in form announces at least one expert, of at least one byte (R221). -/
theorem pos_of_modelHdrBad {l : List Byte} (h : modelHdrBad l = none) :
    0 < (ModelHdr.ofBytes l).experts ∧ 0 < (ModelHdr.ofBytes l).expertBytes := by
  simp only [modelHdrBad, firstBad_eq_none_iff, List.forall_mem_cons, decide_eq_true_eq, beq_iff_eq] at h
  obtain ⟨-, -, ⟨hexp, -⟩, ⟨hd, -⟩, ⟨hff, -⟩, -, -, hfmt, -, -, -, hbytes, -⟩ := h
  exact ⟨hexp, hbytes ▸ Nat.add_pos_right _ (matBytes_pos hfmt hff hd)⟩

theorem takeImage_eq {img : List Byte} {k : Nat} (hwords : field img 8 4 ≤ 16384) (hscratch : field img 16 4 ≤ 2093056)
    (hcs : field img 20 4 ≤ 4194304) (hcards : field img 24 4 ≤ 16384)
    (hsign : (t.ptn q).signOk (bit (field img 6 2) 0)
      (if bit (field img 6 2) 0 then img.drop (128 + 8 * field img 8 4 + field img 28 4) else []) (slice img 64 32) = true)
    (hcode : ∀ pc, pc < field img 8 4 → codeWordOk (field img 8 4) pc (field img (128 + 8 * pc) 8) = true)
    (h1 : 0x8000 ≤ k) (h2 : k < 0x8040) (hfree : t.image q k = none)
    (htaken : ∀ j, 0x8000 ≤ j → j < k → t.image q j ≠ none) (hpages : ceilDiv img.length 65536 ≤ t.dramQuota q - t.pinned q) :
    t.takeImage q img =
      (let i : Image :=
        { ptn := q, handle := k, flags := field img 6 2 % 16, entry := field img 12 4, scratchBytes := field img 16 4
          csBytes := field img 20 4, cards := field img 24 4, constAddr := field img 32 4
          timeLimit := if field img 36 4 = 0 then 100000 else field img 36 4
          code := (List.range (field img 8 4)).map fun i => field img (128 + 8 * i) 8
          consts := slice img (128 + 8 * field img 8 4) (field img 28 4), digest := slice img 64 32
          sign := if bit (field img 6 2) 0 then img.drop (128 + 8 * field img 8 4 + field img 28 4) else []
          pages := ceilDiv img.length 65536 }
       (t.onDeal fun d => { d with images := Tab.put d.images (q * 65536 + k) i }, .now 0 (le 2 k))) := by
  have hhandle : freeOf 64 0x8000 (fun h => (t.image q h).isSome) = some k :=
    freeOf_eq_some h1 h2 (by simp [hfree]) fun j hj hlt => Option.isSome_iff_ne_none.mpr (htaken j hj hlt)
  unfold State.takeImage
  simp only [codeWords_find?_eq_none (f := fun i => field img (128 + 8 * i) 8) hcode, hhandle, hsign,
    if_neg (Nat.not_lt.mpr hwords), if_neg (Nat.not_lt.mpr hscratch), if_neg (Nat.not_lt.mpr hcs),
    if_neg (Nat.not_lt.mpr hcards), if_neg (Nat.not_lt.mpr hpages), Bool.not_true, Bool.false_eq_true, if_false]

/-- A model whose experts all fit beside the reserve and two working experts is wholly resident (R221). -/
theorem takeModel_eq {l : List Byte} {k : Nat} (hhdr : modelHdrBad l = none)
    (hroom : ((ModelHdr.ofBytes l).experts + 2) * (ModelHdr.ofBytes l).expertBytes ≤
      (t.dramQuota q - t.pinned q) * 65536 - 67108864)
    (h1 : 0x0100 ≤ k) (h2 : k < 0x0110) (hfree : t.model q k = none) (htaken : ∀ j, 0x0100 ≤ j → j < k → t.model q j ≠ none) :
    t.takeModel q l =
      (let m := ModelHdr.ofBytes l
       let hot := ((List.range m.hotCount).map fun i => field l (64 + 2 * i) 2).filter fun e => decide (e < m.experts)
       let x : Model :=
        { ptn := q, handle := k, hdr := m, resident := (hot ++ List.range m.experts).eraseDups.take m.experts, spillPpm := 0
          slots := t.loadSlots q m.experts, experts := Mem.writes zeroByte [] 0 (l.drop (64 + roundUp (2 * m.hotCount) 64)) }
       (t.onDeal fun d => { d with models := Tab.put d.models (q * 65536 + k) x },
        .now 0 (le 2 k ++ zeros 2 ++ le 4 0))) := by
  obtain ⟨hexp, hbytes⟩ := pos_of_modelHdrBad hhdr
  have hhandle : freeOf 16 0x0100 (fun h => (t.model q h).isSome) = some k :=
    freeOf_eq_some h1 h2 (by simp [hfree]) fun j hj hlt => Option.isSome_iff_ne_none.mpr (htaken j hj hlt)
  have hfit : min (ModelHdr.ofBytes l).experts
      (((t.dramQuota q - t.pinned q) * 65536 - 1024 * 65536 - 2 * (ModelHdr.ofBytes l).expertBytes) /
        (ModelHdr.ofBytes l).expertBytes) = (ModelHdr.ofBytes l).experts := by
    rw [Nat.add_mul] at hroom
    exact Nat.min_eq_left ((Nat.le_div_iff_mul_le hbytes).mpr (by omega))
  have htwo : ¬ (t.dramQuota q - t.pinned q) * 65536 - 1024 * 65536 < 2 * (ModelHdr.ofBytes l).expertBytes := by
    rw [Nat.add_mul] at hroom; omega
  unfold State.takeModel
  simp only [hhandle, hfit, Nat.sub_self, Nat.zero_mul, Nat.zero_div, if_neg htwo, Nat.not_lt_zero, if_false, ne_eq,
    not_true_eq_false, decide_false, Bool.false_and, Bool.false_eq_true]

theorem cmdMdlUnload_idle {k : BitVec 16} {x : Model} (hq : q < 256) (hx : t.model q k.toNat = some x)
    (hu : x.unloading = false) (hinv : ∀ v ∈ t.deal.invs, ¬(v.2.ptn = q ∧ v.2.kernel = 1 ∧ v.2.model = k.toNat))
    (hbask : ∀ v ∈ t.deal.baskets, ¬(v.2.ptn = q ∧ v.2.model = k.toNat)) :
    cmdMdlUnload m (le 1 q ++ zeros 1 ++ le 2 k.toNat) t =
      ((t.onModel q k.toNat fun m => { m with unloading := true, lastInv := t.deal.nextInv }).unloads q, .now 0 []) := by
  have h0 : field (le 1 q) 0 1 = q := field_le_of_lt hq
  have hq' : field (le 1 q ++ zeros 1 ++ le 2 k.toNat) 0 1 = q := by simp [field_append_left, h0]
  have hk : field (le 1 q ++ zeros 1 ++ le 2 k.toNat) 2 2 = k.toNat := by simp [field_append_right]
  have hidle : ((t.deal.invs.any fun e => e.2.ptn == q && e.2.kernel == 1 && e.2.model == k.toNat) ||
      t.deal.baskets.any fun e => e.2.ptn == q && e.2.model == k.toNat) = false := by
    rw [Bool.or_eq_false_iff, List.any_eq_false, List.any_eq_false]
    exact ⟨fun v hv => by simpa [and_assoc] using hinv v hv, fun v hv => by simpa using hbask v hv⟩
  simp only [cmdMdlUnload, hq', hk, hx, hu, hidle]
  rfl

/-- The body of MDL_PLACE. -/
def mdlPlaceBody (q a : Nat) (k e : BitVec 16) (g : BitVec 8) : List Byte :=
  le 1 q ++ le 1 a ++ le 2 k.toNat ++ le 2 e.toNat ++ le 1 g.toNat

theorem cmdMdlPlace_eq {a : Nat} {k e : BitVec 16} {g : BitVec 8} {x : Model} (hq : q < 256) (ha : a ≤ 1)
    (hx : t.model q k.toNat = some x) (hu : x.unloading = false) (he : e.toNat < x.hdr.experts)
    (hg : g.toNat ∈ (t.ptn q).clusters) :
    cmdMdlPlace m (mdlPlaceBody q a k e g) t =
      (let sl := Tab.getD x.slots e.toNat []
       if a = 0 then
        if sl.contains g.toNat then (t, rState)
        else if 4 ≤ sl.length then (t, .now 7 [])
        else (t.onModel q k.toNat fun m => { m with slots := Tab.put m.slots e.toNat (sl ++ [g.toNat]) }, rOk)
       else if !(sl.contains g.toNat) || sl.length ≤ 1 then (t, rState)
       else (t.onModel q k.toNat fun m => { m with slots := Tab.put m.slots e.toNat (sl.erase g.toNat) }, rOk)) := by
  have h0 : field (le 1 q) 0 1 = q := field_le_of_lt hq
  have h1 : field (le 1 a) 0 1 = a := field_le_of_lt (by omega)
  have hq' : field (mdlPlaceBody q a k e g) 0 1 = q := by simp [mdlPlaceBody, field_append_left, h0]
  have ha' : field (mdlPlaceBody q a k e g) 1 1 = a := by simp [mdlPlaceBody, field_append_left, field_append_right, h1]
  have hk' : field (mdlPlaceBody q a k e g) 2 2 = k.toNat := by simp [mdlPlaceBody, field_append_left, field_append_right]
  have he' : field (mdlPlaceBody q a k e g) 4 2 = e.toNat := by simp [mdlPlaceBody, field_append_left, field_append_right]
  have hg' : field (mdlPlaceBody q a k e g) 6 1 = g.toNat := by simp [mdlPlaceBody, field_append_right]
  have hin : (decide (1 < a) || decide (x.hdr.experts ≤ e.toNat) || !((t.ptn q).clusters.contains g.toNat) || x.unloading) = false := by
    simp [hg, hu]; omega
  simp only [cmdMdlPlace, hq', ha', hk', he', hg', hx, hin]
  rfl

/-! ### The staging pool (R206) -/

theorem cmdDealConfig_eq {units : BitVec 32} (hq : q ≤ 63) (hu : units.toNat ≤ 65536)
    (hfree : t.poolOf q < units.toNat →
      units.toNat - t.poolOf q + (if t.hasTiered q then 1024 else 0) ≤ t.dramQuota q - t.pinned q)
    (hused : t.poolUsed q ≤ units.toNat) :
    cmdDealConfig m (le 1 q ++ zeros 3 ++ le 4 units.toNat) t =
      (t.onDeal fun d => { d with stage := Tab.set 1024 d.stage q units.toNat }, .now 0 []) := by
  have h0 : field (le 1 q) 0 1 = q := field_le_of_lt (by omega)
  have hq' : field (le 1 q ++ zeros 3 ++ le 4 units.toNat) 0 1 = q := by simp [field_append_left, h0]
  have hn : field (le 1 q ++ zeros 3 ++ le 4 units.toNat) 4 4 = units.toNat := by simp [field_append_right]
  have hin : (decide (63 < q) || decide (65536 < units.toNat)) = false := by simp; omega
  have hroom : (decide (t.poolOf q < units.toNat) && decide (t.dramQuota q - t.pinned q <
      units.toNat - t.poolOf q + if t.hasTiered q then 1024 else 0)) = false := by
    rw [Bool.and_eq_false_imp]
    exact fun h => decide_eq_false (Nat.not_lt.mpr (hfree (of_decide_eq_true h)))
  simp only [cmdDealConfig, hq', hn, hin, hroom, if_neg (Nat.not_lt.mpr hused)]
  rfl

end Checks

/-- Settles O23: each command by the lemma that says what its checks leave. -/
theorem kernelAndModelCommands : Obligations.KernelAndModelCommands := by
  unfold Obligations.KernelAndModelCommands
  intro s h ptn hq
  have hq' : ptn.toNat < 256 := ptn.isLt
  refine ⟨fun ext off len img hsrc hclosed hread hlen hhdr hsize hdig => ?_, fun k i hi hu => ⟨fun hno => ?_, fun hopen => ?_⟩,
    fun ext off len l hsrc hclosed hread hlen hhdr hsize hdig => ?_, fun k x hx hu hinv hbask => ?_,
    fun k e g x hx hu he hg => ⟨fun hn hlt => ?_, fun hmem hlt => ?_⟩, fun units hu hfree hused => ?_⟩
  · have hcmd := cmdKrnLoad_takeImage (m := h.mbx) (t := s.taken h 0x0401 (krnLoadBody ptn.toNat ext off len)) hq'
      (by rw [onlyMail_taken]; exact hsrc) (by rw [onlyMail_taken]; exact hclosed)
      ((taken_read (·.readRange ..) fun _ _ _ => readRange_mail ..).trans hread) hlen hhdr hsize hdig
    refine ⟨fun u st r hu => answers_of_cmd rfl (by decide) rfl (hcmd.trans hu),
      fun hwords hscratch hcs hcards hsign hcode k h1 h2 hfree htaken hpages => ?_⟩
    exact answers_of_cmd rfl (by decide) rfl
      (hcmd.trans (takeImage_eq hwords hscratch hcs hcards hsign hcode h1 h2 hfree htaken hpages))
  · refine answers_of_cmd rfl (by decide) rfl ((cmdKrnUnload_eq hq' (by rw [onlyMail_taken]; exact hi) hu).trans ?_)
    exact if_neg (by rw [onlyMail_taken]; simpa using fun i v hv => hno (i, v) hv)
  · refine defers_of_cmd rfl (by decide) rfl ((cmdKrnUnload_eq hq' (by rw [onlyMail_taken]; exact hi) hu).trans ?_)
    exact if_pos (by rw [onlyMail_taken]; simpa using hopen)
  · have hcmd := cmdMdlLoad_takeModel (m := h.mbx) (t := s.taken h 0x0403 (mdlLoadBody ptn.toNat ext off len)) hq'
      (by rw [onlyMail_taken]; exact hsrc) (by rw [onlyMail_taken]; exact hclosed)
      ((taken_read (·.readRange ..) fun _ _ _ => readRange_mail ..).trans hread) hlen hhdr hsize hdig
    refine ⟨fun u st r hu => answers_of_cmd rfl (by decide) rfl (hcmd.trans hu), fun hroom k h1 h2 hfree htaken => ?_⟩
    exact answers_of_cmd rfl (by decide) rfl (hcmd.trans (takeModel_eq hhdr hroom h1 h2 hfree htaken))
  · have hnext : (s.taken h 0x0404 (le 1 ptn.toNat ++ zeros 1 ++ le 2 k.toNat)).deal = s.deal :=
      taken_read (·.deal) fun _ _ _ => rfl
    refine answers_of_cmd rfl (by decide) rfl ((cmdMdlUnload_idle hq' (by rw [onlyMail_taken]; exact hx) hu
      (by rw [hnext]; exact hinv) (by rw [hnext]; exact hbask)).trans ?_)
    rw [hnext]
  · refine answers_of_cmd rfl (by decide) rfl ((cmdMdlPlace_eq hq' (by decide) (by rw [onlyMail_taken]; exact hx) hu he
      (by rw [onlyMail_taken]; exact hg)).trans ?_)
    exact (if_pos rfl).trans ((if_neg (by simpa using hn)).trans (if_neg (Nat.not_le.mpr hlt)))
  · refine answers_of_cmd rfl (by decide) rfl ((cmdMdlPlace_eq hq' (by decide) (by rw [onlyMail_taken]; exact hx) hu he
      (by rw [onlyMail_taken]; exact hg)).trans ?_)
    exact (if_neg Nat.one_ne_zero).trans (if_neg (by simpa [hmem] using hlt))
  · exact answers_of_cmd rfl (by decide) rfl (cmdDealConfig_eq hq hu (by rw [onlyMail_taken]; exact hfree)
      (by rw [onlyMail_taken]; exact hused))

end Sys2Proof.Machine
end

section
/-! PROOFS. Fabric and routing by command (R289, R300, R304, R424). -/
namespace Sys2Proof.Machine

/-! ### Lists of words in a body -/

theorem field_flatMap_le {k : Nat} {vals : List Nat} (hv : ∀ v ∈ vals, v < 256 ^ k) {i : Nat} (hi : i < vals.length) :
    field (vals.flatMap (le k)) (k * i) k = vals[i] := by
  induction vals generalizing i with
  | nil => simp at hi
  | cons v l ih =>
    rw [List.flatMap_cons]
    cases i with
    | zero => rw [Nat.mul_zero, field_append_left (by simp), field_le_of_lt (hv v (by simp))]; rfl
    | succ i =>
      have hoff : k * (i + 1) - (le k v).length = k * i := by simp [Nat.mul_succ]
      rw [field_append_right (by simp [Nat.mul_succ]), hoff, ih (fun w hw => hv w (by simp [hw])) (by simpa using hi)]
      rfl

theorem takeWhile_eq_self {α : Type} {p : α → Bool} : ∀ {l : List α}, (∀ x ∈ l, p x = true) → l.takeWhile p = l
  | [], _ => rfl
  | x :: l, h => by
    rw [List.takeWhile_cons_of_pos (h x (List.mem_cons_self ..)),
      takeWhile_eq_self fun y hy => h y (List.mem_cons_of_mem _ hy)]

theorem length_words (vals : List Nat) : (vals.flatMap (le 4)).length = 4 * vals.length := by
  induction vals with
  | nil => rfl
  | cons v l ih => rw [List.flatMap_cons, List.length_append, le_length, ih, List.length_cons]; omega

/-- The words that a body lists after a head of `o` bytes. -/
theorem words_of_body {vals : List Nat} (hv : ∀ v ∈ vals, v < 2 ^ 18) {a : List Byte} {o : Nat} (ha : a.length = o) :
    ((List.range vals.length).map fun i => field (a ++ vals.flatMap (le 4)) (o + 4 * i) 4 % 2 ^ 18) = vals := by
  refine List.ext_getElem (by simp) fun i h1 h2 => ?_
  have hlt : vals[i] < 2 ^ 18 := hv _ (List.getElem_mem h2)
  have hoff : o + 4 * i - a.length = 4 * i := by omega
  rw [List.getElem_map, List.getElem_range, field_append_right (by omega), hoff,
    field_flatMap_le (fun v h => Nat.lt_trans (hv v h) (by decide)) h2, Nat.mod_eq_of_lt hlt]

/-- What no step of a walk changes reads the same after it. -/
theorem State.each_read {α β : Type} {s : State} {l : List α} {f : State → α → State} (g : State → β)
    (h : ∀ u x, g (f u x) = g u) : g (s.each l f) = g s := by
  unfold State.each
  induction l generalizing s with
  | nil => rfl
  | cons x l ih => exact (ih (s := f s x)).trans (h s x)

section Commands
variable {t : State} {m n v : Nat}

/-! ### Ports (R424) -/

theorem field_pair (hn : n < 256) (hv : v < 256) : field (le 1 n ++ le 1 v) 0 1 = n ∧ field (le 1 n ++ le 1 v) 1 1 = v := by
  have hn' : field (le 1 n) 0 1 = n := field_le_of_lt hn
  have hv' : field (le 1 v) 0 1 = v := field_le_of_lt hv
  simp [field_append_left, field_append_right, hn', hv']

theorem cmdRtPort_eq (hn : n < 18) (hv : v < 8) : cmdRtPort m (le 1 n ++ le 1 v) t = t.writeGlCtrl n v := by
  obtain ⟨h0, h1⟩ := field_pair (n := n) (v := v) (by omega) (by omega)
  have hin : (decide (17 < n) || decide (7 < v)) = false := by simp; omega
  simp only [cmdRtPort, h0, h1, hin]
  rfl

/-- A write of ENABLE that is done at once writes the two other fields of GL_CTRL after it. -/
theorem writeGlCtrl_of_done {u : State} (h : t.writeEnable n (bit v 0) = (u, rOk)) :
    t.writeGlCtrl n v = ((u.setReg .glCtrlSpareAuto n (bits v 1 1)).setReg .glCtrlLpiAllow n (bits v 2 1), .now 0 []) := by
  rw [State.writeGlCtrl, h]; rfl

theorem writeEnable_running (hid : t.ownId ≠ 0xFFFF) (hen : t.reg .glCtrlEnable n = 1) : t.writeEnable n true = (t, rOk) := by
  simp only [State.writeEnable, if_true, if_neg hid, if_pos hen]
theorem writeEnable_start (hid : t.ownId ≠ 0xFFFF) (hen : t.reg .glCtrlEnable n ≠ 1) (hsh : (t.link n).shutting = false) :
    t.writeEnable n true = (((t.setReg .glCtrlEnable n 1).epochUp n).linkTrain n, rOk) := by
  simp only [State.writeEnable, if_true, if_neg hid, if_neg hen, hsh, Bool.false_eq_true, if_false]
theorem writeEnable_stop (hsh : (t.link n).shutting = false) (hdef : (t.link n).enableDeferred = false)
    (hst : (t.link n).st ≠ .disabled) : t.writeEnable n false = ((t.setReg .glCtrlEnable n 0).shutPort n, rOk) := by
  have hcancel : t.cancelEnable n = t := by rw [State.cancelEnable, hdef]; rfl
  simp only [State.writeEnable, hcancel, hsh, Bool.false_eq_true, if_false, if_neg hst]

/-! ### Tables (R289) -/

theorem cmdRtTblWrite_shadow {tb first : Nat} {vals : List Nat} (htb : tb ≤ 18) (hne : vals ≠ []) (hlen : vals.length ≤ 1016)
    (hlast : first + vals.length ≤ 0xC000) (hv : ∀ v ∈ vals, v < 2 ^ 18 ∧ entryOk t.shadowSeen.dir tb v = true) :
    cmdRtTblWrite m (le 1 tb ++ le 1 0 ++ le 2 first ++ le 2 vals.length ++ zeros 2 ++ vals.flatMap (le 4)) t =
      (t.shadowWrite (.entries tb first vals), .now 0 []) := by
  generalize hb : le 1 tb ++ le 1 0 ++ le 2 first ++ le 2 vals.length ++ zeros 2 ++ vals.flatMap (le 4) = b
  have hpos : 0 < vals.length := List.length_pos_iff.mpr hne
  have h0 : field (le 1 tb) 0 1 = tb := field_le_of_lt (by omega)
  have h1 : field (le 1 0) 0 1 = 0 := field_le_of_lt (by decide)
  have h2 : field (le 2 first) 0 2 = first := field_le_of_lt (by omega)
  have h4 : field (le 2 vals.length) 0 2 = vals.length := field_le_of_lt (by omega)
  have hb0 : field b 0 1 = tb := by simp [← hb, field_append_left, h0]
  have hb1 : field b 1 1 = 0 := by simp [← hb, field_append_left, field_append_right, h1]
  have hb2 : field b 2 2 = first := by simp [← hb, field_append_left, field_append_right, h2]
  have hb4 : field b 4 2 = vals.length := by simp [← hb, field_append_left, field_append_right, h4]
  have hbl : b.length = 8 + 4 * vals.length := by
    simp only [← hb, List.length_append, length_words, le_length, zeros, List.length_replicate]
  have hvals : ((List.range vals.length).map fun i => field b (8 + 4 * i) 4 % 2 ^ 18) = vals := by
    rw [← hb]; exact words_of_body (fun v h => (hv v h).1) (by simp)
  have hin : (decide (18 < tb) || decide (1 < 0) || decide (vals.length < 1) || decide (1016 < vals.length) ||
      decide (b.length ≠ 8 + 4 * vals.length) || decide (0xC000 < first + vals.length)) = false := by
    simp only [Bool.or_eq_false_iff, decide_eq_false_iff_not]; omega
  have htake : vals.takeWhile (entryOk t.shadowSeen.dir tb) = vals :=
    takeWhile_eq_self fun v h => (hv v h).2
  have hemp : vals.isEmpty = false := by simp [hne]
  simp only [cmdRtTblWrite, hb0, hb1, hb2, hb4, hvals, hin]
  simp [htake, hne, rOk]

theorem cmdRtTblRead_eq {tb first n copy : Nat} (htb : tb ≤ 18) (hcopy : copy ≤ 1) (h1 : 1 ≤ n) (h2 : n ≤ 1016)
    (hlast : first + n ≤ 0xC000) :
    cmdRtTblRead m (le 1 tb ++ le 1 copy ++ le 2 first ++ le 2 n) t =
      (t, .now 0 ((List.range n).flatMap fun i =>
        le 4 (Tab.getD (if copy = 1 then t.rt.active else t.rt.shadow).cand (tb * 65536 + first + i) 0))) := by
  generalize hb : le 1 tb ++ le 1 copy ++ le 2 first ++ le 2 n = b
  have h0 : field (le 1 tb) 0 1 = tb := field_le_of_lt (by omega)
  have hc : field (le 1 copy) 0 1 = copy := field_le_of_lt (by omega)
  have hf : field (le 2 first) 0 2 = first := field_le_of_lt (by omega)
  have hn : field (le 2 n) 0 2 = n := field_le_of_lt (by omega)
  have hin : (decide (18 < tb) || decide (1 < copy) || decide (n < 1) || decide (1016 < n) || decide (0xC000 < first + n)) = false := by
    simp; omega
  have hb0 : field b 0 1 = tb := by simp [← hb, field_append_left, h0]
  have hb1 : field b 1 1 = copy := by simp [← hb, field_append_left, field_append_right, hc]
  have hb2 : field b 2 2 = first := by simp [← hb, field_append_left, field_append_right, hf]
  have hb4 : field b 4 2 = n := by simp [← hb, field_append_right, hn]
  simp only [cmdRtTblRead, hb0, hb1, hb2, hb4, hin]
  rfl

theorem cmdRtDirWrite_eq (hv : v < 2 ^ 18) (hok : t.shadowSeen.dirOk v = true) :
    cmdRtDirWrite m (le 4 v) t = (t.shadowWrite (.dir v), .now 0 []) := by
  have h0 : field (le 4 v) 0 4 = v := field_le_of_lt (by omega)
  simp only [cmdRtDirWrite, h0, State.dirWrite, if_neg (Nat.not_le.mpr hv), hok]
  rfl

/-! ### Swap and counters (R300, R304) -/

theorem cmdRtSwap_eq (force : Bool) (hswap : t.rt.swap = none) :
    cmdRtSwap m (le 1 (b2n force)) t =
      if t.swapSet = [] then (t, .now 0 (t.outCounts (List.range 19)))
      else
        let add := ((t.swapSet.filter fun x => !(bit (t.reg .rtFreeze 0) x)).map (2 ^ ·)).sum
        (((t.each t.swapSet fun s x => s.fwHold (arbKey 4 x) true).putFreeze (t.reg .rtFreeze 0 + add)).onRt fun r =>
          { r with swap := some { stage := 2, affected := t.swapSet, force := force, startedAt := t.now, froze := add } },
         .defer 0) := by
  have hforce : bit (field (le 1 (b2n force)) 0 1) 0 = force := by cases force <;> rfl
  have hnow : (t.each t.swapSet fun s x => s.fwHold (arbKey 4 x) true).now = t.now := State.each_read (·.now) fun _ _ => rfl
  simp only [cmdRtSwap, hswap, hforce, hnow, List.isEmpty_iff, Option.isSome_none, Bool.false_eq_true, if_false]

theorem cmdRtCounters_eq (hn : n < 18) :
    cmdRtCounters m (le 1 n) t =
      (t, .now 0 (([.rtDropNoroute, .rtDropHops, .rtDup, .rtStale, .rtMalformed, .rtMgmtReject, .rtMgmtDrop, .rtDropLocal,
        .rtSwaps, .rtSwapTimeout, .rtForced].flatMap fun r => le 4 (t.reg r 0)) ++ glCounters.flatMap fun r => le 4 (t.reg r n))) := by
  have h0 : field (le 1 n) 0 1 = n := field_le_of_lt (by omega)
  simp only [cmdRtCounters, h0, if_neg (show ¬ 17 < n by omega)]

end Commands

/-- Settles O24: each command by the lemma that says what its checks leave. -/
theorem routingCommands : Obligations.RoutingCommands := by
  unfold Obligations.RoutingCommands
  intro s h
  refine ⟨answers_of_cmd rfl (by decide) rfl rfl, fun n v hn hv => ?_, fun tb first vals htb hne hlen hlast hv => ?_,
    fun tb first n htb h1 h2 hlast => ⟨?_, ?_⟩, answers_of_cmd rfl (by decide) rfl rfl, fun v hv hok => ?_,
    fun force hswap => ⟨fun hts => ?_, fun hts => ?_⟩, fun n hn => ?_⟩
  · have hcmd := cmdRtPort_eq (t := s.taken h 0x0502 (le 1 n ++ le 1 v)) (m := h.mbx) hn hv
    have hdone : ∀ u, (s.taken h 0x0502 (le 1 n ++ le 1 v)).writeEnable n (bit v 0) = (u, rOk) →
        Answers (.rtPort h (le 1 n ++ le 1 v)) s h 0x0502 (le 1 n ++ le 1 v)
          ((u.setReg .glCtrlSpareAuto n (bits v 1 1)).setReg .glCtrlLpiAllow n (bits v 2 1)) 0 [] :=
      fun u hu => answers_of_cmd rfl (by decide) rfl (hcmd.trans (writeGlCtrl_of_done hu))
    refine ⟨fun hb hid hen => hdone _ ?_, fun hb hid hen hsh => hdone _ ?_, fun hb hsh hdef hst => hdone _ ?_, hdone⟩
    · rw [hb]; exact writeEnable_running (by rw [onlyMail_taken]; exact hid) (by rw [onlyMail_taken]; exact hen)
    · rw [hb]; exact writeEnable_start (by rw [onlyMail_taken]; exact hid) (by rw [onlyMail_taken]; exact hen)
        (by rw [onlyMail_taken]; exact hsh)
    · rw [hb]; exact writeEnable_stop (by rw [onlyMail_taken]; exact hsh) (by rw [onlyMail_taken]; exact hdef)
        (by rw [onlyMail_taken]; exact hst)
  · exact answers_of_cmd rfl (by decide) rfl
      (cmdRtTblWrite_shadow htb hne hlen hlast (by rw [taken_read (·.shadowSeen) fun _ _ _ => rfl]; exact hv))
  · refine answers_of_cmd rfl (by decide) rfl ((cmdRtTblRead_eq htb (Nat.zero_le 1) h1 h2 hlast).trans ?_)
    rw [taken_read (·.rt) fun _ _ _ => rfl]; rfl
  · refine answers_of_cmd rfl (by decide) rfl ((cmdRtTblRead_eq htb (Nat.le_refl 1) h1 h2 hlast).trans ?_)
    rw [taken_read (·.rt) fun _ _ _ => rfl]; rfl
  · exact answers_of_cmd rfl (by decide) rfl
      (cmdRtDirWrite_eq hv (by rw [taken_read (·.shadowSeen) fun _ _ _ => rfl]; exact hok))
  · refine answers_of_cmd rfl (by decide) rfl ((cmdRtSwap_eq force (by rw [onlyMail_taken]; exact hswap)).trans (if_pos ?_))
    exact (taken_read (·.swapSet) fun _ _ _ => rfl).trans hts
  · have hset : (s.taken h 0x0507 (le 1 (b2n force))).swapSet = s.swapSet := taken_read (·.swapSet) fun _ _ _ => rfl
    have hfrozen : (s.taken h 0x0507 (le 1 (b2n force))).reg .rtFreeze 0 = s.reg .rtFreeze 0 :=
      taken_read (·.reg .rtFreeze 0) fun _ _ _ => rfl
    have hnow : (s.taken h 0x0507 (le 1 (b2n force))).now = s.now := taken_read (·.now) fun _ _ _ => rfl
    refine defers_of_cmd rfl (by decide) rfl
      ((cmdRtSwap_eq force (by rw [onlyMail_taken]; exact hswap)).trans ((if_neg (by rw [hset]; exact hts)).trans ?_))
    rw [hset, hfrozen, hnow]
  · exact answers_of_cmd rfl (by decide) rfl (cmdRtCounters_eq hn)

end Sys2Proof.Machine
end

section
/-! PROOFS. Port enables and expert writes that are rows of their own (R292, R299, R314, R319, R324, R340, R398 to R401, R405,
R406, R427, R532). -/
namespace Sys2Proof.Machine

/-! ### Bits of a merged word (R427) -/

theorem testBit_bits (x lo w i : Nat) : (bits x lo w).testBit i = (decide (i < w) && x.testBit (lo + i)) := by
  rw [bits, Nat.testBit_mod_two_pow, Nat.testBit_shiftRight]

theorem testBit_keep {mask : Nat} (h : mask < 2 ^ 32) (i : Nat) :
    (2 ^ 32 - 1 - mask).testBit i = (decide (i < 32) && !mask.testBit i) := by
  rw [show 2 ^ 32 - 1 - mask = 2 ^ 32 - (mask + 1) by omega, Nat.testBit_two_pow_sub_succ h]

/-- A field that the mask selects whole takes the value's bits. -/
theorem bits_merge_selected {k mask v lo w : Nat} (hm : mask < 2 ^ 32) (hs : bits mask lo w = 2 ^ w - 1) :
    bits ((k &&& (2 ^ 32 - 1 - mask)) ||| (v &&& mask)) lo w = bits v lo w := by
  refine Nat.eq_of_testBit_eq fun i => ?_
  have hi : (bits mask lo w).testBit i = decide (i < w) := by rw [hs, Nat.testBit_two_pow_sub_one]
  rw [testBit_bits] at hi
  by_cases hw : i < w
  · simp only [hw, decide_true, Bool.true_and] at hi
    rw [testBit_bits, testBit_bits, Nat.testBit_or, Nat.testBit_and, Nat.testBit_and, testBit_keep hm, hi]
    simp
  · simp [testBit_bits, hw]

/-- A field that the mask does not touch keeps its bits. -/
theorem bits_merge_kept {k mask v lo w : Nat} (hm : mask < 2 ^ 32) (hs : bits mask lo w = 0) (hw : lo + w ≤ 32) :
    bits ((k &&& (2 ^ 32 - 1 - mask)) ||| (v &&& mask)) lo w = bits k lo w := by
  refine Nat.eq_of_testBit_eq fun i => ?_
  have hi : (bits mask lo w).testBit i = false := by rw [hs, Nat.zero_testBit]
  rw [testBit_bits] at hi
  by_cases hlt : i < w
  · simp only [hlt, decide_true, Bool.true_and] at hi
    have h32 : lo + i < 32 := by omega
    rw [testBit_bits, testBit_bits, Nat.testBit_or, Nat.testBit_and, Nat.testBit_and, testBit_keep hm, hi]
    simp [h32]
  · simp [testBit_bits, hlt]

/-! ### The fields of a word -/

/-- The fields of the words that the rows below write: GL_CTRL, the policers' five, SCH_PORT_CFG, SCH_SUB_CFG, SCH_SQ_CFG,
SCH_HIST_SEL, MC_CH_CFG, and of the ARB and RT blocks ARB_FREEZE, ARB_CLEAR, ARB_TRUMP_LIMIT, RT_CTRL and RT_FREEZE. -/
def wordGlCtrl : List RegRow :=
  [⟨.glCtrlEnable, 0x2000000, [(0x10000, 18)], 1, 0, 0, 1, .rw, 0, 1⟩,
   ⟨.glCtrlSpareAuto, 0x2000000, [(0x10000, 18)], 1, 0, 1, 1, .rw, 0, 1⟩,
   ⟨.glCtrlLpiAllow, 0x2000000, [(0x10000, 18)], 1, 0, 2, 1, .rw, 0, 1⟩]
def wordPolCfg : List RegRow :=
  [⟨.polCfgEn, 0x4000000, [(0x40, 256)], 1, 0, 0, 1, .rw, 0, 1⟩,
   ⟨.polCfgAware, 0x4000000, [(0x40, 256)], 1, 0, 1, 1, .rw, 0, 1⟩]
def wordPolCir : List RegRow :=
  [⟨.polCir, 0x4000004, [(0x40, 256)], 1, 0, 0, 21, .rw, 0, 2000000⟩]
def wordPolPir : List RegRow :=
  [⟨.polPir, 0x4000008, [(0x40, 256)], 1, 0, 0, 21, .rw, 0, 2000000⟩]
def wordPolCbs : List RegRow :=
  [⟨.polCbs, 0x400000c, [(0x40, 256)], 1, 0, 0, 32, .rw, 4224, 4294967295⟩]
def wordPolPbs : List RegRow :=
  [⟨.polPbs, 0x4000010, [(0x40, 256)], 1, 0, 0, 32, .rw, 4224, 4294967295⟩]
def wordSchPortCfg : List RegRow :=
  [⟨.schPortCfgSchBucketClear, 0x4010008, [(0x10000, 18)], 1, 0, 0, 1, .wo, 0, 1⟩]
def wordSchSubCfg : List RegRow :=
  [⟨.schSubCfgWeight, 0x4012008, [(0x10000, 18), (0x20, 512)], 1, 0, 0, 8, .rw, 1, 255⟩,
   ⟨.schSubCfgSchBucketClear, 0x4012008, [(0x10000, 18), (0x20, 512)], 1, 0, 8, 1, .wo, 0, 1⟩]
def wordSchSqCfg : List RegRow :=
  [⟨.schSqCfgWeight, 0x4018008, [(0x10000, 18), (0x10, 2048)], 1, 0, 0, 8, .rw, 1, 255⟩,
   ⟨.schSqCfgSchBucketClear, 0x4018008, [(0x10000, 18), (0x10, 2048)], 1, 0, 8, 1, .wo, 0, 1⟩]
def wordSchHistSel : List RegRow :=
  [⟨.schHistSelQueue, 0x4010100, [(0x10000, 18)], 1, 0, 0, 11, .rw, 0, 2047⟩,
   ⟨.schHistSelIngress, 0x4010100, [(0x10000, 18)], 1, 0, 11, 1, .rw, 0, 1⟩,
   ⟨.schHistSelClear, 0x4010100, [(0x10000, 18)], 1, 0, 12, 1, .wo, 0, 1⟩]
def wordMcChCfg : List RegRow :=
  [⟨.mcChCfgMap, 0x6000000, [(0x100000, 12), (0x1000, 32)], 1, 0, 0, 2, .rw, 0, 2⟩,
   ⟨.mcChCfgRefMode, 0x6000000, [(0x100000, 12), (0x1000, 32)], 1, 0, 2, 1, .rw, 0, 1⟩,
   ⟨.mcChCfgIdleClose, 0x6000000, [(0x100000, 12), (0x1000, 32)], 1, 0, 3, 8, .rw, 1, 255⟩,
   ⟨.mcChCfgPdIdle, 0x6000000, [(0x100000, 12), (0x1000, 32)], 1, 0, 11, 8, .rw, 0, 255⟩]
def wordArbFreeze : List RegRow := [⟨.arbFreeze, 0x1000008, [], 1, 0, 0, 1, .rw, 0, 1⟩]
def wordArbClear : List RegRow := [⟨.arbClear, 0x100001c, [], 1, 0, 0, 1, .wo, 0, 1⟩]
def wordArbTrumpLimit : List RegRow := [⟨.arbTrumpLimit, 0x1000000, [], 1, 0, 0, 8, .rw, 1, 255⟩]
def wordRtCtrl : List RegRow := [⟨.rtCtrlRouteEn, 0x3000000, [], 1, 0, 0, 1, .rw, 0, 1⟩]
def wordRtFreeze : List RegRow := [⟨.rtFreeze, 0x3000018, [], 1, 0, 0, 19, .rw, 0, 524287⟩]

/-- The fields of a word, at index `i`. -/
def fieldsOf (word : List RegRow) (i : Nat) : List (RegRow × Nat) := word.map fun r => (r, i)

theorem fieldsAt_arbRt :
    fieldsAt 0x01000008 = fieldsOf wordArbFreeze 0 ∧ fieldsAt 0x0100001C = fieldsOf wordArbClear 0 ∧
    fieldsAt 0x01000000 = fieldsOf wordArbTrumpLimit 0 ∧ fieldsAt 0x03000000 = fieldsOf wordRtCtrl 0 ∧
    fieldsAt 0x03000018 = fieldsOf wordRtFreeze 0 := by decide +kernel
theorem fieldsAt_arbFreeze : fieldsAt 0x01000008 = fieldsOf wordArbFreeze 0 := fieldsAt_arbRt.1
theorem fieldsAt_arbClear : fieldsAt 0x0100001C = fieldsOf wordArbClear 0 := fieldsAt_arbRt.2.1
theorem fieldsAt_arbTrumpLimit : fieldsAt 0x01000000 = fieldsOf wordArbTrumpLimit 0 := fieldsAt_arbRt.2.2.1
theorem fieldsAt_rtCtrl : fieldsAt 0x03000000 = fieldsOf wordRtCtrl 0 := fieldsAt_arbRt.2.2.2.1
theorem fieldsAt_rtFreeze : fieldsAt 0x03000018 = fieldsOf wordRtFreeze 0 := fieldsAt_arbRt.2.2.2.2

/-- A word without agreements (R430) and check-value units: a write of it in range takes effect at once. -/
def FreeWord (word : List RegRow) : Prop :=
  (!word.isEmpty && word.all fun r => r.reg.blk != .chk && r.acc != .rwl) = true

/-- The words of the rows below. -/
def rowWords : List (List RegRow) :=
  [wordGlCtrl, wordPolCfg, wordPolCir, wordPolPir, wordPolCbs, wordPolPbs, wordSchPortCfg, wordSchSubCfg, wordSchSqCfg,
   wordSchHistSel, wordMcChCfg, wordArbFreeze, wordArbClear, wordArbTrumpLimit, wordRtCtrl, wordRtFreeze]

/-- All these words are free, and each stands in the block of its name. -/
theorem rowWords_free_and_blocks :
    (∀ word ∈ rowWords, FreeWord word) ∧
    (∀ r ∈ [Reg.polCfgEn, .polCir, .polPir, .polCbs, .polPbs], r.blk = .pol) ∧
    (∀ r ∈ [Reg.schPortCfgSchBucketClear, .schSubCfgWeight, .schSqCfgWeight, .schHistSelQueue], r.blk = .sch) ∧
    (∀ r ∈ [Reg.glCtrlEnable, .glCtrlSpareAuto, .glCtrlLpiAllow], r.blk = .gl) ∧
    (∀ r ∈ [Reg.rtCtrlRouteEn, .rtFreeze], r.blk = .rt) ∧
    (∀ r ∈ [Reg.arbFreeze, .arbClear, .arbTrumpLimit], r.blk = .arb) ∧
    Reg.mcChCfgMap.blk = .mc := by
  unfold FreeWord; decide +kernel

theorem freeWord {word : List RegRow} (h : word ∈ rowWords) : FreeWord word := rowWords_free_and_blocks.1 word h
theorem blk_eq_pol {r : Reg} (h : r ∈ [Reg.polCfgEn, .polCir, .polPir, .polCbs, .polPbs]) : r.blk = .pol :=
  rowWords_free_and_blocks.2.1 r h
theorem blk_eq_sch {r : Reg}
    (h : r ∈ [Reg.schPortCfgSchBucketClear, .schSubCfgWeight, .schSqCfgWeight, .schHistSelQueue]) : r.blk = .sch :=
  rowWords_free_and_blocks.2.2.1 r h
theorem blk_eq_gl {r : Reg} (h : r ∈ [Reg.glCtrlEnable, .glCtrlSpareAuto, .glCtrlLpiAllow]) : r.blk = .gl :=
  rowWords_free_and_blocks.2.2.2.1 r h
theorem blk_eq_rt {r : Reg} (h : r ∈ [Reg.rtCtrlRouteEn, .rtFreeze]) : r.blk = .rt :=
  rowWords_free_and_blocks.2.2.2.2.1 r h
theorem blk_eq_arb {r : Reg} (h : r ∈ [Reg.arbFreeze, .arbClear, .arbTrumpLimit]) : r.blk = .arb :=
  rowWords_free_and_blocks.2.2.2.2.2.1 r h
theorem blk_mcChCfgMap : Reg.mcChCfgMap.blk = .mc := rowWords_free_and_blocks.2.2.2.2.2.2

theorem fieldsAt_glCtrl (n : Port) : fieldsAt (0x02000000 + 0x10000 * n.val) =
    fieldsOf wordGlCtrl n := by
  revert n; decide +kernel
theorem rowsNear_sched {a : Nat} (h : a / 2 ^ 24 = 4) : rowsNear a = regsPol ++ regsSch := by unfold rowsNear; rw [h]; rfl

/-- Below the first word of SCH stand the policers alone. -/
theorem fieldsAt_pol {a : Nat} (h1 : a / 2 ^ 24 = 4) (h2 : a < 0x04010000) :
    fieldsAt a = regsPol.filterMap fun r => (r.at? a).map fun i => (r, i) := by
  have hbase : ∀ r ∈ regsSch, 0x04010000 ≤ r.base := by decide
  have hsch : (regsSch.filterMap fun r => (r.at? a).map fun i => (r, i)) = [] := by
    refine List.filterMap_eq_nil_iff.mpr fun r hr => ?_
    rw [RegRow.at?, if_pos (Nat.lt_of_lt_of_le h2 (hbase r hr))]; rfl
  rw [fieldsAt, rowsNear_sched h1, List.filterMap_append, hsch, List.append_nil]

section Arrays
variable {r : Reg} {a b st n st' n' fan sub lo w mn mx : Nat} {acc : Access}

theorem RegRow.at?_array : RegRow.at? ⟨r, b, [(st, n)], fan, sub, lo, w, acc, mn, mx⟩ a =
    if b ≤ a ∧ (a - b) / st < n ∧ (a - b) % st = 0 then some ((a - b) / st * fan + sub) else none := by
  unfold RegRow.at? regIndex regIndex
  repeat' split
  all_goals grind
theorem RegRow.at?_array2 : RegRow.at? ⟨r, b, [(st, n), (st', n')], fan, sub, lo, w, acc, mn, mx⟩ a =
    if b ≤ a ∧ (a - b) / st < n ∧ (a - b) % st / st' < n' ∧ (a - b) % st % st' = 0 then
      some (((a - b) / st * n' + (a - b) % st / st') * fan + sub) else none := by
  unfold RegRow.at? regIndex regIndex regIndex
  repeat' split
  all_goals grind
theorem RegRow.at?_array3 {st'' n'' : Nat} :
    RegRow.at? ⟨r, b, [(st, n), (st', n'), (st'', n'')], fan, sub, lo, w, acc, mn, mx⟩ a =
      if b ≤ a ∧ (a - b) / st < n ∧ (a - b) % st / st' < n' ∧ (a - b) % st % st' / st'' < n'' ∧ (a - b) % st % st' % st'' = 0 then
        some ((((a - b) / st * n' + (a - b) % st / st') * n'' + (a - b) % st % st' / st'') * fan + sub) else none := by
  unfold RegRow.at? regIndex regIndex regIndex regIndex
  repeat' split
  all_goals grind
theorem RegRow.at?_word : RegRow.at? ⟨r, b, [], fan, sub, lo, w, acc, mn, mx⟩ a = if b = a then some sub else none := by
  unfold RegRow.at? regIndex
  repeat' split
  all_goals grind
end Arrays

/-- Word `k` of policer `p`. -/
def wordPol (k : Fin 5) : List RegRow :=
  match k with
  | 0 => wordPolCfg
  | 1 => wordPolCir
  | 2 => wordPolPir
  | 3 => wordPolCbs
  | 4 => wordPolPbs
theorem fieldsAt_policer_word (p : Fin 256) (k : Fin 5) :
    fieldsAt (0x04000000 + 0x40 * p.val + 4 * k.val) = fieldsOf (wordPol k) p := by
  have hp := p.isLt
  rw [fieldsAt_pol (by omega) (by omega)]
  have hk : ∀ k : Fin 5, k = 0 ∨ k = 1 ∨ k = 2 ∨ k = 3 ∨ k = 4 := by decide
  obtain rfl | rfl | rfl | rfl | rfl := hk k <;>
  · simp (disch := omega) only [regsPol, List.filterMap_cons, List.filterMap_nil, RegRow.at?_array, RegRow.at?_word, if_neg,
      Option.map_none]
    simp (disch := omega) only [if_pos, Option.map_some]
    simp only [wordPol, wordPolCfg, wordPolCir, wordPolPir, wordPolCbs, wordPolPbs, fieldsOf, List.map_cons, List.map_nil,
      List.cons.injEq, Prod.mk.injEq, true_and, and_true]
    omega
theorem fieldsAt_policer (p : Fin 256) :
    fieldsAt (0x04000000 + 0x40 * p.val + 4 * 0) = fieldsOf wordPolCfg p ∧
    fieldsAt (0x04000000 + 0x40 * p.val + 4 * 1) = fieldsOf wordPolCir p ∧
    fieldsAt (0x04000000 + 0x40 * p.val + 4 * 2) = fieldsOf wordPolPir p ∧
    fieldsAt (0x04000000 + 0x40 * p.val + 4 * 3) = fieldsOf wordPolCbs p ∧
    fieldsAt (0x04000000 + 0x40 * p.val + 4 * 4) = fieldsOf wordPolPbs p :=
  ⟨fieldsAt_policer_word p 0, fieldsAt_policer_word p 1, fieldsAt_policer_word p 2, fieldsAt_policer_word p 3,
    fieldsAt_policer_word p 4⟩
theorem fieldsAt_schPortCfg (n : Port) : fieldsAt (0x04010008 + 0x10000 * n.val) = fieldsOf wordSchPortCfg n := by
  revert n; decide +kernel
theorem fieldsAt_schHistSel (n : Port) : fieldsAt (0x04010100 + 0x10000 * n.val) =
    fieldsOf wordSchHistSel n := by
  revert n; decide +kernel
/-- The word of channel `k` of stack `s`. -/
theorem fieldsAt_mcChCfg_stack {s k : Nat} (hs : s < 12) (hk : k < 32) :
    fieldsAt (0x06000000 + 0x100000 * s + 0x1000 * k) = fieldsOf wordMcChCfg (32 * s + k) := by
  have hrows : rowsNear (0x06000000 + 0x100000 * s + 0x1000 * k) = regsMc := by
    unfold rowsNear; rw [show (0x06000000 + 0x100000 * s + 0x1000 * k) / 2 ^ 24 = 6 by omega]; rfl
  rw [fieldsAt, hrows]
  simp (disch := omega) only [regsMc, List.filterMap_cons, List.filterMap_nil, RegRow.at?_array, RegRow.at?_array2,
    RegRow.at?_array3, if_neg, Option.map_none]
  simp (disch := omega) only [if_pos, Option.map_some]
  have hidx : ((0x06000000 + 0x100000 * s + 0x1000 * k - 0x6000000) / 0x100000 * 32 +
      (0x06000000 + 0x100000 * s + 0x1000 * k - 0x6000000) % 0x100000 / 0x1000) * 1 + 0 = 32 * s + k := by omega
  exact congrArg (fieldsOf wordMcChCfg) hidx
theorem fieldsAt_mcChCfg (c : Chan) : fieldsAt (0x06000000 + 0x100000 * (c.val / 32) + 0x1000 * (c.val % 32)) =
    fieldsOf wordMcChCfg c := by
  have hc := c.isLt
  rw [fieldsAt_mcChCfg_stack (by omega) (by omega), Nat.div_add_mod]

theorem fieldsAt_schSubCfg (n : Port) {i : Nat} (hi : i < 512) : fieldsAt (0x04012008 + 0x10000 * n.val + 0x20 * i) =
    fieldsOf wordSchSubCfg (512 * n.val + i) := by
  have hn := n.isLt
  rw [fieldsAt, rowsNear_sched (by omega)]
  simp (disch := omega) only [regsPol, regsSch, List.cons_append, List.nil_append, List.filterMap_cons, List.filterMap_nil,
    RegRow.at?_word, RegRow.at?_array, RegRow.at?_array2, if_neg, Option.map_none]
  simp (disch := omega) only [if_pos, Option.map_some]
  have hidx : ((0x04012008 + 65536 * n.val + 0x20 * i - 0x04012008) / 65536 * 512 +
      (0x04012008 + 65536 * n.val + 0x20 * i - 0x04012008) % 65536 / 0x20) * 1 + 0 = 512 * n.val + i := by omega
  exact congrArg (fieldsOf wordSchSubCfg) hidx
theorem fieldsAt_schSqCfg (n : Port) {i : Nat} (hi : i < 2048) : fieldsAt (0x04018008 + 0x10000 * n.val + 0x10 * i) =
    fieldsOf wordSchSqCfg (2048 * n.val + i) := by
  have hn := n.isLt
  rw [fieldsAt, rowsNear_sched (by omega)]
  simp (disch := omega) only [regsPol, regsSch, List.cons_append, List.nil_append, List.filterMap_cons, List.filterMap_nil,
    RegRow.at?_word, RegRow.at?_array, RegRow.at?_array2, if_neg, Option.map_none]
  simp (disch := omega) only [if_pos, Option.map_some]
  have hidx : ((0x04018008 + 65536 * n.val + 0x10 * i - 0x04018008) / 65536 * 2048 +
      (0x04018008 + 65536 * n.val + 0x10 * i - 0x04018008) % 65536 / 0x10) * 1 + 0 = 2048 * n.val + i := by omega
  exact congrArg (fieldsOf wordSchSqCfg) hidx

end Sys2Proof.Machine
end

section
/-! PROOFS. Expert writes: what the word written selects, and the effect of each row (R292, R299, R314, R319, R324, R340,
R398 to R401, R405, R406, R427, R532). -/
namespace Sys2Proof.Machine

section Writes
variable {t : State} {m a mask value i : Nat} {word : List RegRow}

/-- Of a mask of 32 ones every field is selected whole. -/
theorem bits_full {lo w : Nat} (h : lo + w ≤ 32) : bits 0xFFFFFFFF lo w = 2 ^ w - 1 := by
  refine Nat.eq_of_testBit_eq fun i => ?_
  rw [testBit_bits, show 0xFFFFFFFF = 2 ^ 32 - 1 from rfl, Nat.testBit_two_pow_sub_one, Nat.testBit_two_pow_sub_one]
  by_cases hi : i < w
  · simp [hi]; omega
  · simp [hi]

/-- The bits that the readable and writable fields of a word hold. -/
def keptBits (t : State) (m : Nat) (word : List RegRow) (i : Nat) : Nat :=
  ((fieldsOf word i).map fun x => if x.1.acc = .rw || x.1.acc = .rws || x.1.acc = .rwl then
    (t.view m x.1.reg x.2 % 2 ^ x.1.width) * 2 ^ x.1.lo else 0).sum
/-- What a write makes of a word: the fields keep what the mask does not take from the value (R427). -/
def merged (t : State) (m : Nat) (word : List RegRow) (i mask value : Nat) : Nat :=
  (keptBits t m word i &&& (2 ^ 32 - 1 - mask)) ||| (value &&& mask)

theorem bits_merged {lo w : Nat} (hm : mask < 2 ^ 32) (hs : bits mask lo w = 2 ^ w - 1) :
    bits (merged t m word i mask value) lo w = bits value lo w := bits_merge_selected hm hs
theorem bits_merged_kept {lo w : Nat} (hm : mask < 2 ^ 32) (hs : bits mask lo w = 0) (hw : lo + w ≤ 32) :
    bits (merged t m word i mask value) lo w = bits (keptBits t m word i) lo w := bits_merge_kept hm hs hw

/-- A write by mailbox 0 or 1 of a word without agreements and check-value units takes effect when its fields are in range. -/
theorem cmdExpWrite_direct (hf : fieldsAt a = fieldsOf word i) (hb : a < 2 ^ 32 ∧ mask < 2 ^ 32 ∧ value < 2 ^ 32)
    (ha : a % 4 = 0) (hm : m < 2)
    (hword : FreeWord word)
    (hr : WordWrite.inRange { fields := fieldsOf word i, mask := mask, word := merged t m word i mask value } = true) :
    cmdExpWrite m (writeBody a mask value) t =
      t.writeWord m { fields := fieldsOf word i, mask := mask, word := merged t m word i mask value } := by
  rw [FreeWord, Bool.and_eq_true, Bool.not_eq_true', List.all_eq_true] at hword
  obtain ⟨hne, hfree⟩ := hword
  have hw : t.merge m a mask value = { fields := fieldsOf word i, mask := mask, word := merged t m word i mask value } := by
    rw [State.merge, hf]; rfl
  have hmem : ∀ x ∈ fieldsOf word i, x.1.reg.blk ≠ .chk ∧ x.1.acc ≠ .rwl := by
    intro x hx
    obtain ⟨r, hr, rfl⟩ := List.mem_map.mp hx
    simpa using hfree r hr
  have hex : wordsExist a 1 = true := by
    have hne' : (fieldsOf word i).isEmpty = false := by simpa [fieldsOf] using hne
    simp [wordsExist, ha, hf, hne']
  have hreach : t.mayReach m true mask a = true := by
    rw [State.mayReach, if_pos hm, hf]
    exact List.all_eq_true.mpr fun x hx => by simp [(hmem x hx).1]
  rw [cmdExpWrite_free hb hex hreach (by rw [hw]; exact fun x hx e => absurd e (hmem x hx).2), hw, if_pos hr]

/-! ### Which part of the machine takes a word -/

variable {r : RegRow} {rest : List RegRow} {w : WordWrite}

theorem writeWord_sch (hw : w.fields = fieldsOf (r :: rest) i) (h : r.reg.blk = .pol ∨ r.reg.blk = .sch) :
    t.writeWord m w = t.writeSch i w := by
  unfold State.writeWord
  rw [hw]
  rcases h with h | h <;> simp [fieldsOf, h]
theorem writeWord_link (hw : w.fields = fieldsOf (r :: rest) i) (h : r.reg.blk = .gl ∨ r.reg.blk = .rt) :
    t.writeWord m w = t.writeLink i w := by
  unfold State.writeWord
  rw [hw]
  rcases h with h | h <;> simp [fieldsOf, h]
theorem writeWord_arb (hw : w.fields = fieldsOf (r :: rest) i) (h : r.reg.blk = .arb) : t.writeWord m w = t.writeArb m w := by
  unfold State.writeWord
  rw [hw]
  simp [fieldsOf, h]
theorem writeWord_bound (hw : w.fields = fieldsOf (r :: rest) i) (h : r.reg.blk = .mc) : t.writeWord m w = t.writeBound i w := by
  unfold State.writeWord
  rw [hw]
  simp [fieldsOf, h]

/-! ### Policers (R398 to R401) -/

theorem writePolicer_done {n en aware cir pir cbs pbs : Nat} (h : cir ≤ pir) :
    t.writePolicer n en aware cir pir cbs pbs = ((t.writePolicer n en aware cir pir cbs pbs).1, .now 0 []) := by
  refine Prod.ext rfl ?_
  unfold State.writePolicer
  rw [if_neg (Nat.not_lt.mpr h)]
  dsimp only
  split <;> rfl

section Policers
variable {p : Fin 256} {v : Nat} (hm : m < 2) (hv : v < 2 ^ 32)
include hm hv

theorem cmdExpWrite_polCfg (h : t.reg .polCir p ≤ t.reg .polPir p) :
    cmdExpWrite m (writeBody (0x04000000 + 0x40 * p.val + 4 * 0) 0xFFFFFFFF v) t =
      ((t.writePolicer p (v % 2) (v / 2 % 2) (t.reg .polCir p) (t.reg .polPir p) (t.reg .polCbs p) (t.reg .polPbs p)).1, .now 0 []) := by
  have hp := p.isLt
  generalize hW : merged t m wordPolCfg p.val 0xFFFFFFFF v = W
  have hen : bits W 0 1 = v % 2 := by rw [← hW]; exact bits_merged (by decide) (by decide)
  have haw : bits W 1 1 = v / 2 % 2 := by rw [← hW]; exact (bits_merged (by decide) (by decide)).trans rfl
  refine (cmdExpWrite_direct (fieldsAt_policer p).1 (by omega) (by omega) hm (freeWord (by simp [rowWords])) ?_).trans ?_
  · rw [hW]; simp [WordWrite.inRange, WordWrite.sel, fieldsOf, wordPolCfg, hen, haw]; omega
  · rw [hW, writeWord_sch rfl (Or.inl (blk_eq_pol (by simp))), ← writePolicer_done h]
    simp [State.writeSch, WordWrite.val, WordWrite.get?, WordWrite.sel, fieldsOf, wordPolCfg, bits_full, hen, haw]

/-- A write of a word of one policer parameter, in range: the policer takes it beside those it has. -/
theorem cmdExpWrite_polParam {r : RegRow} (hf : fieldsAt a = fieldsOf [r] p.val) (ha : a < 2 ^ 32 ∧ a % 4 = 0)
    (hblk : r.reg.blk = .pol) (hreg : r.reg ∈ [.polCir, .polPir, .polCbs, .polPbs]) (hlo : r.lo = 0) (hw : r.width ≤ 32)
    (hacc : r.acc = .rw) (hmin : r.min ≤ v) (hmax : v ≤ r.max) (hfit : v < 2 ^ r.width) (hpos : 0 < r.width)
    (h : (if r.reg = .polCir then v else t.reg .polCir p) ≤ (if r.reg = .polPir then v else t.reg .polPir p)) :
    cmdExpWrite m (writeBody a 0xFFFFFFFF v) t =
      ((t.writePolicer p (t.reg .polCfgEn p) (t.reg .polCfgAware p) (if r.reg = .polCir then v else t.reg .polCir p)
        (if r.reg = .polPir then v else t.reg .polPir p) (if r.reg = .polCbs then v else t.reg .polCbs p)
        (if r.reg = .polPbs then v else t.reg .polPbs p)).1, .now 0 []) := by
  generalize hW : merged t m [r] p.val 0xFFFFFFFF v = W
  have hbits : bits W r.lo r.width = v := by
    rw [← hW, bits_merged (by decide) (bits_full (by omega)), hlo]; exact Nat.mod_eq_of_lt hfit
  have hsel : ∀ fs W, WordWrite.sel { fields := fs, mask := 0xFFFFFFFF, word := W } (r, p.val) = true := fun _ _ => by
    have : 2 ≤ 2 ^ r.width := Nat.pow_le_pow_right (n := 2) (by decide) hpos
    simp only [WordWrite.sel, bits_full (show r.lo + r.width ≤ 32 by omega), bne_iff_ne]; omega
  have hget : ∀ q, WordWrite.get? { fields := fieldsOf [r] p.val, mask := 0xFFFFFFFF, word := W } q =
      if r.reg = q then some v else none := fun q => by
    by_cases hq : r.reg = q <;> simp [WordWrite.get?, fieldsOf, hsel, hq, hbits]
  have hval : ∀ q, WordWrite.val { fields := fieldsOf [r] p.val, mask := 0xFFFFFFFF, word := W } t q p.val =
      if r.reg = q then v else t.reg q p.val := fun q => by
    rw [WordWrite.val, hget]; split <;> rfl
  refine (cmdExpWrite_direct hf ⟨ha.1, by decide, hv⟩ ha.2 hm (by simp [FreeWord, hblk, hacc]) ?_).trans ?_
  · rw [hW]; simp [WordWrite.inRange, fieldsOf, hbits, hmin, hmax]
  · have hcfg : r.reg ≠ .polCfgEn ∧ r.reg ≠ .polCfgAware := by
      simp only [List.mem_cons, List.not_mem_nil, or_false] at hreg
      rcases hreg with e | e | e | e <;> simp [e]
    have hhas : ([Reg.polCfgEn, .polCfgAware, .polCir, .polPir, .polCbs, .polPbs].any fun q =>
        (WordWrite.get? { fields := fieldsOf [r] p.val, mask := 0xFFFFFFFF, word := W } q).isSome) = true :=
      List.any_eq_true.mpr ⟨r.reg, by simpa using Or.inr (Or.inr (by simpa using hreg)), by simp [hget]⟩
    rw [hW, writeWord_sch rfl (.inl hblk), ← writePolicer_done h]
    simp only [State.writeSch, hhas, hval, if_neg hcfg.1, if_neg hcfg.2, if_true]

theorem cmdExpWrite_polCir (h : v ≤ t.reg .polPir p) (hmax : v ≤ 2000000) :
    cmdExpWrite m (writeBody (0x04000000 + 0x40 * p.val + 4 * 1) 0xFFFFFFFF v) t =
      ((t.writePolicer p (t.reg .polCfgEn p) (t.reg .polCfgAware p) v (t.reg .polPir p) (t.reg .polCbs p) (t.reg .polPbs p)).1,
        .now 0 []) := by
  have hp := p.isLt
  simpa using cmdExpWrite_polParam hm hv (fieldsAt_policer p).2.1 (by omega) (blk_eq_pol (by simp)) (by simp) rfl (by simp) rfl
    (Nat.zero_le v) hmax (by simp; omega) (by simp) (by simpa using h)

theorem cmdExpWrite_polPir (h : t.reg .polCir p ≤ v) (hmax : v ≤ 2000000) :
    cmdExpWrite m (writeBody (0x04000000 + 0x40 * p.val + 4 * 2) 0xFFFFFFFF v) t =
      ((t.writePolicer p (t.reg .polCfgEn p) (t.reg .polCfgAware p) (t.reg .polCir p) v (t.reg .polCbs p) (t.reg .polPbs p)).1,
        .now 0 []) := by
  have hp := p.isLt
  simpa using cmdExpWrite_polParam hm hv (fieldsAt_policer p).2.2.1 (by omega) (blk_eq_pol (by simp)) (by simp) rfl (by simp) rfl
    (Nat.zero_le v) hmax (by simp; omega) (by simp) (by simpa using h)
theorem cmdExpWrite_polCbs (h : t.reg .polCir p ≤ t.reg .polPir p) (hmin : 4224 ≤ v) :
    cmdExpWrite m (writeBody (0x04000000 + 0x40 * p.val + 4 * 3) 0xFFFFFFFF v) t =
      ((t.writePolicer p (t.reg .polCfgEn p) (t.reg .polCfgAware p) (t.reg .polCir p) (t.reg .polPir p) v (t.reg .polPbs p)).1,
        .now 0 []) := by
  have hp := p.isLt
  simpa using cmdExpWrite_polParam hm hv (fieldsAt_policer p).2.2.2.1 (by omega) (blk_eq_pol (by simp)) (by simp) rfl (by simp) rfl
    hmin (Nat.le_of_lt_succ hv) hv (by simp) (by simpa using h)
theorem cmdExpWrite_polPbs (h : t.reg .polCir p ≤ t.reg .polPir p) (hmin : 4224 ≤ v) :
    cmdExpWrite m (writeBody (0x04000000 + 0x40 * p.val + 4 * 4) 0xFFFFFFFF v) t =
      ((t.writePolicer p (t.reg .polCfgEn p) (t.reg .polCfgAware p) (t.reg .polCir p) (t.reg .polPir p) (t.reg .polCbs p) v).1,
        .now 0 []) := by
  have hp := p.isLt
  simpa using cmdExpWrite_polParam hm hv (fieldsAt_policer p).2.2.2.2 (by omega) (blk_eq_pol (by simp)) (by simp) rfl (by simp) rfl
    hmin (Nat.le_of_lt_succ hv) hv (by simp) (by simpa using h)

end Policers

section Rows
variable (hm : m < 2)
include hm

/-! ### Ports (R424) -/

/-- A write of ENABLE alone hands on the two other fields of GL_CTRL as they stand. -/
theorem cmdExpWrite_glCtrl (n : Port) {v : Nat} (hv : v < 2) :
    cmdExpWrite m (writeBody (0x02000000 + 0x10000 * n.val) 1 v) t =
      t.writeGlCtrl n (v + 2 * (t.reg .glCtrlSpareAuto n % 2) + 4 * (t.reg .glCtrlLpiAllow n % 2)) := by
  have hn := n.isLt
  have hview : ∀ r ∈ [Reg.glCtrlEnable, .glCtrlSpareAuto, .glCtrlLpiAllow], t.view m r n.val = t.reg r n.val := by
    intro r hr
    rw [State.view, blk_eq_gl hr]
    simp only [List.mem_cons, List.not_mem_nil, or_false] at hr
    rcases hr with rfl | rfl | rfl <;> rfl
  have hW : merged t m wordGlCtrl n.val 1 v % 8 =
      v + 2 * (t.reg .glCtrlSpareAuto n % 2) + 4 * (t.reg .glCtrlLpiAllow n % 2) := by
    have h0 : bits (merged t m wordGlCtrl n.val 1 v) 0 1 = bits v 0 1 := bits_merged (by decide) (by decide)
    have h1 : bits (merged t m wordGlCtrl n.val 1 v) 1 1 = _ := bits_merged_kept (by decide) (by decide) (by decide)
    have h2 : bits (merged t m wordGlCtrl n.val 1 v) 2 1 = _ := bits_merged_kept (by decide) (by decide) (by decide)
    have hk : keptBits t m wordGlCtrl n.val =
        t.reg .glCtrlEnable n % 2 + (t.reg .glCtrlSpareAuto n % 2 * 2 + t.reg .glCtrlLpiAllow n % 2 * 4) := by
      simp [keptBits, fieldsOf, wordGlCtrl, hview]
    rw [hk] at h1 h2
    simp only [bits, Nat.shiftRight_eq_div_pow] at h0 h1 h2
    omega
  refine (cmdExpWrite_direct (fieldsAt_glCtrl n) ⟨by omega, by decide, by omega⟩ (by omega) hm (freeWord (by simp [rowWords])) ?_).trans ?_
  · have h0 : bits (merged t m wordGlCtrl n.val 1 v) 0 1 = v :=
      (bits_merged (by decide) (by decide)).trans (Nat.mod_eq_of_lt hv)
    generalize merged t m wordGlCtrl n.val 1 v = W at h0
    simp [WordWrite.inRange, WordWrite.sel, fieldsOf, wordGlCtrl, h0]
    refine ⟨Or.inr (by omega), Or.inl rfl, Or.inl rfl⟩
  · rw [writeWord_link rfl (Or.inl (blk_eq_gl (by simp))), State.writeLink, if_pos, hW]
    simp [WordWrite.get?, WordWrite.sel, fieldsOf, wordGlCtrl, show bits 1 0 1 = 1 from rfl]

/-! ### Buckets and histograms (R314, R319, R324) -/

theorem cmdExpWrite_schPortCfg (n : Port) :
    cmdExpWrite m (writeBody (0x04010008 + 0x10000 * n.val) 1 1) t = (t.clearBucket n 0 0, .now 0 []) := by
  have hn := n.isLt
  have h1 : bits (merged t m wordSchPortCfg n.val 1 1) 0 1 = 1 := bits_merged (by decide) (by decide)
  refine (cmdExpWrite_direct (fieldsAt_schPortCfg n) ⟨by omega, by decide, by decide⟩ (by omega) hm (freeWord (by simp [rowWords])) ?_).trans ?_
  all_goals generalize merged t m wordSchPortCfg n.val 1 1 = W at h1
  · simp [WordWrite.inRange, WordWrite.sel, fieldsOf, wordSchPortCfg, h1]
  · rw [writeWord_sch rfl (Or.inr (blk_eq_sch (by simp)))]
    simp [State.writeSch, State.plainWrite, State.each, WordWrite.get?, WordWrite.sel, fieldsOf, wordSchPortCfg, h1, rOk,
      show bits 1 0 1 = 1 from rfl]

theorem cmdExpWrite_schSubCfg (n : Port) {i : Nat} (hi : i < 512) :
    cmdExpWrite m (writeBody (0x04012008 + 0x10000 * n.val + 0x20 * i) 0x100 0x100) t = (t.clearBucket n 1 i, .now 0 []) := by
  have hn := n.isLt
  have h1 : bits (merged t m wordSchSubCfg (512 * n.val + i) 0x100 0x100) 8 1 = 1 := bits_merged (by decide) (by decide)
  have hport : (512 * n.val + i) / 512 = n.val := by omega
  have hidx : (512 * n.val + i) % 512 = i := by omega
  refine (cmdExpWrite_direct (fieldsAt_schSubCfg n hi) ⟨by omega, by decide, by decide⟩ (by omega) hm (freeWord (by simp [rowWords])) ?_).trans ?_
  all_goals generalize merged t m wordSchSubCfg (512 * n.val + i) 0x100 0x100 = W at h1
  · simp [WordWrite.inRange, WordWrite.sel, fieldsOf, wordSchSubCfg, h1, show bits 256 0 8 = 0 from rfl]
  · rw [writeWord_sch rfl (Or.inr (blk_eq_sch (by simp)))]
    simp [State.writeSch, State.plainWrite, State.each, WordWrite.get?, WordWrite.sel, fieldsOf, wordSchSubCfg, h1, rOk, hport,
      hidx, show bits 256 0 8 = 0 from rfl, show bits 256 8 1 = 1 from rfl]

theorem cmdExpWrite_schSqCfg (n : Port) {i : Nat} (hi : i < 2048) :
    cmdExpWrite m (writeBody (0x04018008 + 0x10000 * n.val + 0x10 * i) 0x100 0x100) t = (t.clearBucket n 2 i, .now 0 []) := by
  have hn := n.isLt
  have h1 : bits (merged t m wordSchSqCfg (2048 * n.val + i) 0x100 0x100) 8 1 = 1 := bits_merged (by decide) (by decide)
  have hport : (2048 * n.val + i) / 2048 = n.val := by omega
  have hidx : (2048 * n.val + i) % 2048 = i := by omega
  refine (cmdExpWrite_direct (fieldsAt_schSqCfg n hi) ⟨by omega, by decide, by decide⟩ (by omega) hm (freeWord (by simp [rowWords])) ?_).trans ?_
  all_goals generalize merged t m wordSchSqCfg (2048 * n.val + i) 0x100 0x100 = W at h1
  · simp [WordWrite.inRange, WordWrite.sel, fieldsOf, wordSchSqCfg, h1, show bits 256 0 8 = 0 from rfl]
  · rw [writeWord_sch rfl (Or.inr (blk_eq_sch (by simp)))]
    simp [State.writeSch, State.plainWrite, State.each, WordWrite.get?, WordWrite.sel, fieldsOf, wordSchSqCfg, h1, rOk, hport,
      hidx, show bits 256 0 8 = 0 from rfl, show bits 256 8 1 = 1 from rfl]

theorem cmdExpWrite_schHistSel (n : Port) {q : Nat} {ing clr : Bool} (hq : q < 2048) (hing : ing = true → q < 256) :
    cmdExpWrite m (writeBody (0x04010100 + 0x10000 * n.val) 0xFFFFFFFF (q + 2048 * b2n ing + 4096 * b2n clr)) t =
      ((t.writeHistSel n q ing clr).1, .now 0 []) := by
  have hn := n.isLt
  have hI : b2n ing < 2 := by cases ing <;> decide
  have hC : b2n clr < 2 := by cases clr <;> decide
  have hlim : (ing && decide (255 < q)) = false := by
    cases ing with
    | false => rfl
    | true => simpa using Nat.le_of_lt_succ (hing rfl)
  generalize hW : merged t m wordSchHistSel n.val 0xFFFFFFFF (q + 2048 * b2n ing + 4096 * b2n clr) = W
  have h0 : bits W 0 11 = q := by
    rw [← hW, bits_merged (by decide) (bits_full (by decide)), bits, Nat.shiftRight_eq_div_pow]; omega
  have h1 : bits W 11 1 = b2n ing := by
    rw [← hW, bits_merged (by decide) (bits_full (by decide)), bits, Nat.shiftRight_eq_div_pow]; omega
  have h2 : bits W 12 1 = b2n clr := by
    rw [← hW, bits_merged (by decide) (bits_full (by decide)), bits, Nat.shiftRight_eq_div_pow]; omega
  refine (cmdExpWrite_direct (fieldsAt_schHistSel n) ⟨by omega, by decide, by omega⟩ (by omega) hm (freeWord (by simp [rowWords])) ?_).trans ?_
  · rw [hW]; simp [WordWrite.inRange, WordWrite.sel, fieldsOf, wordSchHistSel, bits_full, h0, h1, h2]; omega
  · have hon : (b2n ing == 1) = ing := by cases ing <;> rfl
    have hclr : (b2n clr == 1) = clr := by cases clr <;> rfl
    rw [hW, writeWord_sch rfl (Or.inr (blk_eq_sch (by simp)))]
    simp [State.writeSch, WordWrite.val, WordWrite.get?, WordWrite.sel, fieldsOf, wordSchHistSel, bits_full, h0, h1, h2]
    rw [hon, hclr]
    exact Prod.ext rfl (by rw [State.writeHistSel, hlim]; rfl)

/-! ### Arbiters (R405, R406) -/

theorem cmdExpWrite_arbFreeze {v : Nat} (hv : v < 2) :
    cmdExpWrite m (writeBody 0x01000008 1 v) t =
      (let k := arbKey (t.sel m).1 (t.sel m).2
       if v = 0 && (t.arb k).fwHold then (t, rState) else (t.onArb k fun a => { a with frozen := v == 1 }, rOk)) := by
  have h1 : bits (merged t m wordArbFreeze 0 1 v) 0 1 = v := (bits_merged (by decide) (by decide)).trans (Nat.mod_eq_of_lt hv)
  refine (cmdExpWrite_direct fieldsAt_arbFreeze ⟨by decide, by decide, by omega⟩ (by decide) hm (freeWord (by simp [rowWords])) ?_).trans ?_
  all_goals generalize merged t m wordArbFreeze 0 1 v = W at h1
  · simp [WordWrite.inRange, WordWrite.sel, fieldsOf, wordArbFreeze, h1]; omega
  · rw [writeWord_arb rfl (blk_eq_arb (by simp))]
    simp [State.writeArb, WordWrite.get?, WordWrite.sel, fieldsOf, wordArbFreeze, h1, show bits 1 0 1 = 1 from rfl]

theorem cmdExpWrite_arbClear :
    cmdExpWrite m (writeBody 0x0100001C 1 1) t =
      (t.onArb (arbKey (t.sel m).1 (t.sel m).2) fun a => { a with grants := 0, trumpCount := 0, maxWait := 0 }, .now 0 []) := by
  have h1 : bits (merged t m wordArbClear 0 1 1) 0 1 = 1 := bits_merged (by decide) (by decide)
  refine (cmdExpWrite_direct fieldsAt_arbClear ⟨by decide, by decide, by decide⟩ (by decide) hm (freeWord (by simp [rowWords])) ?_).trans ?_
  all_goals generalize merged t m wordArbClear 0 1 1 = W at h1
  · simp [WordWrite.inRange, WordWrite.sel, fieldsOf, wordArbClear, h1]
  · rw [writeWord_arb rfl (blk_eq_arb (by simp))]
    simp [State.writeArb, WordWrite.get?, WordWrite.sel, fieldsOf, wordArbClear, h1, rOk, show bits 1 0 1 = 1 from rfl]

theorem cmdExpWrite_arbTrumpLimit {v : Nat} (h1 : 1 ≤ v) (hv : v < 256) :
    cmdExpWrite m (writeBody 0x01000000 0xFF v) t = (t.setReg .arbTrumpLimit 0 v, .now 0 []) := by
  have h8 : bits (merged t m wordArbTrumpLimit 0 0xFF v) 0 8 = v := (bits_merged (by decide) (by decide)).trans (Nat.mod_eq_of_lt hv)
  refine (cmdExpWrite_direct fieldsAt_arbTrumpLimit ⟨by decide, by decide, by omega⟩ (by decide) hm (freeWord (by simp [rowWords])) ?_).trans ?_
  all_goals generalize merged t m wordArbTrumpLimit 0 0xFF v = W at h8
  · simp [WordWrite.inRange, WordWrite.sel, fieldsOf, wordArbTrumpLimit, h8]; omega
  · rw [writeWord_arb rfl (blk_eq_arb (by simp))]
    simp [State.writeArb, State.plainWrite, State.each, WordWrite.get?, WordWrite.sel, fieldsOf, wordArbTrumpLimit, h8, rOk,
      show bits 255 0 8 = 255 from rfl]

/-! ### Routing (R292, R299) -/

theorem cmdExpWrite_routeEn (v : Bool) :
    cmdExpWrite m (writeBody 0x03000000 1 (b2n v)) t =
      ((t.setReg .rtCtrlRouteEn 0 (b2n v)).rerouteAll fun _ => true, .now 0 []) := by
  have hv : b2n v < 2 := by cases v <;> decide
  have h1 : bits (merged t m wordRtCtrl 0 1 (b2n v)) 0 1 = b2n v :=
    (bits_merged (by decide) (by decide)).trans (Nat.mod_eq_of_lt hv)
  refine (cmdExpWrite_direct fieldsAt_rtCtrl ⟨by decide, by decide, by omega⟩ (by decide) hm (freeWord (by simp [rowWords])) ?_).trans ?_
  all_goals generalize merged t m wordRtCtrl 0 1 (b2n v) = W at h1
  · simp [WordWrite.inRange, WordWrite.sel, fieldsOf, wordRtCtrl, h1]; omega
  · rw [writeWord_link rfl (Or.inr (blk_eq_rt (by simp)))]
    simp [State.writeLink, WordWrite.get?, WordWrite.sel, fieldsOf, wordRtCtrl, h1, rOk, show bits 1 0 1 = 1 from rfl]

theorem cmdExpWrite_rtFreeze {v : Nat} (hv : v < 2 ^ 19) (hswap : t.rt.swap = none) :
    cmdExpWrite m (writeBody 0x03000018 0x7FFFF v) t = (t.setReg .rtFreeze 0 v, .now 0 []) := by
  have h19 : bits (merged t m wordRtFreeze 0 0x7FFFF v) 0 19 = v := (bits_merged (by decide) (by decide)).trans (Nat.mod_eq_of_lt hv)
  have hfree : t.writeFreeze v = (t.setReg .rtFreeze 0 v, .now 0 []) := by
    simp [State.writeFreeze, hswap, bit, State.putFreeze, Nat.mod_eq_of_lt (show v < 524288 from hv), rOk]
  refine (cmdExpWrite_direct fieldsAt_rtFreeze ⟨by decide, by decide, by omega⟩ (by decide) hm (freeWord (by simp [rowWords])) ?_).trans ?_
  all_goals generalize merged t m wordRtFreeze 0 0x7FFFF v = W at h19
  · simp [WordWrite.inRange, WordWrite.sel, fieldsOf, wordRtFreeze, h19]; omega
  · rw [writeWord_link rfl (Or.inr (blk_eq_rt (by simp)))]
    simp [State.writeLink, WordWrite.get?, WordWrite.sel, fieldsOf, wordRtFreeze, h19, hfree, show bits 0x7FFFF 0 19 = 0x7FFFF from rfl]

/-! ### The map of a channel (R340) -/

theorem cmdExpWrite_mcChCfgMap (c : Chan) {v : Nat} (hv : v ≤ 2) (hfree : t.chanFrames c = 0) :
    cmdExpWrite m (writeBody (0x06000000 + 0x100000 * (c.val / 32) + 0x1000 * (c.val % 32)) 3 v) t =
      (t.setReg .mcChCfgMap c v, .now 0 []) := by
  have hc := c.isLt
  have h2 : bits (merged t m wordMcChCfg c.val 3 v) 0 2 = v :=
    (bits_merged (by decide) (by decide)).trans (Nat.mod_eq_of_lt (by omega))
  refine (cmdExpWrite_direct (fieldsAt_mcChCfg c) ⟨by omega, by decide, by omega⟩ (by omega) hm (freeWord (by simp [rowWords])) ?_).trans ?_
  all_goals generalize merged t m wordMcChCfg c.val 3 v = W at h2
  · simp [WordWrite.inRange, WordWrite.sel, fieldsOf, wordMcChCfg, h2, hv, show bits 3 2 1 = 0 from rfl,
      show bits 3 3 8 = 0 from rfl, show bits 3 11 8 = 0 from rfl]
  · rw [writeWord_bound rfl blk_mcChCfgMap]
    simp [State.writeBound, State.plainWrite, State.each, WordWrite.get?, WordWrite.sel, fieldsOf, wordMcChCfg, h2, hfree, rOk,
      show bits 3 0 2 = 3 from rfl, show bits 3 2 1 = 0 from rfl, show bits 3 3 8 = 0 from rfl, show bits 3 11 8 = 0 from rfl]

end Rows
end Writes
/-- A row that writes a word is answered as the write is in the state `taken`. -/
theorem answers_of_write {c : Instr} {s u : State} {h : MbxHdr} {a mask value status : Nat} {reply : List Byte}
    (hexec : exec c s = .next (s.expWr h a mask value))
    (hcmd : cmdExpWrite h.mbx (writeBody a mask value) (s.taken h 0x0F02 (writeBody a mask value)) = (u, .now status reply)) :
    Answers c s h 0x0F02 (le 4 a ++ le 4 mask ++ le 4 value) u status reply :=
  answers_of_cmd (hexec.trans rfl) (by decide) cmdRow_expWrite hcmd

theorem reg_taken (s : State) (h : MbxHdr) (op : Nat) (body : List Byte) (r : Reg) (i : Nat) :
    (s.taken h op body).reg r i = s.reg r i := taken_read (·.reg r i) fun _ _ _ => rfl

theorem bits_glCtrl {v a b : Nat} (hv : v < 2) (ha : a < 2) (hb : b < 2) :
    bit (v + 2 * a + 4 * b) 0 = (v == 1) ∧ bits (v + 2 * a + 4 * b) 1 1 = a ∧ bits (v + 2 * a + 4 * b) 2 1 = b := by
  refine ⟨?_, ?_, ?_⟩
  · rw [bit, Nat.testBit_zero, show (v + 2 * a + 4 * b) % 2 = v by omega]; rfl
  · rw [bits, Nat.shiftRight_eq_div_pow]; omega
  · rw [bits, Nat.shiftRight_eq_div_pow]; omega

/-- A row that enables or disables a port is answered when its write of ENABLE is done. -/
theorem answers_enable {c : Instr} {s u : State} {h : MbxHdr} {v : Nat} (hm : h.mbx.val < 2) (n : Port) (hv : v < 2)
    (hu : (s.taken h 0x0F02 (writeBody (0x02000000 + 0x10000 * n.val) 1 v)).writeEnable n (v == 1) = (u, rOk))
    (hexec : exec c s = .next (s.expWr h (0x02000000 + 0x10000 * n.val) 1 v) := by rfl) :
    Answers c s h 0x0F02 (writeBody (0x02000000 + 0x10000 * n.val) 1 v)
      ((u.setReg .glCtrlSpareAuto n (s.reg .glCtrlSpareAuto n % 2)).setReg .glCtrlLpiAllow n (s.reg .glCtrlLpiAllow n % 2)) 0 [] := by
  obtain ⟨h0, h1, h2⟩ := bits_glCtrl hv (Nat.mod_lt (s.reg .glCtrlSpareAuto n) (by decide)) (Nat.mod_lt (s.reg .glCtrlLpiAllow n) (by decide))
  have hcmd := cmdExpWrite_glCtrl (t := s.taken h 0x0F02 (writeBody (0x02000000 + 0x10000 * n.val) 1 v)) hm n hv
  rw [reg_taken, reg_taken, writeGlCtrl_of_done (u := u) (by rw [h0]; exact hu), h1, h2] at hcmd
  exact answers_of_write hexec hcmd

/-- Settles O25: ENABLE by its branches; each expert write by the fields of the word it writes. -/
theorem expertWrites : Obligations.ExpertWrites := by
  unfold Obligations.ExpertWrites
  refine ⟨fun s n => ⟨writeEnable_running, writeEnable_start, fun hid hen hsh hdef => ?_, writeEnable_stop, fun hsh => ?_⟩,
    fun s h hm => ⟨fun n hid hsh hdef => ⟨fun hen => ?_, fun hst => ?_⟩, fun n i => ⟨?_, ?_, ?_⟩, fun n q ing clr hq hing => ?_,
      fun p v => ⟨fun hle => ?_, fun hle hmax => ?_, fun hle hmax => ?_, fun hle hmin => ?_, fun hle hmin => ?_⟩,
      ⟨?_, fun hfw => ?_, ?_⟩, fun v hv => ?_, fun v => ?_, fun v hswap => ?_, fun c map hmap hfree => ?_⟩⟩
  · simp only [State.writeEnable, if_true, if_neg hid, if_neg hen, hsh, hdef, Bool.false_eq_true, if_false]
  · simp only [State.writeEnable, hsh, Bool.false_eq_true, if_false, if_true]
  · refine answers_enable hm n (v := 1) (by decide) (writeEnable_start ?_ ?_ ?_)
    · rw [taken_read (·.ownId) fun _ _ _ => rfl]; exact hid
    · rw [reg_taken]; exact hen
    · exact (taken_read (fun t => (t.link n).shutting) fun _ _ _ => rfl).trans hsh
  · refine answers_enable hm n (v := 0) (by decide) (writeEnable_stop ?_ ?_ ?_)
    · exact (taken_read (fun t => (t.link n).shutting) fun _ _ _ => rfl).trans hsh
    · exact (taken_read (fun t => (t.link n).enableDeferred) fun _ _ _ => rfl).trans hdef
    · rw [taken_read (fun t => (t.link n).st) fun _ _ _ => rfl]; exact hst
  · exact answers_of_write rfl (cmdExpWrite_schPortCfg hm n)
  · exact answers_of_write rfl (cmdExpWrite_schSubCfg hm n (Nat.mod_lt _ (by decide)))
  · exact answers_of_write rfl (cmdExpWrite_schSqCfg hm n i.isLt)
  · have hv : (BitVec.ofNat 32 (q + 2048 * b2n ing + 4096 * b2n clr)).toNat = q + 2048 * b2n ing + 4096 * b2n clr := by
      have hI : b2n ing < 2 := by cases ing <;> decide
      have hC : b2n clr < 2 := by cases clr <;> decide
      rw [BitVec.toNat_ofNat]; omega
    refine answers_of_write ?_ (cmdExpWrite_schHistSel hm n hq hing)
    exact congrArg (fun v => Host.Outcome.next (s.expWr h _ 0xFFFFFFFF v)) hv
  · refine answers_of_write rfl ((cmdExpWrite_polCfg hm v.isLt (by simpa only [reg_taken] using hle)).trans ?_)
    simp only [reg_taken, writeBody]
  · refine answers_of_write rfl ((cmdExpWrite_polCir hm v.isLt (by simpa only [reg_taken] using hle) hmax).trans ?_)
    simp only [reg_taken, writeBody]
  · refine answers_of_write rfl ((cmdExpWrite_polPir hm v.isLt (by simpa only [reg_taken] using hle) hmax).trans ?_)
    simp only [reg_taken, writeBody]
  · refine answers_of_write rfl ((cmdExpWrite_polCbs hm v.isLt (by simpa only [reg_taken] using hle) hmin).trans ?_)
    simp only [reg_taken, writeBody]
  · refine answers_of_write rfl ((cmdExpWrite_polPbs hm v.isLt (by simpa only [reg_taken] using hle) hmin).trans ?_)
    simp only [reg_taken, writeBody]
  · refine answers_of_write rfl ((cmdExpWrite_arbFreeze hm (v := 1) (by decide)).trans ?_)
    simp only [taken_read (·.sel h.mbx) fun _ _ _ => rfl]
    rfl
  · refine answers_of_write rfl ((cmdExpWrite_arbFreeze hm (v := 0) (by decide)).trans ?_)
    simp only [taken_read (·.sel h.mbx) fun _ _ _ => rfl, taken_read (·.arb _) fun _ _ _ => rfl, hfw]
    rfl
  · refine answers_of_write rfl ((cmdExpWrite_arbClear hm).trans ?_)
    simp only [taken_read (·.sel h.mbx) fun _ _ _ => rfl, writeBody]
  · exact answers_of_write rfl (cmdExpWrite_arbTrumpLimit hm hv v.isLt)
  · exact answers_of_write rfl (cmdExpWrite_routeEn hm v)
  · exact answers_of_write rfl (cmdExpWrite_rtFreeze hm v.isLt (by rw [taken_read (·.rt) fun _ _ _ => rfl]; exact hswap))
  · exact answers_of_write rfl (cmdExpWrite_mcChCfgMap hm c hmap ((taken_read (·.chanFrames c) fun _ _ _ => rfl).trans hfree))

end Sys2Proof.Machine
end

section
/-! PROOFS. Scheduling, flash and integrity by command (R316, R322, R386, R390 to R392). -/
namespace Sys2Proof.Machine

/-! ### Bytes that a body lists -/

theorem field_byte (l : List Byte) (i : Nat) : field l i 1 = ((l[i]?).getD 0#8).toNat := by
  unfold field slice
  by_cases hi : i < l.length
  · have htake : (l.drop i).take 1 = [l[i]] := by rw [List.drop_eq_getElem_cons hi]; rfl
    simp [htake, hi, ofLe]
  · simp [List.drop_eq_nil_of_le (Nat.not_lt.mp hi), hi, ofLe]

/-- The bytes after a head of `o` bytes. -/
theorem field_byte_append {a : List Byte} {o : Nat} (ha : a.length = o) (l : List Byte) (i : Nat) :
    field (a ++ l) (o + i) 1 = ((l[i]?).getD 0#8).toNat := by
  rw [field_append_right (by omega), show o + i - a.length = i by omega, field_byte]

theorem map_getD_range {β : Type} (l : List Byte) (f : Byte → β) :
    ((List.range l.length).map fun i => f ((l[i]?).getD 0#8)) = l.map f := by
  refine List.ext_getElem (by simp) fun i h1 h2 => ?_
  have hi : i < l.length := by simpa using h2
  simp [hi]

section Commands
variable {t : State} {m : Nat}

/-! ### Groups and slots (R316, R322) -/

theorem cmdSchGroupWrite_eq {first : BitVec 16} {groups : List Byte} (hne : groups ≠ []) (hlen : groups.length ≤ 4072)
    (hlast : first.toNat + groups.length ≤ 49152) :
    cmdSchGroupWrite m (le 2 first.toNat ++ le 2 groups.length ++ groups) t =
      (let put (u : Tab Nat) (i : Nat) : Tab Nat := Tab.set 0 u (first.toNat + i) (((groups[i]?).getD 0#8).toNat % 8)
       ({ t with groupMap := (List.range groups.length).foldl put t.groupMap }, .now 0 [])) := by
  have hpos : 0 < groups.length := List.length_pos_iff.mpr hne
  have h2 : field (le 2 groups.length) 0 2 = groups.length := field_le_of_lt (by omega)
  have hf : field (le 2 first.toNat ++ le 2 groups.length ++ groups) 0 2 = first.toNat := by simp [field_append_left]
  have hn : field (le 2 first.toNat ++ le 2 groups.length ++ groups) 2 2 = groups.length := by
    simp [field_append_left, field_append_right, h2]
  have hin : (decide (groups.length < 1) || decide (4072 < groups.length) ||
      decide ((le 2 first.toNat ++ le 2 groups.length ++ groups).length ≠ 4 + groups.length) ||
      decide (49152 < first.toNat + groups.length)) = false := by
    simp only [Bool.or_eq_false_iff, decide_eq_false_iff_not, List.length_append, le_length]; omega
  have hbyte := field_byte_append (a := le 2 first.toNat ++ le 2 groups.length) (o := 4) (by simp) groups
  simp only [cmdSchGroupWrite, hf, hn, hin, hbyte]
  rfl

theorem cmdSchSlotWrite_eq {port : BitVec 8} {slots : List Byte} (hp : port.toNat ≤ 17) (hlen : slots.length = 1024) :
    cmdSchSlotWrite m (le 1 port.toNat ++ zeros 3 ++ slots) t =
      (let img := slots.map fun v => v.toNat % 128
       match badWindow img (t.reg .schWinGuard port.toNat) with
       | some i => (t, .now 5 (le 2 i))
       | none =>
         if (t.eg port.toNat).swapPending then (t, rPending)
         else (t.onEg port.toNat fun e => { e with shadow := (img.zipIdx.map fun x => (x.2, x.1)).filter fun x => x.2 != 0x40
                                                   swapPending := true, shadowAt := t.now }, rOk)) := by
  have h0 : field (le 1 port.toNat ++ zeros 3 ++ slots) 0 1 = port.toNat := by simp [field_append_left]
  have hbyte := field_byte_append (a := le 1 port.toNat ++ zeros 3) (o := 4) (by simp) slots
  have himg : ((List.range 1024).map fun i => field (le 1 port.toNat ++ zeros 3 ++ slots) (4 + i) 1 % 128) =
      slots.map fun v => v.toNat % 128 := by
    simp only [hbyte, ← hlen]; exact map_getD_range slots fun v => v.toNat % 128
  simp only [cmdSchSlotWrite, h0, himg, if_neg (Nat.not_lt.mpr hp)] <;> rfl

/-! ### Flash and integrity (R386, R390 to R392) -/

theorem cmdIntRemap_eq {channel row : BitVec 16} {bank : BitVec 8} (hc : channel.toNat ≤ 383) (hb : bank.toNat ≤ 31)
    (hr : row.toNat ≤ 49151) (hcopy : (t.chan channel.toNat).copying bank.toNat row.toNat = false)
    (hdef : t.isDeferred 0x0701 (remapKey channel.toNat bank.toNat row.toNat) = false) :
    cmdIntRemap m (le 2 channel.toNat ++ le 1 bank.toNat ++ zeros 1 ++ le 2 row.toNat) t =
      (let fails := (((t.chan channel.toNat).repeatLog.filter fun e => e.bank == bank.toNat && e.row == row.toNat).map
        RepeatEnt.fails).sum
       match t.startRemap channel.toNat bank.toNat row.toNat 2 fails with
       | some s' => (s', .defer (remapKey channel.toNat bank.toNat row.toNat))
       | none => (t.remapRefused channel.toNat bank.toNat row.toNat 0xFF 52, .now 7 [])) := by
  generalize hbody : le 2 channel.toNat ++ le 1 bank.toNat ++ zeros 1 ++ le 2 row.toNat = b
  have h0 : field b 0 2 = channel.toNat := by simp [← hbody, field_append_left]
  have h2 : field b 2 1 = bank.toNat := by simp [← hbody, field_append_left, field_append_right]
  have h4 : field b 4 2 = row.toNat := by simp [← hbody, field_append_right]
  have hin : (decide (383 < channel.toNat) || decide (31 < bank.toNat) || decide (49151 < row.toNat)) = false := by simp; omega
  have hpend : ((t.chan channel.toNat).copying bank.toNat row.toNat ||
      t.isDeferred 0x0701 (remapKey channel.toNat bank.toNat row.toNat)) = false := by rw [hcopy, hdef]; rfl
  simp only [cmdIntRemap, h0, h2, h4, hin, hpend]
  rfl

theorem cmdIntScrub_defer {handle : BitVec 32} {off len : BitVec 64} {e : ExtRec} (hx : t.extFor m handle.toNat = some e)
    (ho : off.toNat % 128 = 0) (hl : len.toNat % 128 = 0) (hend : off.toNat + len.toNat ≤ e.length) (hst : e.st = .active)
    (hi : e.init = true) (hc : t.closed e = false) (hone : ∀ p ∈ t.mem.scrubs, ¬(p.demand = true ∧ p.ext = handle.toNat))
    (hfew : (t.mem.scrubs.filter fun p => p.demand && p.ptn == e.ptn).length < 4) :
    cmdIntScrub m (le 4 handle.toNat ++ zeros 4 ++ le 8 off.toNat ++ le 8 len.toNat) t =
      (t.onMem fun x => { x with scrubs := x.scrubs ++
        [{ ptn := e.ptn, ext := handle.toNat, demand := true, startAt := t.now, off := off.toNat, len := len.toNat }] },
       .defer handle.toNat) := by
  generalize hbody : le 4 handle.toNat ++ zeros 4 ++ le 8 off.toNat ++ le 8 len.toNat = b
  have h0 : field b 0 4 = handle.toNat := by simp [← hbody, field_append_left]
  have h8 : field b 8 8 = off.toNat := by simp [← hbody, field_append_left, field_append_right]
  have h16 : field b 16 8 = len.toNat := by simp [← hbody, field_append_right]
  have hin : (decide (off.toNat % 128 ≠ 0) || decide (len.toNat % 128 ≠ 0) || decide (e.length < off.toNat + len.toNat)) = false := by
    simp; omega
  have hstate : (decide (e.st ≠ .active) || !e.init || t.closed e) = false := by simp [hst, hi, hc]
  have hpend : (t.mem.scrubs.any fun p => p.demand && p.ext == handle.toNat) = false := by
    rw [List.any_eq_false]; exact fun p hp => by simpa using hone p hp
  simp only [cmdIntScrub, h0, h8, h16, hx, hin, hstate, hpend, if_neg (Nat.not_le.mpr hfew)]
  rfl

theorem cmdIntScrubLast_eq {ptn : BitVec 8} {p : ScrubPass} (hq : ptn.toNat ≤ 63)
    (hp : Tab.get? t.mem.lastPass ptn.toNat = some p) :
    cmdIntScrubLast m (le 1 ptn.toNat) t = (t, .now 0 p.summary) := by
  simp only [cmdIntScrubLast, field_u8, if_neg (Nat.not_lt.mpr hq), hp]

theorem cmdIntLogRead_eq {die n : BitVec 8} (hm : die.toNat ≤ 3) (h1 : 1 ≤ n.toNat) (h2 : n.toNat ≤ 127) :
    cmdIntLogRead m (le 1 die.toNat ++ le 1 n.toNat) t =
      (let log := Tab.getD t.mem.errLog die.toNat []
       (t.onMem fun x => { x with errLog := Tab.set [] x.errLog die.toNat (log.drop n.toNat) },
        .now 0 (le 1 (log.take n.toNat).length ++ zeros 3 ++ (log.take n.toNat).flatMap t.errBytes))) := by
  obtain ⟨h0, hn⟩ := field_pair (n := die.toNat) (v := n.toNat) die.isLt n.isLt
  have hin : (decide (3 < die.toNat) || decide (n.toNat < 1) || decide (127 < n.toNat)) = false := by simp; omega
  simp only [cmdIntLogRead, h0, hn, hin]
  rfl

end Commands

/-- Settles O27: each command by the lemma that says what its checks leave. -/
theorem schedulingAndIntegrityCommands : Obligations.SchedulingAndIntegrityCommands := by
  unfold Obligations.SchedulingAndIntegrityCommands
  refine ⟨fun s h => ⟨fun first groups hne hlen hlast => ?_, fun port slots hp hlen => ⟨fun i hi => ?_, fun hgood =>
      ⟨fun hpend => ?_, fun hpend => ?_⟩⟩⟩,
    fun s h => ⟨fun die hm => ?_, fun channel row bank hc hb hr hcopy hdef => ?_,
      fun handle off len e hx ho hl hend hst hi hc hone hfew => ?_, fun ptn p hq hp => ?_, fun die n hm h1 h2 => ?_⟩⟩
  · exact answers_of_cmd rfl (by decide) rfl (cmdSchGroupWrite_eq hne hlen hlast)
  · refine answers_of_cmd rfl (by decide) rfl ((cmdSchSlotWrite_eq hp hlen).trans ?_)
    simp only [reg_taken, hi]
  · refine answers_of_cmd rfl (by decide) rfl ((cmdSchSlotWrite_eq hp hlen).trans ?_)
    simp only [reg_taken, hgood, taken_read (fun t => t.eg port.toNat) fun _ _ _ => rfl, hpend, if_true]
    rfl
  · refine answers_of_cmd rfl (by decide) rfl ((cmdSchSlotWrite_eq hp hlen).trans ?_)
    simp only [reg_taken, hgood, taken_read (fun t => t.eg port.toNat) fun _ _ _ => rfl, hpend, Bool.false_eq_true, if_false,
      taken_read (·.now) fun _ _ _ => rfl]
    rfl
  · refine answers_of_cmd rfl (by decide) rfl ?_
    simp only [cmdFlInfo, field_u8, if_neg (Nat.not_lt.mpr hm)]
  · have hcmd := cmdIntRemap_eq (m := h.mbx) hc hb hr ((taken_read (fun t => (t.chan _).copying _ _) fun _ _ _ => rfl).trans hcopy)
      ((isDeferred_taken (s := s) (h := h) (op := 0x0701)
        (body := le 2 channel.toNat ++ le 1 bank.toNat ++ zeros 1 ++ le 2 row.toNat) ..).trans hdef)
    exact ⟨fun u hu => defers_of_cmd rfl (by decide) rfl (hcmd.trans (by simp only [hu])),
      fun hno => answers_of_cmd rfl (by decide) rfl (hcmd.trans (by simp only [hno]))⟩
  · refine defers_of_cmd rfl (by decide) rfl ((cmdIntScrub_defer (by rw [onlyMail_taken]; exact hx) ho hl hend hst hi
      (by rw [onlyMail_taken]; exact hc) (by rw [onlyMail_taken]; exact hone) (by rw [onlyMail_taken]; exact hfew)).trans ?_)
    simp only [taken_read (·.now) fun _ _ _ => rfl]
  · exact answers_of_cmd rfl (by decide) rfl (cmdIntScrubLast_eq hq (by rw [onlyMail_taken]; exact hp))
  · exact answers_of_cmd rfl (by decide) rfl (cmdIntLogRead_eq hm h1 h2)

end Sys2Proof.Machine
end

section
/-! PROOFS. The partner family by command (R482, R493, R494). -/
namespace Sys2Proof.Machine

/-- Settles O28: PRT_INFO reads the pair's state; the others by what their checks leave. -/
theorem partnerCommands : Obligations.PartnerCommands := by
  unfold Obligations.PartnerCommands
  intro s h
  refine ⟨answers_of_cmd rfl (by decide) rfl rfl, fun n h1 h2 => ?_, fun first hf => ?_, fun g hg hdef => ?_⟩
  · refine answers_of_cmd rfl (by decide) rfl ?_
    have hin : (decide (n.toNat < 1) || decide (64 < n.toNat)) = false := by simp; omega
    simp only [cmdPrtDiagRead, field_u8, hin]
    rfl
  · refine answers_of_cmd rfl (by decide) rfl ?_
    have hin : (decide ((s.taken h 0x0803 (le 4 first.toNat)).wear.ents.length < first.toNat) ||
        decide ((s.taken h 0x0803 (le 4 first.toNat)).wear.ents.length = first.toNat) && decide (first.toNat ≠ 0)) = false := by
      rw [taken_read (·.wear) fun _ _ _ => rfl]; simp; omega
    simp only [cmdPrtWearRead, field_u32, hin]
    rfl
  · refine defers_of_cmd rfl (by decide) rfl ?_
    simp only [cmdPrtSpareTest, field_u8, if_neg (Nat.not_lt.mpr hg), isDeferred_taken, hdef]
    rfl

end Sys2Proof.Machine
end

section
/-! PROOFS. The security family by command (R440, R448, R454 to R460). -/
namespace Sys2Proof.Machine

theorem slice_append_right {a : List Byte} {off : Nat} (h : a.length = off) {l : List Byte} {n : Nat} (hn : l.length = n) :
    slice (a ++ l) off n = l := slice_eq_of_window (by simp [← h, ← hn]) hn

section Commands
variable {t : State} {m : Nat}

theorem cmdSecAttest_of_signed {nonce : BitVec 256} {body : List Byte} {u : State} (hw : t.attestWaits = false)
    (hs : t.signed 0 (t.attestBody (le 32 nonce.toNat)) = .ok (body, u)) :
    cmdSecAttest m (le 32 nonce.toNat) t = (u, .now 0 body) := by
  have hn : slice (le 32 nonce.toNat) 0 32 = le 32 nonce.toNat := slice_append_right (a := []) rfl (le_length 32 _)
  simp only [cmdSecAttest, hw, hn, hs]
  rfl

/-- A report is signed with the next leaf of the block that is reserved (R441). -/
theorem signed_attest (hf : t.sec.att.fault = false) (hl : t.sec.att.leaf < t.sec.att.blockEnd) (l : Nat → List Byte) :
    t.signed 0 l = .ok (l t.sec.att.tree ++ xmssSig 0 t.sec.att.tree t.sec.att.leaf (digest32 (l t.sec.att.tree)),
      t.onSec fun x => { x with att := { t.sec.att with leaf := t.sec.att.leaf + 1 } }) := by
  have hkey : t.key 0 = t.sec.att := rfl
  have hleaf : t.takeLeaf 0 = some (t.sec.att.tree, t.sec.att.leaf,
      t.onSec fun x => { x with att := { t.sec.att with leaf := t.sec.att.leaf + 1 } }) := by
    simp only [State.takeLeaf, hkey, hf, if_pos hl, Bool.false_eq_true, if_false]; rfl
  rw [State.signed, hleaf]

theorem cmdSecPropose_eq {kind : BitVec 8} {body : List Byte} {u : State} (hlen : body.length ≤ 4068)
    (hu : t.each (t.sec.changes.map (·.id)) State.expire = u) (hok : u.changeOk kind.toNat body = true)
    (hother : ∀ c ∈ u.sec.changes, changeTarget c.kind c.body ≠ changeTarget kind.toNat body) (hfew : u.sec.changes.length < 8) :
    cmdSecPropose m (le 1 kind.toNat ++ zeros 3 ++ le 4 body.length ++ body) t =
      (let d := changeDigest u.sec.agree kind.toNat body
       let c : Change :=
        { id := u.sec.nextId, kind := kind.toNat, body := body, digest := d, agree := u.sec.agree, until' := u.windowEnd }
       (u.onSec fun x => { x with nextId := wrapAdd 32 u.sec.nextId 1, changes := x.changes ++ [c] },
        .now 0 (le 4 u.sec.nextId ++ d))) := by
  generalize hb : le 1 kind.toNat ++ zeros 3 ++ le 4 body.length ++ body = b
  have h4 : field (le 4 body.length) 0 4 = body.length := field_le_of_lt (by omega)
  have hkind : field b 0 1 = kind.toNat := by simp [← hb, field_append_left]
  have hn : field b 4 4 = body.length := by simp [← hb, field_append_left, field_append_right, h4]
  have hdrop : b.drop 8 = body := by rw [← hb]; exact List.drop_left' (by simp)
  have hbad : (decide (body.length ≠ body.length) || !(u.changeOk kind.toNat body)) = false := by simp [hok]
  have htarget : (u.sec.changes.any fun c => changeTarget c.kind c.body == changeTarget kind.toNat body) = false := by
    rw [List.any_eq_false]; exact fun c hc => by simpa using hother c hc
  simp only [cmdSecPropose, hkind, hn, hdrop, hu, hbad, htarget, if_neg (Nat.not_le.mpr hfew)]
  rfl

/-- The body of SEC_SIGN and of SEC_WITHDRAW. -/
def signBody (id : BitVec 32) (role : BitVec 8) (sig : List Byte) : List Byte :=
  le 4 id.toNat ++ le 1 role.toNat ++ zeros 3 ++ sig

theorem field_signBody {id : BitVec 32} {role : BitVec 8} {sig : List Byte} (hsig : sig.length = 2820) :
    field (signBody id role sig) 0 4 = id.toNat ∧ field (signBody id role sig) 4 1 = role.toNat ∧
      slice (signBody id role sig) 8 2820 = sig := by
  refine ⟨by simp [signBody, field_append_left], by simp [signBody, field_append_left, field_append_right], ?_⟩
  exact slice_append_right (by simp) hsig

section Signed
variable {id : BitVec 32} {role : BitVec 8} {sig : List Byte} {c : Change} (hsig : sig.length = 2820) (hrole : role.toNat ≤ 1)
  (hc : t.change? id.toNat = some c)
include hsig hrole hc

theorem cmdSecSign_eq :
    cmdSecSign m (signBody id role sig) t =
      if !(t.roleSigned role.toNat c.digest sig) then (t.bump .secSigFail 0, .now 12 [])
      else match c.signed with
        | none =>
          (t.onSec fun x => { x with changes := x.changes.map fun y =>
            if y.id = id.toNat then { y with signed := some role.toNat, until' := t.windowEnd } else y }, .defer id.toNat)
        | some r =>
          if r = role.toNat || c.agree ≠ t.sec.agree then (t, rState)
          else if t.mtr.st = 2 then (t, .vaultWait)
          else if !t.vaultOk then (t, .now 15 [])
          else t.commitChange c := by
  obtain ⟨hid, hr, hs⟩ := field_signBody (id := id) (role := role) hsig
  simp only [cmdSecSign, hid, hr, hs, hc, if_neg (Nat.not_lt.mpr hrole)]
  rfl

theorem cmdSecWithdraw_eq (hs' : t.roleSigned role.toNat (digest32 (c.digest ++ [0xFF#8])) sig = true) :
    cmdSecWithdraw m (signBody id role sig) t =
      (let u := t.onSec fun x => { x with changes := x.changes.filter fun y => y.id != id.toNat }
       (if c.signed.isSome then u.complete 0x0904 id.toNat 6 [] else u, .now 0 [])) := by
  obtain ⟨hid, hr, hs⟩ := field_signBody (id := id) (role := role) hsig
  simp only [cmdSecWithdraw, hid, hr, hs, hc, hs', if_neg (Nat.not_lt.mpr hrole)]
  rfl

end Signed
end Commands

/-- Settles O29: each command by the lemma that says what its checks leave. -/
theorem securityCommands : Obligations.SecurityCommands := by
  unfold Obligations.SecurityCommands
  intro s h
  refine ⟨answers_of_cmd rfl (by decide) rfl rfl, fun nonce body u => ⟨fun hw hs => ?_, fun hf hl => ?_⟩,
    fun kind body hlen hok hother hfew => ?_, fun id role sig c hsig hrole hc => ?_,
    fun id role sig c hsig hrole hc hs => ?_, ?_, fun i c hc => ?_⟩
  · exact answers_of_cmd rfl (by decide) rfl (cmdSecAttest_of_signed hw hs)
  · have hsec : (s.taken h 0x0902 (le 32 nonce.toNat)).sec = s.sec := taken_read (·.sec) fun _ _ _ => rfl
    have hw : (s.taken h 0x0902 (le 32 nonce.toNat)).attestWaits = false := by
      rw [State.attestWaits, hsec, decide_eq_false (Nat.not_le.mpr hl), Bool.and_false]
    have hsigned := signed_attest (t := s.taken h 0x0902 (le 32 nonce.toNat)) (by rw [hsec]; exact hf) (by rw [hsec]; exact hl)
      ((s.taken h 0x0902 (le 32 nonce.toNat)).attestBody (le 32 nonce.toNat))
    rw [hsec] at hsigned
    exact answers_of_cmd rfl (by decide) rfl (cmdSecAttest_of_signed hw hsigned)
  · exact answers_of_cmd rfl (by decide) rfl
      (cmdSecPropose_eq hlen (by rw [taken_read (·.sec) fun _ _ _ => rfl]) hok hother hfew)
  · have hcmd := cmdSecSign_eq (m := h.mbx) (t := s.taken h 0x0904 (signBody id role sig)) hsig hrole
      ((taken_read (·.change? id.toNat) fun _ _ _ => rfl).trans hc)
    have hsigned : (s.taken h 0x0904 (signBody id role sig)).roleSigned role.toNat c.digest sig =
        s.roleSigned role.toNat c.digest sig := taken_read (·.roleSigned role.toNat c.digest sig) fun _ _ _ => rfl
    rw [hsigned] at hcmd
    refine ⟨fun hno => answers_of_cmd rfl (by decide) rfl (hcmd.trans (if_pos (by rw [hno]; rfl))), fun hyes =>
      ⟨fun hfirst => ?_, fun r u st rep hr hne hagree hmtr hvault hu => ?_⟩⟩
    · refine defers_of_cmd rfl (by decide) rfl (hcmd.trans ((if_neg (by rw [hyes]; decide)).trans ?_))
      rw [hfirst]; rfl
    · refine answers_of_cmd rfl (by decide) rfl (hcmd.trans ((if_neg (by rw [hyes]; decide)).trans (Eq.trans ?_ hu)))
      have hstate : ¬((decide (r = role.toNat) || decide (c.agree ≠ (s.taken h 0x0904 (signBody id role sig)).sec.agree)) = true) := by
        rw [taken_read (·.sec) fun _ _ _ => rfl]; simp [hne, hagree]
      rw [hr]
      dsimp only
      rw [if_neg hstate, taken_read (·.mtr) fun _ _ _ => rfl, if_neg hmtr, taken_read (·.vaultOk) fun _ _ _ => rfl, hvault]
      rfl
  · exact answers_of_cmd rfl (by decide) rfl (cmdSecWithdraw_eq hsig hrole
      ((taken_read (·.change? id.toNat) fun _ _ _ => rfl).trans hc)
      ((taken_read (·.roleSigned role.toNat _ sig) fun _ _ _ => rfl).trans hs))
  · refine answers_of_cmd rfl (by decide) rfl ?_
    simp only [cmdSecPendingRead, taken_read (·.now) fun _ _ _ => rfl]
  · refine answers_of_cmd rfl (by decide) rfl ?_
    have hcert : (s.taken h 0x0907 (le 4 i.toNat)).certs 0 = s.certs 0 := taken_read (·.certs 0) fun _ _ _ => rfl
    simp only [cmdSecCertRead, State.certRead, field_u32, hcert, hc]

end Sys2Proof.Machine
end

section
/-! PROOFS. The meter and Lookout families by command (R464 to R466, R474 to R479). -/
namespace Sys2Proof.Machine

section Commands
variable {t : State} {m : Nat}

theorem askMeter_queued {report : Bool} {q first : Nat} {nonce : List Byte} (hst : t.mtr.st = 0)
    (hq : t.mtr.queue.length < 17) (hf : t.mtr.key.fault = false) :
    t.askMeter m report q nonce first =
      (t.onMtr fun x => { x with nextReq := t.mtr.nextReq + 1, queue := x.queue ++
        [{ mbx := m, report := report, ptn := q, nonce := nonce, first := first, no := t.mtr.nextReq }] },
       .defer t.mtr.nextReq) := by
  simp only [State.askMeter, hst, hf, if_neg (Nat.not_le.mpr hq)]
  rfl

theorem cmdPwrState_eq {state : BitVec 8} (hv : state.toNat ≤ 2) (hst : t.lk.state ≠ 2) :
    cmdPwrState m (le 1 state.toNat) t =
      if state.toNat = 2 then
        if (t.exts.any fun e => e.2.policy == 0 || e.2.tracked) || t.sec.pset.pairing.isSome then (t, rState)
        else ((t.onLk fun k => { k with state := 2, dormantAt := none }).dormantRun, .defer 0)
      else (t.onLk fun k => { k with state := state.toNat, standbyAt := t.now }, rOk) := by
  simp only [cmdPwrState, field_u8, if_neg (Nat.not_lt.mpr hv), if_neg hst]

theorem cmdLkTelemCfg_eq {slot addr reg : BitVec 8} {thresh : BitVec 16} (hs : slot.toNat ≤ 15) (ha : addr.toNat ≤ 127) :
    cmdLkTelemCfg m (le 1 slot.toNat ++ le 1 addr.toNat ++ le 1 reg.toNat ++ zeros 1 ++ le 2 thresh.toNat) t =
      (let old : TelemSlot := Tab.getD t.lk.telem slot.toNat {}
       let new : TelemSlot := { old with addr := addr.toNat, reg := reg.toNat, thresh := thresh.toNat }
       (t.onLk fun k => { k with telem := Tab.set {} k.telem slot.toNat new }, .now 0 [])) := by
  generalize hb : le 1 slot.toNat ++ le 1 addr.toNat ++ le 1 reg.toNat ++ zeros 1 ++ le 2 thresh.toNat = b
  have h0 : field b 0 1 = slot.toNat := by simp [← hb, field_append_left]
  have h1 : field b 1 1 = addr.toNat := by simp [← hb, field_append_left, field_append_right]
  have h2 : field b 2 1 = reg.toNat := by simp [← hb, field_append_left, field_append_right]
  have h4 : field b 4 2 = thresh.toNat := by simp [← hb, field_append_right]
  have hin : (decide (15 < slot.toNat) || decide (127 < addr.toNat)) = false := by simp; omega
  simp only [cmdLkTelemCfg, h0, h1, h2, h4, hin]
  rfl

end Commands

/-- Settles O30: each command by the lemma that says what its checks leave. -/
theorem meterAndPowerCommands : Obligations.MeterAndPowerCommands := by
  unfold Obligations.MeterAndPowerCommands
  intro s h
  refine ⟨fun hst => ?_, fun hst hq hf => ⟨fun ptn nonce hp => ?_, fun first => ?_⟩, fun i c hc => ?_,
    answers_of_cmd rfl (by decide) rfl rfl, fun state hst => ⟨fun hv => ?_, fun hv hext hpair => ?_, fun hv hext => ?_⟩,
    fun slot addr reg thresh hs ha => ?_, answers_of_cmd rfl (by decide) rfl rfl⟩
  · have hst' : (s.taken h 0x0A01 []).mtr.st = 0 := (taken_read (·.mtr.st) fun _ _ _ => rfl).trans hst
    refine answers_of_cmd rfl (by decide) rfl ?_
    simp only [cmdMtrInfo, hst']
    rfl
  · generalize hb : le 1 ptn.toNat ++ zeros 3 ++ le 32 nonce.toNat = b
    have h0 : field b 0 1 = ptn.toNat := by simp [← hb, field_append_left]
    have h4 : slice b 4 32 = le 32 nonce.toNat := by rw [← hb]; exact slice_append_right (by simp) (le_length 32 _)
    have hmtr : (s.taken h 0x0A02 b).mtr = s.mtr := taken_read (·.mtr) fun _ _ _ => rfl
    refine defers_of_cmd (by rw [← hb]; rfl) (by decide) rfl ?_
    simp only [cmdMtrReport, h0, h4, if_neg (Nat.not_lt.mpr hp)]
    rw [askMeter_queued (by rw [hmtr]; exact hst) (by rw [hmtr]; exact hq) (by rw [hmtr]; exact hf), hmtr]
  · have hmtr : (s.taken h 0x0A03 (le 8 first.toNat)).mtr = s.mtr := taken_read (·.mtr) fun _ _ _ => rfl
    refine defers_of_cmd rfl (by decide) rfl ?_
    simp only [cmdMtrEvents, field_u64]
    rw [askMeter_queued (by rw [hmtr]; exact hst) (by rw [hmtr]; exact hq) (by rw [hmtr]; exact hf), hmtr]
  · refine answers_of_cmd rfl (by decide) rfl ?_
    have hcert : (s.taken h 0x0A04 (le 4 i.toNat)).certs 1 = s.certs 1 := taken_read (·.certs 1) fun _ _ _ => rfl
    simp only [cmdMtrCertRead, State.certRead, field_u32, hcert, hc]
  · refine answers_of_cmd rfl (by decide) rfl ((cmdPwrState_eq (by omega) (by rw [onlyMail_taken]; exact hst)).trans ?_)
    rw [if_neg (by omega), taken_read (·.now) fun _ _ _ => rfl]
    rfl
  · refine defers_of_cmd rfl (by decide) rfl ((cmdPwrState_eq (by omega) (by rw [onlyMail_taken]; exact hst)).trans
      ((if_pos hv).trans (if_neg ?_)))
    rw [onlyMail_taken]
    simpa [hpair] using fun i e he => hext (i, e) he
  · refine answers_of_cmd rfl (by decide) rfl ((cmdPwrState_eq (by omega) (by rw [onlyMail_taken]; exact hst)).trans
      ((if_pos hv).trans (if_pos ?_)))
    rw [onlyMail_taken]
    have hany : (s.exts.any fun e => e.2.policy == 0 || e.2.tracked) = true := by
      obtain ⟨e, he, hx⟩ := hext
      exact List.any_eq_true.mpr ⟨e, he, by simpa using hx⟩
    rw [Bool.or_eq_true]
    exact .inl hany
  · refine answers_of_cmd rfl (by decide) rfl ((cmdLkTelemCfg_eq hs ha).trans ?_)
    rw [taken_read (·.lk) fun _ _ _ => rfl]

end Sys2Proof.Machine
end

section
/-! PROOFS. Fields read after writes of other fields. -/
namespace Sys2Proof.Machine

section Regs
variable {s : State} {r q : Reg} {i j v : Nat}

theorem Reg.key_ne (hr : q.ctorIdx ≠ r.ctorIdx) (hi : i < 2 ^ 20) (hj : j < 2 ^ 20) : q.key j ≠ r.key i := by
  unfold Reg.key; omega

theorem State.reg_setReg_other (hr : q.ctorIdx ≠ r.ctorIdx) (hi : i < 2 ^ 20) (hj : j < 2 ^ 20) :
    (s.setReg r i v).reg q j = s.reg q j := Tab.getD_set_other _ _ (Reg.key_ne hr hi hj) _
theorem State.reg_bump_other (hr : q.ctorIdx ≠ r.ctorIdx) (hi : i < 2 ^ 20) (hj : j < 2 ^ 20) :
    (s.bump r i).reg q j = s.reg q j := State.reg_setReg_other hr hi hj
/-- Another index of the field, or another field, of a distinct key. -/
theorem State.reg_setReg_of_key_ne (h : q.key j ≠ r.key i) : (s.setReg r i v).reg q j = s.reg q j :=
  Tab.getD_set_other _ _ h _

end Regs

end Sys2Proof.Machine
end

section
/-! PROOFS. Column reads of HBM (R377, R378, R384, R392). -/
namespace Sys2Proof.Machine

section Reads
variable {s : State} {c bank row slot tag : Nat} {o : LineOut} {d : List Byte}

/-- A read that meets no queued write takes the line that stands in the arrays (R377). -/
theorem readLine_snd_of_arrays (hf : (s.chan c).failed = false) (hq : (s.chan c).queued bank row slot tag = none)
    (hd : decodeLine (Mem.reads dramByte s.mem.dram (dramAddr c bank ((s.chan c).rowOf bank row) (128 * slot)) 128)
      (slice (s.checkCols c bank ((s.chan c).rowOf bank row)) (8 * slot) 8) = (o, d)) :
    (s.readLine c bank row slot tag).2 = (s.bump .mcRdLines c).outcome c bank row slot tag o d := by
  have hd' : decodeLine (Mem.reads dramByte (s.bump .mcRdLines c).mem.dram
      (dramAddr c bank ((s.chan c).rowOf bank row) (128 * slot)) 128)
      (slice ((s.bump .mcRdLines c).checkCols c bank ((s.chan c).rowOf bank row)) (8 * slot) 8) = (o, d) := hd
  simp only [State.readLine, hf, hq, hd', Bool.false_eq_true, if_false]

/-- The write-back of a line that needs repair, logged and kept in the repeat log (R378). -/
def State.writeBack (u : State) (c bank row slot tag kind n mark : Nat) (d : List Byte) : State :=
  let wb : ChanReq := { kind := .write d mark, bank := bank, row := row, slot := slot, tag := tag, since := u.now, reserved := true,
                        li := lineOf (u.reg .mcChCfgMap c) bank row slot }
  ((u.onChan c fun x => { x with bankQ := Tab.put x.bankQ bank (wb :: Tab.getD x.bankQ bank []) }).errLog c bank row slot kind tag n).repeatFail
    c bank row slot tag

theorem outcome_corrected (n : Nat) :
    s.outcome c bank row slot tag (.corrected n) d = (s.bump .eccChCorrected c).writeBack c bank row slot tag 1 n 0 d := rfl
theorem outcome_poisonRepaired (n : Nat) : s.outcome c bank row slot tag (.poisonRepaired n) d =
    ((s.bump .eccChPoisonReads c).bump .eccChRepaired c).writeBack c bank row slot tag 2 n 1 d := rfl
theorem outcome_markedRepaired (n : Nat) : s.outcome c bank row slot tag (.markedRepaired n) d =
    ((s.bump .eccChUncorr c).bump .eccChRepaired c).writeBack c bank row slot tag 3 n 2 d := rfl
theorem outcome_uncorrectable :
    s.outcome c bank row slot tag .uncorrectable d = (s.bump .eccChUncorr c).writeBack c bank row slot tag 4 0 2 d := rfl

end Reads

/-- Settles O32: what a read of the arrays decodes decides its outcome. -/
theorem hbmColumnReads : Obligations.HbmColumnReads := by
  unfold Obligations.HbmColumnReads
  intro s c b row slot line check o d i t hrow hpause hawake hf hq hline hcheck hdec repaired
  have hc : c.val < 2 ^ 20 := Nat.lt_trans c.isLt (by decide)
  have hexec : exec (.hbmColumnRead c b row slot []) s = .next (t.outcome c b i slot 51 o d) := by
    have hgo : (decide (s.now < (s.chan c).pausedTo) || !s.chanAwake c) = false := by
      rw [decide_eq_false (Nat.not_lt.mpr hpause), State.chanAwake, hawake]; rfl
    subst hline hcheck
    have hread := readLine_snd_of_arrays hf hq hdec
    show execHbmColumnRead c b row slot [] s = _
    rw [execHbmColumnRead, if_pos hrow, hgo, if_neg (by decide), ← hread]
    rfl
  have hback : ∀ (u : State) (kind n mark : Nat), u.now = s.now → u.reg .mcChCfgMap c = s.reg .mcChCfgMap c →
      u.writeBack c b i slot 51 kind n mark d = repaired u kind n mark := by
    intro u kind n mark hnow hmap
    rw [State.writeBack, hnow, hmap]
  have hone : ∀ r : Reg, Reg.mcChCfgMap.ctorIdx ≠ r.ctorIdx → ∀ u : State, (u.bump r c).reg .mcChCfgMap c = u.reg .mcChCfgMap c :=
    fun r hr u => State.reg_bump_other hr hc hc
  have hmap : t.reg .mcChCfgMap c = s.reg .mcChCfgMap c := hone _ (by decide) _
  refine ⟨?_, ?_, ?_, ?_, ?_, ?_, ?_⟩
  · rintro rfl; exact hexec
  · rintro rfl; exact hexec
  · rintro rfl; exact hexec
  · rintro n rfl
    rw [hexec, outcome_corrected, hback (t.bump .eccChCorrected c) 1 n 0 rfl ((hone _ (by decide) _).trans hmap)]
  · rintro n rfl
    rw [hexec, outcome_poisonRepaired, hback ((t.bump .eccChPoisonReads c).bump .eccChRepaired c) 2 n 1 rfl
      ((hone _ (by decide) _).trans ((hone _ (by decide) _).trans hmap))]
  · rintro n rfl
    rw [hexec, outcome_markedRepaired, hback ((t.bump .eccChUncorr c).bump .eccChRepaired c) 3 n 2 rfl
      ((hone _ (by decide) _).trans ((hone _ (by decide) _).trans hmap))]
  · rintro rfl
    rw [hexec, outcome_uncorrectable, hback (t.bump .eccChUncorr c) 4 0 2 rfl ((hone _ (by decide) _).trans hmap)]

end Sys2Proof.Machine
end

section
/-! PROOFS. Upkeep of HBM (R340 to R346): a table that lists a channel twice. -/
namespace Sys2Proof.Machine

/-- Stage 1 with the links open, where the table of channels lists channel 0 twice: first with a training temperature of its
own alone, then with one queued write. -/
def twiceListed : State :=
  { mem := { chans := [(0, { trainTemp := 26 }),
      (0, { bankQ := [(0, [{ kind := .write [] 0, bank := 0, row := 0, slot := 0, tag := 0, since := 0, li := 0 }])] })] }
    board := { phase := .stage1, linkOpen := true } }

/-- The writes that channel 0 is counted to have lost. -/
def lostWrites (o : Host.Outcome State Fault Refusal) : Nat :=
  match o with
  | .next s => s.reg .mcWrDiscard 0
  | _ => 0

/-- Refutes O33: boot training gives channel 0 its default temperature, so its first entry goes and its second comes to light,
whose queued write the failed channel loses; the clause counts the writes of the first entry, none. -/
theorem not_hbmUpkeep : ¬ Obligations.HbmUpkeep := by
  unfold Obligations.HbmUpkeep
  intro h
  obtain ⟨-, -, -, -, -, -, -, hboot, -, -⟩ := h twiceListed 0 0
  exact absurd (congrArg lostWrites (hboot rfl rfl).2) (by decide +kernel)

end Sys2Proof.Machine
end

section
/-! PROOFS. Scrubbing (R388 to R390). -/
namespace Sys2Proof.Machine

section Walks
variable {s : State} {q : Ptn} {c : Chan} {p : ScrubPass}

/-! ### Walks (R388, R389) -/

theorem past_of_le {t d : Nat} (h : t + d ≤ s.now) : s.past t d = true := decide_eq_true h

theorem exec_scrubPassStart_first (hw : s.walkOf q = none)
    (hdue : ∀ l, Tab.get? s.mem.lastPass q = some l → l.startAt + s.reg .scbPtnPeriod q * 3600 * oneSec ≤ s.now)
    (hmode : s.reg .scbPtnCfgMode q = 0) (hst : (s.ptn q).st = .active) :
    exec (.scrubPassStart q) s =
      (let lines (c : Nat) : Nat := 512 * ((Tab.keys (s.chan c).frames).filter (s.qualifies c)).length
       let pass : ScrubPass :=
        { ptn := q, demand := false, startAt := s.now
          gap := (s.ptn q).channels.map fun c => (c, max usec (s.reg .scbPtnPeriod q * 3600 * oneSec / max 1 (lines c))) }
       .next ((s.onMem fun m => { m with scrubs := m.scrubs ++ [pass] }).setReg .scbPtnLines q 0)) := by
  have hdue' : (match Tab.get? s.mem.lastPass q with
      | some l => s.past l.startAt (s.reg .scbPtnPeriod q * 3600 * oneSec)
      | none => true) = true := by
    cases hl : Tab.get? s.mem.lastPass q with
    | none => rfl
    | some l => exact past_of_le (hdue l hl)
  have hgo : ((match Tab.get? s.mem.lastPass q with
      | some l => s.past l.startAt (s.reg .scbPtnPeriod q * 3600 * oneSec)
      | none => true) && s.reg .scbPtnCfgMode q == 0 && (s.ptn q).st != .unused) = true := by
    rw [hdue', hmode, hst]; rfl
  show execScrubPassStart q s = _
  unfold execScrubPassStart
  rw [hw]
  exact if_pos hgo

theorem exec_scrubPassStart_late (hw : s.walkOf q = some p) (hdue : p.startAt + s.reg .scbPtnPeriod q * 3600 * oneSec ≤ s.now) :
    exec (.scrubPassStart q) s = .next ((s.setPass p { p with late := true }).setReg .scbPtnStatusLate q 1) := by
  show execScrubPassStart q s = _
  unfold execScrubPassStart
  rw [hw]
  exact congrArg Host.Outcome.next (if_pos (past_of_le hdue))

/-- The frames whose lines the walk still has to read on a channel (R389). -/
def walkTurn (s : State) (p : ScrubPass) (c : Nat) : List Nat :=
  (Tab.keys (s.chan c).frames).filter fun f => Tab.getD p.pos c 0 / 512 ≤ f && s.qualifies c f

theorem exec_scrubWalkRead_eq (hw : s.walkOf q = some p) (hc : c.val ∈ (s.ptn q).channels)
    (hfree : ∀ x ∈ s.mem.scrubs, x.demand = true → x.ptn = q.val → s.demandsOn x c = false)
    (hawake : (s.stack (c / 32)).selfRefresh = false)
    (hdue : ∀ t, Tab.get? p.readAt c = some t → t + Tab.getD p.gap c usec ≤ s.now) :
    exec (.scrubWalkRead q c) s =
      match (walkTurn s p c).head? with
      | some f =>
        let r := s.scrubRead p c (max (Tab.getD p.pos c 0) (f * 512)) 0
        .next ((r.2.setPass p { r.1 with pos := Tab.put p.pos c (max (Tab.getD p.pos c 0) (f * 512) + 1),
                                         readAt := Tab.put p.readAt c s.now }).bump .scbPtnLines q)
      | none =>
        let p' := { p with pos := Tab.put p.pos c (46080 * 512) }
        if (s.ptn q).channels.all fun c => Tab.getD p'.pos c 0 == 46080 * 512 then
          .next (((s.dropPass p).onMem fun m => { m with lastPass := Tab.put m.lastPass q p' }).bump .scbPtnPasses q)
        else .next (s.setPass p p') := by
  have hpause : (s.mem.scrubs.any fun x => x.demand && x.ptn == q.val && s.demandsOn x c) = false := by
    rw [List.any_eq_false]
    intro x hx h
    simp only [Bool.and_eq_true, beq_iff_eq] at h
    obtain ⟨⟨hd, hp⟩, ho⟩ := h
    rw [hfree x hx hd hp] at ho
    exact Bool.false_ne_true ho
  have hon : (!((s.ptn q).channels.contains c.val) || (s.mem.scrubs.any fun x => x.demand && x.ptn == q.val && s.demandsOn x c) ||
      !s.chanAwake c) = false := by
    simp [hc, hpause, State.chanAwake, hawake]
  have hdue' : ((Tab.get? p.readAt c.val).elim true fun t => s.past t (Tab.getD p.gap c usec)) = true := by
    cases ht : Tab.get? p.readAt c.val with
    | none => rfl
    | some t => exact past_of_le (hdue t ht)
  show execScrubWalkRead q c s = _
  unfold execScrubWalkRead
  rw [hw]
  dsimp only
  rw [hon, hdue']
  rfl

end Walks

/-! ### Passes on demand (R390) -/

section Demand
variable {s : State} {ext : BitVec 20} {p : ScrubPass} (hp : s.mem.scrubs.find? (fun x => x.demand && x.ext == ext.toNat) = some p)
include hp

theorem exec_scrubDemandRead_end (hend : p.len ≤ p.cur) :
    exec (.scrubDemandRead ext) s =
      .next ((s.onMem fun m => { m with scrubs := m.scrubs.erase p }).complete 0x0702 p.ext 0 p.summary) := by
  show execScrubDemandRead ext s = _
  unfold execScrubDemandRead
  dsimp only
  rw [hp]
  exact if_pos hend

variable {r : PageRec} (hopen : p.cur < p.len) (hr : s.pageOr ext.toNat ((p.off + p.cur) / 65536) = r)
include hopen hr

theorem exec_scrubDemandRead_resident {f : Nat} (hst : r.st = .clean ∨ r.st = .dirty) (hf : r.frame = some f) :
    exec (.scrubDemandRead ext) s =
      if !s.chanAwake r.home then .next (s.wakeRes (32 + r.home / 32)) else
      if !((Tab.get? p.readAt r.home).elim true fun t => s.past t (100000000 / max 1 (s.reg .scbPtnDemandRate p.ptn))) then .next s else
      let x := s.scrubRead p r.home (f * 512 + (p.off + p.cur) / 128 % 512) (p.off + p.cur)
      .next (x.2.setPass p { x.1 with cur := p.cur + 128, readAt := Tab.put p.readAt r.home s.now }) := by
  show execScrubDemandRead ext s = _
  unfold execScrubDemandRead
  dsimp only
  rw [hp]
  dsimp only
  rw [if_neg (Nat.not_le.mpr hopen), hr]
  rcases hst with h | h <;> simp only [h, hf]

theorem exec_scrubDemandRead_skip (hst : r.st = .zero ∨ r.st = .unwritten) (hf : r.frame = none) :
    exec (.scrubDemandRead ext) s =
      .next (s.setPass p { p with cur := min p.len (((p.off + p.cur) / 65536 + 1) * 65536 - p.off), skipped := p.skipped + 1 }) := by
  show execScrubDemandRead ext s = _
  unfold execScrubDemandRead
  dsimp only
  rw [hp]
  dsimp only
  rw [if_neg (Nat.not_le.mpr hopen), hr]
  rcases hst with h | h <;> simp only [h, hf]

theorem exec_scrubDemandRead_promoting (hst : r.st = .promoting) : exec (.scrubDemandRead ext) s = .next s := by
  show execScrubDemandRead ext s = _
  unfold execScrubDemandRead
  dsimp only
  rw [hp]
  dsimp only
  rw [if_neg (Nat.not_le.mpr hopen), hr]
  simp only [hst]

/-- The pass after a page that flash has checked. -/
def ScrubPass.checked (p : ScrubPass) (x : FlReq) : ScrubPass :=
  { p with cur := min p.len (((p.off + p.cur) / 65536 + 1) * 65536 - p.off), flashPages := p.flashPages + 1,
           flashUncorr := p.flashUncorr + x.bad.length }

theorem exec_scrubDemandRead_flash (hst : r.st = .flash) :
    exec (.scrubDemandRead ext) s =
      (let k := pageKey ext.toNat ((p.off + p.cur) / 65536)
       let f := locChan (dieOf r.home) (r.loc.getD 0)
       match s.takeOp f (fun x => x.op == .scrub k) with
       | some (x, v) =>
         let u := (v.bump .flChReads f).setPass p (p.checked x)
         if x.bad.isEmpty then .next u else
         match u.promote p.ptn ext.toNat ((p.off + p.cur) / 65536) with
         | some w => .next (w.onFch f fun y => { y with queue := y.queue.map fun z => if z.op == .promote k then { z with bad := x.bad } else z })
         | none => .next u
       | none =>
         if (s.fch f).queue.any (fun x => x.op == .scrub k) then .next s
         else .next (s.flashOp f { op := .scrub k, ptn := p.ptn, prio := 4, since := s.now, loc := r.loc.getD 0 })) := by
  show execScrubDemandRead ext s = _
  unfold execScrubDemandRead
  dsimp only
  rw [hp]
  dsimp only
  rw [if_neg (Nat.not_le.mpr hopen), hr]
  simp only [hst]
  rfl

end Demand

/-- No operation is taken from a queue that holds none of its kind. -/
theorem takeOp_eq_none {s : State} {f : Nat} {hit : FlReq → Bool} (h : ∀ x ∈ (s.fch f).queue, hit x = false) : s.takeOp f hit = none := by
  have hnone : (s.fch f).queue.find? (fun r => r.started && hit r) = none := by
    rw [List.find?_eq_none]; exact fun x hx => by simp [h x hx]
  rw [State.takeOp, hnone]

/-- Settles O34: a walk and a pass on demand by the branches of their steps. -/
theorem scrubbing : Obligations.Scrubbing := by
  unfold Obligations.Scrubbing
  intro s q c p
  refine ⟨fun hw hdue hmode hst => exec_scrubPassStart_first hw hdue hmode hst, fun hw hdue => exec_scrubPassStart_late hw hdue,
    fun hw hc hfree hawake hdue => ?_, fun ext hp => ⟨fun hend => exec_scrubDemandRead_end hp hend, fun hopen =>
      ⟨fun f hst hf => ?_, fun hst hf => exec_scrubDemandRead_skip hp hopen rfl hst hf,
       fun hst => exec_scrubDemandRead_promoting hp hopen rfl hst, fun hst => ?_⟩⟩⟩
  · have hexec := exec_scrubWalkRead_eq hw hc hfree hawake hdue
    refine ⟨fun f rest hturn => ?_, fun hturn => ⟨fun hall => ?_, fun hsome => ?_⟩⟩
    · have hhead : (walkTurn s p c).head? = some f := congrArg List.head? hturn
      rw [hexec, hhead]
    · have hhead : (walkTurn s p c).head? = none := congrArg List.head? hturn
      rw [hexec, hhead]
      exact if_pos (List.all_eq_true.mpr fun x hx => by simpa using hall x hx)
    · have hhead : (walkTurn s p c).head? = none := congrArg List.head? hturn
      rw [hexec, hhead]
      obtain ⟨x, hx, hne⟩ := hsome
      refine if_neg fun h => hne ?_
      simpa using List.all_eq_true.mp h x hx
  · have hexec := exec_scrubDemandRead_resident hp hopen rfl hst hf
    refine ⟨fun hsleep => ?_, fun hawake hdue => ?_⟩
    · rw [hexec, State.chanAwake, hsleep]; rfl
    · have hdue' : ((Tab.get? p.readAt (s.pageOr ext.toNat ((p.off + p.cur) / 65536)).home).elim true fun t =>
          s.past t (100000000 / max 1 (s.reg .scbPtnDemandRate p.ptn))) = true := by
        cases ht : Tab.get? p.readAt (s.pageOr ext.toNat ((p.off + p.cur) / 65536)).home with
        | none => rfl
        | some t => exact past_of_le (hdue t ht)
      rw [hexec, State.chanAwake, hawake, hdue']; rfl
  · have hexec := exec_scrubDemandRead_flash hp hopen rfl hst
    refine ⟨fun hno => ?_, fun x v hop => ⟨fun hbad => ?_, fun v' hbad hprom => ?_⟩⟩
    · rw [hexec]
      dsimp only
      rw [takeOp_eq_none fun x hx => by simpa using hno x hx]
      exact if_neg (by simpa using hno)
    · rw [hexec]
      dsimp only
      rw [hop]
      exact if_pos (by rw [hbad]; rfl)
    · rw [hexec]
      dsimp only
      rw [hop]
      dsimp only
      rw [if_neg (by simpa using hbad)]
      dsimp only at hprom
      simp only [ScrubPass.checked, hprom]

end Sys2Proof.Machine
end

section
/-! PROOFS. Check-value units (R430 to R432). -/
namespace Sys2Proof.Machine

/-! ### Bytes of a word, low byte first -/

theorem byte_of_word {w : Nat} (v : BitVec w) (k : Nat) : BitVec.ofNat 8 (v.toNat / 2 ^ k) = (v >>> k).setWidth 8 :=
  BitVec.eq_of_toNat_eq (by simp [Nat.shiftRight_eq_div_pow])

theorem le_word8 (v : BitVec 8) : le 1 v.toNat = [v] := by simp [le]
theorem le_word16 (v : BitVec 16) : le 2 v.toNat = [v.setWidth 8, (v >>> 8).setWidth 8] := by
  rw [← byte_of_word v 8]
  simp [le]
theorem le_word32 (v : BitVec 32) :
    le 4 v.toNat = [v.setWidth 8, (v >>> 8).setWidth 8, (v >>> 16).setWidth 8, (v >>> 24).setWidth 8] := by
  rw [← byte_of_word v 8, ← byte_of_word v 16, ← byte_of_word v 24]
  simp [le, Nat.div_div_eq_div_mul]

/-! ### ALIVE counts (R431) -/

/-- What an ALIVE count does to a unit's expectation. -/
def Checker.alive (c : Checker) (v : BitVec 16) : Checker :=
  if !c.expValid then { c with expValue := v + 1#16, expValid := true }
  else if c.expValue = v then { c with expValue := v + 1#16 }
  else if c.expValue = v + 1#16 then { c with rep := true, aliveErrs := (c.aliveErrs + 1) % 2 ^ 32 }
  else { c with skip := true, aliveErrs := (c.aliveErrs + 1) % 2 ^ 32 }

theorem aliveIn_eq (s : State) (i : Nat) (v : BitVec 16) : s.aliveIn i v.toNat = s.onChk i fun c => c.alive v := by
  have hval : BitVec.ofNat 16 (v.toNat + 1) = v + 1#16 := by bv_omega
  have hmeet (c : Checker) : v.toNat % 65536 = c.expValue.toNat ↔ c.expValue = v := by
    rw [Nat.mod_eq_of_lt v.isLt, eq_comm, BitVec.toNat_inj]
  have hrep (c : Checker) : (v.toNat + 1) % 65536 = c.expValue.toNat ↔ c.expValue = v + 1#16 := by
    rw [eq_comm, ← BitVec.toNat_inj, BitVec.toNat_add]; rfl
  refine congrArg (s.onChk i) (funext fun c => ?_)
  simp only [Checker.alive, hval, hmeet, hrep]
  split
  · rfl
  split
  next h2 => rw [h2]
  split
  next h3 => simp [h3, wrapAdd]
  next h3 => simp [h3, wrapAdd]

/-- Settles O36: each row changes its unit alone, by what it feeds or compares. -/
theorem checkValueUnits : Obligations.CheckValueUnits := by
  unfold Obligations.CheckValueUnits
  refine ⟨by decide +kernel, fun s i => ?_⟩
  have halive (v : BitVec 16) : exec (.chkAliveIn i v) s = .next (s.onChk i fun c => c.alive v) :=
    congrArg Host.Outcome.next (aliveIn_eq s i v)
  have hput {c : Checker} {v : BitVec 16} (h : (s.checker i).alive v = c) :
      exec (.chkAliveIn i v) s = .next { s with chk := Tab.set {} s.chk i c } := by rw [halive, State.onChk, h]
  refine ⟨rfl, rfl, fun v => ?_, fun v => ?_, fun v => ?_, fun v => rfl,
    fun v => ⟨fun h => hput ?_, fun h he => hput ?_, fun h he => hput ?_, fun h hne hne' => hput ?_⟩⟩
  · show Host.Outcome.next (s.onChk i fun c => c.feed (le 1 v.toNat)) = _
    rw [le_word8]; rfl
  · show Host.Outcome.next (s.onChk i fun c => c.feed (le 2 v.toNat)) = _
    rw [le_word16]; rfl
  · show Host.Outcome.next (s.onChk i fun c => c.feed (le 4 v.toNat)) = _
    rw [le_word32]; rfl
  · simp [Checker.alive, h]
  · simp [Checker.alive, h, he]
  · have hne : v + 1#16 ≠ v := by bv_omega
    simp [Checker.alive, h, he, hne]
  · simp [Checker.alive, h, hne, hne']

end Sys2Proof.Machine
end

section
/-! PROOFS. The mailbox handshake, polls and duty moves (R410 to R415, R434, R507). -/
namespace Sys2Proof.Machine

theorem Tab.put_put {α : Type} (t : Tab α) (k : Nat) (v w : α) : Tab.put (Tab.put t k v) k w = Tab.put t k w := by
  induction t with
  | nil => simp [Tab.put]
  | cons e t ih =>
    obtain ⟨j, x⟩ := e
    by_cases h1 : k < j
    · simp [Tab.put, h1]
    · by_cases h2 : k = j <;> simp [Tab.put, h1, h2, ih]

/-- A change of a mailbox that is ready reads back, and a second change replaces the first. -/
theorem State.onBox_onBox {s : State} {m : Nat} {f g : Mailbox → Mailbox} (hf : (f (s.box m)).ready = true)
    (hg : (g (f (s.box m))).ready = true) : (s.onBox m f).onBox m g = s.onBox m fun b => g (f b) := by
  have hne {b : Mailbox} (h : b.ready = true) : b ≠ {} := fun e => by rw [e] at h; cases h
  have hbox : (s.onBox m f).box m = f (s.box m) := State.box_onBox hf
  unfold State.onBox
  rw [show State.box { s with mbx := Tab.set {} s.mbx m (f (s.box m)) } m = f (s.box m) from hbox]
  simp only [Tab.set, if_neg (hne hf), if_neg (hne hg), Tab.put_put]

section Handshake
variable {s : State} {m : Mbx} (hd3 : s.pcie.d3 = false) (hready : (s.box m).ready = true)
include hd3 hready

theorem writeOwn_eq (word : Nat) : s.writeOwn m word = s.onBox m fun b =>
    let bad := bit word 0 && (b.owner || b.unread)
    { b with hostDone := if bad then b.hostDone else bit word 0
             unread := b.unread && !bit word 2
             collide := (b.collide && !bit word 3) || bad } := by
  rw [State.writeOwn, hd3, hready]; rfl

theorem writeReq_eq (hown : (s.box m).owner = false) (l : List Byte) :
    s.writeReq m l = s.onBox m fun b => { b with req := Mem.writes zeroByte b.req 0 (l.take 4096) } := by
  rw [State.writeReq, hown, hready, hd3]; rfl

end Handshake

theorem bit_zero_of_odd {n : Nat} (h : n % 2 = 1) : bit n 0 = true := by rw [bit, Nat.testBit_zero, h]; rfl

section HandOvers
variable {s : State} {m : Mbx} (hd3 : s.pcie.d3 = false) (hready : (s.box m).ready = true) {word : BitVec 32}
  (hword : word.toNat % 2 = 1) (h2 : bit word.toNat 2 = false) (h3 : bit word.toNat 3 = false)
include hd3 hready hword h2 h3

theorem exec_mbxHandOver_open (frame : List Byte) (hown : (s.box m).owner = false) (hun : (s.box m).unread = false) :
    exec (.mbxHandOver m ⟨frame, none⟩ word) s =
      .next (s.onBox m fun b => { b with req := Mem.writes zeroByte b.req 0 (frame.take 4096), hostDone := true }) := by
  show Host.Outcome.next ((s.writeReq m frame).writeOwn m word.toNat) = _
  have hreq := writeReq_eq hd3 hready hown frame
  have hready' : ((s.writeReq m frame).box m).ready = true := by rw [hreq, State.box_onBox hready]; exact hready
  have hd3' : (s.writeReq m frame).pcie.d3 = false := by rw [hreq]; exact hd3
  rw [writeOwn_eq hd3' hready', hreq, State.onBox_onBox hready hready]
  simp only [State.onBox, hown, hun, h2, h3, bit_zero_of_odd hword]
  simp

theorem exec_mbxHandOver_collide (frame : List Byte) (ctl : BitVec 32) (hown : (s.box m).owner = true) :
    exec (.mbxHandOver m ⟨frame, some ctl⟩ word) s =
      .next (s.onBox m fun b => { b with irqEn := bit ctl.toNat 0, collide := true }) := by
  show Host.Outcome.next (((s.writeReq m frame).writeCtl m ctl.toNat).writeOwn m word.toNat) = _
  have hreq : s.writeReq m frame = s := by rw [State.writeReq, hown]; rfl
  have hctl : s.writeCtl m ctl.toNat = s.onBox m fun b => { b with irqEn := bit ctl.toNat 0 } := by
    rw [State.writeCtl, hd3, hready]; rfl
  have hready' : ((s.writeCtl m ctl.toNat).box m).ready = true := by rw [hctl, State.box_onBox hready]; exact hready
  have hd3' : (s.writeCtl m ctl.toNat).pcie.d3 = false := by rw [hctl]; exact hd3
  rw [hreq, writeOwn_eq hd3' hready', hctl, State.onBox_onBox hready hready]
  simp only [State.onBox, hown, h2, h3, bit_zero_of_odd hword]
  simp

end HandOvers

/-- Nothing ends where no command waits for the vault. -/
theorem vaultGone_of_none {s : State} (h : s.board.vaultAsk = []) : s.vaultGone = s := by
  have hb : ({ s.board with vaultAsk := [] } : Board) = s.board := by rw [← h]
  rw [State.vaultGone, h, State.onBoard, hb]; rfl

/-- Settles O38: a hand-over as one change of the mailbox; the other rows by their branches. -/
theorem mailboxHandshake : Obligations.MailboxHandshake := by
  unfold Obligations.MailboxHandshake
  intro s m hd3 hready
  refine ⟨fun frame ctl word hword => ⟨fun hown hun h2 h3 => exec_mbxHandOver_open hd3 hready hword h2 h3 frame hown hun,
      fun hown h2 h3 => exec_mbxHandOver_collide hd3 hready hword h2 h3 frame ctl hown⟩, ?_, fun hserv hdue => ?_,
    fun b t hph hask hdue => ?_, fun d rest hm hd => ?_, fun d rest hm hd hask => ?_⟩
  · show Host.Outcome.next (s.writeOwn m 4) = _
    rw [writeOwn_eq hd3 hready]
    have h0 : bit 4 0 = false := by decide
    have h2 : bit 4 2 = true := by decide
    have h3 : bit 4 3 = false := by decide
    simp [State.onBox, h0, h2, h3]
  · show execMailboxPoll s = _
    rw [execMailboxPoll, hserv, past_of_le hdue]; rfl
  · show execVaultWaitExpiry s = _
    rw [execVaultWaitExpiry, hph, hask]
    dsimp only
    rw [past_of_le hdue, if_pos rfl, State.vaultGone, hask]
    rfl
  · show execDutyMoveComplete s = _
    rw [execDutyMoveComplete, hm]
    dsimp only
    rw [if_neg hd, show (s.cores.polling || d.duty == 1) = s.cores.polling by simp [hd]]
  · show execDutyMoveComplete s = _
    rw [execDutyMoveComplete, hm]
    dsimp only
    rw [if_pos hd, vaultGone_of_none]
    · rw [hd, show (s.cores.polling || 1 == 1) = true by simp]
    · exact hask

end Sys2Proof.Machine
end

section
/-! PROOFS. Arbiter decisions (R394 to R399). -/
namespace Sys2Proof.Machine

/-! ### Tables kept in part -/

section Keep
variable {α : Type} {f : Nat → Bool}

theorem Tab.get?_keep_key (t : Tab α) {k : Nat} (hk : f k = true) : Tab.get? (Tab.keep t fun r _ => f r) k = Tab.get? t k := by
  induction t with
  | nil => rfl
  | cons e t ih =>
    obtain ⟨j, v⟩ := e
    by_cases hj : f j = true
    · simp [Tab.keep, hj, Tab.get?]; split
      · rfl
      · exact ih
    · have hne : k ≠ j := fun e => hj (e ▸ hk)
      simp [Tab.keep, hj, Tab.get?, hne]; exact ih

theorem Tab.get?_keep_none (t : Tab α) {k : Nat} (hk : f k = false) : Tab.get? (Tab.keep t fun r _ => f r) k = none := by
  induction t with
  | nil => rfl
  | cons e t ih =>
    obtain ⟨j, v⟩ := e
    by_cases hj : f j = true
    · have hne : k ≠ j := fun e => by rw [e, hj] at hk; cases hk
      simp [Tab.keep, hj, Tab.get?, hne]; exact ih
    · simp [Tab.keep, hj]; exact ih

theorem Tab.wf_keep {t : Tab α} (h : Tab.wf t = true) (g : Nat → α → Bool) : Tab.wf (Tab.keep t g) = true := by
  induction t with
  | nil => rfl
  | cons e t ih =>
    obtain ⟨j, v⟩ := e
    obtain ⟨habove, hwf⟩ := (Tab.wf_cons j v t).mp h
    by_cases hg : g j v = true
    · rw [show Tab.keep ((j, v) :: t) g = (j, v) :: Tab.keep t g by simp [Tab.keep, hg]]
      exact (Tab.wf_cons ..).mpr ⟨fun e he => habove e ((List.mem_filter.mp he).1), ih hwf⟩
    · rw [show Tab.keep ((j, v) :: t) g = Tab.keep t g by simp [Tab.keep, hg]]
      exact ih hwf

end Keep

theorem Tab.getD_keep (t : Tab Nat) (f : Nat → Bool) (k : Nat) :
    Tab.getD (Tab.keep t fun r _ => f r) k 0 = if f k then Tab.getD t k 0 else 0 := by
  unfold Tab.getD
  cases h : f k with
  | true => rw [Tab.get?_keep_key t h]; rfl
  | false => rw [Tab.get?_keep_none t h]; rfl

/-! ### Rotation (R397 rule 2) -/

/-- The first eligible requester at or after the pointer is the one at the least distance from it. -/
theorem arbRotate_eq {n pointer r : Nat} {eligible : List Nat} (hr : r ∈ eligible) (hn : ∀ x ∈ eligible, x < n)
    (hmin : ∀ x ∈ eligible, (r + n - pointer) % n ≤ (x + n - pointer) % n) (hp : pointer < n) :
    arbRotate n pointer eligible = some r := by
  have hback {x : Nat} (hx : x < n) : (pointer + (x + n - pointer) % n) % n = x := by
    rw [Nat.add_mod_mod, show pointer + (x + n - pointer) = x + n by omega, Nat.add_mod_right, Nat.mod_eq_of_lt hx]
  have hdist {i : Nat} (hi : i < n) : ((pointer + i) % n + n - pointer) % n = i := by
    rcases Nat.lt_or_ge (pointer + i) n with h | h
    · rw [Nat.mod_eq_of_lt h, show pointer + i + n - pointer = i + n by omega, Nat.add_mod_right, Nat.mod_eq_of_lt hi]
    · rw [show (pointer + i) % n = pointer + i - n by
        rw [← Nat.mod_eq_sub_mod h |>.symm, Nat.mod_eq_of_lt (by omega)], show pointer + i - n + n - pointer = i by omega,
        Nat.mod_eq_of_lt hi]
  have hlt : (r + n - pointer) % n < n := Nat.mod_lt _ (by omega)
  rw [arbRotate, List.find?_eq_some_iff_getElem]
  refine ⟨by simpa using hr, (r + n - pointer) % n, by simpa using hlt, by simpa using hback (hn r hr), fun j hj => ?_⟩
  have hj' : j < n := Nat.lt_trans hj hlt
  simp only [List.getElem_map, List.getElem_range, Bool.not_eq_true', List.contains_eq_mem, decide_eq_false_iff_not]
  intro hmem
  have := hmin _ hmem
  rw [hdist hj'] at this
  omega

/-! ### Wait counters (R396) -/

section Raise
variable {limit win : Nat} {l : List Nat} {w : Tab Nat}

theorem getD_arbRaise_win (h : Tab.wf w = true) : Tab.getD (arbRaise limit win l w) win 0 = 0 := by
  induction l generalizing w with
  | nil => exact Tab.getD_set_same h _ _
  | cons r l ih =>
    refine ih ?_
    split
    · exact h
    · exact Tab.wf_set h _ _

/-- A requester that is not listed keeps its counter. -/
theorem getD_arbRaise_other {x : Nat} (hw : x ≠ win) (hx : x ∉ l) : Tab.getD (arbRaise limit win l w) x 0 = Tab.getD w x 0 := by
  induction l generalizing w with
  | nil => exact Tab.getD_set_other _ _ hw _
  | cons r l ih =>
    obtain ⟨hne, hx⟩ := not_or.mp (mt List.mem_cons.mpr hx)
    rw [arbRaise, ih hx]
    split
    · rfl
    · exact Tab.getD_set_other _ _ hne _

/-- A loser that is listed once rises by 1, to the limit at most. -/
theorem getD_arbRaise_loser {x : Nat} (h : Tab.wf w = true) (hnd : l.Nodup) (hx : x ∈ l) (hne : x ≠ win) :
    Tab.getD (arbRaise limit win l w) x 0 = min limit (Tab.getD w x 0 + 1) := by
  induction l generalizing w with
  | nil => cases hx
  | cons r l ih =>
    obtain ⟨hr, hnd⟩ := List.nodup_cons.mp hnd
    rw [arbRaise]
    by_cases hxr : x = r
    · subst hxr
      rw [if_neg hne, getD_arbRaise_other hne hr]
      exact Tab.getD_set_same h _ _
    · have hmem : x ∈ l := (List.mem_cons.mp hx).resolve_left hxr
      rw [ih (by split; exact h; exact Tab.wf_set h _ _) hnd hmem]
      split
      · rfl
      · rw [Tab.getD_set_other _ _ hxr]

end Raise

/-! ### A decision (R395 to R399) -/

section Decide
variable {a : Arb} {limit n : Nat} {asserting eligible : List Nat}

theorem filter_eligible (h : ∀ r ∈ eligible, r ∈ asserting ∧ r < n) :
    (eligible.filter fun r => asserting.contains r && decide (r < n)) = eligible :=
  List.filter_eq_self.mpr fun r hr => by simpa using h r hr

/-- The arbiter after it grants `r`. -/
def Arb.afterGrant (a : Arb) (limit n : Nat) (asserting eligible : List Nat) (r : Nat) (trump : Bool) : Arb :=
  let w := Tab.keep a.waits fun r _ => asserting.contains r
  let w' := arbRaise limit r eligible w
  { a with waits := w'
           trumps := arbTrumps limit n w' ((arbTrumps limit n w a.trumps).filter (· ≠ r))
           pointer := if trump then a.pointer else (r + 1) % n
           lastWinner := r
           grants := wrapAdd 32 a.grants 1
           trumpCount := wrapAdd 32 a.trumpCount (b2n trump)
           maxWait := max a.maxWait ((w'.map Prod.snd).foldl max 0) }

variable (hfree : (a.frozen || a.fwHold) = false) (hel : ∀ r ∈ eligible, r ∈ asserting ∧ r < n)
include hfree hel

theorem Arb.decide_rotate {r : Nat}
    (hno : (arbTrumps limit n (Tab.keep a.waits fun r _ => asserting.contains r) a.trumps).find? eligible.contains = none)
    (hrot : arbRotate n a.pointer eligible = some r) :
    a.decide limit n asserting eligible = (some r, a.afterGrant limit n asserting eligible r false) := by
  unfold Arb.decide
  simp only [hfree, Bool.false_eq_true, if_false, filter_eligible hel, hno, hrot]
  rfl

theorem Arb.decide_trump {r : Nat}
    (hyes : (arbTrumps limit n (Tab.keep a.waits fun r _ => asserting.contains r) a.trumps).find? eligible.contains = some r) :
    a.decide limit n asserting eligible = (some r, a.afterGrant limit n asserting eligible r true) := by
  unfold Arb.decide
  simp only [hfree, Bool.false_eq_true, if_false, filter_eligible hel, hyes]
  rfl

omit hel in
theorem Arb.decide_none :
    a.decide limit n asserting [] =
      (let w := Tab.keep a.waits fun r _ => asserting.contains r
       (none, { a with waits := w, trumps := arbTrumps limit n w a.trumps })) := by
  have hno (l : List Nat) : l.find? [].contains = none := by simp
  unfold Arb.decide
  simp only [hfree, Bool.false_eq_true, if_false, List.filter_nil, hno, arbRotate]
  rfl

omit hfree in
/-- No eligible requester holds a trump where every asserting one waits less than the limit. -/
theorem find?_arbTrumps_none (hlt : ∀ x, x < n → x ∈ asserting → Tab.getD a.waits x 0 < limit) :
    (arbTrumps limit n (Tab.keep a.waits fun r _ => asserting.contains r) a.trumps).find? eligible.contains = none := by
  rw [List.find?_eq_none]
  intro x hx hmem
  obtain ⟨ha, hn⟩ := hel x (by simpa using hmem)
  have hat : limit ≤ Tab.getD (Tab.keep a.waits fun r _ => asserting.contains r) x 0 := by
    rw [arbTrumps, List.mem_append, List.mem_filter, List.mem_filter] at hx
    rcases hx with h | h
    · exact of_decide_eq_true h.2
    · exact of_decide_eq_true (Bool.and_eq_true_iff.mp h.2).1
  rw [Tab.getD_keep, if_pos (by simpa using ha)] at hat
  exact absurd (hlt x hn ha) (Nat.not_lt.mpr hat)

end Decide

/-- An arbiter that decides grants or not, and its losers stall. -/
theorem exec_arbiterGrant_eq {s : State} {cls : Fin 8} {inst : BitVec 16} {asserting eligible : List Nat} {o : Option Nat} {b : Arb}
    (hk : inst.toNat < arbInstances cls) (hfz : cls.val = 4 → bit (s.reg .rtFreeze 0) inst.toNat = false)
    (hd : (s.arb (arbKey cls inst.toNat)).decide (s.reg .arbTrumpLimit 0) (arbRequesters cls inst.toNat) asserting eligible = (o, b)) :
    exec (.arbiterGrant cls inst asserting eligible) s =
      (let u := s.onArb (arbKey cls inst.toNat) fun _ => b
       .next (o.elim u fun r => u.stalls cls inst.toNat (arbLosers (arbRequesters cls inst.toNat) r asserting eligible).length)) := by
  have hlive : (decide (cls.val = 4) && bit (s.reg .rtFreeze 0) inst.toNat) = false := by
    rw [Bool.and_eq_false_imp]; exact fun h => hfz (of_decide_eq_true h)
  show execArbiterGrant cls inst asserting eligible s = _
  rw [execArbiterGrant, if_pos hk, State.arbDecide, hlive, hd]
  cases o <;> rfl

/-- Settles O37: trumps first, else the rotation, by `exec_arbiterGrant_eq`. -/
theorem arbiterDecisions : Obligations.ArbiterDecisions := by
  unfold Obligations.ArbiterDecisions
  intro s cls inst asserting eligible k a n limit granted
  refine ⟨fun hk => if_neg (Nat.not_lt.mpr hk), fun hk hfz hfw hrt hel hwf => ⟨fun r hr hlt _ hmin hp => ?_,
    fun r rest ht hr => ?_, fun hnone => ?_⟩⟩
  · have hdec := Arb.decide_rotate (a := a) (limit := limit) (by rw [hfz, hfw]; rfl) hel (find?_arbTrumps_none hel hlt)
      (arbRotate_eq hr (fun x hx => (hel x hx).2) hmin hp)
    refine ⟨_, exec_arbiterGrant_eq hk hrt hdec, rfl, rfl, rfl, rfl, getD_arbRaise_win (Tab.wf_keep hwf _), fun hnd x hx hne => ?_⟩
    refine (getD_arbRaise_loser (Tab.wf_keep hwf _) hnd hx hne).trans ?_
    rw [Tab.getD_keep, if_pos (by simpa using (hel x hx).1)]
  · have hfind : (arbTrumps limit n (Tab.keep a.waits fun r _ => asserting.contains r) a.trumps).find? eligible.contains = some r := by
      rw [ht, List.find?_cons_of_pos (by simpa using hr)]
    have hdec := Arb.decide_trump (a := a) (limit := limit) (by rw [hfz, hfw]; rfl) hel hfind
    exact ⟨_, exec_arbiterGrant_eq hk hrt hdec, rfl, rfl, rfl, rfl⟩
  · subst hnone
    have hdec := Arb.decide_none (a := a) (limit := limit) (n := n) (asserting := asserting) (by rw [hfz, hfw]; rfl)
    exact ⟨_, exec_arbiterGrant_eq hk hrt hdec, rfl, rfl, rfl⟩

end Sys2Proof.Machine
end

section
/-! PROOFS. Steps and reset, the order of publishes (R64), and ATOMIC (R96). -/
namespace Sys2Proof.Machine

/-! ### Steps and reset -/

/-- Settles O1: the definition of a step on a queue that is not empty. -/
theorem stepRunsTheFront : Obligations.StepRunsTheFront := by
  unfold Obligations.StepRunsTheFront
  exact fun _ _ _ => rfl

section
theorem State.now_tick (s : State) : s.tick.now = s.now + 50 := by
  have hd : Kept false s (s.each (s.ptns.map Prod.fst) State.dealStep) := (Kept.refl s).each fun _ hu _ => hu.dealStep
  unfold State.tick
  extract_lets s₁
  split
  · exact congrArg (· + 50) hd.now
  · exact ((Kept.refl s₁.idle).sampleStored).now.trans (congrArg (· + 50) hd.now)
end

/-- After a power-on reset no register is written. -/
theorem State.reg_reset (r : Reg) (i : Nat) : State.reset.reg r i = r.resetAt i := rfl

/-- Settles O2: every table is empty after a power-on reset, so registers stand at their tables' values (R493); an empty
queue lets one period of KCLK pass (log 11). -/
theorem resetState : Obligations.ResetState := by
  unfold Obligations.ResetState
  refine ⟨rfl, rfl, rfl, rfl, rfl, fun _ => rfl, fun _ => rfl, fun _ _ => rfl, ?_, fun s hq =>
    ⟨step_empty hq, s.now_tick, (tick_pending_dram s).1.trans hq⟩⟩
  simp [State.reg_reset, Reg.resetAt]

/-! ### The visible pair (R64, R66) -/

theorem pairHigher_iff {v1 p1 v2 p2 : Nat} : pairHigher v1 p1 v2 p2 = true ↔ v2 < v1 ∨ v1 = v2 ∧ p1 < p2 := by
  simp [pairHigher]
theorem pairHigher_eq_false_iff {v1 p1 v2 p2 : Nat} : pairHigher v1 p1 v2 p2 = false ↔ v1 ≤ v2 ∧ (v1 = v2 → p2 ≤ p1) := by
  rw [← Bool.not_eq_true, pairHigher_iff]; omega

/-- A publish compared with the visible pair: the higher one is visible then (R66). -/
def seePair (a p : Nat × Nat) : Nat × Nat := if pairHigher p.1 p.2 a.1 a.2 then p else a

theorem seePair_right_comm (a p q : Nat × Nat) : seePair (seePair a p) q = seePair (seePair a q) p := by
  simp only [seePair, pairHigher_iff]
  grind

theorem foldl_seePair_mem (l : List (Nat × Nat)) (old : Nat × Nat) : l.foldl seePair old ∈ old :: l := by
  induction l generalizing old with
  | nil => simp
  | cons p l ih =>
    have h := ih (seePair old p)
    simp only [List.foldl_cons, List.mem_cons] at h ⊢
    rcases h with h | h
    · unfold seePair at h ⊢
      split at h <;> simp_all
    · exact .inr (.inr h)

/-- Comparing raises the visible pair, and at least to the pair published. -/
theorem pairHigher_seePair (a p x : Nat × Nat) (hx : pairHigher x.1 x.2 a.1 a.2 = false ∨ x = p) :
    pairHigher x.1 x.2 (seePair a p).1 (seePair a p).2 = false := by
  unfold seePair
  split
  next h =>
    rw [pairHigher_iff] at h
    rcases hx with hx | rfl <;> rw [pairHigher_eq_false_iff] at * <;> omega
  next h =>
    rcases hx with hx | rfl
    · exact hx
    · simpa using h

theorem not_pairHigher_foldl (l : List (Nat × Nat)) (old x : Nat × Nat)
    (hx : pairHigher x.1 x.2 old.1 old.2 = false ∨ x ∈ l) :
    pairHigher x.1 x.2 (l.foldl seePair old).1 (l.foldl seePair old).2 = false := by
  induction l generalizing old with
  | nil => simpa using hx
  | cons p l ih =>
    rcases hx with hx | hx
    · exact ih _ (.inl (pairHigher_seePair old p x (.inl hx)))
    · rcases List.mem_cons.mp hx with rfl | hx
      · exact ih _ (.inl (pairHigher_seePair old x x (.inr rfl)))
      · exact ih _ (.inr hx)

/-- Settles O43: comparisons commute, and each of them raises the pair. -/
theorem publishOrderDoesNotMatter : Obligations.PublishOrderDoesNotMatter := by
  unfold Obligations.PublishOrderDoesNotMatter
  intro old l1 l2 hp
  refine ⟨hp.foldl_eq' (fun p _ q _ a => seePair_right_comm a p q) old, foldl_seePair_mem l1 old, fun x hx => not_pairHigher_foldl l1 old x ?_⟩
  rcases List.mem_cons.mp hx with rfl | hx
  · exact .inl (pairHigher_eq_false_iff.mpr ⟨Nat.le_refl _, fun _ => Nat.le_refl _⟩)
  · exact .inr hx

/-! ### ATOMIC (R96) -/

section Patch
variable {l v : List Byte} {off : Nat}

theorem patch_length (h : off + v.length ≤ l.length) : (patch l off v).length = l.length := by
  simp only [patch, List.length_append, List.length_take, List.length_drop]; omega
theorem patch_of_fits (h : off + v.length ≤ l.length) : patch l off v = l.take off ++ (v ++ l.drop (off + v.length)) := by
  rw [patch, List.take_of_length_le (l := v) (by omega), List.append_assoc]
theorem patch_getElem?_other (h : off + v.length ≤ l.length) {i : Nat} (hi : i < off ∨ off + v.length ≤ i) :
    (patch l off v)[i]? = l[i]? := by
  have ho : (l.take off).length = off := by rw [List.length_take]; omega
  rw [patch_of_fits h]
  rcases hi with hi | hi
  · rw [List.getElem?_append_left (by omega), List.getElem?_take_of_lt hi]
  · rw [List.getElem?_append_right (by omega), List.getElem?_append_right (by omega), List.getElem?_drop]
    congr 1; omega
theorem field_patch_le {x n : Nat} (h : off + n ≤ l.length) : field (patch l off (le n x)) off n = x % 256 ^ n := by
  have ho : (l.take off).length = off := by rw [List.length_take]; omega
  rw [patch_of_fits (by simpa using h), field_append_right (by omega), ho, Nat.sub_self, field_le_append]
theorem le_ofLe (w : List Byte) : le w.length (ofLe w) = w := by
  induction w with
  | nil => rfl
  | cons b w ih =>
    have hb := b.isLt
    rw [List.length_cons, le, ofLe, show (b.toNat + 256 * ofLe w) / 256 = ofLe w by omega, ih]
    congr 1
    exact BitVec.eq_of_toNat_eq (by rw [BitVec.toNat_ofNat]; omega)
/-- A field overwritten by what it holds stays. -/
theorem patch_le_field {n : Nat} (h : off + n ≤ l.length) : patch l off (le n (field l off n)) = l := by
  have hw : ((l.drop off).take n).length = n := by rw [List.length_take, List.length_drop]; omega
  have hle : le n (field l off n) = (l.drop off).take n := by
    have := le_ofLe ((l.drop off).take n)
    rwa [hw, ← congrArg ofLe (slice_eq_of_window rfl hw)] at this
  rw [patch_of_fits (by simpa using h), hle, hw, ← List.drop_drop, List.take_append_drop, List.take_append_drop]
end Patch

theorem atomicOp_swap {p : Packet} {d : List Byte} (h : p.subop = 3#8) : (atomicOp p d).2 =
    patch d (p.off % 128) (le p.len (if field d (p.off % 128) p.len = p.arg1.toNat % 2 ^ (8 * p.len)
      then p.arg0.toNat % 2 ^ (8 * p.len) else field d (p.off % 128) p.len)) := by
  unfold atomicOp; rw [h]; rfl

/-- Settles O47: the operand lies inside the line, and ATOMIC patches it alone. -/
theorem atomicResults : Obligations.AtomicResults := by
  unfold Obligations.AtomicResults
  intro p d hd hlen hoff
  extract_lets o n old new
  have hfit : o + n ≤ d.length := by simp only [o, n]; rcases hlen with h | h <;> rw [h] at hoff ⊢ <;> omega
  have hlen' : ∀ x, (le n x).length = n := le_length n
  have hpow : 256 ^ n = 2 ^ (8 * n) := by rw [Nat.pow_mul]
  have hsnd : ∀ x, (atomicOp p d).2 = patch d o (le n x) → new = x % 2 ^ (8 * n) := fun x h => by
    rw [← hpow, ← field_patch_le hfit, ← h]
  refine ⟨rfl, (patch_length (by rwa [hlen'])).trans hd, fun h => ?_, fun h => ?_, fun h he => ?_, fun h hne => ?_,
    fun i _ hi => patch_getElem?_other (by rwa [hlen']) (by rwa [hlen'])⟩
  · refine (hsnd ((old + p.arg0.toNat % 2 ^ (8 * n)) % 2 ^ (8 * n)) (by unfold atomicOp; rw [h]; rfl)).trans ?_
    rw [Nat.mod_mod, Nat.add_mod_mod]
  · exact (hsnd (p.arg0.toNat % 2 ^ (8 * n)) (by unfold atomicOp; rw [h]; rfl)).trans (Nat.mod_mod _ _)
  · refine (hsnd (p.arg0.toNat % 2 ^ (8 * n)) ?_).trans (Nat.mod_mod _ _)
    rw [atomicOp_swap h]; exact congrArg (fun x => patch d o (le n x)) (if_pos he)
  · rw [atomicOp_swap h]; exact (congrArg (fun x => patch d o (le n x)) (if_neg hne)).trans (patch_le_field hfit)

end Sys2Proof.Machine
end

section
/-! PROOFS. Promotion and destage of a page (R358, R360, R361, R363). -/
namespace Sys2Proof.Machine

/-! ### Filling a frame touches the memory side alone -/

section Fill
variable {s : State}

@[simp] theorem State.exts_setCheck (c bank row off : Nat) (v : List Byte) : (s.setCheck c bank row off v).exts = s.exts := by
  unfold State.setCheck; dsimp only; split <;> rfl
@[simp] theorem State.exts_poisonLine (c li : Nat) : (s.poisonLine c li).exts = s.exts := by
  simp [State.poisonLine, State.onMem]
@[simp] theorem State.exts_fillLine (c li mark : Nat) (d : List Byte) : (s.fillLine c li mark d).exts = s.exts := by
  simp [State.fillLine, State.storeLine, State.onMem]
@[simp] theorem State.exts_fillFromFlash (k : Nat) (fp : FlashPage) (bad : List Nat) : (s.fillFromFlash k fp bad).exts = s.exts := by
  unfold State.fillFromFlash
  split
  · split
    · refine State.each_read (·.exts) fun u x => ?_
      dsimp only
      repeat' split
      all_goals simp
    · rfl
  · rfl

end Fill

/-! ### Operations of a die's channels -/

section Ops
variable {s : State} {m : Nat} {hit : FlReq → Bool} {r : FlReq}

theorem takeOp_eq_some {f : Nat} (h : (s.fch f).queue.find? (fun x => x.started && hit x) = some r) :
    s.takeOp f hit = some (r, s.onFch f fun x => { x with queue := x.queue.erase r }) := by
  rw [State.takeOp, h]

theorem takeOp_eq_none_of_started {f : Nat} (h : ∀ x ∈ (s.fch f).queue, (x.started && hit x) = false) : s.takeOp f hit = none := by
  have hnone : (s.fch f).queue.find? (fun x => x.started && hit x) = none := List.find?_eq_none.mpr fun x hx => by simp [h x hx]
  rw [State.takeOp, hnone]

/-- The first channel of a die that has a started operation of the kind gives it. -/
theorem findSome?_takeOp {i : Nat} (hi : i < 8) (hbefore : ∀ j, j < i → ∀ x ∈ (s.fch (m * 8 + j)).queue, (x.started && hit x) = false)
    (h : (s.fch (m * 8 + i)).queue.find? (fun x => x.started && hit x) = some r) :
    ((List.range 8).findSome? fun c => (s.takeOp (m * 8 + c) hit).map fun x => (m * 8 + c, x)) =
      some (m * 8 + i, r, s.onFch (m * 8 + i) fun x => { x with queue := x.queue.erase r }) := by
  have hsplit : List.range 8 = List.range i ++ i :: (List.range 8).drop (i + 1) := by
    have htake : (List.range 8).take i = List.range i := by rw [List.take_range, Nat.min_eq_left (Nat.le_of_lt hi)]
    have hdrop : (List.range 8).drop i = i :: (List.range 8).drop (i + 1) := by
      rw [List.drop_eq_getElem_cons (by simpa using hi)]; simp
    rw [← htake, ← hdrop, List.take_append_drop]
  have hnone : ((List.range i).findSome? fun c => (s.takeOp (m * 8 + c) hit).map fun x => (m * 8 + c, x)) = none := by
    rw [List.findSome?_eq_none_iff]
    intro j hj
    rw [takeOp_eq_none_of_started (hbefore j (List.mem_range.mp hj))]; rfl
  rw [hsplit, List.findSome?_append, hnone, Option.none_or, List.findSome?_cons, takeOp_eq_some h]
  rfl

end Ops

/-- Which operations promote a page (R358). -/
def promotes (k : Nat) (r : FlReq) : Bool := match r.op with | .promote k' => k' == k | _ => false
/-- Which operations program a page (R363). -/
def programs (k : Nat) (r : FlReq) : Bool := match r.op with | .destage k' _ _ _ => k' == k | _ => false

theorem promotes_eq (k : Nat) (r : FlReq) : promotes k r = (r.op == .promote k) := by
  unfold promotes
  split
  next k' h =>
    rw [h, Bool.eq_iff_iff, beq_iff_eq, beq_iff_eq]
    exact ⟨fun e => e ▸ rfl, fun e => by injection e⟩
  next h => symm; rw [beq_eq_false_iff_ne]; exact h k
theorem programs_eq_false {k : Nat} {r : FlReq} (h : ∀ d a b, r.op ≠ .destage k d a b) : programs k r = false := by
  unfold programs
  split
  next k' d a b hop => rw [beq_eq_false_iff_ne]; rintro rfl; exact h d a b hop
  next => rfl

section Moves
variable {s : State} {ext : BitVec 20} {page : BitVec 28} {e : ExtRec} {p : PageRec}

theorem exec_promotionDone_eq {i : Nat} {r : FlReq} {fp : FlashPage} (he : s.ext ext.toNat = some e)
    (hp : s.page (pageKey ext.toNat page.toNat) = some p) (hi : i < 8)
    (hbefore : ∀ j, j < i → ∀ x ∈ (s.fch (dieOf p.home * 8 + j)).queue, (x.started && promotes (pageKey ext.toNat page.toNat) x) = false)
    (h : (s.fch (dieOf p.home * 8 + i)).queue.find? (fun x => x.started && promotes (pageKey ext.toNat page.toNat) x) = some r)
    (hfp : Tab.get? (s.fdie (dieOf p.home)).pages r.loc = some fp) :
    exec (.promotionDone ext page) s =
      (let k := pageKey ext.toNat page.toNat
       let f := dieOf p.home * 8 + i
       let filled := (s.onFch f fun x => { x with queue := x.queue.erase r }).fillFromFlash k fp r.bad
       .next ((((filled.onPage k fun p => { p with st := .clean, usedAt := filled.now }).bump .flChReads f).bump .flPtnPromotions
         e.ptn).settleAll)) := by
  have hfind := findSome?_takeOp hi hbefore h
  show execPromotionDone ext page s = _
  unfold execPromotionDone
  dsimp only
  rw [hp]
  dsimp only
  change (match (List.range 8).findSome? fun c =>
    (s.takeOp (dieOf p.home * 8 + c) (promotes (pageKey ext.toNat page.toNat))).map fun x => (dieOf p.home * 8 + c, x) with
    | none => _ | some (f, r, s) => _) = _
  rw [hfind]
  dsimp only
  generalize hf : dieOf p.home * 8 + i = f at *
  have hpages : ((s.onFch f fun x => { x with queue := x.queue.erase r }).fdie (dieOf p.home)).pages = (s.fdie (dieOf p.home)).pages := rfl
  rw [hpages, hfp]
  dsimp only
  have hext : ∀ u : State, u.exts = s.exts → (u.ext ext.toNat).elim 0 (·.ptn) = e.ptn := fun u hu => by
    rw [State.ext, hu, ← State.ext, he]; rfl
  rw [hext _ (by simp [State.onPage, State.onMem, State.onFch])]

/-- No page of the partition stands ahead in the destage order (R360). -/
def FirstInOrder (u : State) (q k : Nat) (p : PageRec) : Prop :=
  ∀ x ∈ u.dirtyPages q, x.2.destaging = false → x.2.zeroPending = true ∨ u.flashFull (dieOf x.2.home) = false →
    u.destageLevel q (k, p) ≤ u.destageLevel q x ∧
      (u.destageLevel q (k, p) / 2 = 3 → u.destageLevel q x = u.destageLevel q (k, p) → p.dirtyAt ≤ x.2.dirtyAt)

theorem none_ahead {u : State} {q k : Nat} (h : FirstInOrder u q k p) :
    ((u.dirtyPages q).any fun x => !x.2.destaging && (x.2.zeroPending || !(u.flashFull (dieOf x.2.home)))
      && (decide (u.destageLevel q x < u.destageLevel q (k, p)) ||
        (u.destageLevel q (k, p) / 2 == 3 && u.destageLevel q x == u.destageLevel q (k, p) && decide (x.2.dirtyAt < p.dirtyAt)))) = false := by
  rw [List.any_eq_false]
  intro x hx hahead
  simp only [Bool.and_eq_true, Bool.or_eq_true, Bool.not_eq_true', decide_eq_true_eq, beq_iff_eq] at hahead
  obtain ⟨⟨hd, hz⟩, hlt⟩ := hahead
  obtain ⟨hle, hage⟩ := h x hx hd hz
  rcases hlt with hlt | ⟨⟨h3, hsame⟩, hlt⟩
  · omega
  · have := hage h3 hsame; omega

/-- The lines of a page as a destage reads them, one after the other, and the state then (R361). -/
def pageLines (u : State) (h page : Nat) : List (Nat × List Byte) × State :=
  (List.range 512).foldl (fun (acc : List (Nat × List Byte) × State) n =>
    let r := acc.2.readExt h (page * 512 + n) 50
    (acc.1 ++ [r.1], r.2)) ([], u)

/-- A page first in order is destaged: as zeros, or by its lines as they are read (R361). -/
theorem destage_eq {h page : Nat} {ls : List (Nat × List Byte)} {v : State}
    (he : s.ext h = some e) (hp : s.page (pageKey h page) = some p)
    (hpin : e.pinned = false) (hdes : p.destaging = false)
    (hlv : (s.noteShare e.ptn).destageLevel e.ptn (pageKey h page, p) < 18)
    (hfirst : FirstInOrder (s.noteShare e.ptn) e.ptn (pageKey h page) p)
    (hrd : pageLines (s.noteShare e.ptn) h page = (ls, v)) :
    s.destage h page =
      (let k := pageKey h page
       let m := dieOf p.home
       let u := s.noteShare e.ptn
       if p.zeroPending then (u.onPage k fun p => { p with destaging := true }).journal m [u.pageRec 2 k 0] (p.prio == 1)
       else if p.st ≠ .dirty then u
       else if !u.chanAwake p.home then u.demandChan p.home else
       if ls.all fun l => l.1 == 0 && l.2.all (· == 0#8) then
         ((v.onPage k fun p => { p with destaging := true, rewritten := false }).bump .flPtnZeroElided e.ptn).journal m
           [v.pageRec 2 k 0] (p.prio == 1)
       else
         match v.flashSlot m with
         | none => v.onFdie m fun d => { d with noSpace := true }
         | some (loc, w) =>
           let mask (n : Nat) : Nat := (ls.zipIdx.map fun x => if x.1.1 = n then 2 ^ x.2 else 0).sum
           (w.onPage k fun p => { p with destaging := true, rewritten := false }).flashOp (locChan m loc)
             { op := .destage k (ls.flatMap Prod.snd) (mask 1) (mask 2), ptn := e.ptn, prio := p.prio, since := w.now,
               loc := loc }) := by
  unfold State.destage
  extract_lets k
  rw [he, hp]
  refine (if_neg ?_).trans ?_
  · rw [none_ahead hfirst]
    simp only [hpin, hdes, Bool.or_false, Bool.false_or, decide_eq_true_eq, Nat.not_le]
    exact hlv
  · simp only [pageLines] at hrd
    rw [hrd] <;> rfl

theorem chanAwake_noteShare (q c : Nat) : (s.noteShare q).chanAwake c = s.chanAwake c := rfl

theorem exec_destageAgeExpiry_eq (he : s.ext ext.toNat = some e) (hp : s.page (pageKey ext.toNat page.toNat) = some p)
    (hpol : e.policy ≠ 0) (hdirty : p.st = .dirty ∨ p.zeroPending = true) (hprio : p.prio = 0)
    (hage : p.dirtyAt + s.reg .flPtnDestageAge e.ptn * msec ≤ s.now) :
    exec (.destageAgeExpiry ext page) s = .next (s.onPage (pageKey ext.toNat page.toNat) fun p => { p with prio := 4 }) := by
  show execDestageAgeExpiry ext page s = _
  unfold execDestageAgeExpiry
  dsimp only
  rw [he, hp]
  dsimp only
  rw [if_pos]
  rcases hdirty with h | h <;> simp [hpol, hprio, State.past, hage, h]

theorem exec_destageProgramDone_eq {i : Nat} {r : FlReq} {data : List Byte} {poison uncorr : Nat}
    (hp : s.page (pageKey ext.toNat page.toNat) = some p) (hi : i < 8)
    (hbefore : ∀ j, j < i → ∀ x ∈ (s.fch (dieOf p.home * 8 + j)).queue, (x.started && programs (pageKey ext.toNat page.toNat) x) = false)
    (h : (s.fch (dieOf p.home * 8 + i)).queue.find? (fun x => x.started && programs (pageKey ext.toNat page.toNat) x) = some r)
    (hop : r.op = .destage (pageKey ext.toNat page.toNat) data poison uncorr) :
    exec (.destageProgramDone ext page) s =
      (let k := pageKey ext.toNat page.toNat
       let m := dieOf p.home
       let f := m * 8 + i
       let u := s.onFch f fun x => { x with queue := x.queue.erase r }
       let fp : FlashPage := { ext := keyExt k, page := keyPage k, wseq := (s.fdie m).seq, poison := poison, uncorr := uncorr,
                               data := Mem.writes zeroByte [] 0 data }
       .next (((u.onFdie m fun d => { d with pages := Tab.put d.pages r.loc fp }).bump .flChPrograms f).journal m
         [u.pageRec 1 k r.loc] (p.prio == 1))) := by
  have hfind := findSome?_takeOp hi hbefore h
  show execDestageProgramDone ext page s = _
  unfold execDestageProgramDone
  dsimp only
  rw [hp]
  dsimp only
  change (match (List.range 8).findSome? fun c =>
    (s.takeOp (dieOf p.home * 8 + c) (programs (pageKey ext.toNat page.toNat))).map fun x => (dieOf p.home * 8 + c, x) with
    | none => _ | some (f, r, s) => _) = _
  rw [hfind]
  dsimp only
  rw [hop]
  rfl

end Moves

/-- The first entry of a list that a test picks, all before it being passed over. -/
theorem find?_append_cons {α : Type} {l1 l2 : List α} {x : α} {f : α → Bool} (h1 : ∀ y ∈ l1, f y = false) (hx : f x = true) :
    (l1 ++ x :: l2).find? f = some x := by
  rw [List.find?_append, List.find?_eq_none.mpr fun y hy => by simp [h1 y hy], List.find?_cons_of_pos hx]; rfl

/-- Settles O39: by the four rows. -/
theorem pageMoves : Obligations.PageMoves := by
  unfold Obligations.PageMoves
  intro s ext page e p h k m he hp
  have hst : ∀ {x : FlReq}, (x.started = true → ∀ d a b, x.op ≠ .destage k d a b) → (x.started && programs k x) = false := by
    intro x hx
    cases hs : x.started
    · rfl
    · exact programs_eq_false (hx hs)
  refine ⟨fun i r fp hi hbefore hfind hfp => ?_, ?_, fun hpol hd hprio hage => exec_destageAgeExpiry_eq he hp hpol hd hprio hage,
    fun i r data poison uncorr hi hbefore ⟨l1, l2, hq, hl1⟩ hstart hop => ?_⟩
  · refine exec_promotionDone_eq he hp hi (fun j hj x hx => ?_) ?_ hfp
    · rw [promotes_eq]; simpa using hbefore j hj x hx
    · simp only [promotes_eq]; exact hfind
  · intro u lv hpin hdes hlv hfirst
    have hrow := fun ls v => destage_eq (ls := ls) (v := v) he hp hpin hdes hlv hfirst
    refine ⟨fun hz => ?_, fun hz hd hawake ls v hrd => ⟨fun hzero => ?_, fun ⟨l, hl, hne⟩ loc w hslot => ?_⟩⟩
    · exact congrArg Host.Outcome.next ((hrow _ _ (Prod.eta _).symm).trans (if_pos hz))
    · have hall : (ls.all fun l => l.1 == 0 && l.2.all (· == 0#8)) = true := by
        rw [List.all_eq_true]
        exact fun l hl => by simpa using hzero l hl
      refine congrArg Host.Outcome.next ((hrow ls v hrd).trans ?_)
      dsimp only
      rw [if_neg (by simp [hz]), if_neg (by simp [hd]), if_neg (by simpa [chanAwake_noteShare] using hawake), if_pos hall]
    · have hall : ¬(ls.all fun l => l.1 == 0 && l.2.all (· == 0#8)) = true := by
        rw [List.all_eq_true]
        intro h0
        have hl0 := h0 l hl
        simp only [Bool.and_eq_true, beq_iff_eq, List.all_eq_true] at hl0
        rcases hne with hne | ⟨b, hb, hne⟩
        · exact hne hl0.1
        · exact hne (hl0.2 b hb)
      refine congrArg Host.Outcome.next ((hrow ls v hrd).trans ?_)
      dsimp only
      rw [if_neg (by simp [hz]), if_neg (by simp [hd]), if_neg (by simpa [chanAwake_noteShare] using hawake), if_neg hall, hslot]
  · refine exec_destageProgramDone_eq hp hi (fun j hj x hx => hst (hbefore j hj x hx)) ?_ hop
    rw [hq]
    refine find?_append_cons (fun y hy => hst (hl1 y hy)) ?_
    simp [hstart, programs, hop, k, h]

end Sys2Proof.Machine
end

section
/-! PROOFS. The journal: commits, checkpoints, the end of a replay (R365, R366, R368, R504). -/
namespace Sys2Proof.Machine

section
variable {s : State} {m : MDie}

theorem exec_journalCommitTimer_eq (hp : (s.fdie m).pend ≠ []) (ho : (s.fdie m).commitOpen = none)
    (ht : (s.fdie m).firstUncommitted + s.reg .flDieJrnlCommitUs m * usec ≤ s.now) :
    exec (.journalCommitTimer m) s = .next (s.openCommit m) := by
  show execJournalCommitTimer m s = _
  unfold execJournalCommitTimer
  dsimp only
  rw [if_pos]
  simp [hp, ho, State.past, ht]

theorem committed_of_not_runs {q : Nat} (ho : (s.fdie m).commitOpen = some q) (h : s.commitRuns m = false) : s.committed m = s := by
  unfold State.committed
  rw [ho]
  dsimp only
  rw [h, if_pos (by rfl)]

/-- Taking the programmed COMMIT from the journal channels (R365). -/
def State.takeCommit (s : State) (m : Nat) : State :=
  s.each (s.fdie m).chans fun s c => s.onFch (8 * m + c) fun x => { x with queue := x.queue.filter fun r => r.op != .journal }

@[simp] theorem State.fdie_takeCommit (n : Nat) : (s.takeCommit n).fdie = s.fdie := by
  unfold State.takeCommit; exact State.each_read (·.fdie) fun _ _ => rfl
@[simp] theorem State.now_takeCommit (n : Nat) : (s.takeCommit n).now = s.now := by
  unfold State.takeCommit; exact State.each_read (·.now) fun _ _ => rfl

theorem committed_eq {q : Nat} (ho : (s.fdie m).commitOpen = some q) (hruns : s.commitRuns m = true)
    (hasked : (s.fdie m).commitAsked = false) (hk : ∀ r ∈ (s.fdie m).pend, r.kind ≠ 5) :
    s.committed m =
      (let done := (s.fdie m).pend.filter fun r => r.seq < q
       let t := (s.takeCommit m).onFdie m fun d => { d with
         log := sinceCheckpoint (d.log ++ done), pend := d.pend.filter (fun r => q ≤ r.seq), firstUncommitted := s.now,
         commitOpen := none, commitAsked := false }
       let u := (t.setReg .flDieJrnlSeqLo m (q % 2 ^ 32)).setReg .flDieJrnlSeqHi m (q / 2 ^ 32)
       u.each done fun s r =>
         if r.kind = 6 then (s.pairDurable r).extCommitted r
         else if r.kind ≤ 3 then (s.pairDurable r).pageCommitted m r else s) := by
  have hnone : (((s.fdie m).pend.filter fun r => decide (r.seq < q)).any fun r => r.kind == 5) = false := by
    rw [List.any_eq_false]
    exact fun r hr => by simpa using hk r (List.mem_filter.mp hr).1
  unfold State.committed
  rw [ho]
  dsimp only
  rw [hruns, if_neg (by simp), ← State.takeCommit, State.fdie_takeCommit, State.now_takeCommit, hasked, hnone]
  rfl

theorem exec_checkpoint_eq (hm : (s.fdie m).mounted = true)
    (ht : (s.fdie m).ckAt + 10 * oneSec ≤ s.now ∨ 4194304 ≤ (s.fdie m).ckRecords) :
    exec (.checkpoint m) s = .next
      (let r : JRec := { seq := 0, kind := 5, ext := 0, page := 0, loc := ((s.fdie m).slot.map Prod.fst).getD 0, version := 0,
                         publisher := 0 }
       (s.journal m [r] false).onFdie m fun d => { d with ckAt := s.now, ckRecords := 0, mapsNew :=
         (((s.ptns.flatMap fun e => e.2.channels).filter fun c => dieOf c == m.val).foldl (fun t c => Tab.put t c (s.reg .mcChCfgMap c)) []) }) := by
  show execCheckpoint m s = _
  unfold execCheckpoint
  dsimp only
  rw [if_pos (by simpa [hm, State.past] using ht)]
  rfl

/-- The end of a replay mounts its die (R368). -/
def State.mountDie (s : State) (m : Nat) : State :=
  let q := (s.fdie m).seq - 1
  ((s.onFdie m fun d => { d with mounted := true, ckAt := s.now }).setReg .flDieJrnlSeqLo m (q % 2 ^ 32)).setReg
    .flDieJrnlSeqHi m (q / 2 ^ 32)

theorem fdie_mountDie (n : Nat) : (s.mountDie n).fdie = (s.onFdie n fun d => { d with mounted := true, ckAt := s.now }).fdie := by
  funext i
  simp [State.mountDie, State.fdie]
theorem fdie_onFdie_other {n i : Nat} {f : FlashDie → FlashDie} (h : i ≠ n) : (s.onFdie n f).fdie i = s.fdie i := by
  unfold State.fdie State.onFdie State.onMem
  exact Tab.getD_set_other _ _ h _
theorem fdie_onFdie_self {n : Nat} {f : FlashDie → FlashDie} (h : f (s.fdie n) ≠ {}) : (s.onFdie n f).fdie n = f (s.fdie n) := by
  unfold State.fdie State.onFdie State.onMem
  exact Tab.getD_set_ne _ _ h
theorem mounted_mountDie_self (n : Nat) : ((s.mountDie n).fdie n).mounted = true := by
  rw [fdie_mountDie, fdie_onFdie_self fun h => Bool.noConfusion (congrArg FlashDie.mounted h)]
theorem fdie_mountDie_other {n i : Nat} (h : i ≠ n) : (s.mountDie n).fdie i = s.fdie i := by
  rw [fdie_mountDie, fdie_onFdie_other h]

theorem mounted_mountDie : (s.mountDie m).mounted = true ↔ ∀ i : MDie, i ≠ m → (s.fdie i).mounted = true := by
  rw [State.mounted, List.all_eq_true]
  constructor
  · intro h i hi
    have := h i.val (List.mem_range.mpr i.isLt)
    rwa [fdie_mountDie_other fun e => hi (Fin.ext e)] at this
  · intro h i hi
    by_cases he : i = m.val
    · rw [he]; exact mounted_mountDie_self _
    · rw [fdie_mountDie_other he]
      exact h ⟨i, List.mem_range.mp hi⟩ fun e => he (congrArg Fin.val e)

theorem exec_journalReplayDone_eq (hm : (s.fdie m).mounted = false) (hd : s.sec.debugOn = false)
    (hph : s.board.phase = .main ∨ s.board.phase = .ready) :
    exec (.journalReplayDone m) s = .next (if (s.mountDie m).mounted
      then { s.mountDie m with
        exts := (s.mountDie m).exts.map fun e => (e.1, { e.2 with version := e.2.durVersion, publisher := e.2.durPublisher }) }
      else s.mountDie m) := by
  show execJournalReplayDone m s = _
  unfold execJournalReplayDone
  rw [if_neg (by rcases hph with h | h <;> simp [hm, hd, h])]
  rfl
end

/-- Settles O40: by the four rows. -/
theorem journal : Obligations.Journal := by
  unfold Obligations.Journal
  intro s m d
  refine ⟨fun hp ho ht => exec_journalCommitTimer_eq hp ho ht, fun q ho ⟨c, hc, hr⟩ => ?_, fun q ho ha hk hrun => ?_,
    fun hm ht => exec_checkpoint_eq hm ht, fun hm hd hph => ?_⟩
  · have hruns : s.commitRuns m = false := by
      rw [State.commitRuns, List.all_eq_false]
      refine ⟨c, hc, ?_⟩
      rw [Bool.not_eq_true, List.any_eq_false]
      exact fun r h => by simpa using hr r h
    exact congrArg (fun u : State => Host.Outcome.next u.settleAll) (committed_of_not_runs ho hruns)
  · have hruns : s.commitRuns m = true := by
      rw [State.commitRuns, List.all_eq_true]
      intro c hc
      obtain ⟨r, hr, hs⟩ := hrun c hc
      exact List.any_eq_true.mpr ⟨r, hr, by simpa using hs⟩
    exact congrArg (fun u : State => Host.Outcome.next u.settleAll) (committed_eq ho hruns ha hk)
  · have hrow := exec_journalReplayDone_eq hm hd hph
    refine ⟨fun ⟨i, hi, hf⟩ => ?_, fun hall => ?_⟩
    · rw [hrow, if_neg fun h => by simpa [hf] using mounted_mountDie.mp h i hi]; rfl
    · rw [hrow, if_pos (mounted_mountDie.mpr hall)]; rfl

end Sys2Proof.Machine
end

section
/-! PROOFS. Operations of a flash channel and garbage collection (R366 to R372). -/
namespace Sys2Proof.Machine

section
variable {s : State} {f : FCh}

/-! ### The start of an operation (R372) -/

/-- An operation that has not started is started. -/
def State.startOp (s : State) (f : Nat) (r : FlReq) : State := s.onFch f fun x =>
  { x with queue := x.queue.map fun y => if y == r && !y.started then { y with started := true } else y }

/-- Which operations write the journal. -/
def isJournal (r : FlReq) : Bool := match r.op with | .journal => true | _ => false
theorem isJournal_eq (r : FlReq) : isJournal r = (r.op == .journal) := by
  unfold isJournal; cases h : r.op <;> rfl

theorem exec_flashOpStart_journal {r : FlReq} (hp : (s.fch f).parked = false)
    (hr : (s.fch f).queue.find? (fun r => !r.started && r.op == .journal) = some r) :
    exec (.flashOpStart f) s = .next (s.startOp f r) := by
  show execFlashOpStart f s = _
  unfold execFlashOpStart
  dsimp only
  rw [hp, if_neg (by simp)]
  change (match (s.fch f).queue.find? (fun r => !r.started && isJournal r) with | some r => _ | none => _) = _
  simp only [isJournal_eq, hr]
  rfl

/-- Which requesters have an operation waiting, and what the first one costs (R372). -/
def State.opWaits (s : State) (f : Nat) : List Nat := (List.range 65).filter fun r => (firstOp (s.fch f).queue r).isSome
def State.opCost (s : State) (f r : Nat) : Nat := (firstOp (s.fch f).queue r).elim 0 FlReq.cost
/-- The arbiter of a channel after deficit round robin chose a requester (R372, R397). -/
def Arb.served (a : Arb) (lim r : Nat) (elig : List Nat) : Arb :=
  let w := Tab.keep a.waits fun r _ => elig.contains r
  let w' := arbRaise lim r elig w
  { a with waits := w', trumps := arbTrumps lim 65 w' ((arbTrumps lim 65 w a.trumps).filter (· ≠ r)), lastWinner := r
           grants := wrapAdd 32 a.grants 1, trumpCount := wrapAdd 32 a.trumpCount (b2n false)
           pointer := (r + 1) % 65
           maxWait := max a.maxWait ((w'.map Prod.snd).foldl max 0) }

theorem exec_flashOpStart_drr {r : Nat} {d : Tab Int} {x : FlReq} (hp : (s.fch f).parked = false)
    (hq : ∀ r ∈ (s.fch f).queue, r.started = false → r.op ≠ .journal) (hfz : (s.arb (arbKey 1 f)).frozen = false)
    (hfw : (s.arb (arbKey 1 f)).fwHold = false)
    (ht : ∀ r ∈ arbTrumps (s.reg .arbTrumpLimit 0) 65 (Tab.keep (s.arb (arbKey 1 f)).waits fun r _ => (s.opWaits f).contains r)
      (s.arb (arbKey 1 f)).trumps, r ∉ s.opWaits f)
    (hpick : drrPick (fun r => s.flQuantum f r (s.opWaits f)) (s.opCost f) (s.opWaits f) 400 (s.fch f).last (s.fch f).deficit =
      some (r, d))
    (hx : firstOp (s.fch f).queue r = some x) :
    exec (.flashOpStart f) s = .next
      ((((s.onArb (arbKey 1 f) fun a => a.served (s.reg .arbTrumpLimit 0) r (s.opWaits f)).onFch f fun x =>
        { x with deficit := d, last := r }).lead (62 + f)).startOp f x) := by
  have hnone : (s.fch f).queue.find? (fun r => !r.started && r.op == .journal) = none := by
    rw [List.find?_eq_none]
    intro r hr h
    simp only [Bool.and_eq_true, Bool.not_eq_true', beq_iff_eq] at h
    exact hq r hr h.1 h.2
  have htrump : (arbTrumps (s.reg .arbTrumpLimit 0) 65 (Tab.keep (s.arb (arbKey 1 f)).waits fun r _ => (s.opWaits f).contains r)
      (s.arb (arbKey 1 f)).trumps).find? (s.opWaits f).contains = none := by
    rw [List.find?_eq_none]
    intro r hr h
    exact ht r hr (List.contains_iff_mem.mp h)
  show execFlashOpStart f s = _
  unfold execFlashOpStart
  dsimp only
  rw [hp, if_neg (by simp)]
  change (match (s.fch f).queue.find? (fun r => !r.started && isJournal r) with | some r => _ | none => _) = _
  simp only [isJournal_eq, hnone]
  rw [hfz, hfw, if_neg (by simp), ← State.opWaits, htrump]
  dsimp only
  change (match (drrPick (fun r => s.flQuantum f r (s.opWaits f)) (s.opCost f) (s.opWaits f) 400 (s.fch f).last
    (s.fch f).deficit).map fun (p : Nat × Tab Int) => (false, p.1, p.2) with | none => _ | some (tr, r, d) => _) = _
  rw [hpick]
  dsimp only [Option.map_some]
  rw [hx]
  rfl

/-! ### Operations that end (R369 to R371) -/

/-- Operations that program or read pages, and erases. -/
def isDestage (r : FlReq) : Bool := match r.op with | .destage .. => true | _ => false
def isErase (r : FlReq) : Bool := match r.op with | .erase _ => true | _ => false
def isRead (r : FlReq) : Bool := match r.op with | .promote _ => true | .expert _ _ => true | .scrub _ => true | _ => false

/-- An operation taken off the queue of its channel. -/
def State.endOp (s : State) (f : Nat) (r : FlReq) : State := s.onFch f fun x => { x with queue := x.queue.erase r }

theorem exec_flashProgramFail_program {r : FlReq} {loc : Nat} {v : State}
    (hr : (s.fch f).queue.find? (fun r => r.started && isDestage r) = some r)
    (hslot : ((s.endOp f r).retireBlock f r.loc).flashSlot (f / 8) = some (loc, v)) :
    exec (.flashProgramFail f false) s = .next (v.flashOp (locChan (f / 8) loc) { r with loc := loc, started := false }) := by
  have hit : ∀ r : FlReq, (match r.op with | .destage .. => !false | .erase _ => false | _ => false) = isDestage r := by
    intro r; unfold isDestage; cases r.op <;> rfl
  have htake := takeOp_eq_some hr
  show execFlashProgramFail f false s = _
  unfold execFlashProgramFail
  dsimp only
  change (match s.takeOp f (fun r => match r.op with | .destage .. => !false | .erase _ => false | _ => false) with
    | none => _ | some (r, s) => _) = _
  simp only [hit, htake]
  rw [if_neg (by simp), ← State.endOp, hslot]

theorem exec_flashProgramFail_erase {r : FlReq} (hr : (s.fch f).queue.find? (fun r => r.started && isErase r) = some r) :
    exec (.flashProgramFail f true) s = .next ((s.endOp f r).retireBlock f r.loc) := by
  have hit : ∀ r : FlReq, (match r.op with | .destage .. => !true | .erase _ => true | _ => false) = isErase r := by
    intro r; unfold isErase; cases r.op <;> rfl
  have htake := takeOp_eq_some hr
  show execFlashProgramFail f true s = _
  unfold execFlashProgramFail
  dsimp only
  change (match s.takeOp f (fun r => match r.op with | .destage .. => !true | .erase _ => true | _ => false) with
    | none => _ | some (r, s) => _) = _
  simp only [hit, htake, if_true]
  rfl

theorem exec_flashReadRetry_eq {r : FlReq} (cw : Fin 16) (tries : Fin 11) (ok : Bool)
    (hr : (s.fch f).queue.find? (fun r => r.started && isRead r) = some r) :
    exec (.flashReadRetry f cw tries ok) s = .next
      (if ok then
        if 4 ≤ tries.val then
          (s.bumpN .flChRetryReads f tries.val).onFdie (f / 8) fun d => { d with gcQueue := addOnce d.gcQueue (locGroup r.loc) }
        else s.bumpN .flChRetryReads f tries.val
      else (((s.bumpN .flChRetryReads f 10).bump .flChUncorr f).retireBlock f r.loc).onFch f fun x =>
        { x with queue := x.queue.map fun y => if y == r then { y with bad := cw.val :: y.bad } else y }) := by
  show execFlashReadRetry f cw tries ok s = _
  unfold execFlashReadRetry
  dsimp only
  change (match (s.fch f).queue.find? (fun r => r.started && isRead r) with | none => _ | some r => _) = _
  rw [hr]
  dsimp only
  cases ok
  · simp only [Bool.false_eq_true, if_false]
  · simp only [if_true]
    repeat' split
    all_goals rfl

theorem exec_flashEraseDone_eq {r : FlReq}
    (hr : (s.fch f).queue.find? (fun r => r.started && (match r.op with | .erase g => !(s.groupHeld (f / 8) g) | _ => false)) = some r) :
    exec (.flashEraseDone f) s = .next
      (((s.endOp f r).bump .flChErases f).onFdie (f / 8) fun d =>
        { d with used := d.used.erase r.loc, noSpace := false,
                 kitties := if d.own r.loc then d.kitties else Tab.put d.kitties (r.loc % 256) (Tab.getD d.kitties (r.loc % 256) 0 + 4),
                 pages := d.pages.filter (fun e => locGroup e.1 != r.loc),
                 erased := Tab.put d.erased r.loc (Tab.getD d.erased r.loc 0 + 1) }) := by
  have htake := takeOp_eq_some hr
  show execFlashEraseDone f s = _
  unfold execFlashEraseDone
  dsimp only
  change (match s.takeOp f (fun r => match r.op with | .erase g => !(s.groupHeld (f / 8) g) | _ => false) with
    | none => _ | some (r, s) => _) = _
  rw [htake]
  rfl

/-! ### Garbage collection (R367, R369) -/

/-- The first of the smallest entries of a list. -/
def pickBest (better : Nat → Nat → Bool) (l : List Nat) (b : Option Nat) : Option Nat :=
  l.foldl (fun (b : Option Nat) g => match b with | none => some g | some x => if better g x then some g else b) b

theorem pickBest_keeps {better : Nat → Nat → Bool} {l : List Nat} {g : Nat} (h : ∀ x ∈ l, better x g = false) :
    pickBest better l (some g) = some g := by
  induction l with
  | nil => rfl
  | cons x l ih =>
    have hx := h x (List.mem_cons_self ..)
    show pickBest better l (if better x g then some x else some g) = some g
    rw [hx, if_neg (by simp)]
    exact ih fun y hy => h y (List.mem_cons_of_mem _ hy)
theorem pickBest_eq {better : Nat → Nat → Bool} {l1 l2 : List Nat} {g : Nat} (b : Option Nat) (hb : ∀ x, b = some x → better g x = true)
    (h1 : ∀ x ∈ l1, better g x = true) (h2 : ∀ x ∈ l2, better x g = false) : pickBest better (l1 ++ g :: l2) b = some g := by
  induction l1 generalizing b with
  | nil =>
    cases b with
    | none => exact pickBest_keeps h2
    | some x =>
      show pickBest better l2 (if better g x then some g else some x) = some g
      rw [hb x rfl, if_pos rfl]
      exact pickBest_keeps h2
  | cons y l ih =>
    have hy := h1 y (List.mem_cons_self ..)
    have hl : ∀ x ∈ l, better g x = true := fun x hx => h1 x (List.mem_cons_of_mem _ hx)
    cases b with
    | none => exact ih (some y) (fun x hx => by rw [← Option.some.inj hx]; exact hy) hl
    | some x =>
      refine ih (if better y x then some y else some x) (fun z hz => ?_) hl
      split at hz
      · rw [← Option.some.inj hz]; exact hy
      · exact hb z hz

theorem exec_garbageCollection_eq {m : MDie} {g : Nat} {l1 l2 : List Nat}
    (hlow : 100 * (s.fdie m).freeGroups < s.reg .flDieGcStart m * (s.fdie m).goodGroups) (hq : (s.fdie m).gcQueue = [])
    (hg : s.gcGroups m = l1 ++ g :: l2)
    (h1 : ∀ x ∈ l1, ((s.fdie m).inGroup g).length < ((s.fdie m).inGroup x).length)
    (h2 : ∀ x ∈ l2, ((s.fdie m).inGroup g).length ≤ ((s.fdie m).inGroup x).length) :
    exec (.garbageCollection m) s = .next
      (let moved := (s.onFdie m fun d => { d with gcActive := true, gcQueue := d.gcQueue.erase g }).each ((s.fdie m).inGroup g)
         fun s e => s.gcMove m e
       moved.flashOp (locChan m g) { op := .erase g, ptn := 64, prio := 0, since := moved.now, loc := g }) := by
  have hbest : pickBest (fun g x => decide (((s.fdie m).inGroup g).length < ((s.fdie m).inGroup x).length)) (s.gcGroups m) none =
      some g := by
    rw [hg]
    exact pickBest_eq none (fun _ h => nomatch h) (fun x hx => decide_eq_true (h1 x hx))
      (fun x hx => decide_eq_false (Nat.not_lt.mpr (h2 x hx)))
  have hdead : (s.fdie m).dead.contains g = false := by
    have hmem : g ∈ s.gcGroups m := by rw [hg]; simp
    simpa using (Bool.and_eq_true _ _ |>.mp (Bool.and_eq_true _ _ |>.mp (List.mem_filter.mp hmem).2).1).2
  show execGarbageCollection m s = _
  unfold execGarbageCollection
  dsimp only
  simp only [hq, List.find?_nil, Option.orElse, decide_eq_true hlow, if_true]
  change (match pickBest (fun g x => decide (((s.fdie m).inGroup g).length < ((s.fdie m).inGroup x).length)) (s.gcGroups m) none
    with | none => _ | some g => _) = _
  rw [hbest]
  dsimp only
  rw [hdead, if_neg (by simp)]
end

/-- Settles O41: by the rows of a channel and of a die. -/
theorem flashOperations : Obligations.FlashOperations := by
  unfold Obligations.FlashOperations
  intro s f q start
  refine ⟨fun hp r hr => exec_flashOpStart_journal hp hr, ?_, fun r hr loc v hslot => exec_flashProgramFail_program hr hslot,
    fun r hr => exec_flashProgramFail_erase hr, fun r cw tries hr => ⟨fun ht => ?_, fun ht => ?_, ?_⟩,
    fun m g l1 l2 hlow hq hg h1 h2 => exec_garbageCollection_eq hlow hq hg h1 h2, fun r g hr _ => exec_flashEraseDone_eq hr⟩
  · intro elig a w lim hp hq hfz hfw ht r d x hpick hx
    exact ⟨a.served lim r elig, rfl, rfl, exec_flashOpStart_drr hp hq hfz hfw ht hpick hx⟩
  · rw [exec_flashReadRetry_eq cw tries true hr, if_pos rfl, if_neg (Nat.not_le.mpr ht)]
  · rw [exec_flashReadRetry_eq cw tries true hr, if_pos rfl, if_pos ht]
  · exact exec_flashReadRetry_eq cw tries false hr

end Sys2Proof.Machine
end

section
/-! PROOFS. The end of an extent, home timeouts, dead hosts, PUBLISH (R65, R70 to R74, R258, R260, R262). -/
namespace Sys2Proof.Machine

section Ends
variable {s : State} {ext : BitVec 20} {e : ExtRec}

/-! ### Extents by handle -/

theorem State.ext_onExt_same {h : Nat} (he : s.ext h = some e) (f : ExtRec → ExtRec) : (s.onExt h f).ext h = some (f e) := by
  unfold State.ext at he ⊢
  unfold State.onExt Tab.modify
  rw [he]; exact Tab.get?_put_same _ _ _
theorem State.ext_onExt_other {h i : Nat} (hi : i ≠ h) (f : ExtRec → ExtRec) : (s.onExt h f).ext i = s.ext i := by
  unfold State.ext State.onExt Tab.modify
  split
  · exact Tab.get?_put_other _ _ hi
  · rfl

/-! ### The end of a revocation (R72) -/

/-- An extent becomes REVOKED: its counts are answered to the EXT_REVOKE (R72). -/
def State.endExtent (u : State) (h : Nat) (x : ExtRec) : State :=
  ((u.onExt h fun e => { e with st := .revoked, revokedAt := u.now }).onFab fun f =>
    { f with waits := f.waits.filter (fun r => !(r.pkt.ext == h && r.kind != .invoke))
             writes := f.writes.filter fun e => e.2.ext != h }).complete 0x0306 h 0
    (le 4 x.completed ++ le 4 x.cut ++ le 4 x.unanswered)

theorem revoked_eq {h : Nat} {x : ExtRec} (hx : s.ext h = some x) : s.revoked h = s.endExtent h x := by
  unfold State.revoked
  rw [hx]; rfl

theorem exec_drainLimitExpiry_eq {x : ExtRec} (he : s.ext ext.toNat = some e) (hst : e.st = .revoking)
    (ht : e.revokeAt + e.drainMs * msec ≤ s.now) (hx : (s.cutExtent ext.toNat).ext ext.toNat = some x) :
    exec (.drainLimitExpiry ext) s = .next ((s.cutExtent ext.toNat).endExtent ext.toNat x).dirRun := by
  show execDrainLimitExpiry ext s = _
  unfold execDrainLimitExpiry
  dsimp only
  rw [he]
  dsimp only
  rw [if_neg (by simp [hst, State.past, ht]), revoked_eq hx]

theorem exec_revokeComplete_eq {x : ExtRec} (he : s.ext ext.toNat = some e) (hst : e.st = .revoking)
    (hx : (s.recallLines ext.toNat .revoke DirEnt.holders).dirRun.ext ext.toNat = some x) (hin : x.inflight = 0)
    (hents : ∀ y ∈ (s.recallLines ext.toNat .revoke DirEnt.holders).dirRun.dir.ents, y.2.ext ≠ ext.toNat)
    (htxns : ∀ t ∈ (s.recallLines ext.toNat .revoke DirEnt.holders).dirRun.dir.txns, t.ext ≠ ext.toNat) :
    exec (.revokeComplete ext) s = .next ((s.recallLines ext.toNat .revoke DirEnt.holders).dirRun.endExtent ext.toNat x) := by
  show execRevokeComplete ext s = _
  unfold execRevokeComplete
  dsimp only
  rw [he]
  dsimp only
  rw [if_neg (by simp [hst])]
  generalize (s.recallLines ext.toNat .revoke DirEnt.holders).dirRun = u at *
  have hstill : ((u.dir.ents.any fun x => x.2.ext == ext.toNat) || u.dir.txns.any fun t => t.ext == ext.toNat) = false := by
    rw [Bool.or_eq_false_iff, List.any_eq_false, List.any_eq_false]
    exact ⟨fun y hy => by simpa using hents y hy, fun t ht => by simpa using htxns t ht⟩
  rw [hstill, hx, revoked_eq hx, if_neg (by simp [hin])]

/-! ### Sanitation (R74) -/

/-- What sanitation of an extent leaves alone: the extents, the partitions, the directory and the pages of other extents. -/
def State.beside (s : State) (h : Nat) : Tab ExtRec × Tab PtnRec × Directory × (Nat → Option PageRec) :=
  (s.exts, s.ptns, s.dir, fun k => if keyExt k = h then none else s.page k)

section Beside
variable {h : Nat}

theorem beside_of_fields {u : State} (h1 : u.exts = s.exts) (h2 : u.ptns = s.ptns) (h3 : u.dir = s.dir)
    (h4 : u.mem.pages = s.mem.pages) : u.beside h = s.beside h := by
  unfold State.beside State.page; rw [h1, h2, h3, h4]

theorem State.each_read_of_mem {α β : Type} {l : List α} {f : State → α → State} (g : State → β)
    (hf : ∀ u, ∀ x ∈ l, g (f u x) = g u) : g (s.each l f) = g s := by
  unfold State.each
  induction l generalizing s with
  | nil => rfl
  | cons x l ih => exact (ih (s := f s x) fun u y hy => hf u y (List.mem_cons_of_mem _ hy)).trans (hf s x (List.mem_cons_self ..))

theorem beside_onChan (c : Nat) (f : Channel → Channel) : (s.onChan c f).beside h = s.beside h := rfl
theorem beside_setCheck (c bank row off : Nat) (v : List Byte) : (s.setCheck c bank row off v).beside h = s.beside h := by
  unfold State.setCheck; dsimp only; split <;> rfl
theorem beside_poisonFrame (c f : Nat) : (s.poisonFrame c f).beside h = s.beside h := by
  unfold State.poisonFrame
  refine State.each_read (·.beside h) fun u n => ?_
  unfold State.poisonLine
  exact beside_setCheck ..
theorem beside_storeLine (c bank row slot mark : Nat) (d : List Byte) :
    (s.storeLine c bank row slot mark d).beside h = s.beside h := by
  unfold State.storeLine
  exact beside_setCheck ..
theorem beside_bump (r : Reg) (i : Nat) : (s.bump r i).beside h = s.beside h :=
  beside_of_fields (by simp) (by simp) (by simp) (by simp)
theorem beside_performed (wr : Option Nat) : (s.performed wr).beside h = s.beside h := by
  cases wr <;> rfl
theorem beside_storeReq (c : Nat) (r : ChanReq) : (match r.kind with
    | .write d m => (s.storeLine c r.bank ((s.chan c).rowOf r.bank r.row) r.slot m d).bump .mcWrLines c
    | .read => s).beside h = s.beside h := by
  split
  · rw [beside_bump, beside_storeLine]
  · rfl
theorem beside_drainFrame (c f : Nat) : (s.drainFrame c f).beside h = s.beside h := by
  unfold State.drainFrame
  dsimp only
  refine (beside_onChan ..).trans ((State.each_read (·.beside h) fun u r => ?_).trans
    (State.each_read (·.beside h) fun u r => beside_storeReq c r))
  exact (beside_performed _).trans (beside_storeReq c r)
theorem page_onPage_other {k j : Nat} (hj : j ≠ k) (f : PageRec → PageRec) : (s.onPage k f).page j = s.page j := by
  unfold State.page State.onPage State.onMem Tab.modify
  dsimp only
  split
  · exact Tab.get?_put_other _ _ hj
  · rfl
theorem beside_onPage {k : Nat} (hk : keyExt k = h) (f : PageRec → PageRec) : (s.onPage k f).beside h = s.beside h := by
  have hpage : (fun j => if keyExt j = h then none else (s.onPage k f).page j) = fun j => if keyExt j = h then none else s.page j := by
    funext j
    by_cases hj : keyExt j = h
    · rw [if_pos hj, if_pos hj]
    · rw [if_neg hj, if_neg hj, page_onPage_other fun hjk => hj ((congrArg keyExt hjk).trans hk)]
  unfold State.beside; rw [hpage]; rfl
/-- A frame given up leaves the pages of other extents. -/
theorem beside_freeFrame {k : Nat} (hk : keyExt k = h) : (s.freeFrame k).beside h = s.beside h := by
  unfold State.freeFrame
  split
  · split
    · rw [beside_onPage hk, beside_onChan]
    · rfl
  · rfl
theorem beside_journal (m : Nat) (rs : List JRec) : (s.journal m rs false).beside h = s.beside h := rfl

/-- The contents of one page are given up: in its frame, and in flash (R74). -/
def State.dropPage (s : State) (x : Nat × PageRec) : State :=
  let s := match x.2.frame with
    | some f => ((s.drainFrame x.2.home f).poisonFrame x.2.home f).freeFrame x.1
    | none => s
  match x.2.loc with
  | some l => (s.onFdie (dieOf x.2.home) fun d => { d with pages := Tab.del d.pages l }).journal (dieOf x.2.home) [s.pageRec 3 x.1 0] false
  | none => s
theorem beside_dropPage {x : Nat × PageRec} (hx : keyExt x.1 = h) : (s.dropPage x).beside h = s.beside h := by
  have hframe : (match x.2.frame with
      | some f => ((s.drainFrame x.2.home f).poisonFrame x.2.home f).freeFrame x.1
      | none => s).beside h = s.beside h := by
    split
    · rw [beside_freeFrame hx, beside_poisonFrame, beside_drainFrame]
    · rfl
  unfold State.dropPage
  dsimp only
  split
  · rw [beside_journal]; exact hframe
  · exact hframe

/-- The pages of an extent, and the flash operations on them, are gone (R74). -/
def State.forgetPages (s : State) (h : Nat) : State :=
  let mine (r : FlReq) : Bool := match r.op with
    | .promote k => keyExt k == h
    | .destage k _ _ _ => keyExt k == h
    | _ => false
  s.onMem fun m => { m with pages := m.pages.filter fun x => keyExt x.1 != h
                            fch := m.fch.map fun c => (c.1, { c.2 with queue := c.2.queue.filter fun r => !mine r }) }

theorem get?_filter_of_key {α : Type} {p : Nat → Bool} {k : Nat} (hk : p k = true) (t : Tab α) :
    Tab.get? (t.filter fun x => p x.1) k = Tab.get? t k := by
  induction t with
  | nil => rfl
  | cons x t ih =>
    obtain ⟨j, v⟩ := x
    by_cases hj : j = k
    · subst hj; simp [Tab.get?, hk]
    · by_cases hp : p j = true <;> simp [Tab.get?, hp, Ne.symm hj, ih]

theorem beside_forgetPages : (s.forgetPages h).beside h = s.beside h := by
  have hpage : (fun j => if keyExt j = h then none else (s.forgetPages h).page j) = fun j => if keyExt j = h then none else s.page j := by
    funext j
    by_cases hj : keyExt j = h
    · rw [if_pos hj, if_pos hj]
    · rw [if_neg hj, if_neg hj]
      exact get?_filter_of_key (p := fun k => keyExt k != h) (by simpa using hj) _
  unfold State.beside; rw [hpage]; rfl
end Beside

theorem exec_sanitationDone_eq (he : s.ext ext.toNat = some e) (hst : e.st = .revoked) (hsan : e.sanitised = false) :
    exec (.sanitationDone ext) s = .next
      ((((s.each (s.mem.pages.filter fun x => keyExt x.1 == ext.toNat) State.dropPage).forgetPages ext.toNat).journal 0
        (extRecs ext.toNat e 3 .none false) false).onExt ext.toNat fun e => { e with sanitised := true }) := by
  show execSanitationDone ext s = _
  unfold execSanitationDone
  dsimp only
  rw [he]
  dsimp only
  rw [if_neg (by simp [hst, hsan])]
  rfl

/-! ### Home timeouts, and PUBLISH (R65, R258) -/

theorem exec_homeTimeout_missing {line : BitVec 40} (he : s.ext ext.toNat = some e) {r : Recall} (hr : r ∈ s.dir.recalls)
    (hext : r.ext = ext.toNat) (hline : r.line = line.toNat) (hrev : r.forRevoke = false)
    (hlate : r.sentAt + s.reg .dirPtnTimeout e.ptn * usec ≤ s.now) (hans : r.answered = false) :
    exec (.homeTimeout ext line) s = .next
      (((s.bump .dirPtnTimeoutPoison e.ptn).poisonEnds ext.toNat line.toNat).dirRun.settleAll) := by
  show execHomeTimeout ext line s = _
  unfold execHomeTimeout
  simp only [he, Option.elim_some]
  rw [if_pos]
  rw [Bool.or_eq_true, List.any_eq_true]
  exact .inl ⟨r, hr, by simp [hext, hline, hrev, hans, State.past, hlate]⟩

theorem onDir_filter_recalls {keep : Recall → Bool} (h : ∀ r ∈ s.dir.recalls, keep r = true) :
    (s.onDir fun d => { d with recalls := d.recalls.filter keep }) = s := by
  have hself : s.dir.recalls.filter keep = s.dir.recalls := List.filter_eq_self.mpr h
  show { s with dir := { s.dir with recalls := s.dir.recalls.filter keep } } = s
  rw [hself]

theorem exec_homeTimeout_none {line : BitVec 40}
    (hr : ∀ r ∈ s.dir.recalls, r.ext ≠ ext.toNat ∨ r.line ≠ line.toNat) (htxn : s.txn ext.toNat line.toNat = none) :
    exec (.homeTimeout ext line) s = .next s.dirRun.settleAll := by
  have hmine : ∀ (b : Bool), ∀ r ∈ s.dir.recalls, (r.ext == ext.toNat && (r.line == line.toNat && b)) = false := by
    intro b r h
    rcases hr r h with h | h <;> simp [h]
  show execHomeTimeout ext line s = _
  unfold execHomeTimeout
  dsimp only
  rw [htxn]
  refine (if_neg ?_).trans (congrArg (fun u : State => Host.Outcome.next u.dirRun.settleAll) (onDir_filter_recalls fun r h => ?_))
  · simp only [Option.elim_none, Bool.or_false, Bool.not_eq_true, List.any_eq_false]
    intro r h
    simp only [Bool.and_assoc, hmine _ r h, Bool.false_and]
  · simp only [Bool.and_assoc, hmine _ r h, Bool.false_and, Bool.not_false]

/-- The comparison of a PUBLISH with the visible pair of an extent that is not mirrored (R65). -/
theorem compare_eq {r : WaitReq} {h : Nat} (hr : r.pkt.ext = h) (he : s.ext h = some e) (hm : e.mirrored = false) :
    s.compare r =
      (let v := r.pkt.arg0.toNat
       let p := r.pkt.src.toNat
       let tell (st v p : Nat) : Packet := { r.pkt.resp st with arg0 := BitVec.ofNat 64 v, arg1 := BitVec.ofNat 64 p }
       if pairHigher v p e.version e.publisher then
         (s.onExt h fun e => { e with version := v, publisher := p }).answer r true (tell 0 v p)
       else s.answer r true (tell (if v == e.version && p == e.publisher then 0 else 8) e.version e.publisher)) := by
  unfold State.compare
  dsimp only
  rw [hr, he]
  dsimp only
  cases hw : pairHigher r.pkt.arg0.toNat r.pkt.src.toNat e.version e.publisher
  · simp [he]
  · simp [hm, State.ext_onExt_same he]

end Ends

/-- Settles O42: by the rows. -/
theorem extentLifecycle : Obligations.ExtentLifecycle := by
  unfold Obligations.ExtentLifecycle
  intro s ext e h he ends
  refine ⟨fun hst ht x hx => exec_drainLimitExpiry_eq he hst ht hx, ?_, fun hst hsan => ?_, fun hst hsan ht => ?_,
    fun line => ⟨fun ⟨r, hr, hext, hline, hrev, hlate, hans⟩ => exec_homeTimeout_missing he hr hext hline hrev hlate hans,
      fun hr htxn => exec_homeTimeout_none hr htxn⟩, fun sl ep hmem => ?_, fun src tag r _ hr hext hm => ?_⟩
  · intro u hst x hx hin hents htxns
    exact exec_revokeComplete_eq he hst hx hin hents htxns
  · have hfields := (beside_forgetPages (h := h)).trans
      (State.each_read_of_mem (s := s) (l := s.mem.pages.filter fun x => keyExt x.1 == h) (f := State.dropPage) (·.beside h)
        fun u x hx => beside_dropPage (by simpa using (List.mem_filter.mp hx).2))
    generalize hu : (s.each (s.mem.pages.filter fun x => keyExt x.1 == h) State.dropPage).forgetPages h = u at hfields
    obtain ⟨hexts, hptns, hdir, hpages⟩ : u.exts = s.exts ∧ u.ptns = s.ptns ∧ u.dir = s.dir ∧
        ((fun k => if keyExt k = h then none else u.page k) = fun k => if keyExt k = h then none else s.page k) := by
      simpa [State.beside] using hfields
    have hgone : ∀ x ∈ u.mem.pages, keyExt x.1 ≠ h := by
      rw [← hu]
      intro x hx
      simpa using (List.mem_filter.mp hx).2
    refine ⟨_, (exec_sanitationDone_eq he hst hsan).trans (congrArg (fun u : State => Host.Outcome.next ((u.journal 0 _ false).onExt h _)) hu),
      hgone, fun k hk => ?_, State.ext_onExt_same (by rw [← he]; exact congrArg (fun t => Tab.get? t h) hexts) _, fun i hi => ?_, hptns, hdir⟩
    · have := congrFun hpages k
      rw [if_neg hk, if_neg hk] at this
      exact this
    · rw [State.ext_onExt_other hi]
      exact congrArg (fun t => Tab.get? t i) hexts
  · show execHandleHoldExpiry ext s = _
    unfold execHandleHoldExpiry
    dsimp only
    rw [he]
    dsimp only
    rw [if_pos (by simp [hst, hsan, State.past, ht])]
  · show execDeadHostScanDone sl ep s = _
    unfold execDeadHostScanDone
    rw [if_pos (List.contains_iff_mem.mpr hmem)]
  · have hsrc : r.pkt.src = src := by
      have hok := List.find?_some hr
      simp only [Bool.and_eq_true, beq_iff_eq] at hok
      exact hok.1.1.1.2
    have hrow : exec (.publishCompare src tag) s = .next ((s.onFab fun f => { f with waits := f.waits.erase r }).compare r) := by
      show execPublishCompare src tag s = _
      unfold execPublishCompare
      dsimp only
      rw [hr]
    have hcmp := compare_eq (s := s.onFab fun f => { f with waits := f.waits.erase r }) hext he hm
    rw [hrow, hcmp, hsrc]
    dsimp only
    refine ⟨fun hwin => ?_, fun ⟨hv, hp⟩ => ?_, fun hlose => ?_⟩
    · rw [if_pos (pairHigher_iff.mpr (by omega))]
    · rw [if_neg fun hw => by have := pairHigher_iff.mp hw; omega, if_pos (by simp [hv, hp]), ← hv, ← hp]
    · rw [if_neg fun hw => by have := pairHigher_iff.mp hw; omega, if_neg (by simp; omega)]

end Sys2Proof.Machine
end

section
/-! PROOFS. Dealing, baskets, time limits and faults (R190, R194, R199, R209 to R224). -/
namespace Sys2Proof.Machine

section
variable {s : State}

/-! ### Invocations (R199, R209) -/

theorem exec_workItemDeal_loaded {q : Ptn} {k : Nat} {v : Inv}
    (h : ((s.reserveAll q).readyInvs q).find? (fun x => (s.reserveAll q).startable x.2) = some (k, v)) (hk : 0x8000 ≤ v.kernel) :
    exec (.workItemDeal q) s = .next (((s.reserveAll q).each v.reserved fun s g => s.lead g).onInv k fun v =>
      { v with st := .running, prep := v.reserved }) := by
  show execWorkItemDeal q s = _
  unfold execWorkItemDeal
  dsimp only
  rw [h]
  dsimp only
  rw [if_neg (Nat.not_lt.mpr hk)]

theorem exec_workItemDeal_stock {q : Ptn} {k : Nat} {v : Inv} {x : State}
    (h : ((s.reserveAll q).readyInvs q).find? (fun x => (s.reserveAll q).startable x.2) = some (k, v)) (hk : v.kernel < 0x8000)
    (hx : (((s.reserveAll q).each v.reserved fun s g => s.lead g).homeCopies
      (((s.reserveAll q).each v.reserved fun s g => s.lead g).kernelStale v)) = (x, true)) :
    exec (.workItemDeal q) s = .next (x.runStock k) := by
  show execWorkItemDeal q s = _
  unfold execWorkItemDeal
  dsimp only
  rw [h]
  dsimp only
  rw [if_pos hk, hx]

theorem exec_tilePreparationDone_eq {g : Clu} {k : Nat} {v : Inv} {im : Image}
    (h : s.deal.invs.find? (fun e => e.2.prep.contains g.val) = some (k, v)) (him : s.image v.ptn v.kernel = some im)
    (hrun : (s.clu g).clockRun = true) (hclr : (s.clu g).clearing = false) :
    exec (.tilePreparationDone g) s = .next
      (let held := s.onClu g fun c => { c with
         store := if bit im.flags 2 then c.store else Mem.clear c.store 0 im.csBytes,
         cards := if bit im.flags 3 then c.cards else c.cards.filter fun e => decide (im.cards ≤ e.1) }
       let set := held.each (List.range v.tiles) fun s t =>
         s.onTile (17 * g.val + (s.clu g).phys t) (prepTile im v k (v.reserved.idxOf g.val) t s.now)
       (set.onInv k fun v => { v with
         prep := v.prep.erase g.val, startedAt := if v.startedAt = 0 then set.now else v.startedAt }).lead g) := by
  show Host.Outcome.next (s.prepared g) = _
  unfold State.prepared
  rw [h]
  dsimp only
  rw [him]
  dsimp only
  rw [if_neg (by simp [hrun, hclr])]

/-! ### Baskets (R216, R217, R219, R220, R224) -/

theorem exec_basketDeadline_eq {k : BitVec 32} {b c : Basket} (hb : Tab.get? s.deal.baskets k.toNat = some b)
    (hc : Tab.get? (s.dealStep b.ptn).deal.baskets k.toNat = some c) (hopen : c.closed = false)
    (ht : c.deadline ≤ (s.dealStep b.ptn).now) (hroom : (s.dealStep b.ptn).queuedBaskets c.ptn < 1024) :
    exec (.basketDeadline k) s = .next (((s.dealStep b.ptn).closeBasket k.toNat).bump .dealCloseDeadline c.ptn) := by
  show execBasketDeadline k s = _
  unfold execBasketDeadline
  rw [hb]
  dsimp only
  rw [hc]
  dsimp only [Option.getD_some]
  rw [if_neg]
  simp [hopen, Nat.not_lt.mpr ht, Nat.not_le.mpr hroom]

/-- The clusters in use that hold a slot of a basket's expert (R217). -/
def State.slotsOf (u : State) (b : Basket) : List Nat :=
  ((u.model b.ptn b.model).elim [] fun m => Tab.getD m.slots b.expert []).filter fun g => !(u.clu g).lost && !(u.isDeferred 0x0106 g)

/-- The first of the entries with the least key. -/
def pickLeast (key : Nat → Nat) (l : List Nat) (b : Option Nat) : Option Nat :=
  l.foldl (fun (b : Option Nat) g => match b with | none => some g | some x => if key g < key x then some g else b) b
theorem pickLeast_eq_pickBest (key : Nat → Nat) (l : List Nat) (b : Option Nat) :
    pickLeast key l b = pickBest (fun g x => decide (key g < key x)) l b := by
  induction l generalizing b with
  | nil => rfl
  | cons g l ih =>
    cases b with
    | none => exact ih (some g)
    | some x =>
      have hstep : (if key g < key x then some g else some x) = if decide (key g < key x) then some g else some x := by
        simp only [decide_eq_true_eq]
      exact (ih _).trans (congrArg (pickBest _ l) hstep)

theorem exec_basketDeal_eq {q : Ptn} {g : Clu} {k : Nat} {b : Basket} {m : Model} {l1 l2 : List Nat}
    (h : firstClosed ((s.dealStep q).deal.baskets.filter fun b => b.2.ptn == q.val && b.2.closed && b.2.cluster.isNone &&
      !((s.dealStep q).slotsOf b.2).isEmpty) = some (k, b))
    (hm : (s.dealStep q).model b.ptn b.model = some m)
    (hsplit : ((s.dealStep q).owned q).filter (fun g => ((s.dealStep q).slotsOf b).contains g) = l1 ++ g.val :: l2)
    (h1 : ∀ x ∈ l1, (s.dealStep q).queuedTokens g < (s.dealStep q).queuedTokens x)
    (h2 : ∀ x ∈ l2, (s.dealStep q).queuedTokens g ≤ (s.dealStep q).queuedTokens x) :
    exec (.basketDeal q) s = .next
      (let u := s.dealStep q
       let put := ((u.onDeal fun d =>
         { d with baskets := Tab.put d.baskets k { b with cluster := some g.val }, nextDeal := u.deal.nextDeal + 1 }).onModel b.ptn
           b.model fun m => { m with dealt := Tab.put m.dealt b.expert u.deal.nextDeal }).wakeClus [g.val]
       if m.hasExpert b.expert then put else put.basketWaits b) := by
  show execBasketDeal q s = _
  unfold execBasketDeal
  dsimp only
  generalize s.dealStep q = u at *
  have hbest : pickLeast u.queuedTokens ((u.owned q).filter (u.slotsOf b).contains) none = some g.val := by
    rw [show (u.owned q).filter (u.slotsOf b).contains = _ from hsplit, pickLeast_eq_pickBest]
    exact pickBest_eq none (fun _ h => nomatch h) (fun x hx => decide_eq_true (h1 x hx))
      (fun x hx => decide_eq_false (Nat.not_lt.mpr (h2 x hx)))
  change (match firstClosed (u.deal.baskets.filter fun b => b.2.ptn == q.val && b.2.closed && b.2.cluster.isNone &&
      !(u.slotsOf b.2).isEmpty) with | none => _ | some (k, b) => _) = _
  rw [h]
  dsimp only
  change (match pickLeast u.queuedTokens ((u.owned q).filter (u.slotsOf b).contains) none, u.model b.ptn b.model with
    | some g, some m => _ | _, _ => _) = _
  rw [hbest, hm]

/-- The invocations with a token in a basket, each once. -/
def Basket.keys (b : Basket) : List Nat := (b.entries.map Prod.fst).eraseDups
/-- One of a basket's invocations has run for longer than its time limit (R194). -/
def State.lateIn (u : State) (b : Basket) : Bool :=
  b.keys.any fun k => (u.inv k).elim false fun v => v.startedAt != 0 && u.past v.startedAt (u.limitUs v * usec)

theorem lateIn_iff {u : State} {b : Basket} : u.lateIn b = true ↔
    ∃ x ∈ b.keys, ∃ v, u.inv x = some v ∧ v.startedAt ≠ 0 ∧ v.startedAt + u.limitUs v * usec ≤ u.now := by
  rw [State.lateIn, List.any_eq_true]
  refine exists_congr fun x => and_congr_right fun _ => ?_
  cases u.inv x <;> simp [State.past]

theorem each_congr_now {α : Type} {l : List α} {f : State → α → State} {g : Nat → State → α → State}
    (hf : ∀ u x, f u x = g u.now u x) (hnow : ∀ n u x, (g n u x).now = u.now) {u : State} : u.each l f = u.each l (g u.now) := by
  unfold State.each
  induction l generalizing u with
  | nil => rfl
  | cons x l ih =>
    rw [List.foldl_cons, List.foldl_cons, hf, ih, hnow]

/-- The invocations of a basket start with the first of their baskets. -/
def State.startBasket (u : State) (b : Basket) : State :=
  u.each b.keys fun s k => s.onInv k fun v => { v with startedAt := if v.startedAt = 0 then u.now else v.startedAt }

theorem runBasket_eq {u : State} {m : Model} {g : Nat} {b : Basket} : u.runBasket m g b =
    if u.lateIn b then u.each b.keys fun s k => s.endInv k 9 (some (dealerReport { code := 0x0B } 1))
    else (u.startBasket b).runEntries m g b (b.entries.zip b.weights) := by
  have hstart : (u.each b.keys fun s k => s.onInv k fun v =>
      { v with startedAt := if v.startedAt = 0 then s.now else v.startedAt }) = u.startBasket b :=
    each_congr_now (g := fun n s k => s.onInv k fun v => { v with startedAt := if v.startedAt = 0 then n else v.startedAt })
      (fun _ _ => rfl) (fun _ _ _ => rfl)
  unfold State.runBasket
  dsimp only
  rw [← Basket.keys, hstart]
  rfl

theorem exec_basketStart_waits {g : Clu} {k : Nat} {b : Basket} {m : Model}
    (h : firstClosed (s.deal.baskets.filter fun b => b.2.cluster == some g.val) = some (k, b)) (hm : s.model b.ptn b.model = some m)
    (he : m.hasExpert b.expert = false) : exec (.basketStart g) s = .next (s.basketWaits b) := by
  show execBasketStart g s = _
  unfold execBasketStart
  rw [h]
  dsimp only
  rw [hm]
  dsimp only
  rw [if_pos (by simp [he])]

theorem exec_basketStart_runs {g : Clu} {k : Nat} {b : Basket} {m : Model}
    (h : firstClosed (s.deal.baskets.filter fun b => b.2.cluster == some g.val) = some (k, b)) (hm : s.model b.ptn b.model = some m)
    (he : m.hasExpert b.expert = true) (hi : s.idleClu g = true) (hr : (s.clu g).clockRun = true) :
    exec (.basketStart g) s = .next
      (((((s.onDeal fun d => { d with baskets := Tab.del d.baskets k }).lead g).runBasket m g b).unloads b.ptn).dealStep b.ptn) := by
  show execBasketStart g s = _
  unfold execBasketStart
  rw [h]
  dsimp only
  rw [hm]
  dsimp only
  rw [if_neg (by simp [he]), if_neg (by simp [hi, hr])]

/-- The cache of two keeps the expert dealt later (R224). -/
theorem cache_promoted {m : Model} {e x y : Nat} (h : m.cache = [x, y]) (hxy : x ≠ y) :
    (m.promoted e).cache = if Tab.getD m.dealt y 0 < Tab.getD m.dealt x 0 then [x, e] else [y, e] := by
  unfold Model.promoted
  simp only [h, List.foldl_cons, List.foldl_nil, List.length_cons, List.length_nil, Nat.zero_add, Nat.reduceAdd, Nat.le_refl, if_true]
  split
  · simp [hxy]
  · simp

theorem findSome?_range {β : Type} {n i : Nat} {f : Nat → Option β} {y : β} (hi : i < n) (hbefore : ∀ j, j < i → f j = none)
    (h : f i = some y) : (List.range n).findSome? f = some y := by
  have hsplit : List.range n = List.range i ++ i :: (List.range n).drop (i + 1) := by
    have htake : (List.range n).take i = List.range i := by rw [List.take_range, Nat.min_eq_left (Nat.le_of_lt hi)]
    have hdrop : (List.range n).drop i = i :: (List.range n).drop (i + 1) := by
      rw [List.drop_eq_getElem_cons (by simpa using hi)]; simp
    rw [← htake, ← hdrop, List.take_append_drop]
  rw [hsplit, List.findSome?_append, List.findSome?_eq_none_iff.mpr fun j hj => hbefore j (List.mem_range.mp hj), Option.none_or,
    List.findSome?_cons, h]

/-- Which operations read an expert of a model of a partition (R224). -/
def readsExpert (q model expert : Nat) (r : FlReq) : Bool :=
  match r.op with | .expert m e => m == model && e == expert && r.ptn == q | _ => false

theorem exec_expertPromotionDone_eq {q : Ptn} {model expert : BitVec 16} {c : Nat} {r : FlReq} (hc : c < 32)
    (hbefore : ∀ j, j < c → (s.fch j).queue.find? (fun r => r.started && readsExpert q model.toNat expert.toNat r) = none)
    (h : (s.fch c).queue.find? (fun r => r.started && readsExpert q model.toNat expert.toNat r) = some r) :
    exec (.expertPromotionDone q model expert) s = .next
      (((s.onFch c fun x => { x with queue := x.queue.erase r }).onModel q model.toNat fun m =>
        m.promoted expert.toNat).bump .flChReads c) := by
  have hfind : ((List.range 32).findSome? fun c => (s.takeOp c (readsExpert q model.toNat expert.toNat)).map fun x => (c, x.2)) =
      some (c, s.onFch c fun x => { x with queue := x.queue.erase r }) :=
    findSome?_range hc (fun j hj => by rw [State.takeOp, hbefore j hj]; rfl) (by rw [takeOp_eq_some h]; rfl)
  show execExpertPromotionDone q model expert s = _
  unfold execExpertPromotionDone
  dsimp only
  change (match (List.range 32).findSome? fun c =>
    (s.takeOp c (readsExpert q model.toNat expert.toNat)).map fun x => (c, x.2) with | none => _ | some (f, s) => _) = _
  rw [hfind]

/-! ### Time limits and faults (R190, R194) -/

theorem exec_invocationTimeLimit_input {k : BitVec 32} {v : Inv} (hv : s.inv k.toNat = some v) (hst : v.st = .input)
    (ht : v.acceptedAt + s.limitUs v * usec ≤ s.now) :
    exec (.invocationTimeLimit k) s = .next (s.endInv k.toNat 9 (some (dealerReport { code := 0x0B } v.kernel))) := by
  show execInvocationTimeLimit k s = _
  unfold execInvocationTimeLimit
  rw [hv]
  dsimp only
  rw [if_pos (by simp [hst, State.past, ht])]
  rfl

theorem exec_invocationTimeLimit_running {k : BitVec 32} {v : Inv} {x : Nat × Nat × Nat} {xs : List (Nat × Nat × Nat)}
    (hv : s.inv k.toNat = some v) (hst : v.st = .running) (h0 : v.startedAt ≠ 0) (ht : v.startedAt + s.limitUs v * usec ≤ s.now)
    (hrun : (s.tilesOf v).filter (fun x => (s.tile x.1).st == .running && (s.tile x.1).invKey == some k.toNat) = x :: xs) :
    exec (.invocationTimeLimit k) s = .next
      (let u := s.each (x :: xs) fun s x => s.onTile x.1 fun t => t.limitFault s.now t.pc { code := 0x0B }
       u.endInv k.toNat 9 (some (u.tileReport v x { code := 0x0B }))) := by
  show execInvocationTimeLimit k s = _
  unfold execInvocationTimeLimit
  rw [hv]
  dsimp only
  rw [if_neg (by simp [hst]), if_pos (by simp [hst, h0, State.past, ht]), hrun]
  rfl

theorem exec_collectiveTimeLimit_eq {k : BitVec 32} {c : Coll} (hc : Tab.get? s.deal.colls k.toNat = some c)
    (ht : c.openedAt + s.reg .dealTlimit c.ptn * usec ≤ s.now) :
    exec (.collectiveTimeLimit k) s = .next
      (let u := (s.each c.clusters fun s g => s.onClu g fun x => { x with cards := [] }).onDeal fun d =>
         { d with colls := Tab.del d.colls k.toNat }
       let waits := (u.invsOf c.ptn).filter fun e => e.2.kernel == 5 && e.2.st == .ready && field e.2.args 0 4 == c.id
       u.each (c.ranks.map Prod.snd ++ waits.map Prod.fst) fun s x => s.endInv x 9 (some (dealerReport { code := 0x0B } 5))) := by
  show execCollectiveTimeLimit k s = _
  unfold execCollectiveTimeLimit
  rw [hc]
  dsimp only
  rw [if_neg (by simp [State.past, ht])]
  rfl

theorem exec_invocationFaultStop_eq {g : Clu} {t : Til} {f r : TileFault} {key : Nat} {v : Inv} {y : Nat × Nat × Nat}
    (hf : (s.tile (17 * g.val + (s.clu g).phys t)).report = some f)
    (hk : (s.tile (17 * g.val + (s.clu g).phys t)).invKey = some key) (hv : s.inv key = some v)
    (hy : (s.tilesOf v).find? (fun y => (s.tile y.1).report.isSome && (s.tile y.1).invKey == some key &&
      decide ((s.tile y.1).faultAt / 40 = (s.tile (17 * g.val + (s.clu g).phys t)).faultAt / 40)) = some y)
    (hr : (s.tile y.1).report = some r) :
    exec (.invocationFaultStop g t) s = .next (s.endInv key 9 (some (s.tileReport v y r))) := by
  show execInvocationFaultStop g t s = _
  unfold execInvocationFaultStop
  dsimp only
  rw [hf, hk]
  dsimp only
  rw [hv]
  dsimp only
  rw [hy]
  dsimp only [Option.getD_some]
  rw [hr]
  rfl

end

/-- Settles O44: by the rows, and by what the cache of two keeps. -/
theorem dealingAndLimits : Obligations.DealingAndLimits := by
  unfold Obligations.DealingAndLimits
  refine ⟨fun s q g => ⟨fun k v => ?_, fun k v im h him hrun hclr => exec_tilePreparationDone_eq h him hrun hclr, fun k b c => ?_,
      fun k b m => ?_, fun k b m h hm => ?_, fun m e x y h hxy => cache_promoted h hxy, fun model expert c r => ?_⟩,
    fun s k v => ⟨fun hv => ⟨fun hst ht => exec_invocationTimeLimit_input hv hst ht,
      fun hst h0 ht x xs hrun => exec_invocationTimeLimit_running hv hst h0 ht hrun⟩,
      fun c hc ht => exec_collectiveTimeLimit_eq hc ht,
      fun g t f key => fun hf hk hv y r hy hr => exec_invocationFaultStop_eq hf hk hv hy hr⟩⟩
  · intro u h w
    exact ⟨fun hk => exec_workItemDeal_loaded h hk, fun hk x hx => exec_workItemDeal_stock h hk hx⟩
  · intro u hb hc hopen ht hroom
    exact exec_basketDeadline_eq hb hc hopen ht hroom
  · intro u slots h hm l1 l2 hsplit h1 h2 put
    have hrow := exec_basketDeal_eq h hm hsplit h1 h2
    exact ⟨fun he => hrow.trans (by rw [he]; rfl), fun he => hrow.trans (by rw [he]; rfl)⟩
  · intro u ks late done
    refine ⟨fun he => exec_basketStart_waits h hm he, fun he hi hr => ?_⟩
    have hrow := exec_basketStart_runs h hm he hi hr
    rw [runBasket_eq] at hrow
    refine ⟨fun hl => ?_, fun hl => ?_⟩
    · rw [hrow, if_neg fun h => hl (lateIn_iff.mp h)]; rfl
    · rw [hrow, if_pos (lateIn_iff.mpr hl)]; rfl
  · intro isIt hc hbefore hr
    exact exec_expertPromotionDone_eq hc hbefore hr

end Sys2Proof.Machine
end

section
/-! PROOFS. Streams, barriers, clearings, self-tests, faults and resets of clusters (R118, R183 to R187, R402 to R405, R494). -/
namespace Sys2Proof.Machine

section
variable {s : State} {g : Clu} {q : Ptn}

/-! ### Streams (R183 to R185, R190) -/

theorem onTile_congr {k : Nat} {f f' : Tile → Tile} (h : f (s.tile k) = f' (s.tile k)) : s.onTile k f = s.onTile k f' := by
  unfold State.onTile; rw [h]

section Streams
variable {t : Til} {e : Fin 4} {pc k : Nat} {l : List Byte} {rest : List (Nat × List Byte)} {v : Inv}

/-- The tile of a command, as a key. -/
def State.tileKey (s : State) (g : Clu) (t : Til) : Nat := 17 * g.val + (s.clu g).phys t
/-- The addresses a descriptor reads from a window (R185). -/
def State.streamReads (s : State) (g : Clu) (t : Til) (v : Inv) (d : Stream) : List Nat :=
  if d.srcSpace = 2 then d.reads v (s.tile (s.tileKey g t)) (s.clu g) (d.rows * d.planes) 0 else []

variable (hst : (s.tile (s.tileKey g t)).st = .running)
  (hq : Tab.getD (s.tile (s.tileKey g t)).streams e.val [] = (pc, l) :: rest)
  (hk : (s.tile (s.tileKey g t)).invKey = some k) (hv : s.inv k = some v)
include hst hq hk hv

/-- The first descriptor of an engine, once its tile's invocation is known. -/
theorem exec_streamComplete_eq : exec (.streamComplete g t e) s =
    (let d := Stream.ofBytes l
     let key := s.tileKey g t
     let fail (s : State) (f : TileFault) : State := s.onTile key fun x => x.limitFault s.now pc f
     if !d.ok then .next (fail s { code := fParam }) else
     match s.homeCopies (s.modified v (d.touches (s.streamReads g t v d))) with
     | (s, false) => .next s.dirRun
     | (s, true) =>
       match streamRows v k g key d (d.rows * d.planes) 0 s with
       | (s, some f) => .next (fail s f).dirRun
       | (s, none) =>
         .next ((s.onTile key fun x =>
           let x := { x with streams := Tab.set [] x.streams e.val rest }
           match x.wait with
           | .streams m => if x.drained m then { x with wait := .none } else x
           | _ => x).lead g).dirRun) := by
  show execStreamComplete g t e s = _
  unfold execStreamComplete
  extract_lets key x
  have hbind : (x.invKey.bind fun k => (s.inv k).map fun v => (k, v)) = some (k, v) := by
    rw [show x.invKey = some k from hk, Option.bind_some, hv]; rfl
  rw [show x.st = .running from hst, show Tab.getD x.streams e.val [] = _ from hq, hbind] <;> rfl
theorem exec_streamComplete_bad (hd : (Stream.ofBytes l).ok = false) :
    exec (.streamComplete g t e) s = .next (s.onTile (s.tileKey g t) fun x => x.limitFault s.now pc { code := 0x03 }) := by
  rw [exec_streamComplete_eq hst hq hk hv]
  dsimp only
  rw [if_pos (by simp [hd])]
  rfl

theorem exec_streamComplete_fault {u w : State} {f : TileFault} (hd : (Stream.ofBytes l).ok = true)
    (hu : s.homeCopies (s.modified v ((Stream.ofBytes l).touches (s.streamReads g t v (Stream.ofBytes l)))) = (u, true))
    (hw : streamRows v k g (s.tileKey g t) (Stream.ofBytes l) ((Stream.ofBytes l).rows * (Stream.ofBytes l).planes) 0 u = (w, some f)) :
    exec (.streamComplete g t e) s = .next (w.onTile (s.tileKey g t) fun x => x.limitFault w.now pc f).dirRun := by
  rw [exec_streamComplete_eq hst hq hk hv]
  dsimp only
  rw [if_neg (by simp [hd]), hu]
  dsimp only
  rw [hw]

theorem exec_streamComplete_done {u w : State} (hd : (Stream.ofBytes l).ok = true)
    (hu : s.homeCopies (s.modified v ((Stream.ofBytes l).touches (s.streamReads g t v (Stream.ofBytes l)))) = (u, true))
    (hw : streamRows v k g (s.tileKey g t) (Stream.ofBytes l) ((Stream.ofBytes l).rows * (Stream.ofBytes l).planes) 0 u = (w, none))
    (hwait : (w.tile (s.tileKey g t)).wait = .none) :
    exec (.streamComplete g t e) s = .next (((w.onTile (s.tileKey g t) fun x =>
      { x with streams := Tab.set [] x.streams e.val rest }).lead g).dirRun) := by
  rw [exec_streamComplete_eq hst hq hk hv]
  dsimp only
  rw [if_neg (by simp [hd]), hu]
  dsimp only
  rw [hw]
  dsimp only
  refine congrArg (fun u : State => Host.Outcome.next (u.lead g).dirRun) (onTile_congr ?_)
  rw [hwait]
end Streams

/-! ### Barriers (R187) -/

/-- A tile that waits at a barrier goes on. -/
def State.passBar (s : State) (k : Nat) : State := s.onTile k fun t => { t with wait := .none }.next

theorem tile_passBar_other {k j : Nat} (h : j ≠ k) : (s.passBar k).tile j = s.tile j := by
  unfold State.passBar State.tile State.onTile
  exact Tab.getD_set_other _ _ h _

/-- A tile that waits at a barrier of a scope. -/
def Tile.waitsAt (c : Nat) (x : Tile) : Bool := match x.wait with | .bar d _ => d == c | _ => false

theorem each_passBar {c : Nat} {ks : List Nat} (hnd : ks.Nodup) (h : ∀ x ∈ ks, (s.tile x).waitsAt c = true) :
    (s.each ks fun s k => if (s.tile k).waitsAt c then s.passBar k else s) = s.each ks State.passBar := by
  unfold State.each
  induction ks generalizing s with
  | nil => rfl
  | cons k ks ih =>
    obtain ⟨hk, hnd⟩ := List.nodup_cons.mp hnd
    rw [List.foldl_cons, List.foldl_cons, if_pos (h k (List.mem_cons_self ..))]
    refine ih hnd fun x hx => ?_
    rw [tile_passBar_other (fun hxk => by rw [hxk] at hx; exact hk hx)]
    exact h x (List.mem_cons_of_mem _ hx)

theorem exec_barrierRelease_eq {all : Bool} {k : Nat} {v : Inv}
    (hk : s.deal.invs.find? (fun e => e.2.st == .running && e.2.reserved.contains g.val) = some (k, v)) (hp : v.prep = [])
    (hbar : ∀ x ∈ s.scopeOf v g (b2n all), (s.tile x).st = .running ∧ ∃ n, (s.tile x).wait = .bar (b2n all) n)
    (hnd : (s.scopeOf v g (b2n all)).Nodup) :
    exec (.barrierRelease g all) s = .next (s.each (s.scopeOf v g (b2n all)) State.passBar) := by
  have hat : ∀ x ∈ s.scopeOf v g (b2n all), (s.tile x).waitsAt (b2n all) = true := fun x hx => by
    obtain ⟨-, n, hn⟩ := hbar x hx
    unfold Tile.waitsAt; rw [hn]; simp
  show execBarrierRelease g all s = _
  unfold execBarrierRelease
  rw [hk]
  dsimp only
  rw [if_pos]
  · exact congrArg Host.Outcome.next (each_passBar hnd hat)
  · rw [hp, List.isEmpty_nil, Bool.true_and, List.all_eq_true]
    intro x hx
    obtain ⟨hst, n, hn⟩ := hbar x hx
    rw [hst, hn]; rfl

/-! ### Clearings and self-tests (R118, R494) -/

theorem exec_clearingEnd_eq (hc : (s.clu g).clearing = true) (ht : (s.clu g).clearStart + 81920 ≤ s.now) :
    exec (.clearingEnd g) s = .next (s.cleared g).clusterResets := by
  show execClearingEnd g s = _
  unfold execClearingEnd
  rw [if_pos (by simp [hc, State.past, ht])]

theorem exec_tileSelfTest_eq {began : Nat} (bad : Option (Fin 17)) (hr : (s.clu g).clockRun = false)
    (ht : (s.clu g).test = some began) (hp : began + 200 * usec ≤ s.now) :
    exec (.tileSelfTest g bad) s = .next
      (let tested := s.onClu g fun c => { c with hung := false, test := none, testedAt := s.now }
       (bad.elim tested fun t => tested.tileFails g t).complete 0x0804 g 0 (le 4 (bad.elim 0 fun t => 2 ^ t.val))) := by
  have hend : s.testEnds g = true := by
    unfold State.testEnds; rw [hr, ht]; simp [State.past, hp]
  show execTileSelfTest g bad s = _
  unfold execTileSelfTest
  rw [if_neg (by simp [hend])]
  cases bad <;> rfl

/-! ### Faults and resets of a partition (R402 to R405) -/

/-- A cause found in an ACTIVE partition: it is FAULTED and its work ends; with AUTO_RESET a reset starts (R402, R403). -/
def State.faultActive (s : State) (p cause : Nat) : State :=
  let u := ((s.bump .ptnFaults p).onPtn p fun x => { x with st := .faulted, cause := cause }).endPtn p
  if u.reg .ptnCfgAutoReset p = 1 then u.startReset p else u

theorem ptnFault_eq {p cause : Nat} (h : (s.ptn p).st = .active) : s.ptnFault p cause = s.faultActive p cause := by
  have hb : ((s.bump .ptnFaults p).ptn p).st = .active := h
  unfold State.ptnFault
  dsimp only
  rw [if_neg (by simp [h]), if_neg (by simp [hb])]
  rfl

theorem exec_clusterHang_eq {p : Nat} (hp : s.cluPtn g = some p) (h : (s.ptn p).st = .active) :
    exec (.clusterHang g) s = .next ((s.onClu g fun c => { c with hung := true }).faultActive p 3) := by
  show execClusterHang g s = _
  unfold execClusterHang
  rw [hp]
  exact congrArg Host.Outcome.next (ptnFault_eq (s := s.onClu g fun c => { c with hung := true }) h)

/-- The completion of a command of one object leaves those of another deferred. -/
theorem isDeferred_complete_other {op obj st op' obj' : Nat} {body : List Byte} (h : obj' ≠ obj) :
    (s.complete op obj st body).isDeferred op' obj' = s.isDeferred op' obj' := by
  unfold State.isDeferred State.complete
  rw [List.any_map]
  refine congrArg s.mbx.any (funext fun e => ?_)
  simp only [Function.comp, List.any_filter]
  refine congrArg e.2.deferred.any (funext fun d => ?_)
  by_cases hd : d.obj = obj'
  · simp [hd, h]
  · simp [hd]

theorem exec_ptnResetDone_eq (hst : (s.ptn q).st = .resetting) (hc : (s.ptn q).clearing = [])
    (hd : s.isDeferred 0x0202 (q + 64) = false) :
    exec (.ptnResetDone q) s = .next
      ((((s.each ptnCounters fun s r => s.setReg r q 0).onPtn q fun p => { p with st := .active, cause := 0 }).bump
        .ptnResets q).complete 0x0202 q 0 []) := by
  have hmbx : ((((s.each ptnCounters fun s r => s.setReg r q 0).onPtn q fun p => { p with st := .active, cause := 0 }).bump
      .ptnResets q).isDeferred 0x0202 (q + 64)) = s.isDeferred 0x0202 (q + 64) := by
    unfold State.isDeferred
    rw [State.bump_mbx, State.onPtn_mbx, State.each_read (f := fun s r => s.setReg r q 0) (·.mbx) fun _ _ => rfl]
  show execPtnResetDone q s = _
  unfold execPtnResetDone
  dsimp only
  rw [if_neg (by simp [hst, hc]), isDeferred_complete_other (by omega), hmbx, hd, if_neg (by simp)]

end

/-- Settles O45: by the rows. -/
theorem clusterEvents : Obligations.ClusterEvents := by
  unfold Obligations.ClusterEvents
  intro s g q
  refine ⟨fun t e pc l rest k v => ?_, fun all k v => ?_, fun hc ht => exec_clearingEnd_eq hc ht, fun began hr ht hp => ?_, ?_,
    fun hst hc hd => exec_ptnResetDone_eq hst hc hd⟩
  · intro key x d fail hst hq hk hv
    refine ⟨fun hd => exec_streamComplete_bad hst hq hk hv hd, ?_⟩
    intro rows hd u hu
    exact ⟨fun w f hw => exec_streamComplete_fault hst hq hk hv hd hu hw,
      fun w hw hwait => exec_streamComplete_done hst hq hk hv hd hu hw hwait⟩
  · intro ks hk hp hbar hnd
    exact exec_barrierRelease_eq hk hp hbar hnd
  · exact ⟨exec_tileSelfTest_eq none hr ht hp, fun t => exec_tileSelfTest_eq (some t) hr ht hp⟩
  · exact ⟨fun h => ⟨congrArg Host.Outcome.next (ptnFault_eq h), congrArg Host.Outcome.next (ptnFault_eq h)⟩,
      fun p hp h => exec_clusterHang_eq hp h⟩

end Sys2Proof.Machine
end

section
/-! PROOFS. The arrival of a packet: what receiving, filtering, policing and accepting it leave alone, and where an accepted packet
goes (R23, R90, R104, R107, R276). -/
namespace Sys2Proof.Machine

section
variable {s : State} {n vc : Nat} {p : Packet}

/-! ### What the path of a packet leaves alone -/

/-- The part of an extent's record that requests on their way do not change. -/
def ExtRec.pub (e : ExtRec) : Nat × Nat × Nat × Bool := (e.version, e.publisher, e.policy, e.tracked)
/-- The part of the state that a packet on its way does not change: board, clock, pair, security, and the extents but for the
requests counted on them. -/
def State.aside (s : State) : Board × Nat × Partner × Sec × (Nat → Option (Nat × Nat × Nat × Bool)) :=
  (s.board, s.now, s.prt, s.sec, fun h => (s.ext h).map ExtRec.pub)

theorem aside_of_fields {u : State} (h1 : u.board = s.board) (h2 : u.now = s.now) (h3 : u.prt = s.prt) (h4 : u.sec = s.sec)
    (h5 : u.exts = s.exts) : u.aside = s.aside := by
  unfold State.aside State.ext; rw [h1, h2, h3, h4, h5]

theorem aside_onExt {h : Nat} {f : ExtRec → ExtRec} (hf : ∀ e, (f e).pub = e.pub) : (s.onExt h f).aside = s.aside := by
  have hext : (fun i => ((s.onExt h f).ext i).map ExtRec.pub) = fun i => (s.ext i).map ExtRec.pub := by
    funext i
    by_cases hi : i = h
    · subst hi
      cases he : s.ext i with
      | none =>
        have : s.onExt i f = s := by unfold State.onExt Tab.modify; unfold State.ext at he; rw [he]
        rw [this, he]
      | some e => rw [State.ext_onExt_same he]; exact congrArg some (hf e)
    · rw [State.ext_onExt_other hi]
  unfold State.aside; rw [hext]; rfl

theorem aside_takeRx : (s.takeRx n vc p).aside = s.aside := by
  unfold State.takeRx; split <;> rfl
theorem aside_freeCredit (f : Nat) : (s.freeCredit n vc f).aside = s.aside := aside_of_fields rfl rfl rfl rfl rfl
theorem aside_gone (h : Nat) : (s.gone h).aside = s.aside := aside_onExt fun _ => rfl
theorem aside_accepted (h : Nat) : (s.accepted h).aside = s.aside := aside_onExt fun _ => rfl
theorem aside_performed (w : Option Nat) : (s.performed w).aside = s.aside := by cases w <;> rfl
theorem aside_purge (src dst : Nat) (h : BitVec 32) : (s.purge src dst h).aside = s.aside := by
  unfold State.purge
  exact (State.each_read State.aside fun u e => aside_performed _).trans (State.each_read State.aside fun u e => aside_gone _)
theorem aside_bump (r : Reg) (i : Nat) : (s.bump r i).aside = s.aside := aside_of_fields rfl rfl rfl rfl rfl
theorem aside_filter (side : Nat) : (s.filter side p).2.aside = s.aside := by
  unfold State.filter
  dsimp only
  split
  · exact aside_purge ..
  · exact aside_bump ..
  · exact aside_bump ..
theorem aside_police (m pre b : Nat) : (s.police m pre b).2.aside = s.aside := by
  unfold State.police
  dsimp only
  repeat' split
  all_goals exact aside_bump ..
theorem aside_count (link q qty k : Nat) : (s.count link q qty k).aside = s.aside := by
  unfold State.count; split <;> rfl
theorem aside_passed6 (port : Nat) : (s.passed6 port p).aside = s.aside := by
  unfold State.passed6
  exact (aside_count ..).trans (State.each_read State.aside fun u r => rfl)
end

section
variable {s : State} {n : Port} {vc : Fin 5} {p : Packet}

theorem aside_received : (s.received n vc p).aside = s.aside := by
  unfold State.received
  rw [aside_freeCredit]; exact aside_takeRx
theorem aside_fresh : (s.fresh n vc p).aside = s.aside := (aside_filter 0).trans aside_received
theorem aside_granted : (s.granted n vc p).aside = s.aside := by
  unfold State.granted
  dsimp only
  rw [aside_accepted, aside_passed6, aside_police, aside_fresh]

theorem State.aside_fields {u : State} (h : u.aside = s.aside) :
    u.board = s.board ∧ u.now = s.now ∧ u.prt = s.prt ∧ u.sec = s.sec ∧
    ∀ i, (u.ext i).map ExtRec.pub = (s.ext i).map ExtRec.pub := by
  simp only [State.aside, Prod.mk.injEq] at h
  exact ⟨h.1, h.2.1, h.2.2.1, h.2.2.2.1, fun i => congrFun h.2.2.2.2 i⟩
theorem ownId_of_aside {u : State} (h : u.aside = s.aside) : u.ownId = s.ownId := by
  unfold State.ownId; rw [(State.aside_fields h).1]

/-! ### Arrival (R23) -/

/-- A packet for the device that has its credit back: what stands in its way (R90, R107, R502). -/
theorem fabricIn_own (ho : s.overrun n vc p = false) (hd : p.dst.toNat = s.ownId) : s.fabricIn n vc p =
    (let u := s.received n vc p
     if s.board.phase ≠ .ready then u.bump .rtDropLocal 0
     else if p.e2eCrc ≠ p.crcOf then u.onFab fun f => { f with crcDrops := wrapAdd 32 f.crcDrops 1 }
     else if !(p.formOk vc) then u.bump .rtMalformed 0
     else match u.filter 0 p with
       | (.fresh, s) => (s.deliverPkt n p).settleAll
       | (_, s) => s) := by
  have hpre : ((s.takeRx n vc p).lead (44 + n)).aside = s.aside := aside_takeRx (s := s)
  have hbase := State.aside_fields (aside_received (s := s) (n := n) (vc := vc) (p := p))
  have hlocal : ((s.takeRx n vc p).lead (44 + n)).isLocal p.dst.toNat = true := by
    simp [State.isLocal, ownId_of_aside hpre, hd]
  have hown : (s.received n vc p).ownId = s.ownId := ownId_of_aside aside_received
  have hheld : (s.received n vc p).aliasHeld p = false := by simp [State.aliasHeld, hown, hd]
  unfold State.fabricIn
  dsimp only
  rw [if_neg (by simp [ho]), if_neg (by simp [hlocal]), ← State.received, hbase.1, hheld, hown, if_pos hd]
  rfl

theorem fabricIn_eq (h : Arrives s n vc p) : s.fabricIn n vc p = ((s.fresh n vc p).deliverPkt n p).settleAll := by
  obtain ⟨ho, hd, hph, hcrc, hform, hnew⟩ := h
  have hfilter : (s.received n vc p).filter 0 p = (.fresh, s.fresh n vc p) := Prod.ext hnew rfl
  rw [fabricIn_own ho hd]
  dsimp only
  rw [if_neg (by simp [hph]), if_neg (by simp [hcrc]), if_neg (by simp [hform]), hfilter]

/-- The opcodes of requests that are neither answers, INVOKE, management nor mirror frames. -/
theorem deliverPkt_request {u : State} (hr : p.rsp = false) (ht : u.trick p = none)
    (hop : p.opcode.toNat ∉ [0x22, 0x25, 0x26, 0x32, 0x40, 0x50]) : u.deliverPkt n p = u.request n p := by
  simp only [List.mem_cons, List.not_mem_nil, or_false, not_or] at hop
  obtain ⟨h22, h25, h26, h32, h40, h50⟩ := hop
  unfold State.deliverPkt
  simp [hr, ht, h22, h25, h26, h32, h40, h50]

theorem request_single {u : State} (hl : u.lk.state ≠ 2) (hc : p.pktCount.toNat = 1) : u.request n p = u.firstPacket none n p := by
  unfold State.request State.withEntry
  rw [if_neg hl, if_pos (by omega)]

end
end Sys2Proof.Machine
end

section
/-! PROOFS. Requests of one packet that name an extent (R57, R58, R60, R65, R67, R82, R94 to R100, R252, R255). -/
namespace Sys2Proof.Machine

section
variable {s : State} {n : Port} {vc : Fin 5} {p : Packet}

/-- A granted request is served: its writes are performed, or it goes to its home or control die. -/
theorem fabricIn_granted {op : BitVec 8} (h : Granted s n vc p) (hpo : p.opcode = op)
    (hop : op.toNat ∉ [0x22, 0x25, 0x26, 0x30, 0x31, 0x32, 0x40, 0x50]) :
    s.fabricIn n vc p = (if op.toNat = 0x02 ∨ op.toNat = 0x03 then
        (let w := (s.granted n vc p).newWrite p.src.toNat p.ext false 1
         (w.2.writePacket p n w.1 false).writeCounted p n w.1 0)
      else (s.granted n vc p).serveExt { kind := .serve, pkt := p, port := n, since := s.now }).settleAll := by
  subst hpo
  obtain ⟨harr, hr, hc, ht, hl, hgreen, hcheck⟩ := h
  have hnow : (((s.fresh n vc p).police (4 * p.q + p.svc) p.colour (chargeOf p)).2.passed6 n p).now = s.now :=
    (State.aside_fields (((aside_passed6 _).trans (aside_police ..)).trans aside_fresh)).2.1
  simp only [List.mem_cons, List.not_mem_nil, or_false, not_or] at hop
  obtain ⟨h22, h25, h26, h30, h31, h32, h40, h50⟩ := hop
  rw [fabricIn_eq harr, deliverPkt_request hr ht (by simp [h22, h25, h26, h32, h40, h50]), request_single hl hc]
  congr 1
  unfold State.firstPacket
  dsimp only
  rw [if_neg (by simp [hgreen]), if_neg (by simp [hgreen]), if_neg h30, if_neg h31, hcheck]
  dsimp only
  by_cases hw : p.opcode.toNat = 0x02 ∨ p.opcode.toNat = 0x03
  · rw [if_pos (by simpa using hw), if_pos hw, if_neg (by simp [hgreen])]
    unfold State.firstWrite
    rw [hgreen]
    rfl
  · rw [if_neg (by simpa using hw), if_neg hw, hgreen, hnow]
    rfl

/-- The serving of each request, in a state that grants it. -/
theorem serveGet_green {u : State} {r : WaitReq} (hy : r.yellow = false) (hd : r.pkt.dst.toNat = u.ownId) : u.serveGet r =
    (let k := ceilDiv r.pkt.len 4096
     let s0 := Tab.getD u.fab.seqs r.pkt.src.toNat 0#32
     (u.onFab fun f => { f with seqs := Tab.put f.seqs r.pkt.src.toNat (s0 + BitVec.ofNat 32 k) }).serveOr
       { r with ids := List.range k, status := s0.toNat }) := by
  unfold State.serveGet
  dsimp only
  rw [if_neg (by simp [hy]), if_pos hd, Nat.mul_zero, Nat.add_zero]
theorem serveZero_green {u : State} {r : WaitReq} (hy : r.yellow = false) : u.serveZero r =
    (let parts := zeroParts r.pkt.off r.pkt.len
     let w := u.newWrite r.pkt.src.toNat r.pkt.ext true ((parts.map fun x => if x.2.2 = 512 then 1 else x.2.2).sum)
     (w.2.serveOr { r with ids := parts.map (·.1), status := w.1, reply := false }).answer r true (r.pkt.resp 0)) := by
  unfold State.serveZero
  dsimp only
  rw [if_neg (by simp [hy])]
theorem serveLine_green {u : State} {r : WaitReq} (hy : r.yellow = false) : u.serveLine r = u.lineRequest r := by
  unfold State.serveLine
  dsimp only
  rw [if_neg (by simp [hy])]

theorem servePersist_eq {u : State} {r : WaitReq} {e : ExtRec} (he : u.ext r.pkt.ext = some e) : u.servePersist r =
    if e.policy = 0 then u.answer r false (r.pkt.resp 0x0A)
    else u.serveOr { r with kind := .persist 0, ids := u.coveredBy r.pkt.ext (if e.tracked then none else some r.pkt.src.toNat) } := by
  unfold State.servePersist
  rw [he]

theorem ext_granted {h : Nat} {e : ExtRec} (he : s.ext h = some e) : ∃ x, (s.granted n vc p).ext h = some x ∧
    x.version = e.version ∧ x.publisher = e.publisher ∧ x.policy = e.policy ∧ x.tracked = e.tracked := by
  have hpub := (State.aside_fields (aside_granted (s := s) (n := n) (vc := vc) (p := p))).2.2.2.2 h
  rw [he, Option.map_some, Option.map_eq_some_iff] at hpub
  obtain ⟨x, hx, hxe⟩ := hpub
  simp only [ExtRec.pub, Prod.mk.injEq] at hxe
  exact ⟨x, hx, hxe⟩

theorem of_ite_some_eq_none {α : Type} {c : Prop} [Decidable c] {a : α} {r : Option α} (h : (if c then some a else r) = none) :
    ¬c ∧ r = none := by
  by_cases hc : c
  · rw [if_pos hc] at h; cases h
  · rw [if_neg hc] at h; exact ⟨hc, h⟩
theorem rangeOk_of_check6 {u : State} (h : u.check6 p = none) : p.rangeOk = true := by
  unfold State.check6 at h
  obtain ⟨-, h⟩ := of_ite_some_eq_none h
  split at h
  · cases h
  · obtain ⟨-, h⟩ := of_ite_some_eq_none h
    obtain ⟨-, h⟩ := of_ite_some_eq_none h
    obtain ⟨-, h⟩ := of_ite_some_eq_none h
    obtain ⟨-, h⟩ := of_ite_some_eq_none h
    obtain ⟨-, h⟩ := of_ite_some_eq_none h
    obtain ⟨-, h⟩ := of_ite_some_eq_none h
    obtain ⟨-, h⟩ := of_ite_some_eq_none h
    obtain ⟨hrange, -⟩ := of_ite_some_eq_none h
    rw [Bool.or_eq_true, not_or, Bool.not_eq_true', Bool.not_eq_false] at hrange
    exact hrange.1
theorem pktCount_of_rangeOk (h : p.rangeOk = true) : p.pktCount.toNat = countOf p.opcode.toNat p.len := by
  unfold Packet.rangeOk at h
  simpa using (Bool.and_eq_true _ _ |>.mp h).1

/-- RETURN is neither policed nor counted (R252). -/
theorem fabricIn_return (h : Arrives s n vc p) (hop : p.opcode = 0x22#8) (hr : p.rsp = false) (ht : (s.fresh n vc p).trick p = none)
    (hcheck : (s.fresh n vc p).check6 p = none) : s.fabricIn n vc p =
      (((s.fresh n vc p).accepted p.ext).hostReturn { kind := .serve, pkt := p, port := n, since := s.now }).settleAll := by
  have hnow : (s.fresh n vc p).now = s.now := (State.aside_fields aside_fresh).2.1
  have hnum : p.opcode.toNat = 0x22 := by rw [hop]; rfl
  have hcount : p.pktCount.toNat ≤ 1 := by
    rw [pktCount_of_rangeOk (rangeOk_of_check6 hcheck), hnum]; exact Nat.le_refl 1
  rw [fabricIn_eq h]
  congr 1
  unfold State.deliverPkt
  dsimp only
  rw [hnum, hr, ht, if_neg (by decide), if_neg (by simp), if_neg (by decide)]
  dsimp only
  rw [if_neg (by decide), if_neg (by decide), if_pos rfl, State.withEntry, if_pos hcount, State.firstReturn, hcheck, hnow]

end

/-- Settles O46: each row hands its packet, with its opcode, to the arrival path, and the granted request is served. -/
theorem extentRequests : Obligations.ExtentRequests := by
  unfold Obligations.ExtentRequests
  intro s n vc p at' req covers
  refine ⟨fun h => ?_, fun op hop h => ?_, fun h => ?_, fun h => ?_, fun h e he => ?_, fun h => ?_, fun h e he => ?_, fun h => ?_,
    fun h => ?_, fun h => ?_, fun h => ?_, fun h hr ht hcheck => ?_⟩
  · have hown : (at' 0x01#8).dst.toNat = (s.granted n vc (at' 0x01#8)).ownId := by
      rw [ownId_of_aside aside_granted]; exact h.1.2.1
    refine congrArg Host.Outcome.next ((fabricIn_granted (op := 0x01#8) h rfl (by decide)).trans ?_)
    rw [if_neg (by decide)]
    exact congrArg State.settleAll (serveGet_green (r := req 0x01#8) rfl hown)
  · rcases hop with rfl | rfl
    · exact congrArg Host.Outcome.next ((fabricIn_granted (op := 0x02#8) h rfl (by decide)).trans (congrArg State.settleAll (if_pos (by decide))))
    · exact congrArg Host.Outcome.next ((fabricIn_granted (op := 0x03#8) h rfl (by decide)).trans (congrArg State.settleAll (if_pos (by decide))))
  · refine congrArg Host.Outcome.next ((fabricIn_granted (op := 0x04#8) h rfl (by decide)).trans ?_)
    rw [if_neg (by decide)]
    exact congrArg State.settleAll (serveZero_green (r := req 0x04#8) rfl)
  · refine congrArg Host.Outcome.next ((fabricIn_granted (op := 0x10#8) h rfl (by decide)).trans ?_)
    rw [if_neg (by decide)]
    rfl
  · obtain ⟨x, hx, hver, hpub, -, -⟩ := ext_granted (n := n) (vc := vc) (p := at' 0x11#8) he
    refine congrArg Host.Outcome.next ((fabricIn_granted (op := 0x11#8) h rfl (by decide)).trans ?_)
    rw [if_neg (by decide), ← hver, ← hpub]
    have hserve : ((s.granted n vc (at' 0x11#8)).ext p.ext).elim 0 (·.version) = x.version ∧
        ((s.granted n vc (at' 0x11#8)).ext p.ext).elim 0 (·.publisher) = x.publisher := by rw [hx]; exact ⟨rfl, rfl⟩
    rw [← hserve.1, ← hserve.2]
    rfl
  · refine congrArg Host.Outcome.next ((fabricIn_granted (op := 0x12#8) h rfl (by decide)).trans ?_)
    rw [if_neg (by decide)]
    rfl
  · obtain ⟨x, hx, -, -, hpol, htr⟩ := ext_granted (n := n) (vc := vc) (p := at' 0x13#8) he
    have hrow : exec (.persist n vc p) s = .next ((s.granted n vc (at' 0x13#8)).servePersist (req 0x13#8)).settleAll :=
      congrArg Host.Outcome.next ((fabricIn_granted (op := 0x13#8) h rfl (by decide)).trans (congrArg State.settleAll (if_neg (by decide))))
    have hserve := servePersist_eq (r := req 0x13#8) hx
    exact ⟨fun h0 => hrow.trans (congrArg (fun u : State => Host.Outcome.next u.settleAll)
        (hserve.trans (if_pos (hpol.trans h0)))),
      fun h0 => hrow.trans (congrArg (fun u : State => Host.Outcome.next u.settleAll)
        ((hserve.trans (if_neg fun h => h0 (hpol.symm.trans h))).trans (by rw [htr]; rfl)))⟩
  · exact congrArg Host.Outcome.next ((fabricIn_granted (op := 0x20#8) h rfl (by decide)).trans (congrArg State.settleAll
      ((if_neg (by decide)).trans (serveLine_green (r := req 0x20#8) rfl))))
  · exact congrArg Host.Outcome.next ((fabricIn_granted (op := 0x21#8) h rfl (by decide)).trans (congrArg State.settleAll
      ((if_neg (by decide)).trans (serveLine_green (r := req 0x21#8) rfl))))
  · exact congrArg Host.Outcome.next ((fabricIn_granted (op := 0x23#8) h rfl (by decide)).trans (congrArg State.settleAll
      ((if_neg (by decide)).trans (serveLine_green (r := req 0x23#8) rfl))))
  · exact congrArg Host.Outcome.next ((fabricIn_granted (op := 0x24#8) h rfl (by decide)).trans (congrArg State.settleAll
      ((if_neg (by decide)).trans (serveLine_green (r := req 0x24#8) rfl))))
  · exact congrArg Host.Outcome.next (fabricIn_return h rfl hr ht hcheck)

end Sys2Proof.Machine
end

section
/-! PROOFS. Other packets: answers to RECALL, INVOKE and its data, management, packets that are dropped, held packets; and the
management requests (R102, R107, R208 to R212, R260, R303, R306). -/
namespace Sys2Proof.Machine

section
variable {s : State} {n : Port} {vc : Fin 5} {p : Packet}

/-! ### Packets that are delivered -/

theorem fabricIn_recallAck (h : Arrives s n vc p) (hop : p.opcode = 0x26#8) :
    s.fabricIn n vc p = ((s.fresh n vc p).hostAck n p).settleAll := by
  rw [fabricIn_eq h]
  congr 1
  unfold State.deliverPkt
  exact if_pos (by rw [hop]; rfl)

/-- The state after policing, of a packet coloured green (R312). -/
def State.policed (s : State) (n : Port) (vc : Fin 5) (p : Packet) : Nat × State :=
  (s.fresh n vc p).police (4 * p.q + p.svc) p.colour (chargeOf p)
theorem now_policed : (s.policed n vc p).2.now = s.now := (State.aside_fields ((aside_police ..).trans aside_fresh)).2.1
theorem now_passed : ((s.policed n vc p).2.passed6 n p).now = s.now :=
  (State.aside_fields ((aside_passed6 _).trans ((aside_police ..).trans aside_fresh))).2.1

/-- A request of one packet that begins a transfer and is coloured green. -/
structure Begins (s : State) (n : Port) (vc : Fin 5) (p : Packet) : Prop where
  arrives : Arrives s n vc p
  request : p.rsp = false
  single : p.pktCount.toNat = 1
  first : (s.fresh n vc p).trick p = none
  awake : (s.fresh n vc p).lk.state ≠ 2
  green : (s.policed n vc p).1 = 0

theorem fabricIn_invoke (h : Begins s n vc p) (hop : p.opcode = 0x30#8)
    (hc : (s.policed n vc p).2.checkInvoke p (invOf p n s.now) = none)
    (hc' : ((s.policed n vc p).2.passed6 n p).checkInvoke p (invOf p n s.now) = none)
    (hroom : (invOf p n s.now).kernel ≠ 1 ∨ ((s.policed n vc p).2.passed6 n p).queuedBaskets p.q < 1024) :
    s.fabricIn n vc p = (((s.policed n vc p).2.passed6 n p).admitInvoke p (invOf p n s.now) false).settleAll := by
  have hgreen : ((s.fresh n vc p).police (4 * p.q + p.svc) p.colour (chargeOf p)).1 = 0 := h.green
  have hserve : ((s.policed n vc p).2.passed6 n p).serveInvoke { kind := .invoke, pkt := p, port := n, yellow := 0 == 1, since := s.now } =
      (((s.policed n vc p).2.passed6 n p).admitInvoke p (invOf p n s.now) false, false) := by
    unfold State.serveInvoke
    dsimp only
    rw [now_passed, hc']
    dsimp only
    rw [if_neg]
    rcases hroom with h | h
    · simp [h]
    · simp [Nat.not_le.mpr h]
  rw [fabricIn_eq h.arrives, deliverPkt_request h.request h.first (by rw [hop]; decide), request_single h.awake h.single]
  congr 1
  unfold State.firstPacket
  dsimp only
  rw [if_neg (by simp [hgreen]), if_neg (by simp [hgreen]), if_pos (by rw [hop]; rfl), ← State.policed, h.green, now_policed, hc]
  simp only [Option.isNone_none, if_true, now_passed, hserve, Bool.false_eq_true, if_false]
  rfl

theorem fabricIn_invokeData (h : Begins s n vc p) (hop : p.opcode = 0x31#8) (hc : (s.policed n vc p).2.checkData p = none)
    {i : Nat} {v : Inv} (hf : ((s.policed n vc p).2.passed6 n p).fedBy p = some (i, v)) :
    s.fabricIn n vc p = ((((s.policed n vc p).2.passed6 n p).invokeData i p).emit n (p.resp 0)).settleAll := by
  have hgreen : ((s.fresh n vc p).police (4 * p.q + p.svc) p.colour (chargeOf p)).1 = 0 := h.green
  rw [fabricIn_eq h.arrives, deliverPkt_request h.request h.first (by rw [hop]; decide), request_single h.awake h.single]
  congr 1
  unfold State.firstPacket
  dsimp only
  rw [if_neg (by simp [hgreen]), if_neg (by simp [hgreen]), if_neg (by rw [hop]; decide), if_pos (by rw [hop]; rfl), ← State.policed, hc]
  dsimp only
  rw [hf]

theorem fabricIn_mgmt (h : Arrives s n vc p) (hop : p.opcode = 0x40#8) (hr : p.rsp = false) (ht : (s.fresh n vc p).trick p = none)
    (hm : (s.fresh n vc p).isManager p.src.toNat = true) (hroom : (s.fresh n vc p).fab.mgmtQ.length < 256)
    (hcmd : (mgmtCmd (mgmtParse p).1 (mgmtParse p).2.length).isSome = true) (hlen : 8 + field p.payload 6 2 ≤ p.payloadLen.toNat) :
    s.fabricIn n vc p = ((s.fresh n vc p).onFab fun f => { f with mgmtQ := f.mgmtQ ++ [(n.val, p)] }).settleAll := by
  have hnum : p.opcode.toNat = 0x40 := by rw [hop]; rfl
  have hnone : (mgmtCmd (mgmtParse p).1 (mgmtParse p).2.length).isNone = false := by
    rw [← Option.not_isSome, hcmd]; rfl
  rw [fabricIn_eq h]
  congr 1
  unfold State.deliverPkt
  dsimp only
  rw [hnum, hr, ht, if_neg (by decide), if_neg (by simp), if_neg (by decide)]
  dsimp only
  rw [if_pos rfl]
  unfold State.mgmtArrive
  dsimp only
  rw [if_neg (by omega), if_neg (by simp [hm]), hnone, if_neg (by simp [Nat.not_lt.mpr hlen])]

/-! ### Packets that are dropped -/

/-- A packet that is not new is counted and dropped (R104). -/
theorem filter_snd {u : State} : (u.filter 0 p).2 = (match (u.filter 0 p).1 with
    | .fresh => (u.filter 0 p).2 | .dup => u.bump .rtDup 0 | .stale => u.bump .rtStale 0) := by
  unfold State.filter
  dsimp only
  cases (FilterEnt.take (Tab.get? u.fab.filters (p.src.toNat + 65536 * 0)) p.seq).1 <;> rfl

variable (ho : s.overrun n vc p = false) (hd : p.dst.toNat = s.ownId)
include ho hd

theorem fabricIn_notReady (h : s.board.phase ≠ .ready) : s.fabricIn n vc p = (s.received n vc p).bump .rtDropLocal 0 :=
  (fabricIn_own ho hd).trans (if_pos h)
theorem fabricIn_badCrc (h : s.board.phase = .ready) (hc : p.e2eCrc ≠ p.crcOf) : s.fabricIn n vc p =
    (s.received n vc p).onFab fun f => { f with crcDrops := wrapAdd 32 f.crcDrops 1 } :=
  (fabricIn_own ho hd).trans ((if_neg (by simp [h])).trans (if_pos hc))
theorem fabricIn_badForm (h : s.board.phase = .ready) (hc : p.e2eCrc = p.crcOf) (hf : p.formOk vc = false) :
    s.fabricIn n vc p = (s.received n vc p).bump .rtMalformed 0 :=
  (fabricIn_own ho hd).trans ((if_neg (by simp [h])).trans ((if_neg (by simp [hc])).trans (if_pos (by simp [hf]))))
theorem fabricIn_seen (h : s.board.phase = .ready) (hc : p.e2eCrc = p.crcOf) (hf : p.formOk vc = true)
    (hseen : ((s.received n vc p).filter 0 p).1 ≠ .fresh) : s.fabricIn n vc p = ((s.received n vc p).filter 0 p).2 := by
  rw [fabricIn_own ho hd]
  dsimp only
  rw [if_neg (by simp [h]), if_neg (by simp [hc]), if_neg (by simp [hf])]
  generalize (s.received n vc p).filter 0 p = x at hseen ⊢
  obtain ⟨seen, u⟩ := x
  cases seen
  · exact absurd rfl hseen
  · rfl
  · rfl
omit ho hd

theorem fabricIn_disagrees (h : Arrives s n vc p) (hr : p.rsp = false)
    (hop : p.opcode.toNat ≠ 0x25 ∧ p.opcode.toNat ≠ 0x26 ∧ p.opcode.toNat ≠ 0x32)
    {k : Nat} {t : TrickRec} (ht : (s.fresh n vc p).trick p = some (k, t)) (ha : t.agrees p = false) :
    s.fabricIn n vc p = ((s.fresh n vc p).bump .rtMalformed 0).settleAll := by
  obtain ⟨h25, h26, h32⟩ := hop
  rw [fabricIn_eq h]
  congr 1
  unfold State.deliverPkt
  dsimp only
  rw [if_neg h26, hr, if_neg (by simp), if_neg (by simp [h25, h32]), ht]
  dsimp only
  rw [ha, if_neg (by simp)]

/-! ### Management requests (R303) -/

theorem mgmtRun_eq {port c : Nat} {p : Packet} {rest : List (Nat × Packet)} {f : Cmd} (hd : s.cores.duty.contains 3 = true)
    (hq : s.fab.mgmtQ = (port, p) :: rest) (hc : (mgmtParse p).1 = c) (hf : mgmtCmd c (mgmtParse p).2.length = some f) :
    s.mgmtRun c =
      (let u := s.onFab fun f => { f with mgmtQ := rest }
       if !s.mounted then u.draw.2.mgmtAnswer c port p (.now 14 (le 4 u.draw.1))
       else (f 0 (mgmtParse p).2 u).1.mgmtAnswer c port p (f 0 (mgmtParse p).2 u).2) := by
  unfold State.mgmtRun
  rw [hd, if_neg (by simp), hq]
  dsimp only
  rw [if_neg (by simp [hc]), hf]
  rfl

/-- A management request in front of the queue is carried out as the mailbox command of its family (R303; log 108). -/
theorem mgmtRun_answers {port c : Nat} {p : Packet} {rest : List (Nat × Packet)} {f : Cmd} (hd : s.cores.duty.contains 3 = true)
    (hq : s.fab.mgmtQ = (port, p) :: rest) (hc : (mgmtParse p).1 = c) (hf : mgmtCmd c (mgmtParse p).2.length = some f) :
    let u := s.onFab fun f => { f with mgmtQ := rest }
    let b := (mgmtParse p).2
    (s.mounted = true → s.mgmtRun c = (match (f 0 b u).2 with
        | .now st r => (f 0 b u).1.emit port (mgmtResp p st r)
        | .defer o => (f 0 b u).1.onRt fun r => { r with mgmtWait := r.mgmtWait ++ [(0x0500 + c, o, port, p)] }
        | .vaultWait => (f 0 b u).1)) ∧
      (s.mounted = false → s.mgmtRun c = u.draw.2.emit port (mgmtResp p 14 (le 4 u.draw.1))) := by
  have hrun := mgmtRun_eq hd hq hc hf
  refine ⟨fun h => ?_, fun h => ?_⟩
  · rw [hrun, h]
    dsimp only
    rw [if_neg (by simp)]
    generalize f 0 (mgmtParse p).2 (s.onFab fun f => { f with mgmtQ := rest }) = x
    obtain ⟨v, r⟩ := x
    cases r <;> rfl
  · rw [hrun, h]; rfl

end

/-- Settles O50: by the arrival path, and by the family of management requests. -/
theorem otherPackets : Obligations.OtherPackets := by
  unfold Obligations.OtherPackets
  refine ⟨fun s n vc p => ?_, fun s port p rest hd hq => ?_⟩
  · intro at'
    refine ⟨fun h => congrArg Host.Outcome.next (fabricIn_recallAck h rfl), ?_, ?_, ?_, fun ho hdst => ?_, fun tb => rfl⟩
    · intro q u c h hr hc ht hl hg hci hci' hroom
      exact congrArg Host.Outcome.next (fabricIn_invoke ⟨h, hr, hc, ht, hl, hg⟩ rfl hci hci' hroom)
    · intro q u c h hr hc ht hl hg hcd i v hf
      exact congrArg Host.Outcome.next (fabricIn_invokeData ⟨h, hr, hc, ht, hl, hg⟩ rfl hcd hf)
    · intro q u h hr ht ⟨m, hv, hid⟩ hroom hcmd hlen
      have hman : u.isManager p.src.toNat = true := by
        rw [State.isManager, List.any_eq_true]
        exact ⟨m, List.mem_range.mpr m.isLt, by simp [hv, hid]⟩
      exact congrArg Host.Outcome.next (fabricIn_mgmt h rfl hr ht hman hroom hcmd hlen)
    · refine ⟨fun h => congrArg Host.Outcome.next (fabricIn_notReady ho hdst h),
        fun h hc => congrArg Host.Outcome.next (fabricIn_badCrc ho hdst h hc), fun k t h hr h25 h26 h32 ht ha => ?_,
        fun h hc => ⟨fun hf => congrArg Host.Outcome.next (fabricIn_badForm ho hdst h hc hf), fun hf hdup => ?_, fun hf hst => ?_⟩⟩
      · have hne : ∀ {x : BitVec 8}, p.opcode ≠ x → p.opcode.toNat ≠ x.toNat := fun hx he => hx (BitVec.eq_of_toNat_eq he)
        exact congrArg Host.Outcome.next (fabricIn_disagrees h hr ⟨hne h25, hne h26, hne h32⟩ ht ha)
      · have hsnd := filter_snd (u := s.received n vc p) (p := p)
        rw [hdup] at hsnd
        exact congrArg Host.Outcome.next ((fabricIn_seen ho hdst h hc hf (by rw [hdup]; decide)).trans hsnd)
      · have hsnd := filter_snd (u := s.received n vc p) (p := p)
        rw [hst] at hsnd
        exact congrArg Host.Outcome.next ((fabricIn_seen ho hdst h hc hf (by rw [hst]; decide)).trans hsnd)
  · intro u b runs
    have hrow : ∀ (i : Instr) (c n : Nat) (f : Cmd), exec i s = .next (s.mgmtRun c) →
        (∀ k, (c = 3 ∧ 8 ≤ k ∨ c ≠ 3 ∧ k = n) → mgmtCmd c k = some f) → runs i c n f := by
      intro i c n f hi hf hc hlen
      obtain ⟨h1, h2⟩ := mgmtRun_answers hd hq hc (hf _ hlen)
      exact ⟨fun h => hi.trans (congrArg Host.Outcome.next (h1 h)), fun h => hi.trans (congrArg Host.Outcome.next (h2 h))⟩
    have hcmd : ∀ {c n : Nat} {f : Cmd}, c ≠ 3 → mgmtCmd c n = some f →
        ∀ k, (c = 3 ∧ 8 ≤ k ∨ c ≠ 3 ∧ k = n) → mgmtCmd c k = some f := by
      intro c n f hc hf k hk
      rcases hk with ⟨h3, -⟩ | ⟨-, rfl⟩
      · exact absurd h3 hc
      · exact hf
    refine ⟨hrow .mIdent 1 0 cmdRtIdent rfl (hcmd (by decide) rfl), hrow .mPort 2 2 cmdRtPort rfl (hcmd (by decide) rfl),
      hrow .mTblWrite 3 0 cmdRtTblWrite rfl fun k hk => ?_, hrow .mTblRead 4 6 cmdRtTblRead rfl (hcmd (by decide) rfl),
      hrow .mTblClear 5 0 cmdRtTblClear rfl (hcmd (by decide) rfl), hrow .mDirWrite 6 4 cmdRtDirWrite rfl (hcmd (by decide) rfl),
      hrow .mSwap 7 1 cmdRtSwap rfl (hcmd (by decide) rfl), hrow .mCounters 8 1 cmdRtCounters rfl (hcmd (by decide) rfl)⟩
    exact if_pos (by omega)
end Sys2Proof.Machine
end

section
/-! PROOFS. Mirror frames and the timers of a pair (R101, R483 to R491). -/
namespace Sys2Proof.Machine

/-! ### The type of a frame -/

theorem frameIn_eq {p : Packet} {f : List Byte} (h : frameIn p = some f) : frameBytes p = f ∧ 32 ≤ f.length := by
  unfold frameIn at h
  dsimp only at h
  split at h
  · cases h
  next hc =>
    obtain rfl := Option.some.inj h
    refine ⟨rfl, ?_⟩
    simp only [Bool.or_eq_true, decide_eq_true_eq, not_or, Nat.not_lt] at hc
    omega

/-- The row's type stands in the frame it hands on. -/
theorem frameType {t : Nat} {p : Packet} {f : List Byte} (h : frameIn (withType t p) = some f) (ht : t < 256) : field f 0 1 = t := by
  obtain ⟨hf, hlen⟩ := frameIn_eq h
  have hp : f = (le 1 t ++ p.payload.drop 1).take p.payloadLen.toNat := hf.symm
  have h1 : 0 + 1 ≤ p.payloadLen.toNat := by
    rw [hp, List.length_take] at hlen; omega
  rw [hp, field_take h1, field_append_left (by simp), field_le_of_lt (by omega)]

section
variable {s : State} {n : Port} {vc : Fin 5} {p : Packet} {g : Pairing} {f : List Byte}

/-! ### Frames that arrive (R487, R488) -/

/-- What a whole frame does, by its type. -/
def State.frameActs (s : State) (g : Pairing) (p : Packet) (f : List Byte) (t : Nat) : State :=
  let b := (f.drop 32).take (field f 12 4)
  match t with
  | 1 => if p.rsp then s else s.onHello g b
  | 2 => if p.rsp then s else s.onHeartbeat b
  | 7 =>
    if !p.rsp then s else
    let s := s.onPrt fun x => { x with openTags := Tab.del x.openTags p.tg }
    if s.prt.st = .active || s.prt.st = .standby || s.prt.st = .standbySync then s.onAck (field f 16 8) b else s
  | 8 => if p.rsp then s else s.onYield (field f 16 8)
  | _ => if p.rsp then s else s.onSequenced g p

theorem mirrorArrive_eq (h : Framed s n vc p g f) :
    (s.fresh n vc p).mirrorArrive p = (s.framed n vc p f).frameActs g p f (field f 0 1) := by
  obtain ⟨-, -, -, hg, hf, hcrc, hsil⟩ := h
  have hsil' : ((s.fresh n vc p).chkFrame 3 (f.take 24 ++ f.drop 32)).prt.silent = false := hsil
  have hnow : ((s.fresh n vc p).chkFrame 3 (f.take 24 ++ f.drop 32)).now = s.now := (State.aside_fields (aside_fresh (s := s))).2.1
  unfold State.mirrorArrive
  rw [hg, hf]
  dsimp only
  rw [if_neg (by simpa using hcrc), hsil', hnow]
  rfl

theorem fabricIn_framed (h : Framed s n vc p g f) (hop : p.opcode = 0x50#8) :
    s.fabricIn n vc p = ((s.framed n vc p f).frameActs g p f (field f 0 1)).settleAll := by
  have hnum : p.opcode.toNat = 0x50 := by rw [hop]; rfl
  rw [fabricIn_eq h.1, ← mirrorArrive_eq h]
  congr 1
  obtain ⟨-, hreq, hrsp, -, -, -, -⟩ := h
  unfold State.deliverPkt
  dsimp only
  rw [hnum, if_neg (by decide)]
  cases hr : p.rsp
  · rw [if_neg (by simp), if_neg (by simp), hreq hr]
    rfl
  · rw [if_pos]
    simp [State.answersFrame, hrsp hr]

/-- The pair and the security settings, but for the time the partner was heard, are those of the state before. -/
theorem prt_framed : (s.framed n vc p f).prt = { s.prt with heard := s.now } := by
  show { (s.fresh n vc p).prt with heard := s.now } = _
  rw [(State.aside_fields (aside_fresh (s := s))).2.2.1]
theorem sec_framed : (s.framed n vc p f).sec = s.sec := (State.aside_fields (aside_fresh (s := s))).2.2.2.1

/-! ### What each frame does (R483, R488, R490) -/

section Acts
variable {u : State}

theorem onHello_waiting {b : List Byte} (hm : helloMatches g b = true) (hst : u.prt.st = .waiting) (hd : u.sec.debugOn = false) :
    u.onHello g b = if (if u.prt.roleActive = (field b 6 1 == 1) then decide (u.ownId < g.peer) else u.prt.roleActive)
      then (u.sequenceStart.toRole .active true).resyncStart else u.toStandby := by
  unfold State.onHello
  rw [if_neg (by simp [hm])]
  dsimp only
  rw [hst]
  dsimp only
  rw [hd, if_neg (by simp)]

theorem onHeartbeat_normal {b : List Byte} (hst : u.prt.st = .active) (hb : b ≠ []) (hc : field b 0 1 = 1) (hp : u.prt.peerSt = 4) :
    u.onHeartbeat b = u.onPrt fun p => { p with peerSt := 1 } := by
  unfold State.onHeartbeat
  rw [if_neg (by simp [hst, hb])]
  dsimp only
  rw [hc, hp, if_neg (by decide), if_neg (by decide), if_pos (by decide)]

variable (hst : u.prt.st = .standby ∨ u.prt.st = .standbySync)
include hst

theorem onSequenced_next (h1 : u.prt.applied < field (frameBytes p) 4 4) (h2 : field (frameBytes p) 4 4 - u.prt.applied ≤ 257) :
    u.onSequenced g p = State.applyRun 258 (u.onPrt fun x => { x with early := Tab.put x.early (field (frameBytes p) 4 4) p }) := by
  unfold State.onSequenced
  dsimp only
  rw [if_neg (by rcases hst with h | h <;> simp [h]), if_neg (Nat.not_le.mpr h1), if_neg (Nat.not_lt.mpr h2)]

theorem onSequenced_repeat (h1 : field (frameBytes p) 4 4 ≤ u.prt.applied)
    (h2 : (u.aliveIn 3 (field (frameBytes p) 4 4)).mirrorBusy = false) :
    u.onSequenced g p = (u.aliveIn 3 (field (frameBytes p) 4 4)).ackFrame g p u.prt.applied [] := by
  unfold State.onSequenced
  dsimp only
  rw [if_neg (by rcases hst with h | h <;> simp [h]), if_pos h1, h2, if_neg (by simp)]
  rfl
end Acts

/-- A frame other than those with an answer of their own is applied in its sequence. -/
theorem frameActs_sequenced {u : State} {t : Nat} (hr : p.rsp = false) (ht : t ∈ [3, 4, 5, 6, 9, 10]) :
    u.frameActs g p f t = u.onSequenced g p := by
  simp only [List.mem_cons, List.not_mem_nil, or_false] at ht
  rcases ht with rfl | rfl | rfl | rfl | rfl | rfl <;> simp [State.frameActs, hr]

theorem frameActs_ack {u : State} (hr : p.rsp = true) (hst : u.prt.st = .active) : u.frameActs g p f 7 =
    (u.onPrt fun x => { x with openTags := Tab.del x.openTags p.tg }).onAck (field f 16 8) ((f.drop 32).take (field f 12 4)) :=
  (if_neg (by simp [hr])).trans (if_pos (by simp [State.onPrt, hst]))

/-! ### Timers of the pair (R485, R488 to R491) -/

section Timers
variable (hg : s.sec.pset.pairing = some g)
include hg

theorem exec_mirrorResendTimer_eq {mseq : BitVec 32} {f : SentFrame}
    (hf : s.prt.sent.find? (fun f => f.mseq == mseq.toNat) = some f) (ht : f.sentAt + 20 * usec ≤ s.now) :
    exec (.mirrorResendTimer mseq) s = .next
      ((s.onPrt fun p => { p with sent := p.sent.map fun x => if x.mseq = f.mseq then { x with sentAt := s.now } else x }).sendFrame g
        (s.framePort g) none f.frame) := by
  show execMirrorResendTimer mseq s = _
  unfold execMirrorResendTimer
  rw [hg, hf]
  dsimp only
  rw [if_pos (by simp [State.past, ht])]

theorem exec_partnerHelloTimer_eq (ht : s.prt.helloAt + msec ≤ s.now) : exec .partnerHelloTimer s = .next (s.sendHello g) := by
  show execPartnerHelloTimer s = _
  unfold execPartnerHelloTimer
  rw [hg]
  dsimp only
  rw [if_pos (by simp [State.past, ht])]

/-- What a member does once its partner has been found silent (R491). -/
def State.onSilence (s : State) (g : Pairing) : Host.Outcome State Fault Refusal :=
  match s.prt.st with
  | .active => .next s.mirrorStop
  | .standby => if g.takeover then .next (s.takeOver s.prt.mseq) else .next s
  | _ => .next s

theorem exec_partnerSilence_eq (hs : s.prt.silent = false) (ht : s.prt.heard + g.silenceMs * msec ≤ s.now) :
    exec .partnerSilence s = ((s.finding 12 g.peer 0).onPrt fun p => { p with silent := true }).onSilence g := by
  show execPartnerSilence s = _
  unfold execPartnerSilence
  rw [hg]
  dsimp only
  rw [if_neg (by simp [hs, State.past, ht])]
  rfl

theorem exec_yieldAckWaitEnd_eq (hy : s.prt.yielding = true) (ht : s.prt.yieldAt + 10 * usec ≤ s.now ∨ s.prt.acked = s.prt.mseq) :
    exec .yieldAckWaitEnd s = .next ((((s.endAlias g.sharedId).bothPorts g 8 (s.endAlias g.sharedId).prt.mseq []).onPrt fun p =>
      { p with st := .yielded, roleActive := false, yielding := false, sent := [], peerSt := 5, resyncTodo := [] }).dirRun) := by
  show execYieldAckWaitEnd s = _
  unfold execYieldAckWaitEnd
  rw [hg]
  dsimp only
  rw [if_neg (by rcases ht with h | h <;> simp [hy, State.past, h])]
  generalize s.endAlias g.sharedId = u
  generalize u.bothPorts g 8 _ [] = v
  rfl
end Timers

theorem exec_yieldStart_eq (hst : s.prt.st = .active) (hdue : s.prt.yieldDue = true) (hp : s.prt.peerSt = 4)
    (hs : s.prt.silent = false) (hy : s.prt.yielding = false) :
    exec .yieldStart s = .next (s.onPrt fun p => { p with yielding := true, yieldDue := false, yieldAt := s.now }) := by
  show execYieldStart s = _
  unfold execYieldStart
  rw [if_pos (by simp [hst, hdue, hp, hs, hy])]

/-- Only an active member sends frames of the directory (R484). -/
theorem dirFrame_off {u : State} (h : u.prt.st ≠ .active) (x line : Nat) : u.dirFrame x line = u := by
  have hm : u.mirroring = false := by simp [State.mirroring, h]
  unfold State.dirFrame State.mirror
  dsimp only
  rw [hm]
  exact ite_self u
theorem prt_putEnt {u : State} (h : u.prt.st ≠ .active) (k : Nat) (e : DirEnt) : (u.putEnt k e).prt = u.prt := by
  unfold State.putEnt
  rw [dirFrame_off (by exact h)]
  rfl
theorem prt_rebuildEnt {u : State} (h : u.prt.st = .takingOver) (e : DirEnt) : (u.rebuildEnt e).prt = u.prt := by
  unfold State.rebuildEnt
  split
  · rfl
  · split
    · rfl
    · split
      · exact prt_putEnt (by simp [h]) _ _
      · rfl
theorem prt_rebuild {l : List (Nat × DirEnt)} {u : State} (h : u.prt.st = .takingOver) :
    (u.each l fun s e => s.rebuildEnt e.2).prt = u.prt := by
  unfold State.each
  induction l generalizing u with
  | nil => rfl
  | cons e l ih =>
    have he := prt_rebuildEnt h e.2
    exact (ih (by rw [he]; exact h)).trans he

theorem exec_takeoverComplete_eq (hg : s.sec.pset.pairing = some g) (hst : s.prt.st = .takingOver) (hl : s.prt.lines = []) :
    exec .takeoverComplete s = .next ((((s.each s.prt.dirm fun s e => s.rebuildEnt e.2).onPrt fun p => { p with
      st := .active, roleActive := true, switchovers := wrapAdd 32 p.switchovers 1, dirm := [], lines := [] }).dirRun).sendHello g) := by
  have hlines : (s.each s.prt.dirm fun s e => s.rebuildEnt e.2).prt.lines = [] := by rw [prt_rebuild hst, hl]
  show execTakeoverComplete s = _
  unfold execTakeoverComplete
  rw [hg]
  dsimp only
  rw [if_neg (by simp [hst]), hlines]
  rfl
end

/-- Settles O51: by the arrival of a frame, and by the timers. -/
theorem partnerProtocol : Obligations.PartnerProtocol := by
  unfold Obligations.PartnerProtocol
  refine ⟨fun s n vc p g f => ?_, fun s g hg => ⟨fun mseq f hf ht => exec_mirrorResendTimer_eq hg hf ht,
    fun ht => exec_partnerHelloTimer_eq hg ht, ?_, fun hst hdue hp hs hy => exec_yieldStart_eq hst hdue hp hs hy,
    fun hy ht => exec_yieldAckWaitEnd_eq hg hy ht, fun hst hl => exec_takeoverComplete_eq hg hst hl⟩⟩
  · intro u b m
    have hrow : ∀ {t : Nat}, t < 256 → Framed s n vc (withType t p) g f →
        s.fabricIn n vc (withType t p) = ((u t).frameActs g (withType t p) f t).settleAll := fun {t} ht h => by
      obtain ⟨-, -, -, -, hf, -, -⟩ := id h
      have := fabricIn_framed h rfl
      rwa [frameType hf ht] at this
    have hm : ∀ {t : Nat}, Framed s n vc (withType t p) g f → field (frameBytes (withType t p)) 4 4 = m := fun {t} h => by
      obtain ⟨-, -, -, -, hf, -, -⟩ := h
      rw [(frameIn_eq hf).1]
    have hprt : ∀ t, (u t).prt = { s.prt with heard := s.now } := fun t => prt_framed
    have hreq : ∀ t, p.rsp = false → ¬(withType t p).rsp = true := fun t hr => ne_true_of_eq_false hr
    refine ⟨fun h hr hb hst hd => ?_, fun h hr hst hb hc hp => ?_, fun t i hti h hr hst => ?_, fun h hr hst => ?_, fun h hr hst => ?_⟩
    · have hhello : ∀ v, (u 1).onHello g b = v → exec (.hello n vc p) s = .next v.settleAll := fun v hv => by
        refine congrArg Host.Outcome.next ((hrow (by decide) h).trans (congrArg State.settleAll ?_))
        exact (if_neg (hreq _ hr)).trans hv
      have hwait := onHello_waiting (u := u 1) hb (by rw [hprt]; exact hst) (by rw [sec_framed]; exact hd)
      rw [hprt] at hwait
      refine ⟨fun ha h6 => hhello _ (hwait.trans ?_), fun ha h6 => hhello _ (hwait.trans ?_)⟩
      · rw [if_pos (by simp [ha, h6])]; rfl
      · rw [if_neg (by simp [ha, h6])]; rfl
    · refine congrArg Host.Outcome.next ((hrow (by decide) h).trans (congrArg State.settleAll ?_))
      exact (if_neg (hreq _ hr)).trans
        (onHeartbeat_normal (u := u 2) (by rw [hprt]; exact hst) hb hc (by rw [hprt]; exact hp))
    · have ht : t ∈ [3, 4, 5, 6, 9, 10] ∧ exec i s = .next (s.fabricIn n vc (withType t p)) := by
        simp only [List.mem_cons, List.not_mem_nil, or_false, Prod.mk.injEq] at hti
        rcases hti with ⟨rfl, rfl⟩ | ⟨rfl, rfl⟩ | ⟨rfl, rfl⟩ | ⟨rfl, rfl⟩ | ⟨rfl, rfl⟩ | ⟨rfl, rfl⟩ <;>
          exact ⟨by decide, rfl⟩
      obtain ⟨hmem, hexec⟩ := ht
      have hlt : t < 256 := (by decide : ∀ t ∈ [3, 4, 5, 6, 9, 10], t < 256) t hmem
      have hseq := (hrow hlt h).trans (congrArg State.settleAll (frameActs_sequenced (p := withType t p) hr hmem))
      have hst' : (u t).prt.st = .standby ∨ (u t).prt.st = .standbySync := by rw [hprt]; exact hst
      refine ⟨fun h1 h2 => ?_, fun h1 h2 => ?_⟩ <;> refine hexec.trans (congrArg Host.Outcome.next (hseq.trans (congrArg State.settleAll ?_)))
      · rw [onSequenced_next hst' (by rw [hprt, hm h]; exact h1) (by rw [hprt, hm h]; exact h2), hm h]
      · rw [onSequenced_repeat hst' (by rw [hprt, hm h]; exact h1) (by rw [hm h]; exact h2), hm h, hprt]
        rfl
    · refine congrArg Host.Outcome.next ((hrow (by decide) h).trans (congrArg State.settleAll ?_))
      exact frameActs_ack (u := u 7) hr (by rw [hprt]; exact hst)
    · refine congrArg Host.Outcome.next ((hrow (by decide) h).trans (congrArg State.settleAll ?_))
      refine (if_neg (hreq _ hr)).trans ?_
      unfold State.onYield
      rw [if_pos (by rw [hprt]; exact hst)]
  · intro hs ht u
    have hrow := exec_partnerSilence_eq hg hs ht
    refine ⟨fun hst => ?_, fun hst htk => ?_, fun hst htk => ?_⟩ <;> refine hrow.trans ?_
    · unfold State.onSilence
      rw [show u.prt.st = .active from hst]
    · unfold State.onSilence
      rw [show u.prt.st = .standby from hst]
      exact if_pos htk
    · unfold State.onSilence
      rw [show u.prt.st = .standby from hst]
      exact if_neg (by simp [htk])

end Sys2Proof.Machine
end

section
/-! PROOFS. Flit groups: received, sent, replayed (R262 to R277). -/
namespace Sys2Proof.Machine

section
variable {s : State} {n : Port}

/-! ### Groups received -/

/-- The state that has counted a group's codewords and symbol errors. -/
def State.fecCounted (s : State) (n : Port) (fec : FecReport) : State :=
  ((s.bumpN .glCwCorrected n fec.corrected).bumpN .glCwUncorr n fec.uncorr).onLink n fun l =>
    { l with symerr := l.symerr.zipIdx.map fun x => x.1 + (fec.lanes[x.2]?).getD 0 }

/-- The acknowledgement, the credit and the command a trailer carries. -/
def State.trailerActs (s : State) (n : Port) (tr : GroupTrailer) : State :=
  ((s.rxAck n tr.ackLseq).rxCredit n (tr.ctl.toNat % 8) tr.credFreed.toNat).rxCmd n tr.cmd.toNat tr.arg.toNat

/-- A link that is not disabled differs from a table's default, so it stands as it was written. -/
theorem State.link_onLink_of_st {f : Link → Link} (h : (f (s.link n)).st ≠ .disabled) : (s.onLink n f).link n = f (s.link n) :=
  Tab.getD_set_ne _ _ fun h0 => h (congrArg Link.st h0)

theorem expected_fecCounted (fec : FecReport) (hl : (s.link n).listening = true) :
    ((s.fecCounted n fec).link n).expected = (s.link n).expected := by
  have hst : (s.link n).st ≠ .disabled := fun h => by simp [Link.listening, h] at hl
  unfold State.fecCounted
  rw [State.link_onLink_of_st (by exact hst)]
  rfl

section
variable {slots : List Byte} {tr : GroupTrailer} {fec : FecReport}

/-- The bytes over which a received group is checked. -/
def groupBytes (slots : List Byte) (tr : GroupTrailer) : List Byte := padTo 4096 (slots.take 4096) ++
  trailerTail tr.firstLseq.toNat tr.ackLseq.toNat tr.ctl.toNat tr.credFreed.toNat tr.cmd.toNat tr.arg.toNat

theorem exec_flitGroupReceive_bad (hl : (s.link n).listening = true)
    (h : fec.uncorr ≠ 0 ∨ crc32c (groupBytes slots tr) ≠ tr.crc) :
    exec (.flitGroupReceive n slots tr fec) s = .next ((s.fecCounted n fec).bump .glGrpDiscard n) := by
  show execFlitGroupReceive n slots tr fec s = _
  unfold execFlitGroupReceive
  dsimp only
  rw [if_neg (by simp [hl]), if_pos (by simpa [groupBytes] using h)]
  rfl

/-- The slots of a group that begins `d` flits before the expected one (R271, R272). -/
def State.groupSlots (s : State) (n : Port) (slots : List Byte) (d : Int) : State :=
  let cs := chunks 64 (padTo 4096 (slots.take 4096))
  if 0 ≤ d then (s.bumpN .glDupFlits n (min d.toNat 64)).each (cs.drop (min d.toNat 64)) fun s b => s.rxSlot n b
  else s.draw.2.bumpN .glGapFlits n (gapFlits s.draw.1 cs)

theorem exec_flitGroupReceive_good (hl : (s.link n).listening = true)
    (hu : fec.uncorr = 0) (hc : crc32c (groupBytes slots tr) = tr.crc) :
    exec (.flitGroupReceive n slots tr fec) s = .next
      ((if bit tr.ctl.toNat 3 then (s.fecCounted n fec).groupSlots n slots ((s.link n).expected - tr.firstLseq).toInt
        else s.fecCounted n fec).trailerActs n tr) := by
  show execFlitGroupReceive n slots tr fec s = _
  unfold execFlitGroupReceive
  dsimp only
  rw [if_neg (by simp [hl]), if_neg (by simpa [hu, groupBytes] using hc), ← State.fecCounted, expected_fecCounted fec hl]
  cases bit tr.ctl.toNat 3 <;> rfl
end

/-! ### Groups sent -/

/-- The flits of the hamper that a replay sends next (R269). -/
def Link.replayed (l : Link) : List Flit := l.replayFrom.elim [] fun i => (l.hamper.drop i).take 64
/-- The flits that a group sends for the first time. -/
def Link.fresh (l : Link) : List Flit := l.sending.take (64 - l.replayed.length)
/-- The sequence number of a group's first flit. -/
def Link.firstLseq (l : Link) : BitVec 16 := l.replayFrom.elim l.nextLseq fun i => l.nextLseq - BitVec.ofNat 16 (l.hamper.length - i)

theorem exec_flitGroupSend_active (h : (s.link n).st = .active) :
    let l := s.link n
    let starts := l.timerAt = none ∧ (l.fresh ≠ [] ∨ l.hamper ≠ [])
    let c := (l.cmdQ.head?).getD (0, 0)
    let flits := l.replayed ++ l.fresh
    let slots := flits.flatMap (·.bytes) ++ zeros (4096 - 64 * flits.length)
    let tail := trailerTail l.firstLseq.toNat l.expected.toNat (l.cvc + 8 * b2n (!flits.isEmpty))
      (s.reg .glFreedVc (5 * n + l.cvc)) c.1 c.2
    exec (.flitGroupSend n) s = .next (State.releaseAll (s.onLink n fun l => { l with
      hamper := l.hamper ++ l.fresh.map (fun f => { f with owner := none }), sending := l.sending.drop l.fresh.length,
      nextLseq := l.nextLseq + BitVec.ofNat 16 l.fresh.length,
      replayFrom := l.replayFrom.bind fun i => if i + 64 < l.hamper.length then some (i + 64) else none,
      timerAt := if starts then some s.now else l.timerAt,
      timerPer := if starts then s.reg .glReplayTimer n else l.timerPer,
      cvc := (l.cvc + 1) % 5, cmdQ := l.cmdQ.drop 1, lastGroup := slots ++ le 4 (crc32c (slots ++ tail)).toNat ++ tail }) l.fresh) := by
  intro l starts c flits slots tail
  show execFlitGroupSend n s = _
  unfold execFlitGroupSend State.sendGroup State.onLink
  rw [if_pos (by simp [h])]
  have hl : s.link n = l := rfl
  rw [hl] at h ⊢
  clear_value l
  subst starts c flits slots tail
  have hp : (LinkSt.active == LinkSt.param) = false := by decide
  cases hr : l.replayFrom <;> simp [h, hp, hr, Link.replayed, Link.fresh, Link.firstLseq]

theorem exec_flitGroupSend_param (h : (s.link n).st = .param) :
    let l := s.link n
    let tail := trailerTail l.firstLseq.toNat l.expected.toNat l.cvc (s.reg .glFreedVc (5 * n + l.cvc)) l.itemNext (s.paramArg n l.itemNext)
    exec (.flitGroupSend n) s = .next (s.onLink n fun l => { l with
      cvc := (l.cvc + 1) % 5, itemNext := l.nextItem, sentDone := l.sentDone || l.itemNext == 0x19,
      lastGroup := zeros 4096 ++ le 4 (crc32c (zeros 4096 ++ tail)).toNat ++ tail }) := by
  intro l tail
  show execFlitGroupSend n s = _
  unfold execFlitGroupSend State.sendGroup State.onLink
  rw [if_pos (by simp [h])]
  have hl : s.link n = l := rfl
  rw [hl] at h ⊢
  clear_value l
  subst tail
  have hp : (LinkSt.param == LinkSt.active) = false := by decide
  cases hr : l.replayFrom <;> simp [h, hp, hr, Link.firstLseq, State.releaseAll, State.each, b2n]

theorem exec_replayTimerExpiry_eq {t : Nat} (ht : (s.link n).timerAt = some t) (hst : (s.link n).st = .active)
    (hh : (s.link n).hamper ≠ []) (hp : t + (s.link n).timerPer * 10000 ≤ s.now) :
    exec (.replayTimerExpiry n) s = .next ((s.onLink n fun l =>
      { l with replayFrom := some 0, replaysSince := l.replaysSince + 1, timerAt := some s.now,
               timerPer := s.reg .glReplayTimer n }).bump .glReplays n) := by
  show execReplayTimerExpiry n s = _
  unfold execReplayTimerExpiry
  dsimp only
  rw [ht]
  exact if_pos (by simp [hst, hh, State.past, hp])

theorem exec_replayLimitReached_eq (hst : (s.link n).st = .active) (hr : s.reg .glReplayLimit n ≤ (s.link n).replaysSince) :
    exec (.replayLimitReached n) s = .next (s.goDown n) := by
  show execReplayLimitReached n s = _
  unfold execReplayLimitReached
  rw [if_pos (by simp [hst, hr])]

end

/-- Settles O52: by the check of a group received, and by the state of the link for one sent. -/
theorem flitGroups : Obligations.FlitGroups := by
  unfold Obligations.FlitGroups
  intro s n l
  refine ⟨fun slots tr fec hl => ⟨exec_flitGroupReceive_bad hl, fun hu hc => ?_⟩, fun h => ⟨_, exec_flitGroupSend_active h, rfl⟩,
    exec_flitGroupSend_param, fun t => exec_replayTimerExpiry_eq, exec_replayLimitReached_eq⟩
  have hrow := exec_flitGroupReceive_good hl hu hc
  refine ⟨fun h3 => ?_, fun h3 h0 => ?_, fun h3 h0 => ?_⟩ <;> refine hrow.trans ?_
  · rw [if_neg (by simp [h3])] <;> rfl
  · rw [if_pos h3, State.groupSlots, if_pos h0] <;> rfl
  · rw [if_pos h3, State.groupSlots, if_neg (Int.not_le.mpr h0)] <;> rfl

end Sys2Proof.Machine
end

section
/-! PROOFS. Lane swaps and low power of a link (R279, R283 to R285). -/
namespace Sys2Proof.Machine

/-- The choice of the largest finds the one that is larger than every other. -/
theorem foldl_largest {f : Nat → Nat} {i : Nat} {l : List Nat} {a : Nat} (hi : a = i ∨ i ∈ l)
    (ha : a ≠ i → f a < f i) (hl : ∀ j ∈ l, j ≠ i → f j < f i) : l.foldl (fun a j => if f a < f j then j else a) a = i := by
  induction l generalizing a with
  | nil => simpa using hi
  | cons j l ih =>
    have hl' : ∀ k ∈ l, k ≠ i → f k < f i := fun k hk => hl k (List.mem_cons_of_mem _ hk)
    have hj : j ≠ i → f j < f i := hl j (List.mem_cons_self ..)
    rw [List.foldl_cons]
    by_cases hai : a = i
    · have hkeep : ¬f a < f j := fun h => by
        by_cases hji : j = i
        · exact absurd h (by rw [hai, hji]; exact Nat.lt_irrefl _)
        · exact absurd (hj hji) (by rw [← hai]; exact Nat.lt_asymm h)
      rw [if_neg hkeep]
      exact ih (.inl hai) ha hl'
    · by_cases hji : j = i
      · rw [if_pos (by rw [hji]; exact ha hai)]
        exact ih (.inl hji) hj hl'
      · have hil : i ∈ l := by simpa [hai, Ne.symm hji] using hi
        split
        · exact ih (.inr hil) hj hl'
        · exact ih (.inr hil) ha hl'

section
variable {s : State} {n : Port}

/-! ### Swaps asked for and begun (R283) -/

theorem exec_swapReq_active {lane : BitVec 16} (hst : (s.link n).st = .active) (hsp : (s.link n).txSpare ≠ 7)
    (hl : lane.toNat ∈ (s.link n).txLanes) : exec (.swapReq n lane) s = .next
      (((s.sendCmd n 2 lane.toNat).onLink n fun l => { l with swapLane := [(true, lane.toNat)] }).linkTo n .swap) := by
  refine congrArg Host.Outcome.next ?_
  unfold State.onSwapReq
  dsimp only
  rw [if_neg (by simp [hst]), if_neg (by simp [hst, hsp, hl])]

theorem exec_swapReq_held {lane : BitVec 16} (hst : (s.link n).st = .swap ∨ (s.link n).st = .lpIdle) :
    exec (.swapReq n lane) s = .next (s.onLink n fun l => { l with swapReq := some lane.toNat }) := by
  refine congrArg Host.Outcome.next ?_
  unfold State.onSwapReq
  dsimp only
  rw [if_pos (by simpa using hst)]

section
variable {lane : BitVec 16} (hsp : (s.link n).rxSpare ≠ 7) (hl : lane.toNat ∈ (s.link n).rxLanes)
include hsp hl

theorem exec_swapGo_active (hst : (s.link n).st = .active) : exec (.swapGo n lane) s = .next
    ((s.onLink n fun l => { l with swapLane := [(false, lane.toNat)] }).linkTo n .swap) := by
  refine congrArg Host.Outcome.next ?_
  unfold State.onSwapGo
  dsimp only
  rw [if_neg (by simp [hsp, hl]), if_pos hst]

theorem exec_swapGo_swap {own : Nat} (hst : (s.link n).st = .swap) (hsw : (s.link n).swapLane = [(true, own)]) :
    exec (.swapGo n lane) s = .next (s.onLink n fun l => { l with swapLane := [(true, own), (false, lane.toNat)] }) := by
  refine congrArg Host.Outcome.next ?_
  unfold State.onSwapGo State.onLink
  dsimp only
  rw [if_neg (by simp [hsp, hl]), if_neg (by simp [hst]), if_pos (by simp [hst, hsw]), hsw]
  rfl
end

/-! ### Swaps that end -/

theorem exec_swapComplete_eq (hst : (s.link n).st = .swap) : exec (.swapComplete n) s = .next
    (((s.each (s.link n).swapLane fun s x => s.laneMoved n x).onLink n fun l => { l with swapLane := [] }).toActive n) := if_pos hst

theorem laneMoved_tx (a : Nat) : s.laneMoved n (true, a) =
    ((s.onLink n fun l => { l with txLanes := l.txLanes.map (fun x => if x = a then l.txSpare else x), txSpare := 7 }).bump .glLaneSwaps
      n).wearOut { kind := 2, unit := n, a := 2 * a, b := 0 } none := by
  unfold State.laneMoved
  rw [show b2n (!true) + 2 * a = 2 * a from Nat.zero_add _]
  rfl

theorem exec_swapTimeout_eq (hst : (s.link n).st = .swap) (ht : (s.link n).stSince + 20 * usec ≤ s.now) :
    exec (.swapTimeout n) s = .next (s.goDown n) :=
  congrArg Host.Outcome.next (if_pos (by simp [hst, State.past, ht]))

/-! ### Low power (R284, R285) -/

/-- Two updates of a link that leave it enabled are one. -/
theorem onLink_onLink {f g : Link → Link} (hf : (f (s.link n)).st ≠ .disabled) (hg : (g (f (s.link n))).st ≠ .disabled) :
    (s.onLink n f).onLink n g = s.onLink n (g ∘ f) := by
  have hlink := State.link_onLink_of_st hf
  have hset : ∀ {u : State} {l : Link}, l.st ≠ .disabled → u.setLink n l = { u with links := Tab.put u.links n l } := fun h => by
    unfold State.setLink Tab.set
    rw [if_neg fun h0 => h (congrArg Link.st h0)]
  show (s.onLink n f).setLink n (g ((s.onLink n f).link n)) = s.setLink n (g (f (s.link n)))
  rw [hlink, hset (u := s.onLink n f) hg, hset (u := s) hg, State.onLink, hset hf]
  exact congrArg (fun t => { s with links := t }) (Tab.put_put _ _ _ _)

theorem exec_lpiReq_active (hst : (s.link n).st = .active) (ha : s.reg .glCtrlLpiAllow n = 1) (hq : s.quiet n = true) :
    exec (.lpiReq n) s = .next (((s.sendCmd n 4 0).onLink n fun l => { l with lpiSent := none }).linkTo n .lpIdle) := by
  refine congrArg Host.Outcome.next ?_
  unfold State.onLpiReq
  rw [if_neg (by simp [hst]), if_pos (by simp [hst, ha, hq])]

theorem exec_lpiReq_idle (hst : (s.link n).st = .lpIdle) : exec (.lpiReq n) s = .next (s.wakeRes (44 + n)) :=
  congrArg Host.Outcome.next (if_pos hst)

section
variable {t : Nat} (hl : (s.link n).lpiSent = some t)
include hl

/-- The port goes to LP_IDLE, and wakes again when it has something to send. -/
theorem exec_lpiAck_eq (hst : (s.link n).st = .active) (ht : s.now ≤ t + usec) :
    let idle := (s.onLink n fun l => { l with lpiSent := none }).linkTo n .lpIdle
    exec (.lpiAck n) s = .next (if (s.link n).hamper.isEmpty && (s.link n).sending.isEmpty && (s.link n).requeue.isEmpty &&
      (s.eg n).queues.all (fun q => q.2.isEmpty) then idle else idle.wakeRes (44 + n)) := by
  intro idle
  have hsent : (s.onLink n fun l => { l with lpiSent := none }).link n = { s.link n with lpiSent := none } :=
    State.link_onLink_of_st (by simp [hst])
  have hidle : idle.link n = { s.link n with lpiSent := none, st := .lpIdle, stSince := s.now } := by
    refine (State.link_onLink_of_st (by simp)).trans ?_
    rw [hsent]
    rfl
  refine congrArg Host.Outcome.next ?_
  unfold State.onLpiAck
  rw [hl]
  dsimp only
  rw [if_neg (by simp [hst, State.past]; omega), show ((s.onLink n fun l => { l with lpiSent := none }).linkTo n .lpIdle) = idle from rfl,
    hidle]
  rfl

theorem exec_lpiReqLapse_eq (ht : t + usec ≤ s.now) :
    exec (.lpiReqLapse n) s = .next (s.onLink n fun l => { l with lpiSent := none }) := by
  show execLpiReqLapse n s = _
  unfold execLpiReqLapse
  rw [hl]
  dsimp only
  rw [if_pos (by simp [State.past, ht])]
end

theorem exec_lpIdleExitDone_eq (hst : (s.link n).st = .lpIdle) (hw : Tab.has s.lk.waking (44 + n) = true)
    (hr : (s.link n).swapReq = none) : exec (.lpIdleExitDone n) s = .next
      (((s.onLk fun k => { k with waking := Tab.del k.waking (44 + n) }).onLink n fun l => { l with swapReq := none }).linkTo n .active) := by
  refine congrArg Host.Outcome.next ?_
  unfold State.lpExit State.toActive
  rw [if_pos (by simp [hst, hw])]
  dsimp only
  rw [show ((s.onLk fun k => { k with waking := Tab.del k.waking (44 + n) }).link n).swapReq = none from hr]

/-! ### Symbol errors of a window (R283) -/

/-- The state that has shown the window's symbol errors and begins the next. -/
def State.symbolsShown (s : State) (n : Port) : State :=
  (s.each (List.range 5) fun u i => u.setReg .glLaneSymerr (5 * n + i) (((s.link n).symerr[i]?).getD 0 % 2 ^ 32)).onLink n fun l =>
    { l with symerr := [0, 0, 0, 0, 0], symAt := s.now }

/-- The lanes in use whose symbol errors exceed the threshold. -/
def State.noisyLanes (s : State) (n : Port) : List Nat := (List.range 5).filter fun i =>
  (s.link n).rxLanes.contains i && decide (s.reg .glLaneThresh n < ((s.link n).symerr[i]?).getD 0)

theorem mem_noisyLanes {i : Nat} : i ∈ s.noisyLanes n ↔
    i < 5 ∧ i ∈ (s.link n).rxLanes ∧ s.reg .glLaneThresh n < ((s.link n).symerr[i]?).getD 0 := by
  simp [State.noisyLanes]

theorem exec_laneSymbolWindowEnd_eq (ht : (s.link n).symAt + msec ≤ s.now) : exec (.laneSymbolWindowEnd n) s = .next
    (if (s.noisyLanes n).isEmpty || (s.link n).st ≠ .active then s.symbolsShown n
      else if (s.link n).rxSpare ≠ 7 && s.reg .glCtrlSpareAuto n = 1 then
        (s.symbolsShown n).onLink n fun l => { l with cmdQ := l.cmdQ ++ [(1, (s.noisyLanes n).foldl
          (fun a i => if ((s.link n).symerr[a]?).getD 0 < ((s.link n).symerr[i]?).getD 0 then i else a)
          ((s.noisyLanes n).head?.getD 0))] }
      else (s.symbolsShown n).each (s.noisyLanes n) fun u i =>
        ((if (s.link n).rxSpare = 7 then u.finding 7 n i else u).report 1 n i).bump .glLaneAlarm n) := by
  have hreg : ∀ (r : Reg), r.ctorIdx ≠ Reg.glLaneSymerr.ctorIdx → (s.symbolsShown n).reg r n = s.reg r n := fun r hr =>
    State.each_read_of_mem (s := s) (l := List.range 5) (State.reg · r n) fun u i hi =>
      State.reg_setReg_other hr (by have := List.mem_range.mp hi; omega) (by omega)
  have hnow : (s.each (List.range 5) fun u i =>
      u.setReg .glLaneSymerr (5 * n + i) (((s.link n).symerr[i]?).getD 0 % 2 ^ 32)).now = s.now :=
    State.each_read State.now fun _ _ => rfl
  show execLaneSymbolWindowEnd n s = _
  unfold execLaneSymbolWindowEnd
  dsimp only
  rw [if_neg (by simp [State.past, ht]), hnow, ← State.symbolsShown, hreg _ (by decide), hreg _ (by decide), ← State.noisyLanes]
  split
  · rfl
  · split <;> rfl

end

/-- Settles O53: by the state of the link, and for a window by the lanes that exceed the threshold. -/
theorem swapsAndLowPower : Obligations.SwapsAndLowPower := by
  unfold Obligations.SwapsAndLowPower
  intro s n l into
  refine ⟨fun lane => ⟨exec_swapReq_active, exec_swapReq_held, fun hst hsp hl => exec_swapGo_active hsp hl hst,
    fun own hst hsw hsp hl => exec_swapGo_swap hsp hl hst hsw⟩, ?_, exec_swapTimeout_eq, exec_lpiReq_active, exec_lpiReq_idle,
    fun t ht => ⟨fun hst hnow => ?_, exec_lpiReqLapse_eq ht⟩, fun hst hw hr => ?_, fun ht => ?_⟩
  · intro hst put tx rx back a b
    have htx : ∀ v : State, v.laneMoved n (true, a) = tx v a := fun v => laneMoved_tx a
    have hrow : ∀ {sw v}, l.swapLane = sw → (s.each sw fun u x => u.laneMoved n x) = v → exec (.swapComplete n) s = back v :=
      fun hsw hv => (exec_swapComplete_eq hst).trans (by rw [← hv, ← hsw])
    exact ⟨fun hsw => hrow hsw (htx s), fun hsw => hrow hsw rfl, fun hsw => hrow hsw (by rw [← htx]; rfl)⟩
  · have hrow := exec_lpiAck_eq ht hst hnow
    refine ⟨fun h1 h2 h3 h4 => hrow.trans (congrArg Host.Outcome.next (if_pos ?_)),
      fun h => hrow.trans (congrArg Host.Outcome.next (if_neg ?_))⟩
    · simp [show (s.link n).hamper = [] from h1, show (s.link n).sending = [] from h2, show (s.link n).requeue = [] from h3, h4]
    · rw [Bool.and_eq_true, Bool.and_eq_true, Bool.and_eq_true, List.isEmpty_iff, List.isEmpty_iff, List.isEmpty_iff]
      rintro ⟨⟨⟨h1, h2⟩, h3⟩, -⟩
      rcases h with h | h | h
      · exact h h1
      · exact h h2
      · exact h h3
  · rw [exec_lpIdleExitDone_eq hst hw hr, State.linkTo, onLink_onLink
      (by simp [State.onLk, State.link, show (Tab.getD s.links n {}).st = .lpIdle from hst]) (by simp)]
    rfl
  · intro u
    have hrow := exec_laneSymbolWindowEnd_eq ht
    refine ⟨fun hall => ?_, fun i hi hst hsp ha hl hth hmax => ?_, fun i hi hst hsp hl hth hmax => ?_⟩ <;> rw [hrow]
    · have hnone : s.noisyLanes n = [] := List.eq_nil_iff_forall_not_mem.mpr fun i hmem => by
        obtain ⟨hi, hl, hth⟩ := mem_noisyLanes.mp hmem
        exact absurd hth (Nat.not_lt.mpr (hall i hi hl))
      rw [if_pos (by simp [hnone])] <;> rfl
    · have hmem : i ∈ s.noisyLanes n := mem_noisyLanes.mpr ⟨hi, hl, hth⟩
      have hother : ∀ j ∈ s.noisyLanes n, j ≠ i → ((s.link n).symerr[j]?).getD 0 < ((s.link n).symerr[i]?).getD 0 :=
        fun j hj => hmax j (mem_noisyLanes.mp hj).1
      have hhead : (s.noisyLanes n).head?.getD 0 ∈ s.noisyLanes n := by
        cases hc : s.noisyLanes n with
        | nil => rw [hc] at hmem; cases hmem
        | cons j r => exact List.mem_cons_self ..
      rw [if_neg (by simp [List.ne_nil_of_mem hmem, show (s.link n).st = .active from hst]),
        if_pos (by simp [show (s.link n).rxSpare ≠ 7 from hsp, ha]), foldl_largest (.inr hmem) (hother _ hhead) hother] <;> rfl
    · have hone : s.noisyLanes n = [i] := by
        refine List.perm_singleton.mp ((List.perm_ext_iff_of_nodup (List.nodup_range.filter _) (List.nodup_cons.mpr ⟨List.not_mem_nil, List.nodup_nil⟩)).mpr
          fun j => mem_noisyLanes.trans ⟨fun ⟨hj, hjl, hjth⟩ => List.mem_singleton.mpr ?_, ?_⟩)
        · refine Decidable.byContradiction fun hne => ?_
          exact absurd hjth (Nat.not_lt.mpr (hmax j hj hne hjl))
        · intro h
          obtain rfl := List.mem_singleton.mp h
          exact ⟨hi, hl, hth⟩
      have hauto : ¬(((s.link n).rxSpare ≠ 7 && s.reg .glCtrlSpareAuto n = 1) = true) := fun h => by
        simp only [Bool.and_eq_true, decide_eq_true_eq] at h
        rcases hsp with h7 | h0
        · exact h.1 h7
        · exact absurd (h0.symm.trans h.2) (by decide)
      rw [if_neg (by simp [hone, show (s.link n).st = .active from hst]),
        if_neg hauto, hone] <;> rfl

end Sys2Proof.Machine
end

section
/-! PROOFS. Link training, parameters and shut-down (R279 to R283, R405). -/
namespace Sys2Proof.Machine

section
variable {s : State} {n : Port}

/-! ### Training (R279, R283) -/

/-- A port that leaves for DOWN, with alignment lost for good when no spare lane is left. -/
def State.downLost (s : State) (n : Port) (lost : Bool) : State :=
  (((s.onLink n fun l => { l with replayFrom := none, replaysSince := 0, lpiSent := none, swapLane := [],
                                  noLane := l.noLane || (lost && l.rxSpare == 7) }).bump .glDownEvents n).report 0 n 0).linkTo n .training

theorem goDown_eq : s.goDown n = s.downLost n false := by
  unfold State.goDown State.downLost State.onLink
  simp only [Bool.false_and, Bool.or_false]

theorem goDown_alignment (h : (s.link n).st ≠ .disabled) :
    (s.onLink n fun l => { l with noLane := l.noLane || l.rxSpare == 7 }).goDown n = s.downLost n true := by
  unfold State.goDown State.downLost
  rw [onLink_onLink (by exact h) (by exact h)]
  rfl

theorem exec_retrainReq_eq (h : (s.link n).listening = true) : exec (.retrainReq n) s = .next (s.downLost n false) :=
  congrArg Host.Outcome.next ((if_pos h).trans goDown_eq)

theorem exec_alignmentLoss_eq (h : (s.link n).listening = true) : exec (.alignmentLoss n) s = .next (s.downLost n true) :=
  congrArg Host.Outcome.next ((if_pos h).trans (goDown_alignment fun h0 => by simp [Link.listening, h0] at h))

section Training
variable (hst : (s.link n).st = .training)
include hst

theorem exec_trainingComplete_eq (hl : (s.link n).noLane = false) : exec (.trainingComplete n) s = .next ((s.onLink n fun l =>
    { l with got := [], itemNext := 0x10, sentDone := false, st := .param, stSince := s.now }).portDone n) := by
  refine congrArg Host.Outcome.next ((if_pos (by simp [hst, hl])).trans ?_)
  rw [State.linkTo, onLink_onLink (by simp [hst]) (by simp)]
  rfl

omit hst in
theorem exec_trainingComplete_noLane (hl : (s.link n).noLane = true) : exec (.trainingComplete n) s = .next s :=
  congrArg Host.Outcome.next (if_neg (by simp [hl]))

theorem exec_trainingTimeout_eq (ht : (s.link n).stSince + 300 * msec ≤ s.now) :
    exec (.trainingTimeout n) s = .next ((s.downLost n false).portDone n) := by
  refine congrArg Host.Outcome.next ((if_pos (by simp [hst, State.past, ht])).trans ?_)
  rw [goDown_eq]
end Training

/-! ### Parameters (R280, R281) -/

theorem Tab.has_put_other {α : Type} (t : Tab α) {j k : Nat} (v : α) (h : j ≠ k) : Tab.has (Tab.put t k v) j = Tab.has t j := by
  unfold Tab.has
  rw [Tab.get?_put_other _ _ h]
theorem Tab.getD_put_other {α : Type} (t : Tab α) {j k : Nat} (v d : α) (h : j ≠ k) :
    Tab.getD (Tab.put t k v) j d = Tab.getD t j d := by
  unfold Tab.getD
  rw [Tab.get?_put_other _ _ h]

section Items
variable (hst : (s.link n).st = .param)
include hst

theorem link_kept (c arg : Nat) : (s.onLink n fun l => { l with got := Tab.put l.got c arg }).link n =
    { s.link n with got := Tab.put (s.link n).got c arg } := State.link_onLink_of_st (by simp [hst])

theorem onItem_param (c arg : Nat) :
    s.onItem n c arg = (s.onLink n fun l => { l with got := Tab.put l.got c arg }).paramEnd n := if_neg (by simp [hst])

theorem onItem_kept {c arg : Nat} (hc : c ≠ 0x19) (hd : Tab.has (s.link n).got 0x19 = false) :
    s.onItem n c arg = s.onLink n fun l => { l with got := Tab.put l.got c arg } := by
  rw [onItem_param hst, State.paramEnd, link_kept hst]
  exact if_pos (by simp [Tab.has_put_other _ _ hc.symm, hd])

/-- PARAM_DONE of a peer whose items are all here: the state with its identity, in ACTIVE (R281). -/
def State.paramKnown (s : State) (n : Port) (id ep : Nat) : State :=
  (((s.setReg .glPeerId n id).setReg .glPeerEpoch n ep).onLink n fun l =>
    { l with firstParam := false, cmdQ := if l.sentDone then [] else [(0x19, 0)] }).toActive n

theorem exec_paramDone_eq (hall : ∀ i, 0x10 ≤ i → i ≤ 0x18 → Tab.has (s.link n).got i = true) :
    let id := Tab.getD (s.link n).got 0x10 0
    let ep := Tab.getD (s.link n).got 0x11 0 + 65536 * Tab.getD (s.link n).got 0x12 0
    let u := s.onLink n fun l => { l with got := Tab.put l.got 0x19 0 }
    exec (.paramDone n) s = .next (State.paramKnown
      (if !(s.link n).firstParam && s.reg .glPeerId n == id && s.reg .glPeerEpoch n == ep then u.sameEpoch n else u.newEpoch n) n id ep) := by
  intro id ep u
  have hgot : (Tab.put (s.link n).got 0x19 0 |> fun g => { s.link n with got := g }).gotItems = true :=
    List.all_eq_true.mpr fun i hi => by
      have hi := List.mem_range.mp hi
      exact (Tab.has_put_other _ _ (by omega)).trans (hall _ (by omega) (by omega))
  refine congrArg Host.Outcome.next ((onItem_param hst 0x19 0).trans ?_)
  rw [State.paramEnd, link_kept hst]
  refine (if_neg ?_).trans ?_
  · rw [hgot]
    simp [hst, Tab.has]
  · dsimp only
    rw [Tab.getD_put_other _ _ _ (by decide), Tab.getD_put_other _ _ _ (by decide), Tab.getD_put_other _ _ _ (by decide)]
    rfl
end Items

/-! ### Shut-down (R405) -/

theorem exec_portShutdownEnd_eq (hs : (s.link n).shutting = true) (he : (s.link n).enableDeferred = false)
    (hr : (s.link n).resetting = false) : exec (.portShutdownEnd n) s = .next
      (((s.onLink n fun l => { l with shutting := false, resetting := false, enableDeferred := false }).completeAny 0x0F02 (n + 32)
        0 []).completeAny 0x0502 (n + 32) 0 []) := by
  show execPortShutdownEnd n s = _
  unfold execPortShutdownEnd
  dsimp only
  rw [if_neg (by simp [hs]), hr, he, if_neg (by simp), if_neg (by simp), if_neg (by simp)]

end

/-- Settles O54: by the state of the link, and by the items it holds. -/
theorem linkTraining : Obligations.LinkTraining := by
  unfold Obligations.LinkTraining
  intro s n l down
  refine ⟨fun hst => ?_, fun hst => ⟨exec_trainingComplete_eq hst, exec_trainingComplete_noLane, exec_trainingTimeout_eq hst⟩,
    fun hst arg => ⟨fun c i hi hd => ?_, fun vc hd => ?_⟩, fun hst hall => ?_, exec_portShutdownEnd_eq⟩
  · have hl : (s.link n).listening = true := by rcases hst with h | h | h <;> simp [Link.listening, show (s.link n).st = _ from h]
    exact ⟨exec_retrainReq_eq hl, exec_alignmentLoss_eq hl⟩
  · have hrow : c ≠ 0x19 ∧ exec i s = .next (s.onItem n c arg.toNat) := by
      simp only [List.mem_cons, List.not_mem_nil, or_false, Prod.mk.injEq] at hi
      rcases hi with ⟨rfl, rfl⟩ | ⟨rfl, rfl⟩ | ⟨rfl, rfl⟩ | ⟨rfl, rfl⟩ <;> exact ⟨by decide, rfl⟩
    exact hrow.2.trans (congrArg Host.Outcome.next (onItem_kept hst hrow.1 hd))
  · exact congrArg Host.Outcome.next (onItem_kept hst (by omega) hd)
  · intro id ep u known
    have hrow := exec_paramDone_eq hst hall
    refine ⟨fun hf hid hep => hrow.trans ?_, fun h => hrow.trans ?_⟩
    · rw [if_pos (by simp [show (s.link n).firstParam = false from hf, hid, hep, id, ep, l])] <;> rfl
    · have hnew : ¬(!l.firstParam && s.reg .glPeerId n == id && s.reg .glPeerEpoch n == ep) = true := fun hb => by
        simp only [Bool.and_eq_true, Bool.not_eq_true', beq_iff_eq] at hb
        obtain ⟨⟨hf, hid⟩, hep⟩ := hb
        rcases h with h | h | h
        · exact Bool.false_ne_true (hf.symm.trans h)
        · exact h hid
        · exact h hep
      rw [if_neg hnew] <;> rfl

end Sys2Proof.Machine
end

section
/-! PROOFS. Swaps of the routing tables, egress and slot tables (R304 to R323). -/
namespace Sys2Proof.Machine

/-- The shadow is the copy that is not active. -/
theorem Routing.onShadow_eq (r : Routing) (f : RtCopy → RtCopy) :
    r.onShadow f = if r.activeCopy then { r with copy0 := f r.shadow } else { r with copy1 := f r.shadow } := by
  unfold Routing.onShadow Routing.setCopy
  cases r.activeCopy <;> simp

/-- A change of the shadow leaves the active copy. -/
theorem Routing.active_onShadow (r : Routing) (f : RtCopy → RtCopy) : (r.onShadow f).active = r.active := by
  rw [Routing.onShadow_eq]
  unfold Routing.active
  cases r.activeCopy <;> simp

section
variable {s : State}

/-! ### Swaps of the routing tables (R304 to R307) -/

section Swaps
variable {w : Swap} (hw : s.openSwap = some w)
include hw

theorem exec_rtDrainComplete_eq (hst : w.stage = 2) (h0 : ∀ t ∈ w.affected, s.reg .rtOutstanding t = 0) :
    exec .rtDrainComplete s = .next (s.toggle w) := by
  show execRtDrainComplete s = _
  unfold execRtDrainComplete
  rw [hw]
  dsimp only
  rw [if_pos (by simpa [hst] using h0)]

section
variable (hst : w.stage = 2) (ht : w.startedAt + s.reg .rtDrainLimit 0 * usec ≤ s.now)
include hst ht

theorem exec_rtDrainLimitExpiry_toggle (h : w.force = true ∨ ∀ t ∈ w.affected, s.reg .rtOutstanding t = 0) :
    exec .rtDrainLimitExpiry s = .next (s.toggle w) := by
  show execRtDrainLimitExpiry s = _
  unfold execRtDrainLimitExpiry
  rw [hw]
  dsimp only
  rw [if_neg (by simp [hst, State.past, ht]), if_pos (by simpa using h)]

theorem exec_rtDrainLimitExpiry_end (hf : w.force = false) (h : ∃ t ∈ w.affected, s.reg .rtOutstanding t ≠ 0) :
    exec .rtDrainLimitExpiry s = .next (((s.unfreeze w).applyDelayed.bump .rtSwapTimeout 0).completeAny 0x0507 0 0x0D
      (s.outCounts w.affected)) := by
  show execRtDrainLimitExpiry s = _
  unfold execRtDrainLimitExpiry
  rw [hw]
  dsimp only
  rw [if_neg (by simp [hst, State.past, ht]), if_neg (by simpa [hf] using h)]
end

theorem exec_rtResyncDone_eq (hst : w.stage = 5) (ht : w.startedAt + 384000 ≤ s.now) :
    let c := s.rt.active
    let u := { (s.onRt fun r => { (if r.activeCopy then { r with copy0 := c } else { r with copy1 := c }) with dirty := [] }) with
      nor := { s.nor with routing := some c, routeOk := true, routeSlotB := !s.nor.routeSlotB } }
    exec .rtResyncDone s = .next ((u.applyDelayed.bump .rtSwaps 0).completeAny 0x0507 0 0 (s.outCounts (List.range 19))) := by
  intro c u
  have hactive : ({ s.rt.onShadow (fun _ => c) with dirty := [] } : Routing).active = c := Routing.active_onShadow _ _
  have hu : (s.onRt fun r => { r.onShadow (fun _ => r.active) with dirty := [] }) =
      s.onRt fun r => { (if r.activeCopy then { r with copy0 := c } else { r with copy1 := c }) with dirty := [] } :=
    congrArg (fun r : Routing => { s with rt := { r with dirty := [] } }) (Routing.onShadow_eq s.rt fun _ => c)
  show execRtResyncDone s = _
  unfold execRtResyncDone
  rw [hw]
  dsimp only
  rw [if_neg (by simp [hst, State.past, ht]), show (s.onRt fun r => { r.onShadow (fun _ => r.active) with dirty := [] }).rt.active = c
    from hactive, hu]
  rfl
end Swaps

/-! ### The next packet of a port (R308, R309) -/

section Pick
variable {n : Port}

/-- The virtual channel of a packet sent again after an epoch change. -/
def flitsVc (fs : List Flit) : Nat := (fs.head?).elim 0 fun f => hdrVc f.bytes

theorem exec_egressPick_requeue {fs : List Flit}
    (h : (s.link n).requeue.find? (fun fs => s.canStart n (flitsVc fs) fs.length) = some fs) : exec (.egressPick n) s = .next
      ((s.onLink n fun l => { l with requeue := l.requeue.erase fs, sending := l.sending ++ fs }).bumpN .glConsumedVc (5 * n + flitsVc fs)
        fs.length) := by
  have hst : (s.link n).st = .active := by
    have hcan := List.find?_some h
    unfold State.canStart at hcan
    simp only [Bool.and_eq_true, decide_eq_true_eq] at hcan
    exact hcan.1.1
  show execEgressPick n s = _
  unfold execEgressPick
  dsimp only
  change (match (s.link n).requeue.find? (fun fs => s.canStart n (flitsVc fs) fs.length) with | some fs => _ | none => _) = _
  rw [h]
  unfold State.startFlits
  dsimp only
  rw [onLink_onLink (by simp [hst]) (by simp [hst])]
  rfl

/-- The packet in front of a queue, where the port can start it. -/
def State.frontStart (s : State) (n : Port) (k : Nat) : Option OutPkt := (s.headOf n k).filter fun o => s.canStart n o.vc o.flits

section
variable (h : (s.link n).requeue.find? (fun fs => s.canStart n (flitsVc fs) fs.length) = none)
include h

theorem exec_egressPick_front : exec (.egressPick n) s =
    (s.frontStart n 2050).elim ((s.frontStart n 2052).elim (((s.countSkips n).choose n).elim (.next (s.countSkips n)) fun c =>
      .next ((s.countSkips n).serveQueue n c.1 c.2.1 c.2.2)) fun o => .next (s.startHead n 2052 o)) fun o =>
        .next (s.startHead n 2050 o) := by
  show execEgressPick n s = _
  unfold execEgressPick
  dsimp only
  change (match (s.link n).requeue.find? (fun fs => s.canStart n (flitsVc fs) fs.length) with | some fs => _ | none => _) = _
  rw [h]
  dsimp only
  change (match s.frontStart n 2050, s.frontStart n 2052 with | some o, _ => _ | none, some o => _ | none, none => _) = _
  cases s.frontStart n 2050 with
  | some o => rfl
  | none =>
    cases s.frontStart n 2052 with
    | some o => rfl
    | none => cases (s.countSkips n).choose n <;> rfl

end
end Pick

/-! ### Slot tables and samples (R319, R323) -/

section Samples
variable {n : Port}

theorem exec_slotTableWrap_eq (hp : (s.eg n).swapPending = true) (ht : (s.eg n).shadowAt / 26214400 < s.now / 26214400) :
    exec (.slotTableWrap n) s = .next (s.onEg n fun e =>
      { e with slots := e.shadow, shadow := e.slots, swapPending := false, activeCopy := !e.activeCopy }) := by
  show execSlotTableWrap n s = _
  unfold execSlotTableWrap
  dsimp only
  rw [if_pos (by rw [hp, decide_eq_true ht]; rfl)]

/-- The sample of one port. -/
def State.samplePort (s : State) (n : Nat) : State :=
  if !(s.past (s.eg n).sampleAt usec) then s else
  let qs := (s.eg n).queues.filter fun e => decide (e.1 < 2048) && !e.2.isEmpty
  let ing := s.ingress n
  let s := s.onEg n fun e => { e with samples := e.samples + 1, sampleAt := s.now }
  let s := s.each qs fun s q => s.onEg n fun e =>
    e.sample q.1 ((q.2.map (·.flits)).sum) (((q.2.head?).elim 0 fun o => s.now - o.since) / 6400)
  s.each ((ing.map Prod.fst).eraseDups) fun s i =>
    let w := ing.filter fun r => r.1 == i
    s.onEg n fun e => e.sample (2048 + i) ((w.map fun r => r.2.1).sum) ((s.now - (w.map fun r => r.2.2).foldl min s.now) / 6400)

theorem exec_queueSample_eq : exec .queueSample s = .next (s.each (List.range 18) State.samplePort) := rfl

/-- A port's egress state once a sample at a time has been counted. -/
def Egress.counted (t : Nat) (e : Egress) : Egress := { e with samples := e.samples + 1, sampleAt := t }

/-- The egress of a port that has taken a sample differs from a table's default. -/
theorem eg_onEg_of_samples {m : Nat} {f : Egress → Egress} (h : (f (s.eg m)).samples ≠ 0) : (s.onEg m f).eg m = f (s.eg m) :=
  Tab.getD_set_ne _ _ fun h0 => h (congrArg Egress.samples h0)
theorem eg_onEg_other {m k : Nat} {f : Egress → Egress} (h : k ≠ m) : (s.onEg m f).eg k = s.eg k := Tab.getD_set_other _ _ h _

/-- A port's sample changes no other port's egress state, no time and no packet that came in. -/
theorem samplePort_read {β : Type} {m : Nat} (g : State → β) (hg : ∀ u : State, ∀ f, g (u.onEg m f) = g u) :
    g (s.samplePort m) = g s := by
  unfold State.samplePort
  split
  · rfl
  · dsimp only
    rw [State.each_read g (fun _ _ => hg _ _), State.each_read g (fun _ _ => hg _ _), hg]

/-- Each port is sampled as it stood before the samples of the others. -/
theorem each_samplePort {l : List Nat} {k : Nat} (hk : k ∈ l) (hl : l.Nodup) :
    ∃ u : State, u.eg k = s.eg k ∧ u.now = s.now ∧ u.ingress k = s.ingress k ∧
      (s.each l State.samplePort).eg k = (u.samplePort k).eg k := by
  induction l generalizing s with
  | nil => cases hk
  | cons m l ih =>
    obtain ⟨hm, hl⟩ := List.nodup_cons.mp hl
    by_cases hne : k = m
    · subst hne
      refine ⟨s, rfl, rfl, rfl, State.each_read_of_mem (s := s.samplePort k) (State.eg · k) fun u j hj => ?_⟩
      exact samplePort_read (State.eg · k) fun u f => eg_onEg_other fun h => hm (h ▸ hj)
    · obtain ⟨u, hu⟩ := ih (s := s.samplePort m) ((List.mem_cons.mp hk).resolve_left hne) hl
      rw [samplePort_read (State.eg · k) fun u f => eg_onEg_other hne, samplePort_read State.now fun _ _ => rfl,
        samplePort_read (State.ingress · k) fun _ _ => rfl] at hu
      exact ⟨u, hu⟩

section
variable {k : Nat} (ht : (s.eg k).sampleAt + usec ≤ s.now) (hi : s.ingress k = [])
include ht hi

theorem eg_samplePort_empty (hq : (s.eg k).queues = []) :
    (s.samplePort k).eg k = { s.eg k with samples := (s.eg k).samples + 1, sampleAt := s.now } := by
  unfold State.samplePort
  rw [if_neg (by simp [State.past, ht]), hq, hi]
  exact eg_onEg_of_samples (f := Egress.counted s.now) (Nat.succ_ne_zero _)

theorem eg_samplePort_one {q : Nat} {o : OutPkt} {os : List OutPkt} (hq : (s.eg k).queues = [(q, o :: os)]) (hlt : q < 2048) :
    (s.samplePort k).eg k = ({ s.eg k with samples := (s.eg k).samples + 1, sampleAt := s.now } : Egress).sample q
      (o.flits + (os.map (·.flits)).sum) ((s.now - o.since) / 6400) := by
  unfold State.samplePort
  rw [if_neg (by simp [State.past, ht]), hq, hi]
  have hone : [(q, o :: os)].filter (fun e => decide (e.1 < 2048) && !e.2.isEmpty) = [(q, o :: os)] := by simp [hlt]
  rw [hone]
  have hcounted : (s.onEg k (Egress.counted s.now)).eg k = Egress.counted s.now (s.eg k) := eg_onEg_of_samples (Nat.succ_ne_zero _)
  refine (eg_onEg_of_samples (s := s.onEg k (Egress.counted s.now)) (m := k)
    (f := fun e => e.sample q (((o :: os).map (·.flits)).sum) ((s.now - o.since) / 6400)) ?_).trans ?_
  · rw [hcounted]
    exact Nat.succ_ne_zero _
  · rw [hcounted]
    rfl
end
end Samples
end

/-- Settles O55: by the stage of the swap, by what the port can start, and by the sample of one port. -/
theorem swapsAndEgress : Obligations.SwapsAndEgress := by
  unfold Obligations.SwapsAndEgress
  intro s n
  refine ⟨fun w htk hw => ?_, fun fs h => exec_egressPick_requeue h, fun h => ?_, exec_slotTableWrap_eq, fun ht hi => ?_⟩
  · have hopen : s.openSwap = some w := by
      unfold State.openSwap
      rw [htk]
      exact hw
    exact ⟨exec_rtDrainComplete_eq hopen, fun hst ht => ⟨exec_rtDrainLimitExpiry_toggle hopen hst ht,
      exec_rtDrainLimitExpiry_end hopen hst ht⟩, exec_rtResyncDone_eq hopen⟩
  · intro direct
    have hrow : exec (.egressPick n) s = (direct 2050).elim ((direct 2052).elim (((s.countSkips n).choose n).elim (.next (s.countSkips n))
      fun c => .next ((s.countSkips n).serveQueue n c.1 c.2.1 c.2.2)) fun o => .next (s.startHead n 2052 o)) fun o =>
        .next (s.startHead n 2050 o) := exec_egressPick_front h
    refine ⟨fun o h1 => ?_, fun o h1 h2 => ?_, fun h1 h2 => ⟨fun k a b hc => ?_, fun hc => ?_⟩⟩ <;> rw [hrow, h1]
    · rfl
    · rw [h2] <;> rfl
    · rw [h2, hc] <;> rfl
    · rw [h2, hc] <;> rfl
  · obtain ⟨u, heg, hnow, hing, hu⟩ := each_samplePort (s := s) (List.mem_range.mpr n.isLt) List.nodup_range
    refine ⟨_, exec_queueSample_eq, fun hq => ?_, fun q o os hq hlt => ?_⟩ <;> rw [hu, ← heg, ← hnow] <;> rw [← heg, ← hnow] at ht
    · exact eg_samplePort_empty ht (hing.trans hi) (by rw [heg, hq])
    · exact eg_samplePort_one ht (hing.trans hi) (by rw [heg, hq]) hlt

end Sys2Proof.Machine
end

section
/-! PROOFS. Lookout: filters, wakes, throttle, trip, DORMANT (R466 to R479). -/
namespace Sys2Proof.Machine

section
variable {s : State}

/-- Two runs over a list agree where their steps agree on every state that keeps a property. -/
theorem State.each_congr_of {α : Type} {l : List α} {f g : State → α → State} {P : State → Prop} (hs : P s)
    (hP : ∀ u, ∀ x ∈ l, P u → P (f u x)) (h : ∀ u, ∀ x ∈ l, P u → f u x = g u x) : s.each l f = s.each l g := by
  unfold State.each
  induction l generalizing s with
  | nil => rfl
  | cons x l ih =>
    rw [List.foldl_cons, List.foldl_cons, ← h s x (List.mem_cons_self ..) hs]
    exact ih (hP s x (List.mem_cons_self ..) hs) (fun u y hy => hP u y (List.mem_cons_of_mem _ hy))
      fun u y hy => h u y (List.mem_cons_of_mem _ hy)

/-! ### Filters and decisions (R467, R468) -/

theorem exec_lookoutSample_eq (ht : s.lk.sampleAt + 256000 ≤ s.now) :
    let led := (List.range 94).filter s.led
    let u := s.each (List.range 94) fun s r => s.setReg .lkFilt r
      (lkFilter (s.reg .lkClsCfgK (lkClass r)) (s.reg .lkFilt r) (if led.contains r then 65535 else 0))
    exec .lookoutSample s = .next (u.onLk fun k => { k with
      lead := [], sampleAt := u.now, sampled := true, lastLead := led.foldl (fun t r => Tab.put t r u.now) k.lastLead }) := by
  intro led u
  show execLookoutSample s = _
  unfold execLookoutSample
  rw [if_neg (by simp [State.past, ht])]

theorem exec_lookoutDecision_eq (hs : s.lk.sampled = true) (ht : s.lk.sampleAt + 32000 ≤ s.now) :
    exec .lookoutDecision s = .next
      ((s.onLk fun k => { k with sampled := false }).each (List.range 94) fun s r =>
        if s.asleep r = true ∧ s.wantsWake r = true ∧ Tab.has s.lk.waking r = false then
          (s.onLk fun k => { k with waking := Tab.put k.waking r s.now }).bump .pwrWakesAhead 0
        else if s.asleep r = false ∧ (s.reg .lkClsCfgEn (lkClass r) = 1 ∨ s.lk.state = 1) ∧ s.wantsSleep r = true ∧ s.maySleep r = true
            ∧ Tab.has s.lk.waking r = false then s.sleep r
        else s) := by
  show execLookoutDecision s = _
  unfold execLookoutDecision
  rw [if_neg (by simp [hs, State.past, ht])]
  dsimp only
  congr 2
  funext u r
  cases u.asleep r
  · simp [and_assoc]
  · simp

/-! ### Wakes (R469) -/

section Wake
variable {r : Fin 94} {t : Nat} (hr : Tab.get? s.lk.waking r = some t) (ht : t + wakeCost r ≤ s.now)
include hr ht

/-- What the end of a wake does to its resource. -/
theorem exec_resourceWakeDone_eq (htest : r.val < 32 → (s.clu r).test = none) :
    let woken := s.onLk fun k => { k with wokenAt := Tab.put k.wokenAt r s.now }
    let done := woken.onLk fun k => { k with waking := Tab.del k.waking r }
    exec (.resourceWakeDone r) s = .next
      (if 44 ≤ r.val ∧ r.val < 62 then woken.lpExit (r - 44)
       else if r.val < 32 then done.onClu r fun c => { c with clockRun := true }
       else if r.val < 44 then done.leaveSelfRefresh (r - 32)
       else done.onFch (r - 62) fun x => { x with parked := false }) := by
  intro woken done
  show execResourceWakeDone r s = _
  unfold execResourceWakeDone
  dsimp only
  rw [hr]
  dsimp only
  rw [if_neg]
  · split
    · rfl
    · split
      · rfl
      · split <;> rfl
  · by_cases h : r.val < 32
    · simp [State.past, ht, htest h]
    · simp [State.past, ht, h]

omit ht in
theorem lpExit_woken (h44 : 44 ≤ r.val) (hst : (s.link (r - 44)).st = .lpIdle) (f : Lookout → Lookout)
    (hf : (f s.lk).waking = s.lk.waking) :
    (s.onLk f).lpExit (r - 44) = ((s.onLk f).onLk fun k => { k with waking := Tab.del k.waking r }).toActive (r - 44) := by
  have hidx : 44 + (r.val - 44) = r := by omega
  unfold State.lpExit
  rw [hidx, if_pos]
  have hhas : Tab.has (s.onLk f).lk.waking r = true := by
    rw [show (s.onLk f).lk.waking = s.lk.waking from hf, Tab.has, hr]
    rfl
  rw [hhas, Bool.and_true]
  exact decide_eq_true hst
end Wake

/-! ### Sensors, throttle and trip (R471 to R473) -/

theorem exec_throttleEval_eq (ht : s.lk.evalAt + msec ≤ s.now) (h0 : s.lk.tripped = false) : exec .throttleEval s = .next
    ((s.onLk fun l => { l with evalAt := s.now }).each (List.range 9) fun s d =>
      let hot := (((List.range 64).filter fun i => sensorDie i == d).map s.temp).foldl max 0
      if 256 * s.reg .lkThrotStart 0 ≤ hot then s.setReg .pwrThrotLevel d (min 7 (s.reg .pwrThrotLevel d + 1))
      else if hot < 256 * (s.reg .lkThrotStart 0 - s.reg .lkThrotHyst 0) then s.setReg .pwrThrotLevel d (s.reg .pwrThrotLevel d - 1)
      else s) := by
  show execThrottleEval s = _
  unfold execThrottleEval
  dsimp only
  rw [if_neg (by simp [State.past, ht]), if_neg (by simp [State.onLk, h0])]

theorem exec_tripRelease_eq {t : Nat} (h1 : s.lk.tripped = true) (hb : s.lk.belowSince = some t) (ht : t + 10 * msec ≤ s.now) :
    exec .tripRelease s = .next (s.onLk fun l => { l with tripped := false }) := by
  show execTripRelease s = _
  unfold execTripRelease
  have hp : s.past t (10 * msec) = true := decide_eq_true ht
  rw [h1, hb, Option.elim_some, hp]
  rfl

section Sensors
variable (temps : List (BitVec 8))

/-- The state whose filters have taken a reading of every sensor. -/
def State.sensed (s : State) (temps : List (BitVec 8)) : State := s.each temps.zipIdx fun s x =>
  let y := lkFilter (s.reg .lkThermK 0) (s.temp x.2) (256 * x.1.toNat)
  (s.onLk fun l => { l with filt := Tab.set 0 l.filt x.2 y }).setReg .lkSensor x.2 (y / 256)

/-- A reading leaves the filter's constant, so each sensor is filtered with the one that stood before. -/
theorem sensed_eq (hlen : temps.length ≤ 64) : s.sensed temps = s.each temps.zipIdx fun u x =>
    let y := lkFilter (s.reg .lkThermK 0) (u.temp x.2) (256 * x.1.toNat)
    (u.onLk fun l => { l with filt := Tab.set 0 l.filt x.2 y }).setReg .lkSensor x.2 (y / 256) := by
  refine State.each_congr_of (P := fun u => u.reg .lkThermK 0 = s.reg .lkThermK 0) rfl (fun u x hx hu => ?_) fun u x _ hu => ?_
  · have hlt := List.snd_lt_of_mem_zipIdx hx
    exact (State.reg_setReg_other (by decide) (by omega) (by decide)).trans hu
  · dsimp only
    rw [hu]

/-- The state after a reading, with the time since which every sensor is below the release level. -/
def State.sensorsRead (s : State) (temps : List (BitVec 8)) : State :=
  let u := s.sensed temps
  let release := 256 * (u.reg .lkThrotStart 0 - u.reg .lkThrotHyst 0)
  u.onLk fun l => { l with
    sensorAt := u.now
    belowSince := if (List.range 64).all fun i => decide (u.temp i < release) then some (l.belowSince.getD u.now) else none }

theorem exec_sensorRead_eq (ht : s.lk.sensorAt + 2048000 ≤ s.now) (h0 : s.lk.tripped = false) (hlen : temps.length ≤ 64) :
    exec (.sensorRead temps) s = .next (if (List.range 64).any fun i => decide (26880 ≤ (s.sensed temps).temp i)
      then (s.sensorsRead temps).trip else s.sensorsRead temps) := by
  have htrip : (s.sensorsRead temps).lk.tripped = false := by
    refine Eq.trans ?_ h0
    exact State.each_read (s := s) (fun u => u.lk.tripped) fun _ _ => rfl
  show execSensorRead temps s = _
  unfold execSensorRead
  dsimp only
  rw [if_neg (by simp [State.past, ht]), List.take_of_length_le hlen, ← sensed_eq temps hlen]
  refine congrArg Host.Outcome.next ?_
  change (if !(s.sensorsRead temps).lk.tripped && _ then (s.sensorsRead temps).trip else s.sensorsRead temps) = _
  rw [htrip]
  rfl
end Sensors

/-! ### Telemetry and DORMANT (R475, R522) -/

theorem exec_telemetryRead_eq (ht : s.lk.telemAt + msec ≤ s.now) (hp : s.board.phase = .ready) {vals : List (Option (BitVec 16))}
    (hlen : vals.length ≤ 16) :
    let alert (u : State) (i : Nat) : State := u.setReg .pwrTelemAlert 0 (setBits (u.reg .pwrTelemAlert 0) i 1 1)
    exec (.telemetryRead vals) s = .next ((s.onLk fun l => { l with telemAt := s.now }).each vals.zipIdx fun s x =>
      let t := Tab.getD s.lk.telem x.2 {}
      if t.addr = 0 then s else
      match x.1 with
      | some v =>
        let u := s.onLk fun l => { l with telem := Tab.put l.telem x.2 { t with value := v.toNat } }
        if t.thresh < v.toNat then alert u x.2 else u
      | none => alert s x.2) := by
  intro alert
  show execTelemetryRead vals s = _
  unfold execTelemetryRead
  rw [if_neg (by simp [State.past, ht, hp]), List.take_of_length_le hlen] <;> rfl

theorem exec_dormantDrainExpiry_eq {t : Nat} (hd : s.lk.dormantAt = some t) (hst : s.lk.state = 2)
    (h : s.drained = true ∨ t + s.reg .rtDrainLimit 0 * usec ≤ s.now) :
    let u := (s.each (List.range 18) fun s n => (s.writeEnable n false).1).complete 0x0B02 0 0 []
    exec .dormantDrainExpiry s = .next (((u.each (u.mbx.map Prod.fst) State.deliver).onLk fun k =>
      { k with state := 3, mainEn := false, dormantAt := none }).onBoard fun b => { b with phase := .reset }) := by
  intro u
  show execDormantDrainExpiry s = _
  unfold execDormantDrainExpiry
  rw [hd]
  dsimp only
  rw [if_neg (by rcases h with h | h <;> simp [hst, State.past, h])]

end

/-- Settles O56: by the rows. -/
theorem lookoutEvents : Obligations.LookoutEvents := by
  unfold Obligations.LookoutEvents
  intro s
  refine ⟨exec_lookoutSample_eq, exec_lookoutDecision_eq, fun r t hr ht => ?_, exec_throttleEval_eq, fun t => exec_tripRelease_eq,
    fun ht h0 temps hlen => ?_, fun ht hp vals => exec_telemetryRead_eq ht hp, fun t => exec_dormantDrainExpiry_eq⟩
  · intro woken done
    have hrow := exec_resourceWakeDone_eq hr ht
    refine ⟨fun h32 htest => (hrow fun _ => htest).trans ?_, fun h32 h44 => (hrow (by omega)).trans ?_,
      fun h44 h62 hst => (hrow (by omega)).trans ?_, fun h62 => (hrow (by omega)).trans ?_⟩
    · have h32' : r.val < 32 := h32
      rw [if_neg (by omega), if_pos h32']
    · rw [if_neg (by omega), if_neg (by omega), if_pos h44]
      rfl
    · rw [if_pos ⟨h44, h62⟩, lpExit_woken hr h44 hst _ rfl]
    · rw [if_neg (by omega), if_neg (by omega), if_neg (by omega)]
  · intro u release since v
    have hrow := exec_sensorRead_eq temps ht h0 hlen
    refine ⟨fun hall => hrow.trans ?_, fun ⟨i, hi, hhot⟩ => hrow.trans ?_⟩
    · rw [if_neg]
      · rfl
      · rw [List.any_eq_true]
        rintro ⟨i, hi, hhot⟩
        exact absurd (of_decide_eq_true hhot) (Nat.not_le.mpr (hall i (List.mem_range.mp hi)))
    · rw [if_pos (List.any_eq_true.mpr ⟨i, List.mem_range.mpr hi, decide_eq_true hhot⟩)]
      rfl

end Sys2Proof.Machine
end

section
/-! PROOFS. The meter: frames, accumulators, snapshots, reports (R454 to R465). -/
namespace Sys2Proof.Machine

section
variable {s : State}

/-! ### Senders (R454, R455) -/

section Send
variable {l : Fin 8} {q : Ptn} {qty : Fin 10}

theorem exec_meterDeltaSend_beat (hq : qty.val = 0) (ht : (s.sender l).lastAt + msec ≤ s.now) :
    exec (.meterDeltaSend l q qty) s = .next (s.sendCounter l 0 0 0) :=
  (if_pos hq).trans (congrArg Host.Outcome.next (if_pos (by simp [State.past, ht])))

theorem exec_meterDeltaSend_delta (h1 : 1 ≤ qty.val) (h8 : qty.val ≤ 8) :
    let k := q.val * 16 + qty.val
    let n := min (Tab.getD (s.sender l).deltas k 0) (2 ^ 48 - 1)
    let left := Tab.getD (s.sender l).deltas k 0 - n
    n ≠ 0 → exec (.meterDeltaSend l q qty) s = .next
      ((s.onSender l fun x => { x with deltas := if left = 0 then Tab.del x.deltas k else Tab.put x.deltas k left }).sendCounter l q qty n) := by
  intro k n left hn
  show execMeterDeltaSend l q qty s = _
  unfold execMeterDeltaSend
  rw [if_neg (by omega), if_neg (by omega)]
  exact if_neg hn

theorem exec_meterDeltaSend_draw (hq : qty.val = 9) :
    exec (.meterDeltaSend l q qty) s = .next (s.draw.2.sendCounter l q 9 (s.draw.1 % 2 ^ 48)) := by
  show execMeterDeltaSend l q qty s = _
  unfold execMeterDeltaSend
  rw [if_neg (by omega), if_pos hq]
end Send

/-! ### Frames that arrive (R456, R457) -/

section Receive
variable {l : Fin 8} {frame : BitVec 128} (hst : s.mtr.st = 0)
include hst

/-- The state that has taken a frame from the wire. -/
def State.frameTaken (s : State) (l : Fin 8) : State := s.onSender l fun x => { x with wire := x.wire.drop 1 }
/-- The state in which a link has been heard. -/
def State.linkHeard (s : State) (l : Fin 8) : State :=
  (s.frameTaken l).onMtr fun m => { m with heard := Tab.put m.heard l s.now, silent := m.silent.filter (· != l.val) }

theorem exec_counterFrame_bad (hc : (crc32c ((le 16 frame.toNat).take 12)).toNat ≠ field (le 16 frame.toNat) 12 4) :
    exec (.counterFrame l frame) s = .next ((s.frameTaken l).mtrLog 3 l 1 0) := by
  show execCounterFrame l frame s = _
  unfold execCounterFrame
  exact (if_neg (by simpa [State.onSender] using hst)).trans (if_pos hc)

theorem exec_counterFrame_good (hc : (crc32c ((le 16 frame.toNat).take 12)).toNat = field (le 16 frame.toNat) 12 4) :
    let f := le 16 frame.toNat
    let d := (field f 4 2 + 65536 - Tab.getD s.mtr.live.exps l 0) % 65536
    exec (.counterFrame l frame) s =
      if bit (field f 0 1) 3 then .next (((s.linkHeard l).mtrLog 5 l 1 0).acceptCount l f)
      else if d = 65535 then .next ((s.linkHeard l).mtrLog 2 l 1 0)
      else .next ((if d ≠ 0 then (s.linkHeard l).mtrLog 1 l d 0 else s.linkHeard l).acceptCount l f) := by
  intro f d
  show execCounterFrame l frame s = _
  unfold execCounterFrame
  exact (if_neg (by simpa [State.onSender] using hst)).trans (if_neg (not_not_intro hc))
end Receive

/-! ### Snapshots, silence and start (R458 to R462) -/

/-- The meter whose snapshot in work, when there is one, stands in its slot. -/
def Meter.slotted (m : Meter) : Meter := match m.writing with
  | some w => if w.commits % 2 = 1 then { m with slotA := some w } else { m with slotB := some w }
  | none => m

theorem Meter.live_slotted (m : Meter) : m.slotted.live = m.live := by
  unfold Meter.slotted
  split
  · split <;> rfl
  · rfl

theorem exec_meterSnapshot_eq (hst : s.mtr.st = 0) (ht : s.mtr.lastSnap < s.meterTime / 1000000 * 1000000) :
    let t := s.meterTime / 1000000 * 1000000
    let n := s.mtr.live.commits + 1
    exec .meterSnapshot s = .next (s.onMtr fun m => { m.slotted with
      writing := some { m.live with time := t, commits := n }, live := { m.live with commits := n }, lastSnap := t }) := by
  intro t n
  show execMeterSnapshot s = _
  unfold execMeterSnapshot
  rw [if_neg (by simpa [hst] using ht)]
  change Host.Outcome.next (s.onMtr fun m => { m.slotted with
    writing := some { m.slotted.live with time := t, commits := m.slotted.live.commits + 1 }
    live := { m.slotted.live with commits := m.slotted.live.commits + 1 }, lastSnap := t }) = _
  simp only [Meter.live_slotted]
  rfl

theorem exec_meterLinkSilence_eq {l : Fin 8} (hst : s.mtr.st = 0) (hs : l.val ∉ s.mtr.silent)
    (ht : Tab.getD s.mtr.heard l 0 + s.mtr.silenceMs * msec ≤ s.now) : exec (.meterLinkSilence l) s = .next
      ((s.mtrLog 4 l 1 0).onMtr fun m => { m with silent := l.val :: m.silent }) :=
  if_pos (by simp [hst, hs, State.past, ht])

theorem exec_meterStart_eq (hst : s.mtr.st = 1) (hc : s.mtr.choice = none) :
    let old := s.mtr.last
    exec .meterStart s = .next ((s.onMtr fun m => { m with
      st := 0, live := { old with seals := max old.seals m.live.seals }, writing := none, lastSnap := old.time, epoch := s.now,
      silent := [], heard := (List.range 8).map fun l => (l, s.now), key := m.key.restart }).mtrLog 6 0xFF 1 old.time) := by
  intro old
  show execMeterStart s = _
  unfold execMeterStart
  rw [if_neg (by simp [hst])]
  dsimp only
  change (match s.mtr.choice with | none => _ | some e => _) = _
  rw [hc]

/-! ### Reports (R464, R465) -/

section Reports
variable {r : SignReq} {rest : List SignReq} (hst : s.mtr.st = 0) (hq : s.mtr.queue = r :: rest) (hr : r.report = true)
include hst hq hr

/-- A report is signed over the state that has left the queue. -/
theorem exec_meterSignDone_eq : exec .meterSignDone s =
    let u := s.onMtr fun m => { m with queue := rest }
    match u.signed 1 (u.reportBody r.ptn r.nonce) with
    | .error v => .next (v.complete 0x0A02 r.no 15 [])
    | .ok (b, v) => .next ((v.onMtr fun m => { m with reported := Tab.put m.reported r.ptn m.last.seq }).complete 0x0A02 r.no 0 b) := by
  show execMeterSignDone s = _
  unfold execMeterSignDone
  rw [hq]
  dsimp only
  rw [if_neg (by simp [hst]), hr] <;> rfl
end Reports
end

/-- Settles O57: by the rows. -/
theorem meterOperations : Obligations.MeterOperations := by
  unfold Obligations.MeterOperations
  intro s
  refine ⟨fun l q qty => ⟨exec_meterDeltaSend_beat, exec_meterDeltaSend_delta, exec_meterDeltaSend_draw⟩,
    fun l frame hst => ⟨exec_counterFrame_bad hst, fun hc => ?_⟩, exec_meterSnapshot_eq, fun l => exec_meterLinkSilence_eq,
    exec_meterStart_eq, fun r rest hst hq hr => ⟨fun b v h => ?_, fun v h => ?_⟩⟩
  · have hrow := exec_counterFrame_good (l := l) hst hc
    refine ⟨fun h3 => hrow.trans (if_pos h3), fun h3 => ?_⟩
    have hrow := hrow.trans (if_neg (by simp [h3]))
    refine ⟨fun h0 => hrow.trans ((if_neg (by omega)).trans ?_), fun h1 => hrow.trans (if_pos h1),
      fun h0 h1 => hrow.trans ((if_neg h1).trans ?_)⟩
    · rw [if_neg (not_not_intro h0)] <;> rfl
    · rw [if_pos h0] <;> rfl
  · exact (exec_meterSignDone_eq hst hq hr).trans (by dsimp only; rw [h] <;> rfl)
  · exact (exec_meterSignDone_eq hst hq hr).trans (by dsimp only; rw [h] <;> rfl)

end Sys2Proof.Machine
end

section
/-! PROOFS. Resets, pins and lost references (R495 to R505). -/
namespace Sys2Proof.Machine

section
variable {s : State}

/-! ### Rows of the pins -/

theorem resettable_of (h1 : s.board.phase ≠ .lost) (h2 : s.board.porLow = false) (h3 : s.lk.state ≠ 3) : s.resettable = true := by
  simp [State.resettable, h1, h2, h3]

theorem exec_porstN_high {strap : BitVec 16} (h : s.board.porLow = true) : exec (.porstN false strap) s = .next (s.onBoard fun b =>
    { b with phase := .rom, porLow := false, startAt := s.now, strap := strap.toNat, gpio := strap.toNat }) :=
  if_pos h

section Resettable
variable (hr : s.resettable = true)
include hr

theorem exec_warmN_low : exec (.warmN true) s = .next (s.warm.onBoard fun b => { b with phase := .reset, warmLow := true }) :=
  if_pos hr

theorem exec_warmN_high (hw : s.board.warmLow = true) :
    exec (.warmN false) s = .next (s.onBoard fun b => { b with phase := .rom, warmLow := false, startAt := s.now }) :=
  if_pos (by simp [hw, hr])

theorem exec_resetStart_eq {k t : Nat} (hd : s.board.resetDue = some (k, t)) (ht : t + 100 * usec ≤ s.now) :
    exec .resetStart s = .next (if k = 2 then s.transitKeep else s.warm) := by
  have hp : s.past t (100 * usec) = true := decide_eq_true ht
  show execResetStart s = _
  unfold execResetStart
  rw [hd]
  dsimp only
  rw [hr, hp]
  rfl

theorem exec_debugUnlockExpiry_eq (hd : s.sec.debugOn = true) (ht : s.sec.debugEnd ≤ s.now) :
    exec .debugUnlockExpiry s = .next s.warm :=
  congrArg Host.Outcome.next (if_pos (by simp [hd, hr, ht]))
end Resettable

theorem exec_porstVN_high (h : s.board.porVLow = true) : exec (.porstVN false) s = .next
    ((s.onBoard fun b => { b with porVLow := false }).onMtr fun m => { m with st := 1 }) :=
  if_pos h

theorem exec_wakeN_eq (hst : s.lk.state = 3) (hr : s.lk.railAt = none) (hp : s.board.porLow = false) :
    exec .wakeN s = .next (s.onLk fun k => { k with mainEn := true, railAt := some s.now }) :=
  congrArg Host.Outcome.next (if_pos (by simp [hst, hr, hp]))

theorem exec_railWaitExpiry_eq {t : Nat} (hr : s.lk.railAt = some t) (hst : s.lk.state = 3)
    (ht : t + s.reg .lkRailWait 0 * msec ≤ s.now) : exec .railWaitExpiry s = .next s.warm := by
  show execRailWaitExpiry s = _
  unfold execRailWaitExpiry
  rw [hr]
  dsimp only
  rw [if_pos (by simp [hst, State.past, ht])]

/-- The loss of a line clock takes down the ports of its half. -/
theorem exec_refclkLoss_line {w : Fin 6} (hw : w.val = 1 ∨ w.val = 2) : exec (.refclkLoss w) s = .next
    ((s.each ((List.range 18).filter fun n => n / 9 == w.val - 1) fun s n =>
      (s.discardHeld n).onLink n fun _ => { st := .down, stSince := s.now }).onBoard fun b =>
        { b with clocksLost := w.val :: b.clocksLost.filter (· != w.val) }) := by
  obtain ⟨w, hlt⟩ := w
  rcases hw with rfl | rfl
  · rfl
  · rfl

/-! ### What a reset leaves (R495 to R500) -/

/-- The draws of new epochs change nothing else. -/
theorem powerOn_read {β : Type} (g : State → β) (hg : ∀ u : State, ∀ n, g (u.draw.2.setReg .glEpoch n (u.draw.1 % 2 ^ 32)) = g u) :
    g s.powerOn = g ((s.durable.onSec fun x => { x with debugOn := false, debugEnd := 0 }).onBoard fun x =>
      { x with kind := 0, startAt := s.now, vault := s.board.vault, porVLow := s.board.porVLow, strap := s.board.strap,
               gpio := s.board.gpio }) :=
  State.each_read g hg

/-- The state of a warm reset before its epochs rise. -/
def State.warmBase (s : State) : State :=
  ({ s.durable with regs := s.regsKept keptWarm, lk := s.lk.kept } : State).onBoard fun x =>
    { x with kind := 1, startAt := s.now, vault := s.board.vault, porVLow := s.board.porVLow, warmLow := s.board.warmLow
             strap := s.board.strap, gpio := s.board.gpio, clocksLost := s.board.clocksLost }
/-- The state of a warm reset whose epochs have risen. -/
def State.warmEpochs (s : State) : State :=
  s.warmBase.each (List.range 18) fun u n => u.setReg .glEpoch n (wrapAdd 32 (s.reg .glEpoch n) 1)
theorem warm_eq : s.warm = s.warmEpochs.unlockStep := rfl

theorem warmEpochs_read {β : Type} (g : State → β) (hg : ∀ u : State, ∀ n v, g (u.setReg .glEpoch n v) = g u) :
    g s.warmEpochs = g s.warmBase :=
  State.each_read g fun _ _ => hg _ _ _

/-- An unlock after the reset changes the security settings and the meter only. -/
theorem unlockStep_read {β : Type} (g : State → β) (hsec : ∀ u : State, ∀ f, (∀ x : Sec, (f x).pset = x.pset) → g (u.onSec f) = g u)
    (hmtr : ∀ u : State, ∀ f, g (u.onMtr f) = g u) : g s.unlockStep = g s := by
  unfold State.unlockStep
  split
  · unfold State.seal State.mtrLog
    dsimp only
    rw [hmtr, hmtr]
    exact hsec _ _ fun _ => rfl
  · split
    · exact hsec _ _ fun _ => rfl
    · rfl

/-- What a warm reset leaves apart from epochs, security settings and the meter. -/
theorem warm_read {β : Type} (g : State → β) (hreg : ∀ u : State, ∀ n v, g (u.setReg .glEpoch n v) = g u)
    (hsec : ∀ u : State, ∀ f, (∀ x : Sec, (f x).pset = x.pset) → g (u.onSec f) = g u) (hmtr : ∀ u : State, ∀ f, g (u.onMtr f) = g u) :
    g s.warm = g s.warmBase := by
  rw [warm_eq, unlockStep_read g hsec hmtr, warmEpochs_read g hreg]

theorem mtr_unlockStep {u : State} (h : u.sec.unlockDue = false) : u.unlockStep.mtr = u.mtr := by
  unfold State.unlockStep
  rw [if_neg (by simp [h])]
  split <;> rfl

theorem mtr_warm (h : s.sec.unlockDue = false) : s.warm.mtr = s.mtr := by
  have hsec : s.warmEpochs.sec = s.sec.kept := warmEpochs_read State.sec fun _ _ _ => rfl
  rw [warm_eq, mtr_unlockStep (by rw [hsec]; exact h)]
  exact warmEpochs_read State.mtr fun _ _ _ => rfl

/-- An epoch stands in no register that a warm reset keeps. -/
theorem get?_filter_none {α : Type} {p : Nat → Bool} {k : Nat} (hk : p k = false) (t : Tab α) :
    Tab.get? (t.filter fun x => p x.1) k = none := by
  induction t with
  | nil => rfl
  | cons x t ih =>
    obtain ⟨j, v⟩ := x
    by_cases hp : p j = true
    · have hj : k ≠ j := fun h => by rw [h, hp] at hk; cases hk
      simp [Tab.get?, hp, hj, ih]
    · simp [hp, ih]

theorem keptWarm_glEpoch {n : Nat} (hn : n < 18) : keptWarm (Reg.glEpoch.key n / 2 ^ 20) = false := by
  have hkey : Reg.glEpoch.key n / 2 ^ 20 = Reg.glEpoch.ctorIdx := by unfold Reg.key; omega
  rw [hkey]
  decide

/-- Deleting an entry that is not there changes nothing. -/
theorem Tab.del_of_get?_none {α : Type} {t : Tab α} {k : Nat} (h : Tab.get? t k = none) : Tab.del t k = t := by
  induction t with
  | nil => rfl
  | cons x t ih =>
    obtain ⟨j, v⟩ := x
    by_cases hj : k = j
    · simp [Tab.get?, hj] at h
    · simp only [Tab.get?, hj, if_false] at h
      simp [Tab.del, hj, ih h]

/-- A register that no entry lists holds what is written to it. -/
theorem reg_setReg_of_unlisted {r : Reg} {i v : Nat} (h : Tab.get? s.regs (r.key i) = none) : (s.setReg r i v).reg r i = v := by
  unfold State.setReg State.reg
  by_cases hv : v = r.resetAt i
  · rw [Tab.set, if_pos hv, Tab.del_of_get?_none h]
    exact (congrArg (Option.getD · _) h).trans hv.symm
  · exact Tab.getD_set_ne _ _ hv

theorem reg_glEpoch_other {n m v : Nat} (h : n ≠ m) : (s.setReg .glEpoch m v).reg .glEpoch n = s.reg .glEpoch n :=
  State.reg_setReg_of_key_ne fun hk => h (by unfold Reg.key at hk; omega)

theorem get?_glEpoch_other {n m v : Nat} (h : n ≠ m) :
    Tab.get? (s.setReg .glEpoch m v).regs (Reg.glEpoch.key n) = Tab.get? s.regs (Reg.glEpoch.key n) := by
  have hk : Reg.glEpoch.key n ≠ Reg.glEpoch.key m := fun hk => h (by unfold Reg.key at hk; omega)
  unfold State.setReg Tab.set
  split
  · exact Tab.get?_del_other _ hk
  · exact Tab.get?_put_other _ _ hk

/-- Epochs set one after another on a table that lists none hold what was set. -/
theorem reg_each_glEpoch {l : List Nat} {n : Nat} {v : Nat → Nat} (hn : n ∈ l) (hl : l.Nodup)
    (h : Tab.get? s.regs (Reg.glEpoch.key n) = none) : (s.each l fun u n => u.setReg .glEpoch n (v n)).reg .glEpoch n = v n := by
  induction l generalizing s with
  | nil => cases hn
  | cons m l ih =>
    obtain ⟨hm, hl⟩ := List.nodup_cons.mp hl
    by_cases hne : n = m
    · subst hne
      refine (State.each_read_of_mem (s := s.setReg .glEpoch n (v n)) (State.reg · .glEpoch n) fun u j hj => ?_).trans
        (reg_setReg_of_unlisted h)
      exact reg_glEpoch_other fun h => hm (h ▸ hj)
    · exact ih ((List.mem_cons.mp hn).resolve_left hne) hl ((get?_glEpoch_other hne).trans h)

theorem reg_glEpoch_warm {n : Nat} (hn : n < 18) : s.warm.reg .glEpoch n = wrapAdd 32 (s.reg .glEpoch n) 1 := by
  rw [warm_eq, unlockStep_read (State.reg · .glEpoch n) (fun _ _ _ => rfl) fun _ _ => rfl]
  exact reg_each_glEpoch (s := s.warmBase) (List.mem_range.mpr hn) List.nodup_range 
    (get?_filter_none (p := fun k => keptWarm (k / 2 ^ 20)) (keptWarm_glEpoch hn) s.regs)

/-- The wakes of the ports go on through a transit-keep reset. -/
theorem waking_transitKeep {n : Nat} (hn : n < 18) :
    Tab.get? s.transitKeep.lk.waking (44 + n) = Tab.get? s.lk.waking (44 + n) :=
  get?_filter_of_key (p := fun k => decide (44 ≤ k ∧ k < 62)) (by simp; omega) s.lk.waking

end

/-- Settles O58: by the rows of the pins, and by what each reset leaves. -/
theorem resetsAndPins : Obligations.ResetsAndPins := by
  unfold Obligations.ResetsAndPins
  intro s
  refine ⟨fun strap => ⟨rfl, exec_porstN_high⟩, fun h1 h2 h3 => ?_, ⟨rfl, rfl⟩, exec_porstVN_high, exec_wakeN_eq,
    fun t => exec_railWaitExpiry_eq, rfl, ⟨rfl, rfl, rfl, fun w => exec_refclkLoss_line⟩, ?_, mtr_warm, ?_, ?_⟩
  · have hr := resettable_of h1 h2 h3
    exact ⟨exec_warmN_low hr, exec_warmN_high hr, fun t => exec_resetStart_eq hr, fun t => exec_resetStart_eq hr,
      exec_debugUnlockExpiry_eq hr⟩
  · exact ⟨powerOn_read State.mtr fun _ _ => rfl, powerOn_read State.now fun _ _ => rfl, powerOn_read State.comp fun _ _ => rfl,
      powerOn_read State.mbx fun _ _ => rfl, powerOn_read State.links fun _ _ => rfl, powerOn_read (·.mem.dram) fun _ _ => rfl,
      powerOn_read (·.sec.agree) fun _ _ => rfl, powerOn_read (·.board.phase) fun _ _ => rfl⟩
  · exact ⟨warm_read (·.sec.pset) (fun _ _ _ => rfl) (fun _ _ hf => hf _) fun _ _ => rfl,
      warm_read State.comp (fun _ _ _ => rfl) (fun _ _ _ => rfl) fun _ _ => rfl,
      warm_read (·.mem.dram) (fun _ _ _ => rfl) (fun _ _ _ => rfl) fun _ _ => rfl,
      warm_read (·.board.kind) (fun _ _ _ => rfl) (fun _ _ _ => rfl) fun _ _ => rfl, fun n => reg_glEpoch_warm⟩
  · exact ⟨rfl, rfl, rfl, rfl, rfl, rfl, rfl, rfl, rfl, rfl, fun n => waking_transitKeep⟩

end Sys2Proof.Machine
end

section
/-! PROOFS. Start-up step by step (R501 to R507). -/
namespace Sys2Proof.Machine

section
variable {s : State}

/-- A fold sees no more of its step than what it does with the list's entries. -/
theorem foldl_congr_mem {α β : Type} {f g : β → α → β} : ∀ {l : List α} {b : β}, (∀ b, ∀ x ∈ l, f b x = g b x) →
    l.foldl f b = l.foldl g b
  | [], _, _ => rfl
  | x :: l, b, h => by
    rw [List.foldl_cons, List.foldl_cons, h b x (List.mem_cons_self ..),
      foldl_congr_mem fun c y hy => h c y (List.mem_cons_of_mem _ hy)]

/-! ### Stage 1 and main firmware (R501 to R503) -/

section Rom
variable (hp : s.board.phase = .rom)
include hp

theorem exec_stage1Verified_false : exec (.stage1Verified false) s = .next (s.onBoard fun b => { b with phase := .selfTestFailed }) :=
  if_neg (not_not_intro hp)

theorem exec_stage1Verified_none (hi : s.imageSlot 0 = none) :
    exec (.stage1Verified true) s = .next (s.onBoard fun b => { b with phase := .noStage1 }) := by
  show execStage1Verified true s = _
  unfold execStage1Verified
  rw [if_neg (not_not_intro hp), if_neg (by decide), hi]

theorem exec_stage1Verified_some {slot : Nat} {i : FwImage} (hi : s.imageSlot 0 = some (slot, i)) :
    let u := { s with nor := { s.nor with run := Tab.put s.nor.run 0 slot },
                      board := { s.board with phase := .stage1, stageAt := s.now } }
    exec (.stage1Verified true) s = .next (if u.vaultOk then u.openRecords else u) := by
  show execStage1Verified true s = _
  unfold execStage1Verified
  rw [if_neg (not_not_intro hp), if_neg (by decide), hi]
  rfl
end Rom

section StageOne
variable (hp : s.board.phase = .stage1) (hl : s.board.linkOpen = true)
include hp hl

theorem exec_mainFirmwareVerified_none (hi : s.imageSlot 1 = none) :
    exec .mainFirmwareVerified s = .next (s.onBoard fun b => { b with mainDone := true, noMain := true }) := by
  show execMainFirmwareVerified s = _
  unfold execMainFirmwareVerified
  rw [if_neg (not_not_intro hp), if_neg (by simp [hl]), if_neg (by simp [hl]), hi]

theorem exec_mainFirmwareVerified_some {slot : Nat} {i : FwImage} (hi : s.imageSlot 1 = some (slot, i)) :
    exec .mainFirmwareVerified s = .next
      ({ s with nor := { s.nor with run := Tab.put s.nor.run 1 slot }, board := { s.board with mainDone := true } } : State).advance := by
  show execMainFirmwareVerified s = _
  unfold execMainFirmwareVerified
  rw [if_neg (not_not_intro hp), if_neg (by simp [hl]), if_neg (by simp [hl]), hi]
  rfl

theorem exec_vddcVidStep_eq (hk : s.board.kind ≠ 2) (ht : s.board.vidAt + 100 * usec ≤ s.now) :
    let goal := ofLe (Config.provisioned 30 1) % 81
    exec .vddcVidStep s = .next (s.onBoard fun b => { b with
      vidAt := s.now, vid := if b.vid < goal then min goal (b.vid + 4) else max goal (b.vid - 4) }) := by
  intro goal
  have hpast : s.past s.board.vidAt (100 * usec) = true := decide_eq_true ht
  show execVddcVidStep s = _
  unfold execVddcVidStep
  rw [if_neg]
  rw [hp, hl, hpast]
  simp [hk]

end StageOne

/-! ### Flash bus training (R363, R503) -/

/-- The LUNs of a die, as channel and LUN of the channel. -/
def dieLuns : List (Nat × Nat) := (List.range 32).flatMap fun l => (List.range 8).map fun i => (i, l)
/-- A LUN as the low bits of a location (R354). -/
def lunCode (x : Nat × Nat) : Nat := x.1 + 8 * (x.2 / 4) + 64 * (x.2 % 4)

theorem mem_dieLuns {x : Nat × Nat} : x ∈ dieLuns ↔ x.1 < 8 ∧ x.2 < 32 := by
  obtain ⟨i, l⟩ := x
  simp only [dieLuns, List.mem_flatMap, List.mem_map, List.mem_range, Prod.mk.injEq]
  exact ⟨fun ⟨a, ha, b, hb, hi, hl⟩ => ⟨hi ▸ hb, hl ▸ ha⟩, fun ⟨hi, hl⟩ => ⟨l, hl, i, hi, rfl, rfl⟩⟩

theorem map_lunCode : dieLuns.map lunCode =
    (List.range 32).flatMap fun l => (List.range 8).map fun i => i + 8 * (l / 4) + 64 * (l % 4) := by
  simp only [dieLuns, List.map_flatMap, List.map_map]
  rfl

theorem getD_replicate {α : Type} {n i : Nat} (a d : α) (h : i < n) : ((List.replicate n a)[i]?).getD d = a := by
  rw [List.getElem?_replicate, if_pos h, Option.getD_some]

theorem exec_flashBusTrainingDone_all (hp : s.board.phase = .stage1) (hl : s.board.linkOpen = true) {m : MDie} {n k : BitVec 16}
    (hn : n ≠ 0#16) (hm : m.val ∉ s.board.flashDone) :
    let u := s.each (List.range 8) fun s i => s.onFch (8 * m.val + i) fun x => { x with trained := true, ce := 0xFF, lunReject := 0 }
    let all := dieLuns.map lunCode
    let table (v : Nat) : Tab Nat := all.foldl (fun a x => Tab.put a x v) []
    exec (.flashBusTrainingDone m (List.replicate 8 0xFF#8) (List.replicate 8 0) (List.replicate 256 n) (List.replicate 256 k)) s = .next
      (((u.onFdie m fun d => { d with
        luns := all, groups := table n.toNat, kitties := table k.toNat, noSpace := false, mounted := s.sec.debugOn,
        used := ((d.pages.map fun e => locGroup e.1) ++ d.dead).eraseDups, filling := [] }).onBoard fun b =>
          { b with flashDone := b.flashDone ++ [m.val] }).advance) := by
  intro u all table
  show execFlashBusTrainingDone m _ _ _ _ s = _
  unfold execFlashBusTrainingDone
  rw [if_neg (by simp [hp, hl, hm])]
  extract_lets ce rej at' luns code table' v w
  have hce : ∀ i < 8, ce i = 255 := fun i hi => congrArg BitVec.toNat (getD_replicate 0xFF#8 0#8 hi)
  have hrej : ∀ i < 8, rej i = [] := fun i hi => by
    have h0 : ((List.replicate 8 (0 : BitVec 32))[i]?).getD 0#32 = 0#32 := getD_replicate _ _ hi
    have hnone : onesOf 32 (0#32).toNat = [] := by decide
    unfold rej
    rw [h0, hnone]
    rfl
  have hat : ∀ a : BitVec 16, ∀ x ∈ dieLuns, at' (List.replicate 256 a) x = a.toNat := fun a x hx => by
    obtain ⟨h1, h2⟩ := mem_dieLuns.mp hx
    exact congrArg BitVec.toNat (getD_replicate a 0#16 (by omega))
  have hluns : luns = dieLuns := List.filter_eq_self.mpr fun x hx => by
    obtain ⟨h1, h2⟩ := mem_dieLuns.mp hx
    have hbit : bit 255 (x.2 / 4) = true := (by decide : ∀ i < 8, bit 255 i = true) _ (by omega)
    have hn0 : n.toNat ≠ 0 := fun h => hn (BitVec.eq_of_toNat_eq h)
    rw [hce _ h1, hrej _ h1, hat n x hx, hbit]
    simp [hn0]
  have htable : ∀ a : BitVec 16, table' (List.replicate 256 a) = table a.toNat := fun a => by
    unfold table' table all
    rw [hluns, List.foldl_map]
    exact foldl_congr_mem fun t x hx => by rw [hat a x hx]; rfl
  have hv : v = u := State.each_congr_of (P := fun _ => True) trivial (fun _ _ _ _ => trivial) fun w i hi _ => by
    have hi := List.mem_range.mp hi
    rw [hce i hi, hrej i hi]
    rfl
  have hdebug : u.sec.debugOn = s.sec.debugOn := State.each_read (fun w => w.sec.debugOn) fun _ _ => rfl
  have hsome : dieLuns.isEmpty = false := by decide
  unfold w
  rw [hv, hluns, htable, htable, hdebug, hsome]
  rfl

/-! ### Ready (R507) -/

/-- Boxes made ready differ in nothing else. -/
theorem box_onBox_ready_other {m k : Nat} {f : Mailbox → Mailbox} (h : k ≠ m) : (s.onBox m f).box k = s.box k :=
  Tab.getD_set_other _ _ h _

/-- The state whose mailboxes are ready. -/
def State.boxesReady (s : State) (l : List Nat) : State := s.each l fun s m => s.onBox m fun b => { b with ready := true }

theorem boxesReady_fields (l : List Nat) : { s.boxesReady l with mbx := s.mbx } = s :=
  State.each_read (s := s) (l := l) (f := fun s m => s.onBox m fun b => { b with ready := true }) (fun u => { u with mbx := s.mbx })
    fun _ _ => rfl

theorem box_boxesReady_other {l : List Nat} {m : Nat} (h : m ∉ l) : (s.boxesReady l).box m = s.box m :=
  State.each_read_of_mem (State.box · m) fun _ _ hj => box_onBox_ready_other fun e => h (e ▸ hj)

theorem box_boxesReady {l : List Nat} {m : Nat} (h : m ∈ l) (hl : l.Nodup) : (s.boxesReady l).box m = { s.box m with ready := true } := by
  induction l generalizing s with
  | nil => cases h
  | cons j l ih =>
    obtain ⟨hj, hl⟩ := List.nodup_cons.mp hl
    by_cases hne : m = j
    · subst hne
      exact (box_boxesReady_other (s := s.onBox m fun b => { b with ready := true }) hj).trans (State.box_onBox rfl)
    · refine (ih (s := s.onBox j fun b => { b with ready := true }) ((List.mem_cons.mp h).resolve_left hne) hl).trans ?_
      rw [box_onBox_ready_other hne]

/-- What MBX_READY does before the mailboxes are ready. -/
def State.readyBase (s : State) (main : Bool) : State :=
  let run (i : Nat) : Nat := ((Tab.get? s.nor.images (2 * i + Tab.getD s.nor.run i 0)).map (·.svn)).getD 0
  { s with board := { s.board with phase := if main then .ready else .recovery, readyAt := s.now },
           sec := if main then { s.sec with svn := [max (s.svn 0) (run 0), max (s.svn 1) (run 1), s.svn 2] } else s.sec,
           rt := { s.rt with tkReset := false }, freed := s.freed.map fun e => (e.1, { e.2 with since := s.now }) }

theorem exec_mbxReady_eq {main : Bool}
    (h : if main then s.board.phase = .main else s.board.phase = .stage1 ∧ s.board.noMain = true ∧ s.stepTwoDone = true) :
    exec .mbxReady s = .next ((s.readyBase main).boxesReady (List.range 64)) := by
  have hmain : (s.board.phase == .main) = main := by
    cases main
    · rw [if_neg (by decide)] at h
      rw [h.1]; decide
    · rw [if_pos rfl] at h
      rw [h]; decide
  show execMbxReady s = _
  unfold execMbxReady
  dsimp only
  rw [hmain]
  cases main
  · obtain ⟨hp, hn, h2⟩ := h
    rw [if_neg (by simp [hp, hn, h2])]
    rfl
  · rfl

end

/-- Settles O59: by the phase of the start-up. -/
theorem bringUp : Obligations.BringUp := by
  unfold Obligations.BringUp
  intro s
  refine ⟨fun hp => ⟨exec_stage1Verified_false hp, exec_stage1Verified_none hp, fun slot i => exec_stage1Verified_some hp⟩,
    fun hp hl => ⟨exec_mainFirmwareVerified_none hp hl, fun slot i => exec_mainFirmwareVerified_some hp hl, exec_vddcVidStep_eq hp hl,
      fun m n k hn hm => ?_⟩, fun main h => ?_⟩
  · have hrow := exec_flashBusTrainingDone_all hp hl (k := k) hn hm
    rw [map_lunCode] at hrow
    exact hrow
  · intro run
    exact ⟨_, exec_mbxReady_eq h, fun m hm => box_boxesReady (s := s.readyBase main) (List.mem_range.mpr hm) List.nodup_range,
      fun m hm => box_boxesReady_other (s := s.readyBase main) (fun hr => absurd (List.mem_range.mp hr) (Nat.not_lt.mpr hm)),
      boxesReady_fields (s := s.readyBase main) _⟩

end Sys2Proof.Machine
end

section
/-! PROOFS. Core failures, the wear record, the debug port, images and PCIe (R409, R434, R441 to R444, R493, R522). -/
namespace Sys2Proof.Machine

section
variable {s : State}

/-! ### Cores (R434) -/

section Cores
variable {c : Core} {d : Nat}

/-- The state in which a core with no move under way has failed. -/
def State.coreFailed (s : State) (c : Core) (d : Nat) : State :=
  { s with cores := { s.cores with duty := s.cores.duty.set c 0xFF, polling := s.cores.polling && d != 1, moves := [] } }

/-- The first spare core, when no move is under way. -/
def State.spareFor (s : State) (c : Core) : Option Nat :=
  (List.range 8).find? fun i => i != c.val && (s.cores.duty[i]?).getD 0xFF == 0

theorem exec_coreFailure_eq (hm : s.cores.moves = []) (hd : s.cores.duty[c.val]? = some d) (hlost : d ≠ 0xFF) :
    exec (.coreFailure c) s = if d = 0 then .next (s.coreFailed c d) else match s.spareFor c with
      | some i => if c.val = 4 then .next ((s.coreFailed c d).finding 2 c d) else .next
        { s.coreFailed c d with cores := { (s.coreFailed c d).cores with moves := [{ duty := d, target := i, startedAt := s.now }] } }
      | none => .next ((s.coreFailed c d).finding 2 c d) := by
  show execCoreFailure c s = _
  unfold execCoreFailure
  dsimp only
  rw [hm, hd]
  refine (if_neg hlost).trans ?_
  simp only [List.any_nil, Bool.not_false, Bool.and_true]
  rfl
end Cores

/-! ### The wear record and the findings (R481, R493) -/

theorem exec_watchdog_eq {duty : BitVec 16} (hlen : s.diag.recs.length < 64) (hst : s.prt.st = .unpaired) :
    exec (.watchdog duty) s = .next { s with diag := { s.diag with recs := s.diag.recs ++
      [{ time := s.upUs, code := 11, unit := duty.toNat, detail := 0, yield := true }] } } := by
  refine congrArg Host.Outcome.next ?_
  have hfull : ¬64 ≤ s.diag.recs.length := Nat.not_le.mpr hlen
  unfold State.finding
  dsimp only
  rw [if_neg (by simp [hst]), if_neg (by simpa using hfull)]
  simp [hfull, b2n]

theorem exec_wearRecordCommit_eq (hp : s.wear.pend ≠ []) (hv : s.vaultOk = true) :
    let u : State := { s with wear := { ents := s.wear.ents ++ s.wear.pend.map WearPend.ent, pend := [], seq := s.wear.seq + 1,
                                        slotB := !s.wear.slotB, sealOk := true } }
    let v := u.each ((s.wear.pend.map WearPend.ent).filter fun e => e.kind == 4) fun s e =>
      s.errLog e.unit (bits e.b 2 5) (bits e.b 7 16) 0xFF 5 52 0
    exec .wearRecordCommit s = .next (v.each (s.wear.pend.filterMap WearPend.remap) fun s k => s.complete 0x0701 k 0 []) :=
  if_neg (by simp [hp, hv])

/-! ### Images (R409, R443) -/

section Images
variable {stage len : Nat} (hu : s.board.upd = some (stage, len))
include hu

theorem exec_firmwareImageWritten_error {st : Nat} (hc : s.checkImage stage (Mem.reads zeroByte s.pcie.bar2 0 len) = .error st) :
    exec .firmwareImageWritten s = .next ((s.onBoard fun b => { b with upd := none }).complete 0x0103 0 st []) := by
  show execFirmwareImageWritten s = _
  unfold execFirmwareImageWritten
  rw [hu]
  dsimp only
  rw [hc]

theorem exec_firmwareImageWritten_ok {i : FwImage} (hc : s.checkImage stage (Mem.reads zeroByte s.pcie.bar2 0 len) = .ok i) :
    let u := s.onBoard fun b => { b with upd := none }
    exec .firmwareImageWritten s = .next ((if stage = 2 then u.onMtr fun m => { m with images := Tab.put m.images (1 - m.run) i }
      else { u with nor := { u.nor with images := Tab.put u.nor.images (2 * stage + (s.imageSlot stage).elim 0 fun x => 1 - x.1) i } }
      ).complete 0x0103 0 0 []) := by
  intro u
  show execFirmwareImageWritten s = _
  unfold execFirmwareImageWritten
  rw [hu]
  dsimp only
  rw [hc]
end Images

theorem exec_agreementWindowExpiry_eq {id : BitVec 32} {c : Change} (hf : s.sec.changes.find? (fun c => c.id == id.toNat) = some c)
    (ht : c.until' ≤ s.now) :
    let u := s.onSec fun x => { x with changes := x.changes.filter fun c => c.id != id.toNat }
    exec (.agreementWindowExpiry id) s = .next (if c.signed.isSome then u.complete 0x0904 id.toNat 0x10 [] else u) := by
  intro u
  refine congrArg Host.Outcome.next ?_
  unfold State.expire
  rw [hf]
  dsimp only
  rw [if_neg (Nat.not_lt.mpr ht)]

/-! ### PCIe (R522) -/

/-- A message raised leaves which vectors are open. -/
theorem open_raiseVec (u : State) (m k : Nat) : (u.raiseVec m).pcie.open' k = u.pcie.open' k := by
  unfold State.raiseVec State.onPcie
  dsimp only
  split <;> rfl

theorem exec_pcieConfigWrite_eq {bm msix d3 : Bool} {mask : BitVec 64} (hc : 3 ∉ s.board.clocksLost) :
    let u := s.onPcie fun p => { p with busMaster := bm, msixEn := msix, d3 := d3, masked := mask.toNat }
    let due := (List.range 64).filter fun m => bit s.pcie.pend m && bm && msix && !bit mask.toNat m && !d3
    exec (.pcieConfigWrite bm msix d3 mask) s = .next (u.each due fun s m =>
      s.onPcie fun p => { p with pend := setBits p.pend m 1 0, sent := Tab.put p.sent m (Tab.getD p.sent m 0 + 1) }) := by
  intro u due
  have hopen : ∀ m, u.pcie.open' m = (bm && msix && !bit mask.toNat m && !d3) := fun _ => rfl
  have hdue : (List.range 64).filter (fun m => bit u.pcie.pend m && u.pcie.open' m) = due := by
    refine List.filter_congr fun m _ => ?_
    rw [hopen, ← Bool.and_assoc, ← Bool.and_assoc, ← Bool.and_assoc]
    rfl
  show execPcieConfigWrite bm msix d3 mask s = _
  unfold execPcieConfigWrite
  rw [if_neg (by simpa using hc)]
  refine congrArg Host.Outcome.next ?_
  change u.each ((List.range 64).filter fun m => bit u.pcie.pend m && u.pcie.open' m) _ = _
  rw [hdue]
  refine State.each_congr_of (P := fun v => ∀ m, v.pcie.open' m = u.pcie.open' m) (fun _ => rfl)
    (fun v m _ hv k => (open_raiseVec _ _ _).trans (hv k)) fun v m hm hv => ?_
  have hm' : v.pcie.open' m = true := by
    rw [hv, hopen]
    have := (List.mem_filter.mp hm).2
    simp only [Bool.and_eq_true] at this ⊢
    obtain ⟨⟨⟨⟨-, h1⟩, h2⟩, h3⟩, h4⟩ := this
    exact ⟨⟨⟨h1, h2⟩, h3⟩, h4⟩
  have hm'' : (v.onPcie fun p => { p with pend := setBits p.pend m 1 0 }).pcie.open' m = true := hm'
  unfold State.raiseVec State.onPcie
  exact congrArg (fun p => { v with pcie := p }) (if_pos hm'')
end

/-- Settles O60: by the rows. -/
theorem upkeep : Obligations.Upkeep := by
  unfold Obligations.Upkeep
  intro s
  refine ⟨fun c d hm hd hlost => ?_, fun duty => exec_watchdog_eq, exec_wearRecordCommit_eq, fun h => congrArg Host.Outcome.next (if_pos h),
    fun h => congrArg Host.Outcome.next (if_neg (by simp [h])), fun stage len hu => ⟨fun st => exec_firmwareImageWritten_error hu,
      fun i hc hst => ?_, fun i hc hst => ?_⟩, fun id c => exec_agreementWindowExpiry_eq, fun bm msix d3 mask => exec_pcieConfigWrite_eq⟩
  · intro failed spare
    have hrow := exec_coreFailure_eq hm hd hlost
    have hspare : ∀ i, (i != c.val && (s.cores.duty[i]?).getD 0xFF == 0) = true ↔ i ≠ c.val ∧ (s.cores.duty[i]?).getD 0xFF = 0 := fun i => by
      simp
    refine ⟨fun h0 => hrow.trans (if_pos h0), fun h0 hnone => ?_, fun h0 h4 => ?_, fun h0 h4 i hi hmin => ?_⟩ <;>
      refine hrow.trans ((if_neg h0).trans ?_)
    · have hs : s.spareFor c = none := List.find?_eq_none.mpr fun i hi h =>
        hnone i ⟨List.mem_range.mp hi, (hspare i).mp h⟩
      rw [hs] <;> rfl
    · cases s.spareFor c with
      | none => rfl
      | some i => exact if_pos h4
    · have hs : s.spareFor c = some i := List.find?_range_eq_some.mpr ⟨(hspare i).mpr hi.2, List.mem_range.mpr hi.1, fun j hj => by
        refine congrArg not (Bool.eq_false_iff.mpr fun h => ?_)
        exact hmin j hj ⟨Nat.lt_trans hj hi.1, (hspare j).mp h⟩⟩
      rw [hs] <;> exact if_neg h4
  · exact (exec_firmwareImageWritten_ok hu hc).trans (by rw [if_neg hst])
  · exact (exec_firmwareImageWritten_ok hu hc).trans (by rw [if_pos hst])

end Sys2Proof.Machine
end

section
/-! PROOFS. The device and the partition family (R260, R402 to R405, R423, R437, R498, R499). -/
namespace Sys2Proof.Machine

section Commands
variable {t : State} {m : Nat}

/-! ### What each command answers -/

theorem cmdDevReset_ok {kind : BitVec 8} (hk : kind.toNat ≤ 1) (hd : t.board.resetDue = none)
    (h1 : kind = 1#8 → t.board.phase ≠ .recovery ∧ t.transitOnly = true) :
    cmdDevReset m (le 1 kind.toNat) t = (t.onBoard fun x => { x with resetDue := some (kind.toNat + 1, t.now) }, rOk) := by
  have hstate : (decide (kind.toNat = 1) && (t.board.phase == .recovery || !t.transitOnly)) = false := by
    by_cases hone : kind.toNat = 1
    · obtain ⟨hp, ht⟩ := h1 (BitVec.eq_of_toNat_eq hone)
      simp [hp, ht]
    · simp [hone]
  simp only [cmdDevReset, field_u8, if_neg (Nat.not_lt.mpr hk), hd]
  rw [if_neg (by simpa using hstate)]

theorem cmdDevFwUpdate_defer {stage : BitVec 8} {len : BitVec 32} (hs : stage.toNat ≤ 2) (h1 : 2820 ≤ len.toNat)
    (h2 : len.toNat ≤ 67108864) (hu : t.board.upd = none) :
    cmdDevFwUpdate m (le 1 stage.toNat ++ zeros 3 ++ le 4 len.toNat) t =
      (t.onBoard fun x => { x with upd := some (stage.toNat, len.toNat), updAt := t.now }, .defer 0) := by
  have hstage : field (le 1 stage.toNat ++ zeros 3 ++ le 4 len.toNat) 0 1 = stage.toNat := by
    rw [List.append_assoc, field_append_left (by simp), field_u8]
  have hlen : field (le 1 stage.toNat ++ zeros 3 ++ le 4 len.toNat) 4 4 = len.toNat := by
    rw [field_append_right (by simp)]; exact field_u32 len
  have hin : (decide (2 < stage.toNat) || decide (len.toNat < 2820) || decide (67108864 < len.toNat)) = false := by
    simp; omega
  simp only [cmdDevFwUpdate, hstage, hlen, hin, hu]; rfl

/-- The body of DEV_HOST_DEAD. -/
theorem field_hostDead (ep : BitVec 16) (a : BitVec 8) :
    field (le 2 ep.toNat ++ le 1 a.toNat) 0 2 = ep.toNat ∧ field (le 2 ep.toNat ++ le 1 a.toNat) 2 1 = a.toNat := by
  rw [field_append_left (by simp), field_append_right (by simp)]; exact ⟨field_u16 ep, field_u8 a⟩

/-- Nothing is told to a partner there is none of. -/
theorem not_told {t : State} (h : t.prt.st = .unpaired) :
    (t.mirroring || ((t.prt.st == .standby || t.prt.st == .standbySync) && !t.prt.silent)) = false := by
  simp [State.mirroring, h]

theorem cmdDevHostDead_back {ep : BitVec 16} (he : ep.toNat ≤ 0xBFFF) (hp : t.prt.st = .unpaired) (hd : ep.toNat ∈ t.dir.dead)
    (hs : ∀ x ∈ t.dir.scans, x.2 ≠ ep.toNat) :
    cmdDevHostDead m (le 2 ep.toNat ++ le 1 1) t =
      (t.onDir fun d => { d with dead := d.dead.filter (· != ep.toNat) }, rOk) := by
  obtain ⟨h1, h2⟩ := field_hostDead ep 1#8
  have hscan : (t.dir.scans.any fun x => x.2 == ep.toNat) = false := by simpa using hs
  have hin : (decide (0xBFFF < ep.toNat) || decide (1 < (1#8 : BitVec 8).toNat)) = false := by simp; omega
  change cmdDevHostDead m (le 2 ep.toNat ++ le 1 (1#8 : BitVec 8).toNat) t = _
  simp only [cmdDevHostDead, h1, h2, hin]
  rw [if_neg (by simp), if_neg (by simp), if_neg (by simpa using hd), hscan, if_neg (by simp), if_neg (by
    rw [not_told (by exact hp)]; simp)]

theorem cmdDevPortReset_defer {port : BitVec 8} (hn : port.toNat ≤ 17) (hd : t.isDeferred 0x0105 port.toNat = false) :
    cmdDevPortReset m (le 1 port.toNat) t =
      (let u := ((t.each glCounters fun s r => s.setReg r port.toNat 0).each (List.range 5) fun s i =>
         s.setReg .glLaneSymerr (5 * port.toNat + i) 0).cancelEnable port.toNat
       ((if (u.link port.toNat).shutting then u else u.shutPort port.toNat).onLink port.toNat fun l => { l with resetting := true },
        .defer port.toNat)) := by
  simp only [cmdDevPortReset, field_u8, if_neg (Nat.not_lt.mpr hn), hd]; rfl

theorem cmdDevClusterReset_defer {g : BitVec 8} (hg : g.toNat ≤ 31) (hd : t.isDeferred 0x0106 g.toNat = false) :
    cmdDevClusterReset m (le 1 g.toNat) t = (t, .defer g.toNat) := by
  simp only [cmdDevClusterReset, field_u8, if_neg (Nat.not_lt.mpr hg), hd]; rfl

section Partition
variable {q : BitVec 8} (hq : q.toNat ≤ 63)
include hq

theorem cmdPtnReset_start (h : (t.ptn q.toNat).st = .active ∨ (t.ptn q.toNat).st = .faulted) :
    cmdPtnReset m (le 1 q.toNat) t = (t.startReset q.toNat, .defer q.toNat) := by
  simp only [cmdPtnReset, field_u8, if_neg (Nat.not_lt.mpr hq)]
  rcases h with h | h <;> rw [h]
theorem cmdPtnReset_again (h : (t.ptn q.toNat).st = .resetting) (hd : t.isDeferred 0x0202 (q.toNat + 64) = false) :
    cmdPtnReset m (le 1 q.toNat) t = (t, .defer (q.toNat + 64)) := by
  simp only [cmdPtnReset, field_u8, if_neg (Nat.not_lt.mpr hq), h, hd]; rfl
theorem cmdPtnReset_unused (h : (t.ptn q.toNat).st = .unused) : cmdPtnReset m (le 1 q.toNat) t = (t, rState) := by
  simp only [cmdPtnReset, field_u8, if_neg (Nat.not_lt.mpr hq), h]
theorem cmdPtnFault_active (h : (t.ptn q.toNat).st = .active) :
    cmdPtnFault m (le 1 q.toNat) t = (t.ptnFault q.toNat 4, rOk) := by
  simp only [cmdPtnFault, field_u8, if_neg (Nat.not_lt.mpr hq), h, if_true]
theorem cmdPtnFault_other (h : (t.ptn q.toNat).st ≠ .active) : cmdPtnFault m (le 1 q.toNat) t = (t, rState) := by
  simp only [cmdPtnFault, field_u8, if_neg (Nat.not_lt.mpr hq), if_neg h]
theorem cmdPtnInfo_eq : cmdPtnInfo m (le 1 q.toNat) t =
    (let p := t.ptn q.toNat
     let st := match p.st with | .unused => 0 | .active => 1 | .resetting => 2 | .faulted => 3
     let mask (l : List Nat) : Nat := (l.eraseDups.map fun g => 2 ^ g).sum
     (t, .now 0 (le 1 st ++ le 1 p.cause ++ zeros 2 ++ le 8 (t.dramQuota q.toNat * 65536)
       ++ le 8 (t.pinned q.toNat * 65536) ++ le 8 (p.flashGib * 2 ^ 30) ++ le 8 (t.flashUsed q.toNat)
       ++ le 8 (p.trackedUnits * 2097152) ++ le 8 (t.trackedUsed q.toNat) ++ le 4 (mask p.clusters) ++ le 48 (mask p.channels)
       ++ le 8 (mask p.mailboxes)))) := by
  simp only [cmdPtnInfo, field_u8, if_neg (Nat.not_lt.mpr hq)] <;> rfl

end Partition

theorem cmdDevHostDead_dead {ep : BitVec 16} (he : ep.toNat ≤ 0xBFFF) (hp : t.prt.st = .unpaired) (hd : ep.toNat ∉ t.dir.dead)
    (hl : t.dir.dead.length < 256) :
    cmdDevHostDead m (le 2 ep.toNat ++ le 1 0) t = ((t.hostDies ep.toNat).settleAll, rOk) := by
  obtain ⟨h1, h2⟩ := field_hostDead ep 0#8
  have hin : (decide (0xBFFF < ep.toNat) || decide (1 < (0#8 : BitVec 8).toNat)) = false := by simp; omega
  have hst : (t.hostDies ep.toNat).prt.st = .unpaired := ((Kept.refl (pair := true) t).hostDies.role rfl).trans hp
  change cmdDevHostDead m (le 2 ep.toNat ++ le 1 (0#8 : BitVec 8).toNat) t = _
  simp only [cmdDevHostDead, h1, h2, hin]
  rw [if_neg (by simp), if_pos (by simp), if_neg (by simpa using hd), if_neg (by omega), if_neg (by
    rw [not_told hst]; simp)]

end Commands

section Uploads
variable {s : State} {h : MbxHdr} {op : Nat} {body : List Byte}

/-- The upload window has no part in whether a frame is taken (R409). -/
theorem MailReady.onBar2 (hm : MailReady s h op body) (f : Mem → Mem) :
    MailReady (s.onPcie fun p => { p with bar2 := f p.bar2 }) h op body := hm

/-- The host writes the upload window while no update is in progress. -/
theorem MailReady.writeBar2 (hm : MailReady s h op body) (hu : s.board.upd = none) (l : List Byte) :
    s.writeBar2 l = s.onPcie fun p => { p with bar2 := Mem.writes zeroByte p.bar2 0 l } := by
  obtain ⟨⟨-, -, hd3, -⟩, -⟩ := hm
  exact if_neg (by simp [hd3, hu])

end Uploads

/-- Settles O21: each row's command in the state in which its frame is taken. -/
theorem deviceAndPartitionCommands : Obligations.DeviceAndPartitionCommands := by
  unfold Obligations.DeviceAndPartitionCommands
  refine ⟨fun s h => ⟨?_, fun kind hk hd h1 => ?_, fun upload stage len hs hl hl' hu => ?_,
    fun ep he _ hp => ⟨fun hd hn => ?_, fun hd hs => ?_⟩, fun port hn hd => ?_, fun g hg hd => ?_⟩,
    fun s h ptn hq => ⟨?_, fun hst => ?_, fun hst hd => ?_, fun hst => ?_, fun hst => ?_, fun hst => ?_⟩⟩
  · exact answers_of_cmd rfl (by decide) rfl rfl
  · refine answers_of_cmd rfl (by decide) rfl ((cmdDevReset_ok hk ?_ fun e => ⟨?_, ?_⟩).trans ?_)
    · rw [taken_read (·.board) fun _ _ _ => rfl]; exact hd
    · rw [taken_read (·.board) fun _ _ _ => rfl]; exact (h1 e).1
    · rw [taken_read (·.transitOnly) fun _ _ _ => rfl]; exact (h1 e).2
    · rw [taken_read (·.now) fun _ _ _ => rfl]; rfl
  · intro b t hm hcount
    have hexec : exec (.devFwUpdate h ⟨upload, stage⟩ len) s =
        .next ((s.writeBar2 upload).mail h 0x0103 (le 1 stage.toNat ++ zeros 3 ++ le 4 len.toNat)) := rfl
    rw [hexec, hm.writeBar2 hu]
    refine congrArg _ (MailReady.mail_defer (hm.onBar2 (Mem.writes zeroByte · 0 upload)) hcount (by decide) rfl
      ((cmdDevFwUpdate_defer (m := h.mbx) hs hl hl' ?_).trans ?_))
    · rw [taken_read (·.board) fun _ _ _ => rfl]; exact hu
    · rw [taken_read (·.now) fun _ _ _ => rfl]; rfl
  · refine answers_of_cmd rfl (by decide) rfl (cmdDevHostDead_dead he ?_ ?_ ?_)
    · rw [taken_read (·.prt) fun _ _ _ => rfl]; exact hp
    · rw [taken_read (·.dir) fun _ _ _ => rfl]; exact hd
    · rw [taken_read (·.dir) fun _ _ _ => rfl]; exact hn
  · refine answers_of_cmd rfl (by decide) rfl (cmdDevHostDead_back he ?_ ?_ ?_)
    · rw [taken_read (·.prt) fun _ _ _ => rfl]; exact hp
    · rw [taken_read (·.dir) fun _ _ _ => rfl]; exact hd
    · rw [taken_read (·.dir) fun _ _ _ => rfl]; exact hs
  · exact defers_of_cmd rfl (by decide) rfl (cmdDevPortReset_defer hn ((isDeferred_taken ..).trans hd))
  · exact defers_of_cmd rfl (by decide) rfl (cmdDevClusterReset_defer hg ((isDeferred_taken ..).trans hd))
  · exact answers_of_cmd rfl (by decide) rfl (cmdPtnInfo_eq hq)
  · refine defers_of_cmd rfl (by decide) rfl (cmdPtnReset_start hq ?_)
    rw [taken_read (·.ptn ptn.toNat) fun _ _ _ => rfl]; exact hst
  · refine defers_of_cmd rfl (by decide) rfl (cmdPtnReset_again hq ?_ ((isDeferred_taken ..).trans hd))
    rw [taken_read (·.ptn ptn.toNat) fun _ _ _ => rfl]; exact hst
  · refine answers_of_cmd rfl (by decide) rfl (cmdPtnReset_unused hq ?_)
    rw [taken_read (·.ptn ptn.toNat) fun _ _ _ => rfl]; exact hst
  · refine answers_of_cmd rfl (by decide) rfl (cmdPtnFault_active hq ?_)
    rw [taken_read (·.ptn ptn.toNat) fun _ _ _ => rfl]; exact hst
  · refine answers_of_cmd rfl (by decide) rfl (cmdPtnFault_other hq ?_)
    rw [taken_read (·.ptn ptn.toNat) fun _ _ _ => rfl]; exact hst

end Sys2Proof.Machine
end
